-- ==== Sys2Proof/Word.lean ====
section
/-! DEFINITION. The word types of the model and nothing else: bytes, register words and the 64-bit values the
spec counts and stamps with (R9: little-endian, bit 0 least significant). -/
namespace Sys2Proof

/-- One byte. -/
abbrev Byte := BitVec 8
/-- One register word of either part (R64, R559). -/
abbrev Word := BitVec 32
/-- A 64-bit value: a PT, a counter, a Brutu `g` register. -/
abbrev W64 := BitVec 64
/-- A sparse table by number: keys strictly rising, no entry equal to what an unlisted key reads as. -/
abbrev Tbl (α : Type) := List (Nat × α)

end Sys2Proof
end

