-- ==== Sys2Proof/Types.lean ====
section
/-! DEFINITION. The plain data that both the commands (Syntax) and the state speak of: the two parts, time
quality and stamps, access ports, signals of AILEN's pins. -/
namespace Sys2Proof

/-- The two parts of the block (Table 0.1). -/
inductive Part where
  | ailen
  | gremon
deriving DecidableEq, Repr

/-- Time quality, R17 and Table 4.2; a later constructor is a better quality. -/
inductive Quality where
  | unset
  | free
  | holdover
  | locked
deriving DecidableEq, Repr

/-- The base a stamp counts in (Table 4.4). -/
inductive TimeBase where
  | pt
  | lm
  | jt
deriving DecidableEq, Repr

/-- A 12-byte time stamp (Tables 4.3, 4.4): NS, SUB, QUAL, BASE and U in quarter nanoseconds. -/
structure Stamp where
  ns   : BitVec 64
  sub  : BitVec 4
  qual : Quality
  base : TimeBase
  unc  : BitVec 16
deriving DecidableEq, Repr

/-- One end of a Guyline link: the die's, or Gremon's end on a lane 0–511 (R12). -/
inductive GlEnd where
  | ailen
  | lane (n : Nat)
deriving DecidableEq, Repr

/-- The pair a Guyline frame travels on (R189–R191). -/
inductive Pair where
  | working
  | standby
deriving DecidableEq, Repr

/-- Where a TIME_REQ comes from: a die on a Guyline lane, or a neighbour on a Ridgeline port (R146). -/
inductive TimeFrom where
  | lane (n : Nat)
  | port (n : Nat)
deriving DecidableEq, Repr

/-- A parity mismatch that a sweep finds (R574): the register, by direct address, or by indirect address above
0x100000000; which copy; the value and the parity bit read. -/
structure ParityHit where
  key    : Nat
  shadow : Bool
  v      : BitVec 32
  par    : Bool
deriving DecidableEq, Repr

/-- Who makes a register access: the host die over HRP, a Gremon command to AILEN, the PCIe function, CD
firmware (Gremon's own), or an indirect window (R561, R562). -/
inductive Requester where
  | hrp
  | cmd
  | pcie
  | cd
  | window (w : Nat)
deriving DecidableEq, Repr

/-- A direct register access: `size` bytes at byte address `addr` (R64, R559). -/
structure Access where
  who  : Requester
  addr : Nat
  size : Nat
  data : BitVec 64
deriving DecidableEq, Repr

/-- One line's qualified increment in an hclk cycle (Table 2.11). -/
structure EvpInc where
  line : Nat
  inc  : BitVec 4
deriving DecidableEq, Repr

/-- One valid OPP packet of an hclk cycle (Table 2.12). -/
structure OppPkt where
  slot : Nat
  core : BitVec 8
  cls  : BitVec 6
  fmt  : BitVec 4
  cnt  : BitVec 8
deriving DecidableEq, Repr

/-- A retirement on TRP stream `stream` (Table 2.13). -/
structure TrpRet where
  stream : Nat
  tkn : Bool
  ind : Bool
  tgt : BitVec 64
  exc : Bool
  sec : Bool
deriving DecidableEq, Repr

/-- The signals of one STP beat (Table 2.14); the fields valid with `sop` are ignored on other beats. -/
structure StpBeat where
  tap   : Nat
  sop   : Bool
  eop   : Bool
  nb    : Nat
  dat   : List Byte
  job   : BitVec 16
  step  : BitVec 48
  shard : BitVec 32
  dir   : Bool
  seg   : BitVec 24
deriving DecidableEq, Repr

/-- Where in Gremon an error is detected (Table 15.11): a 64-byte line of memory by its CNA, the registers of a logical
core, the stores of a TSE, a Sync Hub object, a Canopy transfer to a die, the black-box MRAM. -/
inductive EccAt where
  | line (cna : Nat)
  | coreRegs (core : Nat)
  | tse (ct : Nat)
  | sync (obj : Nat)
  | canopy (cdn : Nat)
  | mram
deriving DecidableEq, Repr

/-- Where a check of arithmetic fails (R519): a logical core's, or an engine's of a CT: 0 sketch, 1 top-k, 2 baseline, 4 TSE
sum; and in AILEN (Table 15.15): the counters of a bank, the source coder, the digest engine of a tap. -/
inductive ResidueAt where
  | core (core : Nat)
  | engine (ct unit : Nat)
  | counters (bank : Nat)
  | coder
  | digest (tap : Nat)
deriving DecidableEq, Repr

/-- The transports of an IEEE 1588 message on MGMT (Table 4.8); `other` is one that is not supported. -/
inductive PtpTransport where
  | udp4
  | udp6
  | ethernet
  | other
deriving DecidableEq, Repr

/-- What an IEEE 1588 message says, as far as Table 4.8 uses it; times in sixteenths of a nanosecond, corrections applied,
intervals as powers of two of a second. -/
inductive PtpBody where
  /-- The grandmaster's data set in the order in which the best master clock algorithm compares it, and the steps removed. -/
  | announce (gm : List Nat) (steps : Nat) (ivl : Int)
  /-- A Sync: of one-step operation with its origin time, of two-step operation without. -/
  | sync (seq : Nat) (twoStep : Bool) (origin : Nat) (ivl : Int)
  | followUp (seq : Nat) (origin : Nat)
  | delayResp (seq : Nat) (received : Nat)
  /-- A message that uses an optional feature, peer delay among them. -/
  | unsupported
deriving DecidableEq, Repr

/-- An IEEE 1588 message on MGMT: its transport, its domain number, and the port identity that sent it. -/
structure PtpMsg where
  transport : PtpTransport
  domain    : Nat
  source    : Nat
  body      : PtpBody
deriving DecidableEq, Repr

/-- What a solve of the alignment kit takes from outside this tray (R162): the minimum latency λ of the path from one LDA
to another, MATCH_WIN and the window W, and the Gremon that it names as solver instead of the root, as the kit configuration
gives them, and the U of dies of other trays; λ in sixteenths of a nanosecond, windows in nanoseconds, U in quarters.
Log: entry 15 (DEDUCED; DESIGN CHOICE). -/
structure AlignIn where
  lam : List (Nat × Nat × Nat)
  win : Nat := 100000
  span : Nat := 1000000000
  solver : Option Nat := none
  unc : List (Nat × Nat)
deriving DecidableEq, Repr

/-- A pwr_sreq: the PT at which it rises, and of the cut that follows it the PT t′ and its CUT_OFS (R128, R129), in ns.
Log: entry 55 (DEDUCED). -/
structure ShadowReq where
  at' : Nat
  cutAt : Nat
  cutOfs : BitVec 16
deriving DecidableEq, Repr

/-- What host memory holds where Gremon fetches: a descriptor, its data, the entries of the lists that DPTR and RPTR name
where DLIST and RLIST are set, whether the DMA failed, and in confidential mode the record's SEQ and whether its tag
verifies. -/
structure Fetched where
  desc  : List Byte
  data  : List Byte
  parts : List (Nat × Nat)
  segs  : List (Nat × Nat)
  fault : Bool
  seq   : Nat
  tagOk : Bool
deriving DecidableEq, Repr

/-- A slot of the operator key table (R389, R609): a public key, none where empty, and whether it is marked revoked. -/
structure OpKey where
  key     : List Byte
  revoked : Bool
deriving DecidableEq, Repr

/-- What the self-test of a boot finds (Table 18.12, step 1): whether the signature of each copy of the Defaults Image
verifies under the owner key; the slots of the applied image's KEYS section, an empty list where one is empty or revoked;
the packages that its BOOTKITS section names, with whether each signature verifies; dies, Canopy links and stacks found
failed; the working comparator planes of each CT; the analysis cores that fail their test, by CT and physical core; and
whether the firmware reaches READY. -/
structure SelfTest where
  sigA   : Bool
  sigB   : Bool
  keys   : List OpKey
  kits   : List (List Byte × Bool)
  dies   : List Nat
  links  : List (Nat × Nat)
  stks : List Nat
  planes : List Nat
  cores  : List (Nat × Nat)
  ready  : Bool
deriving DecidableEq, Repr

end Sys2Proof
end

