-- ==== Sys2Proof/Syntax.lean ====
section
/-! DEFINITION. The commands of the block: one constructor per row of the operations table, with the row's operands.
Every command that happens at a named instant carries it as `at'`, PT in nanoseconds on the part's own clock (LM while its
PT is UNSET). -/
namespace Sys2Proof

/-- The commands, in the table's order. -/
inductive Instr where
  /-- FRAME_BOUNDARY, R39. -/
  | frameBoundary (p : Part) (clr : List Nat) (cutOfs : BitVec 16)
  /-- SCORING_BOUNDARY, R40. -/
  | scoringBoundary (p : Part)
  /-- SAMPLE_BLOCK_CODED, R117. -/
  | sampleBlockCoded
  /-- AO_POR_ASSERT, R59. -/
  | aoPorAssert (at' : Nat)
  /-- AO_POR_RELEASE, R54. -/
  | aoPorRelease (hdid : BitVec 64) (at' : Nat)
  /-- MAIN_RST_ASSERT, R67. -/
  | mainRstAssert (at' : Nat)
  /-- REGISTER_WRITE, R558. -/
  | registerWrite (p : Part) (x : Access) (at' : Nat)
  /-- EVP_INCREMENT, R69. -/
  | evpIncrement (incs : List EvpInc) (at' : Nat)
  /-- BANK_CLEAR, R70. -/
  | bankClear (bank : Nat) (at' : Nat)
  /-- OPP_PACKETS, R72. -/
  | oppPackets (ps : List OppPkt) (at' : Nat)
  /-- SENSOR_TOGGLE, R105. -/
  | sensorToggle (chan : Nat) (v : BitVec 16) (at' : Nat)
  /-- TRP_RETIREMENT, R75. -/
  | trpRetirement (r : TrpRet) (at' : Nat)
  /-- STP_TRANSFER_OPEN, R78. -/
  | stpTransferOpen (b : StpBeat) (at' : Nat)
  /-- STP_BEAT, R78. -/
  | stpBeat (b : StpBeat) (at' : Nat)
  /-- STP_TRANSFER_CLOSE, R487. -/
  | stpTransferClose (b : StpBeat) (at' : Nat)
  /-- SHADOW_ENTRY_REQUEST, R81: the cut of capture follows at PT `cutAt` (R129). -/
  | shadowEntryRequest (x : ShadowReq)
  /-- SHADOW_ENTRY_DONE, R81. -/
  | shadowEntryDone (at' : Nat)
  /-- SHADOW_EXIT_REQUEST, R81. -/
  | shadowExitRequest (at' : Nat)
  /-- SHADOW_EXIT_DONE, R607. -/
  | shadowExitDone (at' : Nat)
  /-- PWR_ABRUPT, R83. -/
  | pwrAbrupt (at' : Nat)
  /-- MBX_DOORBELL, R84. -/
  | mbxDoorbell (at' : Nat)
  /-- SCR_GRANT, R501. -/
  | scrGrant (at' : Nat)
  /-- SCR_REVOKE, R88. -/
  | scrRevoke (at' : Nat)
  /-- SCR_GRANT_FALL, R501. -/
  | scrGrantFall (at' : Nat)
  /-- REMAP_COMMIT, R94. -/
  | remapCommit (who : Requester) (at' : Nat)
  /-- CAP_COMMIT, R111. -/
  | capCommit (at' : Nat)
  /-- SQC_CLEAR_WRITE, R567. -/
  | sqcClearWrite (p : Part) (x : Access) (at' : Nat)
  /-- HCLK_LOST, R98. -/
  | hclkLost (at' : Nat)
  /-- HCLK_RECOVER, R122. -/
  | hclkRecover (at' : Nat)
  /-- REFCLK_LOST, R98. -/
  | refclkLost (at' : Nat)
  /-- AOCLK_RANGE, R98. -/
  | aoclkRange (at' : Nat)
  /-- TIME_EXCHANGE_OPEN, R146. -/
  | timeExchangeOpen (p : Part)
  /-- TIME_REQ_RX, R146. -/
  | timeReqRx (src : TimeFrom)
  /-- TIME_RSP_RX, R149. -/
  | timeRspRx (p : Part) (asym : Int) (cutOfs : BitVec 16)
  /-- LOCK_LOSS_TIMEOUT, R150. -/
  | lockLossTimeout (p : Part)
  /-- HOLD_EXPIRED, R152. -/
  | holdExpired (p : Part)
  /-- ALMANAC_CALIBRATION, R140. -/
  | almanacCalibration (p : Part) (d : Int)
  /-- REPLICA_REALIGN, R228. -/
  | replicaRealign
  /-- SITE_SYNC_MESSAGE, R142. -/
  | siteSyncMessage (m : PtpMsg) (lock : Bool) (at' : Nat)
  /-- ROOT_SITE_WAIT_EXPIRY, R145. -/
  | rootSiteWaitExpiry
  /-- PT_STEP_TICK, R144. -/
  | ptStepTick (cutOfs : BitVec 16)
  /-- TSQ_HEAD_READ, R158. -/
  | tsqHeadRead (who : Requester) (q : Nat) (at' : Nat)
  /-- PT_LO_READ, R165. -/
  | ptLoRead (p : Part) (who : Requester) (at' : Nat)
  /-- LO_READ_LATCH, R562. -/
  | loReadLatch (p : Part) (x : Access) (at' : Nat)
  /-- ALIGN_SOLVE, R164. -/
  | alignSolve (job : Nat) (x : AlignIn)
  /-- AL_JT_JOB_WRITE, R166. -/
  | alJtJobWrite (v : Word) (at' : Nat)
  /-- FRAME_TICK_HI_WRITE, R167. -/
  | frameTickHiWrite (v : Word) (at' : Nat)
  /-- STEP_NUM_LO_WRITE, R337. -/
  | stepNumLoWrite (who : Requester) (v : Word) (at' : Nat)
  /-- STEP_NUM_HI_WRITE, R337. -/
  | stepNumHiWrite (who : Requester) (v : Word) (at' : Nat)
  /-- GL_TX_SLOT, R182. -/
  | glTxSlot (e : GlEnd) (at' : Nat)
  /-- GL_DATA_FRAME_RX, R176. -/
  | glDataFrameRx (e : GlEnd) (pr : Pair) (f : List Byte) (at' : Nat)
  /-- GL_NULL_FRAME_RX, R177. -/
  | glNullFrameRx (e : GlEnd) (f : List Byte) (at' : Nat)
  /-- GL_CTL_CREDIT, R179. -/
  | glCtlCredit (e : GlEnd) (f : List Byte) (at' : Nat)
  /-- GL_CTL_NAK, R178. -/
  | glCtlNak (e : GlEnd) (f : List Byte) (at' : Nat)
  /-- GL_CTL_LANE, R190. -/
  | glCtlLane (e : GlEnd) (f : List Byte) (at' : Nat)
  /-- GL_CTL_RATE, R193. -/
  | glCtlRate (e : GlEnd) (f : List Byte) (at' : Nat)
  /-- GL_INIT_RX, R181. -/
  | glInitRx (e : GlEnd) (f : List Byte) (at' : Nat)
  /-- GL_REPLAY_TIMEOUT, R178. -/
  | glReplayTimeout (e : GlEnd) (at' : Nat)
  /-- GL_NAK_REPEAT, R176. -/
  | glNakRepeat (e : GlEnd) (at' : Nat)
  /-- GL_CREDIT_TIMER, R179. -/
  | glCreditTimer (e : GlEnd) (at' : Nat)
  /-- GL_INIT_REPEAT, R185. -/
  | glInitRepeat (e : GlEnd) (at' : Nat)
  /-- GL_TRAIN_START, R185. -/
  | glTrainStart (e : GlEnd)
  /-- GL_TRAIN_RETRY, R187. -/
  | glTrainRetry (e : GlEnd)
  /-- GL_BLOCK_LOCK_LOSS, R188. -/
  | glBlockLockLoss (e : GlEnd) (at' : Nat)
  /-- GL_CRC_SILENCE, R188. -/
  | glCrcSilence (e : GlEnd) (at' : Nat)
  /-- STBY_FAIL, R189. -/
  | stbyFail (e : GlEnd)
  /-- SAMPLE_RX, R393. -/
  | sampleRx (lane : Nat)
  /-- VIGIL_BANK_RX, R466. -/
  | vigilBankRx (lane : Nat)
  /-- TRACE_RX, R663. -/
  | traceRx (lane : Nat)
  /-- EVENT_RX, R647. -/
  | eventRx (lane : Nat)
  /-- SHARD_RX, R489. -/
  | shardRx (lane : Nat)
  /-- SEGD_RX, R201. -/
  | segdRx (lane : Nat)
  /-- SCREEN_RX, R511. -/
  | screenRx (lane : Nat)
  /-- MBOX_RX_GREMON, R548. -/
  | mboxRxGremon (lane : Nat)
  /-- MBOX_RX_AILEN, R552. -/
  | mboxRxAilen
  /-- CMD_READ, R199. -/
  | cmdRead
  /-- CMD_WRITE, R199. -/
  | cmdWrite
  /-- CMD_UCODE, R194. -/
  | cmdUcode
  /-- CMD_VIGIL_ARM, R460. -/
  | cmdVigilArm
  /-- CMD_SCREEN_START, R500. -/
  | cmdScreenStart
  /-- RSP_RX, R199. -/
  | rspRx (lane : Nat)
  /-- ENUM_RX, R203. -/
  | enumRx (lane : Nat)
  /-- ENUM_ACK_RX, R202. -/
  | enumAckRx
  /-- CANOPY_LINK_FAIL, R213. -/
  | canopyLinkFail (a b : Nat) (at' : Nat)
  /-- STACK_FAIL, R221. -/
  | stackFail (stack : Nat) (at' : Nat)
  /-- ECC_ERROR, R518. -/
  | eccError (w : EccAt) (fixed : Bool) (at' : Nat)
  /-- HBM_SCRUB, R220. -/
  | hbmScrub (line : Nat) (fixed : Bool) (at' : Nat)
  /-- SRAM_SCRUB, R666. -/
  | sramScrub (w : EccAt) (fixed : Bool) (at' : Nat)
  /-- ILLEGAL_OPCODE, R252. -/
  | illegalOpcode (core : Nat)
  /-- NOP, R253. -/
  | nop (core : Nat)
  /-- ADD, R253. -/
  | add (core : Nat)
  /-- SUB, R253. -/
  | sub (core : Nat)
  /-- AND, R253. -/
  | and (core : Nat)
  /-- OR, R253. -/
  | or (core : Nat)
  /-- XOR, R253. -/
  | xor (core : Nat)
  /-- SLL, R253. -/
  | sll (core : Nat)
  /-- SRL, R253. -/
  | srl (core : Nat)
  /-- SRA, R253. -/
  | sra (core : Nat)
  /-- MIN, R253. -/
  | min (core : Nat)
  /-- MAX, R253. -/
  | max (core : Nat)
  /-- CMP, R248. -/
  | cmp (core : Nat)
  /-- MUL, R253. -/
  | mul (core : Nat)
  /-- MULH, R253. -/
  | mulh (core : Nat)
  /-- DIV, R250. -/
  | div (core : Nat)
  /-- REM, R250. -/
  | rem (core : Nat)
  /-- LIH, R253. -/
  | lih (core : Nat)
  /-- ADDI, R253. -/
  | addi (core : Nat)
  /-- ANDI, R253. -/
  | andi (core : Nat)
  /-- ORI, R253. -/
  | ori (core : Nat)
  /-- XORI, R253. -/
  | xori (core : Nat)
  /-- SLLI, R253. -/
  | slli (core : Nat)
  /-- SRLI, R253. -/
  | srli (core : Nat)
  /-- SRAI, R253. -/
  | srai (core : Nat)
  /-- LI, R253. -/
  | li (core : Nat)
  /-- FADD, R239. -/
  | fadd (core : Nat)
  /-- FSUB, R239. -/
  | fsub (core : Nat)
  /-- FMUL, R245. -/
  | fmul (core : Nat)
  /-- FDIV, R245. -/
  | fdiv (core : Nat)
  /-- FSQRT, R239. -/
  | fsqrt (core : Nat)
  /-- FMA, R253. -/
  | fma (core : Nat)
  /-- FMIN, R248. -/
  | fmin (core : Nat)
  /-- FMAX, R248. -/
  | fmax (core : Nat)
  /-- FCMP, R248. -/
  | fcmp (core : Nat)
  /-- CVT, R249. -/
  | cvt (core : Nat)
  /-- FABS, R240. -/
  | fabs (core : Nat)
  /-- FNEG, R240. -/
  | fneg (core : Nat)
  /-- VADD, R255. -/
  | vadd (core : Nat)
  /-- VSUB, R255. -/
  | vsub (core : Nat)
  /-- VMUL, R255. -/
  | vmul (core : Nat)
  /-- VFMA, R255. -/
  | vfma (core : Nat)
  /-- VDIV, R255. -/
  | vdiv (core : Nat)
  /-- VSQRT, R255. -/
  | vsqrt (core : Nat)
  /-- VMIN, R248. -/
  | vmin (core : Nat)
  /-- VMAX, R248. -/
  | vmax (core : Nat)
  /-- VAND, R255. -/
  | vand (core : Nat)
  /-- VOR, R255. -/
  | vor (core : Nat)
  /-- VXOR, R255. -/
  | vxor (core : Nat)
  /-- VSLL, R255. -/
  | vsll (core : Nat)
  /-- VSRL, R255. -/
  | vsrl (core : Nat)
  /-- VSRA, R255. -/
  | vsra (core : Nat)
  /-- VCMP, R255. -/
  | vcmp (core : Nat)
  /-- VCVT, R255. -/
  | vcvt (core : Nat)
  /-- VBCAST, R253. -/
  | vbcast (core : Nat)
  /-- VEXT, R255. -/
  | vext (core : Nat)
  /-- VINS, R255. -/
  | vins (core : Nat)
  /-- VRED, R256. -/
  | vred (core : Nat)
  /-- VSEL, R253. -/
  | vsel (core : Nat)
  /-- VABS, R253. -/
  | vabs (core : Nat)
  /-- VNEG, R253. -/
  | vneg (core : Nat)
  /-- PAND, R253. -/
  | pand (core : Nat)
  /-- POR, R253. -/
  | por (core : Nat)
  /-- PXOR, R253. -/
  | pxor (core : Nat)
  /-- PNOT, R253. -/
  | pnot (core : Nat)
  /-- PFROMG, R253. -/
  | pfromg (core : Nat)
  /-- PTOG, R253. -/
  | ptog (core : Nat)
  /-- LD, R258. -/
  | ld (core : Nat)
  /-- ST, R260. -/
  | st (core : Nat)
  /-- VLD, R259. -/
  | vld (core : Nat)
  /-- VST, R259. -/
  | vst (core : Nat)
  /-- BEQ, R257. -/
  | beq (core : Nat)
  /-- BNE, R257. -/
  | bne (core : Nat)
  /-- BLT, R257. -/
  | blt (core : Nat)
  /-- BGE, R257. -/
  | bge (core : Nat)
  /-- BP, R257. -/
  | bp (core : Nat)
  /-- JAL, R257. -/
  | jal (core : Nat)
  /-- JALR, R257. -/
  | jalr (core : Nat)
  /-- TRAP, R268. -/
  | trap (core : Nat)
  /-- RETT, R268. -/
  | rett (core : Nat)
  /-- HALT, R269. -/
  | halt (core : Nat)
  /-- MFS, R237. -/
  | mfs (core : Nat)
  /-- MTS, R237. -/
  | mts (core : Nat)
  /-- VECTOR_ISSUE, R263. -/
  | vectorIssue (core : Nat)
  /-- SLD, R276. -/
  | sld (core : Nat)
  /-- SST, R276. -/
  | sst (core : Nat)
  /-- SGO, R278. -/
  | sgo (core : Nat)
  /-- SWAIT, R280. -/
  | swait (core : Nat)
  /-- STEST, R273. -/
  | stest (core : Nat)
  /-- STREAM_END, R280. -/
  | streamEnd (core sreg : Nat)
  /-- HINS, R311. -/
  | hins (core : Nat)
  /-- HMRG, R313. -/
  | hmrg (core : Nat)
  /-- TKIN, R317. -/
  | tkin (core : Nat)
  /-- TKMRG, R318. -/
  | tkmrg (core : Nat)
  /-- EWMA, R320. -/
  | ewma (core : Nat)
  /-- CUSUM, R321. -/
  | cusum (core : Nat)
  /-- TSUB, R287. -/
  | tsub (core : Nat)
  /-- TWAIT, R287. -/
  | twait (core : Nat)
  /-- CENC, R368. -/
  | cenc (core : Nat)
  /-- CDEC, R369. -/
  | cdec (core : Nat)
  /-- HINS_DONE, R311. -/
  | hinsDone (ct : Nat)
  /-- HMRG_DONE, R313. -/
  | hmrgDone (ct : Nat)
  /-- TKIN_DONE, R317. -/
  | tkinDone (ct : Nat)
  /-- TKMRG_DONE, R318. -/
  | tkmrgDone (ct : Nat)
  /-- EWMA_DONE, R320. -/
  | ewmaDone (ct : Nat)
  /-- CUSUM_DONE, R321. -/
  | cusumDone (ct : Nat)
  /-- CENC_DONE, R368. -/
  | cencDone (ct : Nat)
  /-- CDEC_DONE, R369. -/
  | cdecDone (ct : Nat)
  /-- TSUB_DONE, R354. -/
  | tsubDone (core : Nat) (transients : List Nat) (fail : Option Nat)
  /-- SEMP, R291. -/
  | semp (core : Nat)
  /-- SEMV, R292. -/
  | semv (core : Nat)
  /-- BARA, R291. -/
  | bara (core : Nat)
  /-- BARW, R291. -/
  | barw (core : Nat)
  /-- EVSET, R291. -/
  | evset (core : Nat)
  /-- EVCLR, R291. -/
  | evclr (core : Nat)
  /-- EVW, R291. -/
  | evw (core : Nat)
  /-- SYRD, R291. -/
  | syrd (core : Nat)
  /-- FENCE_L, R296. -/
  | fenceL (core : Nat)
  /-- FENCE_C, R296. -/
  | fenceC (core : Nat)
  /-- FENCE_T, R297. -/
  | fenceT (core : Nat)
  /-- FENCE_X, R296. -/
  | fenceX (core : Nat)
  /-- MBS, R300. -/
  | mbs (core : Nat)
  /-- MBR, R300. -/
  | mbr (core : Nat)
  /-- MSND, R301. -/
  | msnd (core : Nat)
  /-- TRD, R302. -/
  | trd (core : Nat)
  /-- TRDX, R302. -/
  | trdx (core : Nat)
  /-- WAITPT, R303. -/
  | waitpt (core : Nat)
  /-- WAITPT_RELEASE, R303. -/
  | waitptRelease (core : Nat)
  /-- MACK_RX, R446. -/
  | mackRx
  /-- MSND_UNREACH, R446. -/
  | msndUnreach
  /-- PERIOD_CLOSE_DEADLINE, R326. -/
  | periodCloseDeadline (rid : Nat)
  /-- STEP_CLOSE_WINDOW, R327. -/
  | stepCloseWindow (rid step : Nat)
  /-- REDUCE_PRIMARY_DONE, R329. -/
  | reducePrimaryDone (rid period : Nat) (wrong : Bool) (at' : Nat)
  /-- REDUCE_VERDICT, R330. -/
  | reduceVerdict (rid period : Nat) (bad : Bool) (p q : Nat) (at' : Nat)
  /-- VERDICT_TIMEOUT, R331. -/
  | verdictTimeout (rid period : Nat)
  /-- RL_REDUCE_RX, R333. -/
  | rlReduceRx
  /-- RETENTION_END, R334. -/
  | retentionEnd (rid period : Nat)
  /-- HISTORY_FILE, R371. -/
  | historyFile
  /-- EXPORT_PAGE_COPY, R384. -/
  | exportPageCopy
  /-- EXPORT_ABORT, R385. -/
  | exportAbort (at' : Nat)
  /-- EXPORT_CANCEL, R385. -/
  | exportCancel (who : Requester) (at' : Nat)
  /-- KIT_START, R400. -/
  | kitStart (slot : Nat)
  /-- PLAN_APPLY_TIMEOUT, R400. -/
  | planApplyTimeout (slot : Nat)
  /-- PHASE_DEADLINE, R402. -/
  | phaseDeadline (slot phase : Nat)
  /-- KIT_RESTART, R404. -/
  | kitRestart (slot : Nat)
  /-- KIT_UNLOAD_DONE, R405. -/
  | kitUnloadDone (slot : Nat)
  /-- RL_TX_SLOT, R422. -/
  | rlTxSlot (port : Nat) (at' : Nat)
  /-- RL_DATA_FLIT_RX, R418. -/
  | rlDataFlitRx (port : Nat) (f : List Byte) (at' : Nat)
  /-- RL_NULL_FLIT_RX, R418. -/
  | rlNullFlitRx (port : Nat) (f : List Byte) (at' : Nat)
  /-- RL_CTL_CREDIT, R419. -/
  | rlCtlCredit (port : Nat) (f : List Byte) (at' : Nat)
  /-- RL_CTL_NAK, R418. -/
  | rlCtlNak (port : Nat) (f : List Byte) (at' : Nat)
  /-- RL_CTL_LANE, R414. -/
  | rlCtlLane (port : Nat) (f : List Byte) (at' : Nat)
  /-- RL_INIT_RX, R419. -/
  | rlInitRx (port : Nat) (f : List Byte) (at' : Nat)
  /-- RL_REPLAY_TIMEOUT, R418. -/
  | rlReplayTimeout (port : Nat) (at' : Nat)
  /-- RL_NAK_REPEAT, R418. -/
  | rlNakRepeat (port : Nat) (at' : Nat)
  /-- RL_CREDIT_TIMER, R419. -/
  | rlCreditTimer (port : Nat) (at' : Nat)
  /-- RL_TRAIN_START, R413. -/
  | rlTrainStart (port : Nat) (at' : Nat)
  /-- FEC_WINDOW_END, R414. -/
  | fecWindowEnd (port : Nat) (corr uncorr : List Nat) (at' : Nat)
  /-- RL_LANE_LOCK_LOSS, R415. -/
  | rlLaneLockLoss (port ln : Nat) (at' : Nat)
  /-- RL_PORT_DOWN, R419. -/
  | rlPortDown (port : Nat) (at' : Nat)
  /-- RL_LATENCY_SAMPLE, R424. -/
  | rlLatencySample (port : Nat)
  /-- LADDER_WATCH, R451. -/
  | ladderWatch
  /-- HELLO_TIMER, R429. -/
  | helloTimer
  /-- HELLO_RX, R430. -/
  | helloRx
  /-- TREE_FORMED, R431. -/
  | treeFormed
  /-- JOIN_RX, R433. -/
  | joinRx
  /-- JOIN_ACK_RX, R433. -/
  | joinAckRx
  /-- REHOME_RX, R437. -/
  | rehomeRx
  /-- PRUNE_RX, R438. -/
  | pruneRx
  /-- ROOT_STALE, R435. -/
  | rootStale
  /-- STALE_EXPIRY, R435. -/
  | staleExpiry
  /-- PARENT_FAIL, R437. -/
  | parentFail
  /-- CHILD_PORT_DOWN, R438. -/
  | childPortDown (port : Nat)
  /-- MEMBER_DECLARE_FAILED, R439. -/
  | memberDeclareFailed
  /-- RL_BCAST_RX, R442. -/
  | rlBcastRx
  /-- BACK_RX, R443. -/
  | backRx
  /-- BCAST_TIMEOUT, R443. -/
  | bcastTimeout
  /-- RL_MSG_RX, R446. -/
  | rlMsgRx
  /-- RL_QUERY_RX, R447. -/
  | rlQueryRx
  /-- QANS_DEADLINE, R448. -/
  | qansDeadline
  /-- RL_QANS_RX, R448. -/
  | rlQansRx
  /-- FEED_PERIOD, R450. -/
  | feedPeriod
  /-- RL_FEED_RX, R540. -/
  | rlFeedRx
  /-- RL_LADDER_RX, R452. -/
  | rlLadderRx
  /-- RL_LANTERN_RX, R478. -/
  | rlLanternRx
  /-- RL_MANIFEST_RX, R490. -/
  | rlManifestRx
  /-- HCMD_RX, R535. -/
  | hcmdRx
  /-- HRSP_RX, R535. -/
  | hrspRx
  /-- HCMD_UNREACH, R535. -/
  | hcmdUnreach
  /-- CERTREQ_RX, R632. -/
  | certreqRx
  /-- CERT_RX, R632. -/
  | certRx (chainOk sigOk : Bool)
  /-- MCERT_UNAVAILABLE, R632. -/
  | mcertUnavailable
  /-- VIGIL_W_SAMPLE, R463. -/
  | vigilWSample
  /-- VIGIL_SNAPSHOT_A, R463. -/
  | vigilSnapshotA
  /-- VIGIL_TICK, R461. -/
  | vigilTick
  /-- VIGIL_SNAPSHOT_B, R463. -/
  | vigilSnapshotB
  /-- GREMON_VIGIL_TICK, R465. -/
  | gremonVigilTick
  /-- VIGIL_CLOSE, R466. -/
  | vigilClose
  /-- VIGIL_RESUME_TICK, R471. -/
  | vigilResumeTick
  /-- LANTERN_READ, R474. -/
  | lanternRead
  /-- CKT_ENABLE, R479. -/
  | cktEnable (who : Requester) (n : Nat) (v : Word) (at' : Nat)
  /-- CKPT_TRIGGER_EVAL, R481. -/
  | ckptTriggerEval (n : Nat)
  /-- SD_KEY_SET, R488. -/
  | sdKeySet (job : BitVec 16) (at' : Nat)
  /-- SCR_DONE_WRITE, R502. -/
  | scrDoneWrite (hcode : Byte) (at' : Nat)
  /-- SCREEN_TIMER_EXPIRY, R502. -/
  | screenTimerExpiry
  /-- SCREEN_WAIT_EXPIRY, R501. -/
  | screenWaitExpiry
  /-- SCREEN_LOST_TIMEOUT, R502. -/
  | screenLostTimeout (lane : Nat)
  /-- SCREEN_ROTATION, R508. -/
  | screenRotation (lane : Nat)
  /-- STRESS_SESSION_WRITE, R509. -/
  | stressSessionWrite (opens : Bool) (at' : Nat)
  /-- HERR_WRITE, R506. -/
  | herrWrite (v : Word) (at' : Nat)
  /-- RESIDUE_MISMATCH, R519. -/
  | residueMismatch (w : ResidueAt) (at' : Nat)
  /-- CORE_TEST_END, R523. -/
  | coreTestEnd (ct core : Nat) (pass : Bool)
  /-- KIT_LOAD, R397. -/
  | kitLoad (sigOk : Bool)
  /-- KIT_UNLOAD, R405. -/
  | kitUnload
  /-- PACK_INSTALL, R497. -/
  | packInstall (sigOk : Bool)
  /-- PACK_GET, R499. -/
  | packGet
  /-- JOBKEY, R488. -/
  | jobkey
  /-- EXPORT, R382. -/
  | exportHistory
  /-- MB_SEND, R548. -/
  | mbSend
  /-- MB_RECV, R548. -/
  | mbRecv
  /-- QUERY, R537. -/
  | query
  /-- QUERY_CLOSE, R540. -/
  | queryClose
  /-- BCAST, R441. -/
  | bcast (sigOk : Bool)
  /-- VIGIL, R457. -/
  | vigil
  /-- SEAL, R490. -/
  | seal
  /-- RESTORE_OPEN, R492. -/
  | restoreOpen (sigOk : Bool)
  /-- RESTORE_SEAL, R493. -/
  | restoreSeal
  /-- SQ_TAIL_DOORBELL, R532. -/
  | sqTailDoorbell (q : Nat) (v : Word) (fs : List Fetched) (at' : Nat)
  /-- CQ_HEAD_DOORBELL, R533. -/
  | cqHeadDoorbell (q : Nat) (v : Word) (fs : List Fetched) (at' : Nat)
  /-- HQ_CFG_WRITE, R533. -/
  | hqCfgWrite (who : Requester) (q : Nat) (v : Word) (at' : Nat)
  /-- RQ_HEAD_DOORBELL, R685. -/
  | rqHeadDoorbell (r : Nat) (v : Word) (at' : Nat)
  /-- MSIX_COALESCE, R543. -/
  | msixCoalesce (v : Nat)
  /-- MGMT_DATAGRAM, R545. -/
  | mgmtDatagram (svc : Bool) (session mseq ofs len : Nat) (bs : List Byte) (sigOk nestedOk : Bool) (at' : Nat)
  /-- MGMT_REASSEMBLY_TIMEOUT, R545. -/
  | mgmtReassemblyTimeout
  /-- MB_TX_SEND, R552. -/
  | mbTxSend (who : Requester) (chan : Byte) (at' : Nat)
  /-- MB_RX_ACK, R552. -/
  | mbRxAck (who : Requester) (at' : Nat)
  /-- PCIE_RESET, R590. -/
  | pcieReset (at' : Nat)
  /-- FB_WRITE, R563. -/
  | fbWrite (p : Part) (x : Access) (at' : Nat)
  /-- FB_UNSET_APPLY, R566. -/
  | fbUnsetApply (p : Part)
  /-- IND_DATA_ACCESS, R570. -/
  | indDataAccess (p : Part) (who : Requester) (w : Nat) (v : Option Word) (at' : Nat)
  /-- IND_ACCESS_FAIL, R571. -/
  | indAccessFail (p : Part) (w : Nat) (at' : Nat)
  /-- PARITY_SWEEP, R573. -/
  | paritySweep (p : Part) (hit : Option ParityHit)
  /-- FULL_RESET_REQUEST, R589. -/
  | fullResetRequest (svc : Bool) (who : Requester) (v : Word) (at' : Nat)
  /-- FULL_RESET, R592. -/
  | fullReset (t : SelfTest)
  /-- CD_WATCHDOG_EXPIRY, R589. -/
  | cdWatchdogExpiry
  /-- HOST_WATCHDOG_EXPIRY, R591. -/
  | hostWatchdogExpiry
  /-- WDT_KICK, R591. -/
  | wdtKick (v : Word) (at' : Nat)
  /-- POWER_FAIL_WARNING, R585. -/
  | powerFailWarning (vin : Nat) (commit : Bool) (at' : Nat)
  /-- BRACE_EXIT, R587. -/
  | braceExit
  /-- INPUT_RESET, R584. -/
  | inputReset (vin : Nat) (at' : Nat)
  /-- POWER_GOOD, R584. -/
  | powerGood (vin : Nat)
  /-- POR_BOOT, R610. -/
  | porBoot (t : SelfTest)
  /-- HWSET_COMMIT, R596. -/
  | hwsetCommit
  /-- PWR_TARGET_WRITE, R603. -/
  | pwrTargetWrite (who : Requester) (v : Word) (at' : Nat)
  /-- IDLE_ENTRY, R602. -/
  | idleEntry
  /-- GUYLINE_ENABLE, R614. -/
  | guylineEnable
  /-- POD_READY_TIMEOUT, R616. -/
  | podReadyTimeout
  /-- STAGE_CHUNK, R634. -/
  | stageChunk (mseq ofs : Nat) (bs : List Byte)
  /-- STAGE_END, R634. -/
  | stageEnd (mseq total : Nat) (sigOk nestedOk : Bool)
  /-- SCHEDULE, R636. -/
  | schedule (mseq : Nat) (p : List Byte) (sigOk : Bool)
  /-- SVC_CONFIRM, R640. -/
  | svcConfirm (mseq : Nat) (b : List Byte) (sigOk : Bool)
  /-- SVC_REVERT, R641. -/
  | svcRevert (mseq : Nat) (b : List Byte) (sigOk : Bool)
  /-- SVC_TOKEN, R626. -/
  | svcToken (mseq : Nat) (b : List Byte) (sigOk : Bool)
  /-- SVC_STATUS, R634. -/
  | svcStatus (mseq : Nat)
  /-- UPD_CTL_CONFIRM, R640. -/
  | updCtlConfirm (who : Requester) (key : Byte) (at' : Nat)
  /-- UPD_CTL_REVERT, R641. -/
  | updCtlRevert (who : Requester) (key : Byte) (at' : Nat)
  /-- ACTIVATION_TICK, R638. -/
  | activationTick
  /-- FALLBACK_READY_TIMEOUT, R641. -/
  | fallbackReadyTimeout
  /-- AUTO_REVERT_TIMEOUT, R641. -/
  | autoRevertTimeout
  /-- TOKEN_LAPSE, R626. -/
  | tokenLapse
  /-- SPDM_REQUEST, R627. -/
  | spdmRequest (doe : Bool) (num : Nat) (m : List Byte)
  /-- BIND, R628. -/
  | bind (num mid : Nat)
  /-- AL_MEAS, R631. -/
  | alMeas (doe : Bool) (num lane : Nat)
  /-- ER_REL_WRITE, R648. -/
  | erRelWrite (who : Requester) (v : Word) (at' : Nat)
  /-- ER_WINDOW_READ, R649. -/
  | erWindowRead (p : Part) (who : Requester) (k : Nat) (at' : Nat)
  /-- BB_COMPACTION, R656. -/
  | bbCompaction
  /-- BB_MIRROR_COPY, R657. -/
  | bbMirrorCopy
  /-- BB_CUR_WRITE, R658. -/
  | bbCurWrite (who : Requester) (lo hi : Word) (at' : Nat)
  /-- TRACE_BRANCH_FLUSH, R660. -/
  | traceBranchFlush (p : Part) (src : Nat)
  /-- TRACE_SYNC_TIMER, R661. -/
  | traceSyncTimer (p : Part) (src : Nat)
  /-- TRACE_DRAIN, R663. -/
  | traceDrain
  /-- TRACE_TRIG_WRITE, R665. -/
  | traceTrigWrite (who : Requester) (v : Word) (at' : Nat)
  /-- TRACE_TICK_TRIGGER, R665. -/
  | traceTickTrigger
  /-- TRACE_STOP, R665. -/
  | traceStop
  /-- SELF_TELEMETRY_LATCH, R667. -/
  | selfTelemetryLatch (power : Nat)
  /-- THERMAL_READING, R675. -/
  | thermalReading (dies stks : List (BitVec 16))
  /-- PWR_EN_FALL, R673. -/
  | pwrEnFall (at' : Nat)
  /-- MAIN_RST_RELEASE, R122. -/
  | mainRstRelease (at' : Nat)
  /-- REFCLK_RETURN, R92. -/
  | refclkReturn (at' : Nat)
  /-- AOCLK_RANGE_CLEAR, R152. -/
  | aoclkRangeClear (at' : Nat)
  /-- GL_BLOCK_LOCK_ACQUIRED, R185. -/
  | glBlockLockAcquired (e : GlEnd) (pr : Pair)
  /-- RL_ALIGNMENT_LOCK, R413. -/
  | rlAlignmentLock (port : Nat) (lns : List Nat) (at' : Nat)
  /-- CMD_BAD_OP, R682. -/
  | cmdBadOp
  /-- QUERY_DEADLINE, R449. -/
  | queryDeadline
  /-- HOST_LINK_TRAINED, R529. -/
  | hostLinkTrained (width rate : Nat) (at' : Nat)
  /-- WAKE_COMPLETE, R603. -/
  | wakeComplete (at' : Nat)
  /-- PWR_EN_RISE, R673. -/
  | pwrEnRise
  /-- RECOVERY_CROSSING, R587. -/
  | recoveryCrossing (rising : Bool) (vin : Nat) (at' : Nat)
deriving DecidableEq, Repr

end Sys2Proof
end

