-- ==== Sys2Proof/Decode.lean ====
section
/-! DEFINITION. Words of the operations table: the table gives no row any bits. -/
namespace Sys2Proof

/-- The command that a word spells by the table's bits: none, since no row has bits.
Log: entry 5 (DESIGN CHOICE). -/
def decodeTableWord (_nbits _w : Nat) : Option Instr := none

end Sys2Proof
end

