-- ==== Sys2Proof/Config.lean ====
section
/-! DEFINITION. What the spec leaves open and the machine still goes on with: free values without a body, so that
no proof can know them. The step applies a source to the plain counter `seed` of Gremon's state, so each use is fresh. -/
namespace Sys2Proof

/-- A fresh 64-bit value that the spec does not fix (see the assumption log for every use).
Log: entry 7 (DESIGN CHOICE). -/
opaque Config.freeWord : Nat → W64

/-- A fresh byte that the spec does not fix.
Log: entry 7 (DESIGN CHOICE). -/
opaque Config.freeByte : Nat → Byte

/-- Whether a fused multiply-add of 0, an infinity and a quiet NaN raises NV, by format: IEEE 754-2019 leaves it to the
implementation.
Log: entry 62 (DEDUCED; DESIGN CHOICE). -/
opaque Config.fmaNanInvalid : Nat → Bool

/-- The code of the reason BAD_REMAP in a REMAP_REFUSED event (R96): the spec names the reason and gives it no number.
Log: entry 42 (DESIGN CHOICE). -/
opaque Config.badRemap : Byte

/-- The domain number of IEEE 1588 that a Defaults Image sets (Table 4.8): the spec gives it no place in the image.
Log: entry 14 (DEDUCED; DESIGN CHOICE; PRESUMED). -/
opaque Config.siteDomain : List Byte → BitVec 7

/-- Byte 1 of a training word, the equaliser requests of the receiver, and whether it is DONE (Table 5.8): the spec gives
their place and leaves the receiver's choice open.
Log: entry 16 (DEDUCED; DESIGN CHOICE). -/
opaque Config.trainRequest : Nat → Byte
/-- Log: entry 16 (DEDUCED; DESIGN CHOICE). -/
opaque Config.trainDone : Nat → Bool

end Sys2Proof
end

