-- ==== Sys2Proof/Events.lean ====
section
/-! DEFINITION. The event codes of Table 20.2, by name (R645). -/
namespace Sys2Proof

/-- The names of Table 20.2. -/
inductive Ev where
  | hclkLost
  | refclkLost
  | aoclkRange
  | hdidInvalid
  | pwrAbrupt
  | snpFast
  | stpSopOpen
  | stpNoSop
  | stpBadNb
  | stpShadow
  | stpReset
  | stpNokey
  | remap
  | remapRefused
  | capRefused
  | capDrop
  | marks
  | stepMark
  | vigilLate
  | vigilNobank
  | scrStray
  | scrInband
  | scrInload
  | stressOpen
  | stressClose
  | hostErr
  | mbRead
  | cntErr
  | coderErr
  | sdErr
  | holdover
  | holdExpired
  | timeStep
  | cfgParity
  | linkFresh
  | glBadMsg
  | siteFar
  | alignInconsistent
  | dupGremonId
  | trainFail
  | stbyFail
  | glTakeover
  | glRefused
  | dupHdid
  | rlPortFail
  | rlBadMsg
  | rlShapeRefused
  | rlHops
  | rlUnreach
  | treeFull
  | canopyLinkFail
  | stackFail
  | swap
  | streamFault
  | syncOvf
  | reduceRefused
  | lateInput
  | reduceMismatch
  | reduceFail
  | tseTransient
  | tsePlaneFail
  | coderBadblock
  | histBadrec
  | lostPage
  | exportAbort
  | planLagging
  | kitOverrun
  | kitFault
  | kitRestartFail
  | bootkitRefused
  | vigilMissed
  | lanternStale
  | lanternCfgBad
  | packRefused
  | stressDone
  | residueErr
  | coreMove
  | coreRetired
  | hostLinkDegraded
  | hostDmaErr
  | hostReset
  | hqError
  | badBind
  | bounceBad
  | badReg
  | lockedWrite
  | defaulted
  | defaultsInvalid
  | braceEnter
  | braceExit
  | podReady
  | podReadyPartial
  | mcertUnavailable
  | activateDeferred
  | actSkip
  | updateFallback
  | traceTrigger
  | traceStop
deriving DecidableEq, Repr

end Sys2Proof
end

