-- ==== Sys2Proof/Machine/Bits.lean ====
section
/-! DEFINITION. Bit fields, little-endian bytes, CRC-32C, saturating counts, sparse tables and byte memory: the
small operations every family uses. Each is stated once here so that a repair mends it everywhere. -/
namespace Sys2Proof

/-- Bits `[hi:lo]` of a number (R9). -/
def bits (w hi lo : Nat) : Nat := (w >>> lo) % 2 ^ (hi + 1 - lo)

/-- Bit `i` of a number. -/
def bit (w i : Nat) : Bool := w.testBit i

/-- `w` with bits `[hi:lo]` replaced by `v`. -/
def putBits (w hi lo v : Nat) : Nat :=
  w - (bits w hi lo <<< lo) + ((v % 2 ^ (hi + 1 - lo)) <<< lo)

/-- A Bool as a bit. -/
def b2n (b : Bool) : Nat := if b then 1 else 0

/-- The mask with ones in `[hi:lo]`. -/
def mask (hi lo : Nat) : Nat := (2 ^ (hi + 1 - lo) - 1) <<< lo

/-- `v` held to at most `m`: a saturating count. -/
def sat (m v : Nat) : Nat := min m v

/-- A number as `n` bytes, least significant first (R9). -/
def leBytes : (n v : Nat) → List Byte
  | 0, _ => []
  | n + 1, v => BitVec.ofNat 8 v :: leBytes n (v / 256)

/-- The number that bytes give, least significant first (R9). -/
def ofLe : List Byte → Nat
  | [] => 0
  | b :: bs => b.toNat + 256 * ofLe bs

/-- `n` bytes of `bs` from offset `o`, as a little-endian number; bytes beyond the end read 0. -/
def leAt (bs : List Byte) (o n : Nat) : Nat := ofLe ((bs.drop o).take n)

/-- Exactly `n` bytes: cut or padded with zeros. -/
def padTo (n : Nat) (bs : List Byte) : List Byte :=
  bs.take n ++ List.replicate (n - bs.length) 0

/-- An Int as an `n`-bit two's complement number. -/
def ofInt (n : Nat) (i : Int) : Nat := (i % (2 ^ n : Int)).toNat

/-- An `n`-bit two's complement number as an Int. -/
def toInt (n v : Nat) : Int :=
  let u := v % 2 ^ n
  if u < 2 ^ (n - 1) then (u : Int) else (u : Int) - 2 ^ n

/-- Division of integers that rounds toward negative infinity (R147). -/
def floorDiv (a b : Int) : Int := Int.fdiv a b

/-- One byte into a reflected CRC with polynomial `p`, bit by bit. -/
def crcStep (p : Nat) : Nat → Nat → Nat
  | 0, c => c
  | n + 1, c => crcStep p n (if c % 2 = 1 then (c / 2) ^^^ p else c / 2)

/-- CRC-32C (Castagnoli, reflected polynomial 0x82F63B78, initial and final complement) of bytes (R172).
Log: entry 10 (DESIGN CHOICE). -/
def crc32c (bs : List Byte) : Nat :=
  (bs.foldl (fun c b => crcStep 0x82F63B78 8 (c ^^^ b.toNat)) 0xFFFFFFFF) ^^^ 0xFFFFFFFF

/-- The 64-bit mix of R49.
Log: entry 10 (DESIGN CHOICE). -/
def mix64 (u : Nat) : Nat :=
  let m := 2 ^ 64
  let z := (u + 0x9E3779B97F4A7C15) % m
  let z := ((z ^^^ (z >>> 30)) * 0xBF58476D1CE4E5B9) % m
  let z := ((z ^^^ (z >>> 27)) * 0x94D049BB133111EB) % m
  z ^^^ (z >>> 31)

/-! ### Sparse tables -/

/-- The entry under `k`, if listed. -/
def Tbl.find {α : Type} : Tbl α → Nat → Option α
  | [], _ => none
  | (j, v) :: t, k => if j = k then some v else Tbl.find t k

/-- What a table reads at `k`: its entry, or the default `d`. -/
def Tbl.get {α : Type} (d : α) (t : Tbl α) (k : Nat) : α := (Tbl.find t k).getD d

/-- A table without `k`. -/
def Tbl.erase {α : Type} : Tbl α → Nat → Tbl α
  | [], _ => []
  | (j, v) :: t, k => if j = k then Tbl.erase t k else (j, v) :: Tbl.erase t k

/-- A table with `k` listed as `v`, keys kept rising. -/
def Tbl.put {α : Type} : Tbl α → Nat → α → Tbl α
  | [], k, v => [(k, v)]
  | (j, u) :: t, k, v =>
    if k < j then (k, v) :: (j, u) :: t
    else if k = j then (k, v) :: t
    else (j, u) :: Tbl.put t k v

/-- A table that reads `v` at `k`, in canonical form: writing the default removes the entry. -/
def Tbl.set {α : Type} [DecidableEq α] (d : α) (t : Tbl α) (k : Nat) (v : α) : Tbl α :=
  if v = d then Tbl.erase t k else Tbl.put t k v

/-- Change one entry by a function of what it reads. -/
def Tbl.upd {α : Type} [DecidableEq α] (d : α) (t : Tbl α) (k : Nat) (f : α → α) : Tbl α :=
  Tbl.set d t k (f (Tbl.get d t k))

/-- Keys strictly rising, every key at least `lo`. -/
def Tbl.risingFrom {α : Type} : Nat → Tbl α → Bool
  | _, [] => true
  | lo, (k, _) :: t => decide (lo ≤ k) && Tbl.risingFrom (k + 1) t

/-- The canonical form: keys strictly rising and no entry equal to the default. -/
def Tbl.wf {α : Type} [DecidableEq α] (d : α) (t : Tbl α) : Bool :=
  Tbl.risingFrom 0 t && t.all (fun e => decide (e.2 ≠ d))

/-- Element `i` of a list, or the default. -/
def nth {α : Type} (d : α) (l : List α) (i : Nat) : α := l.getD i d

/-- The list with element `i` replaced, unchanged when there is no such element. -/
def setNth {α : Type} (l : List α) (i : Nat) (v : α) : List α := l.set i v

/-- The first element that satisfies `p`, taken out of the list.
Log: entry 11 (DESIGN CHOICE). -/
def takeFirst {α : Type} (p : α → Bool) : List α → Option (α × List α)
  | [] => none
  | a :: l =>
    if p a then some (a, l)
    else match takeFirst p l with
      | some (x, r) => some (x, a :: r)
      | none => none

/-- `f` over `n, n-1, …, 1` applied to an accumulator: a counted loop. -/
def loop {α : Type} (f : α → α) : Nat → α → α
  | 0, a => a
  | n + 1, a => loop f n (f a)

/-! ### Time quality and stamps -/

/-- The 2-bit code of a quality (Table 4.2). -/
def Quality.code : Quality → Nat
  | .unset => 0 | .free => 1 | .holdover => 2 | .locked => 3

/-- The quality a 2-bit code names. -/
def Quality.ofCode (n : Nat) : Quality :=
  match n % 4 with
  | 0 => .unset | 1 => .free | 2 => .holdover | _ => .locked

/-- The lower of two qualities (R151). -/
def Quality.lower (a b : Quality) : Quality := Quality.ofCode (min (Quality.code a) (Quality.code b))

/-- The 2-bit code of a time base (Table 4.4). -/
def TimeBase.code : TimeBase → Nat
  | .pt => 0 | .lm => 1 | .jt => 2

/-- The time base a 2-bit code names; code 3 is reserved and reads as PT. -/
def TimeBase.ofCode (n : Nat) : TimeBase :=
  match n % 4 with
  | 1 => .lm | 2 => .jt | _ => .pt

/-- The TQ byte of a stamp (Table 4.4). -/
def Stamp.tq (s : Stamp) : Nat := s.sub.toNat + 16 * Quality.code s.qual + 64 * TimeBase.code s.base

/-- The 12 bytes of a stamp (Table 4.3). -/
def Stamp.bytes (s : Stamp) : List Byte :=
  leBytes 8 s.ns.toNat ++ leBytes 1 (Stamp.tq s) ++ leBytes 1 0 ++ leBytes 2 s.unc.toNat

/-- The stamp that 12 bytes at offset `o` give (Table 4.3). -/
def Stamp.ofBytes (bs : List Byte) (o : Nat) : Stamp :=
  let tq := leAt bs (o + 8) 1
  { ns := BitVec.ofNat 64 (leAt bs o 8), sub := BitVec.ofNat 4 tq, qual := Quality.ofCode (tq / 16),
    base := TimeBase.ofCode (tq / 64), unc := BitVec.ofNat 16 (leAt bs (o + 10) 2) }

/-- The stamp in sixteenths of a nanosecond (R147). -/
def Stamp.sixteenths (s : Stamp) : Nat := 16 * s.ns.toNat + s.sub.toNat

/-- The all-zero stamp: PT 0, UNSET. -/
def Stamp.zero : Stamp := { ns := 0, sub := 0, qual := .unset, base := .pt, unc := 0 }

end Sys2Proof
end

