-- ==== Sys2Proof/Machine/EventCodes.lean ====
section
/-! DEFINITION. The code of each event name (Table 20.2): within each row the codes run consecutively (R645). -/
namespace Sys2Proof

/-- The 16-bit code of an event (Table 20.2). -/
def Ev.code : Ev → Nat
  | .hclkLost => 0x0100
  | .refclkLost => 0x0101
  | .aoclkRange => 0x0102
  | .hdidInvalid => 0x0103
  | .pwrAbrupt => 0x0104
  | .snpFast => 0x0105
  | .stpSopOpen => 0x0106
  | .stpNoSop => 0x0107
  | .stpBadNb => 0x0108
  | .stpShadow => 0x0109
  | .stpReset => 0x010A
  | .stpNokey => 0x010B
  | .remap => 0x010C
  | .remapRefused => 0x010D
  | .capRefused => 0x010E
  | .capDrop => 0x010F
  | .marks => 0x0110
  | .stepMark => 0x0111
  | .vigilLate => 0x0112
  | .vigilNobank => 0x0113
  | .scrStray => 0x0114
  | .scrInband => 0x0115
  | .scrInload => 0x0116
  | .stressOpen => 0x0117
  | .stressClose => 0x0118
  | .hostErr => 0x0119
  | .mbRead => 0x011A
  | .cntErr => 0x011B
  | .coderErr => 0x011C
  | .sdErr => 0x011D
  | .holdover => 0x0180
  | .holdExpired => 0x0181
  | .timeStep => 0x0182
  | .cfgParity => 0x0183
  | .linkFresh => 0x0184
  | .glBadMsg => 0x0185
  | .siteFar => 0x0200
  | .alignInconsistent => 0x0201
  | .dupGremonId => 0x0202
  | .trainFail => 0x0203
  | .stbyFail => 0x0204
  | .glTakeover => 0x0205
  | .glRefused => 0x0206
  | .dupHdid => 0x0207
  | .rlPortFail => 0x0208
  | .rlBadMsg => 0x0209
  | .rlShapeRefused => 0x020A
  | .rlHops => 0x020B
  | .rlUnreach => 0x020C
  | .treeFull => 0x020D
  | .canopyLinkFail => 0x020E
  | .stackFail => 0x020F
  | .swap => 0x0300
  | .streamFault => 0x0301
  | .syncOvf => 0x0302
  | .reduceRefused => 0x0303
  | .lateInput => 0x0304
  | .reduceMismatch => 0x0305
  | .reduceFail => 0x0306
  | .tseTransient => 0x0307
  | .tsePlaneFail => 0x0308
  | .coderBadblock => 0x0309
  | .histBadrec => 0x030A
  | .lostPage => 0x030B
  | .exportAbort => 0x030C
  | .planLagging => 0x030D
  | .kitOverrun => 0x030E
  | .kitFault => 0x030F
  | .kitRestartFail => 0x0310
  | .bootkitRefused => 0x0311
  | .vigilMissed => 0x0312
  | .lanternStale => 0x0313
  | .lanternCfgBad => 0x0314
  | .packRefused => 0x0315
  | .stressDone => 0x0316
  | .residueErr => 0x0317
  | .coreMove => 0x0318
  | .coreRetired => 0x0319
  | .hostLinkDegraded => 0x0400
  | .hostDmaErr => 0x0401
  | .hostReset => 0x0402
  | .hqError => 0x0403
  | .badBind => 0x0404
  | .bounceBad => 0x0405
  | .badReg => 0x0406
  | .lockedWrite => 0x0407
  | .defaulted => 0x0408
  | .defaultsInvalid => 0x0409
  | .braceEnter => 0x040A
  | .braceExit => 0x040B
  | .podReady => 0x040C
  | .podReadyPartial => 0x040D
  | .mcertUnavailable => 0x040E
  | .activateDeferred => 0x040F
  | .actSkip => 0x0410
  | .updateFallback => 0x0411
  | .traceTrigger => 0x0412
  | .traceStop => 0x0413

end Sys2Proof
end

