-- ==== Sys2Proof/Machine/RegMap.lean ====
section
/-! DEFINITION. The register maps of AILEN and Gremon as data (17, and the field maps of every chapter): where each
register lies, which bits each access code of Table 0.5 covers, its reset value and what survives. Indirect
addresses are kept apart from direct ones by adding `ind`. -/
namespace Sys2Proof.Machine
open Sys2Proof

/-- What the indirect spaces are offset by in register keys. -/
def ind (a : Nat) : Nat := 0x100000000 + a

/-- Who may write a register, beside what its access codes allow (R109, R165, R517, Table 20.10). -/
inductive Writer where
  | any
  | cmdOnly
  | hrpOnly
deriving DecidableEq, Repr

/-- A family of registers at `base + i·step + j·stepM`, i < n, j < m. `rw`, `fb`, `bl`, `wo`, `w1p` and `sqc` are
the bits of each access code; the other bits are RO or reserved. `keep` are the bits that survive a FULL reset
(Gremon) or a BLOCK reset (AILEN); `keepPor` those that survive POR (Gremon). -/
structure RegDesc where
  base  : Nat
  n     : Nat := 1
  step  : Nat := 4
  m     : Nat := 1
  stepM : Nat := 0x1000000000
  rw    : Nat := 0
  fb    : Nat := 0
  bl    : Nat := 0
  wo    : Nat := 0
  w1p   : Nat := 0
  sqc   : Nat := 0
  rst   : Nat := 0
  keep  : Nat := 0
  keepPor : Nat := 0
  hiLatch : Bool := false      -- a read of this LO word latches the next word (R562)
  mainIsland : Bool := false
  writer : Writer := .any
  data  : Bool := false        -- data under SECDED, not configuration under parity (R572)
deriving DecidableEq, Repr

/-- All 32 bits. -/
def all32 : Nat := 0xFFFFFFFF

/-- The AILEN registers (Tables 2.2–2.23, 3.2–3.10, 4.24–4.28, 5.23, 9.13, 9.14, 14.17, 14.18, 15.8–15.10, 16.14,
17.7–17.8a, 20.4, 20.10). Those of the screening controller lie in the always-on island, as Table 2.7 puts all configuration
registers there and names only the counters and AL_STP_STAT_n among the main island's.
Log: entry 39 (DEDUCED; DESIGN CHOICE). -/
def ailenRegs : List RegDesc :=
  [ { base := 0x0000, rst := 0x0A1E0400, keep := all32 },                        -- AL_ID
    { base := 0x0004, rst := 0x00040100, keep := all32 },                        -- AL_VERSION
    { base := 0x0008, keep := all32 },                                           -- AL_CFGID
    { base := 0x0010, n := 2, keep := all32 },                                   -- AL_HDID_LO/HI
    { base := 0x0100, w1p := 1 },                                                -- AL_REMAP_CTL
    { base := 0x0104, sqc := mask 1 0, keep := all32 },                          -- AL_REMAP_STAT
    { base := 0x0108, fb := 1, keep := all32 },                                  -- AL_VIG_CTL
    { base := 0x010C },                                                          -- AL_GL_STAT
    { base := 0x0110, fb := mask 10 0, keep := all32 },                          -- AL_STEP_CFG
    { base := 0x0114, rw := all32, keep := all32, hiLatch := true, data := true }, -- AL_STEP_NUM_LO
    { base := 0x0118, rw := mask 15 0, keep := all32, data := true },            -- AL_STEP_NUM_HI
    { base := 0x011C, keep := all32 },                                           -- AL_VIG_STAT
    { base := 0x0120, sqc := mask 2 1, keep := all32 },                          -- AL_CFG_FAULT
    { base := 0x0124, keep := all32 },                                           -- AL_CFG_FAULT_ADDR
    { base := 0x0128, sqc := mask 2 1, keep := all32 },                          -- AL_FB_STAT
    { base := 0x0400, n := 256, rw := mask 8 0, keep := all32 },                 -- AL_REMAP_STG_n
    { base := 0x0800, n := 256, keep := all32 },                                 -- AL_REMAP_ACT_n
    { base := 0x1000, rw := mask 13 0 ||| mask 31 16, rst := 0x03E80000, keep := all32, writer := .cmdOnly }, -- AL_CAP_CFG
    { base := 0x1004, w1p := 1, writer := .cmdOnly },                            -- AL_CAP_CTL
    { base := 0x1008, sqc := mask 1 0, keep := all32, writer := .cmdOnly },      -- AL_CAP_STAT
    { base := 0x100C, keep := all32 },                                           -- AL_CAP_PHASH
    { base := 0x1020, n := 8, rw := mask 9 0 ||| mask 24 16, keep := all32, writer := .cmdOnly }, -- AL_LGRP_g
    { base := 0x2000, n := 1024, rw := 1 ||| mask 15 8, keep := all32, writer := .cmdOnly }, -- AL_OPM_CFG_c
    { base := 0x3000, n := 64, rw := mask 4 0, keep := all32, writer := .cmdOnly } ] ++
  [ { base := 0x4000, rst := 0xFFFF0000, keep := all32 },                        -- AL_TIME_STAT
    { base := 0x4004, n := 5, keep := all32 },                                   -- AL_PT_LO/HI, TQ, LM_LO/HI
    { base := 0x4018, n := 2, rw := all32, keep := all32, writer := .cmdOnly },  -- AL_JT_EPOCH_LO/HI
    { base := 0x4020, fb := mask 6 0 ||| mask 15 8, rst := 0x083F, keep := all32, writer := .cmdOnly }, -- AL_MARK_CFG
    { base := 0x4024, keep := all32 },                                           -- AL_MARK_STAT
    { base := 0x4028, rw := mask 16 0, keep := all32, writer := .cmdOnly },      -- AL_JT_JOB
    { base := 0x402C, rst := 0x28064, keep := all32 },                           -- AL_FRAME_ACT: F 100, N 10
    { base := 0x4030, rw := all32, rst := 0x28064, keep := all32, writer := .cmdOnly }, -- AL_FRAME_NEXT
    { base := 0x4034, n := 2, rw := all32, keep := all32, writer := .cmdOnly },  -- AL_FRAME_TICK_LO/HI
    { base := 0x5000, n := 16, rw := all32, keep := all32, data := true },       -- AL_MB_TX_w
    { base := 0x5040, rw := mask 7 0, w1p := 0x100, keep := all32, data := true }, -- AL_MB_TX_CTL
    { base := 0x5044, rw := mask 2 1, keep := all32, writer := .cmdOnly, data := true }, -- AL_MB_TX_STAT
    { base := 0x5080, n := 16, keep := all32 },                                  -- AL_MB_RX_w
    { base := 0x50C0, w1p := 0x10000, keep := all32 },                           -- AL_MB_RX_STAT
    { base := 0x50C4, rw := mask 3 0, keep := all32 },                           -- AL_MB_CTL
    { base := 0x6000, n := 1024, rw := all32, keep := all32, data := true },     -- AL_CONT_n_w
    { base := 0x7000, n := 8, wo := all32, keep := all32, writer := .cmdOnly, data := true }, -- AL_SD_KEY_w
    { base := 0x7020, rw := mask 15 0, w1p := 0x20000, keep := all32, writer := .cmdOnly }, -- AL_SD_CTL
    { base := 0x7030, n := 2, mainIsland := true } ] ++                          -- AL_STP_STAT_n
  [ { base := 0x8000, rw := all32, rst := 0x7D000000, keep := all32, writer := .cmdOnly }, -- AL_SCR_CFG, WAIT 1,000
    { base := 0x8004, rw := mask 3 0, writer := .cmdOnly },                      -- AL_SCR_ARG
    { base := 0x8010, n := 4, wo := all32, writer := .cmdOnly, data := true },   -- AL_SCR_EXP_w
    { base := 0x8020, sqc := mask 11 8, keep := mask 11 8 ||| mask 31 24 },      -- AL_SCR_STAT
    { base := 0x8024, n := 2 },                                                  -- AL_SCR_CUR_PACK, CUR_CORE
    { base := 0x8030, n := 4, rw := all32, writer := .hrpOnly, data := true },   -- AL_SCR_RES_w
    { base := 0x8040, w1p := 1, wo := mask 15 8, writer := .hrpOnly, data := true }, -- AL_SCR_DONE
    { base := 0x8044, rw := 1, writer := .hrpOnly, data := true },               -- AL_SCR_SESS
    { base := 0x8048, n := 2, rw := all32, keep := all32, writer := .cmdOnly },  -- AL_SCR_COND, LSIG
    { base := 0x8050 },                                                          -- AL_SCR_LAST_SIG
    { base := 0x8060, wo := all32, writer := .hrpOnly, data := true },           -- AL_HERR
    { base := 0x9000, rw := mask 5 0, keep := mask 4 0, writer := .cmdOnly },    -- AL_TRC_CTL
    { base := 0xA000, n := 3, keep := all32 },                                   -- AL_ER_WR, ACK, OVF
    { base := 0xA00C, rw := all32, keep := all32, data := true },                -- AL_ER_CUR
    { base := 0xA010, rw := 1, rst := 1, keep := all32, data := true },          -- AL_ER_CTL
    { base := 0xA040, n := 16, keep := all32 },                                  -- AL_ER_WIN_w
    { base := 0xF000, n := 2, rw := all32, data := true },                       -- AL_IND_ADDR, DATA
    { base := 0xF008, rw := 1, rst := 1, data := true },                         -- AL_IND_CTL
    { base := 0xF00C, sqc := 1 },                                                -- AL_IND_STAT
    { base := ind 0x10000, n := 4096, rw := mask 23 0, keep := all32, writer := .cmdOnly }, -- AL_CNT_CFG_n
    { base := ind 0x20000, n := 4096, rw := mask 14 0, keep := all32, writer := .cmdOnly }, -- AL_PLAN_i
    { base := ind 0x30000, n := 4096, step := 8, hiLatch := true, mainIsland := true },     -- AL_CNT_LIVE_n_LO
    { base := ind 0x30004, n := 4096, step := 8, mainIsland := true },
    { base := ind 0x40000, n := 4096, step := 8, hiLatch := true, mainIsland := true },     -- AL_CNT_FRZ_n_LO
    { base := ind 0x40004, n := 4096, step := 8, mainIsland := true },
    { base := ind 0x50000, n := 1024, step := 8, hiLatch := true, mainIsland := true },     -- AL_OPM_FRZ_c_LO
    { base := ind 0x50004, n := 1024, step := 8, mainIsland := true } ]

/-- Gremon's BAR0 registers (Table 17.9). -/
def gremonBar0 : List RegDesc :=
  [ { base := 0x0, rst := 0x9E303224, keep := all32, keepPor := all32 },         -- GR_ID
    { base := 0x4 },                                                             -- GR_FW_VER
    { base := 0x8, keep := all32, keepPor := all32 },                            -- GR_ROM_VER
    { base := 0x10, n := 2, keep := all32, keepPor := all32 },                   -- GR_SERIAL_LO/HI
    { base := 0x18 },                                                            -- GR_MODULE
    { base := 0x10000 },                                                         -- GR_GLB_STAT
    { base := 0x10004, w1p := 1, wo := mask 15 8, data := true },                -- GR_GLB_RESET
    { base := 0x10008, sqc := mask 2 1 },                                        -- GR_FB_STAT
    { base := 0x1000C, hiLatch := true },                                        -- GR_FB_FRAME_LO
    { base := 0x10010 },                                                         -- GR_FB_FRAME_HI
    { base := 0x10014, sqc := mask 2 1 },                                        -- GR_CFG_FAULT
    { base := 0x10018 },                                                         -- GR_CFG_FAULT_ADDR
    { base := 0x10100, rw := mask 1 0, rst := 1 },                               -- GR_PWR_CTL
    { base := 0x10104 },                                                         -- GR_PWR_STAT
    { base := 0x10108, rw := mask 15 0, w1p := 0x10000 },                        -- GR_WDT
    { base := 0x1010C },                                                         -- GR_VIN
    { base := 0x10110, n := 2, keep := all32, keepPor := all32 },                -- GR_BRACE_STAT, CNT
    { base := 0x10118, n := 3 },                                                 -- GR_RESET_CAUSE, BOOT_STAT, DEF_STAT
    { base := 0x10200, bl := mask 1 0 },                                         -- GR_PROT_CTL
    { base := 0x10204, bl := mask 6 0 },                                         -- GR_PROT_RLOCK
    { base := 0x10208, hiLatch := true },                                        -- GR_PROT_NONCE_LO
    { base := 0x1020C },                                                         -- GR_PROT_NONCE_HI
    { base := 0x10210, sqc := mask 5 4, keep := all32, keepPor := all32 },       -- GR_UPD_STAT
    { base := 0x10214, w1p := mask 1 0, wo := mask 15 8, data := true },         -- GR_UPD_CTL
    { base := 0x10218, n := 2 },                                                 -- GR_UPD_TICK_LO/HI
    { base := 0x10220, keep := all32, keepPor := all32 },                        -- GR_UPD_RBK
    { base := 0x100000, n := 64, step := 0x40, rw := mask 31 12 },               -- GR_HQ_SQB_LO
    { base := 0x100004, n := 64, step := 0x40, rw := all32 },                    -- GR_HQ_SQB_HI
    { base := 0x100008, n := 64, step := 0x40, rw := mask 31 12 },               -- GR_HQ_CQB_LO
    { base := 0x10000C, n := 64, step := 0x40, rw := all32 },                    -- GR_HQ_CQB_HI
    { base := 0x100010, n := 64, step := 0x40, rw := mask 18 0, rst := 0x84 },   -- GR_HQ_CFG
    { base := 0x100014, n := 64, step := 0x40, wo := mask 15 0, data := true },  -- GR_HQ_SQTAIL
    { base := 0x100018, n := 64, step := 0x40, wo := mask 15 0, data := true },  -- GR_HQ_CQHEAD
    { base := 0x10001C, n := 64, step := 0x40, rst := 0x10000 },                 -- GR_HQ_STAT
    { base := 0x100020, n := 64, step := 0x40, bl := mask 12 0 },                -- GR_HQ_MID
    { base := 0x100024, n := 64, step := 0x40, bl := mask 31 12 },               -- GR_HQ_BNC_LO
    { base := 0x100028, n := 64, step := 0x40, bl := all32 },                    -- GR_HQ_BNC_HI
    { base := 0x10002C, n := 64, step := 0x40, bl := mask 23 0 } ] ++            -- GR_HQ_BNC_LEN
  [ { base := 0x108000, n := 16, step := 0x40, rw := mask 31 12 },               -- GR_RQ_BASE_LO
    { base := 0x108004, n := 16, step := 0x40, rw := all32 },                    -- GR_RQ_BASE_HI
    { base := 0x108008, n := 16, step := 0x40, rw := mask 14 0 ||| mask 31 16, rst := 6 }, -- GR_RQ_CFG
    { base := 0x10800C, n := 16, step := 0x40, rw := mask 15 1 },                -- GR_RQ_KINDS
    { base := 0x108010, n := 16, step := 0x40, wo := mask 19 0, data := true },  -- GR_RQ_HEAD
    { base := 0x108014, n := 16, step := 0x40 },                                 -- GR_RQ_TAIL
    { base := 0x108018, n := 16, step := 0x40 },                                 -- GR_RQ_DROP
    { base := 0x10801C, n := 16, step := 0x40, bl := mask 11 0 },                -- GR_RQ_MID
    { base := 0x200000, n := 256, step := 8, bl := mask 24 0 },                  -- GR_MB_BIND_n
    { base := 0x200004, n := 256, step := 8 },                                   -- GR_MB_STAT_n
    { base := 0x300000, rst := 0xFFFF0000 },                                     -- GR_ALM_STAT
    { base := 0x300004, rw := all32, rst := 0x05147D31 },                        -- GR_ALM_CFG
    { base := 0x300010, n := 5, keep := all32 },                                 -- PT_LO/HI, TQ, LM_LO/HI
    { base := 0x300100, n := 7, step := 16 },                                    -- GR_TSQ_p_HEAD
    { base := 0x300104, n := 7, step := 16 },                                    -- GR_TSQ_p_NSLO
    { base := 0x300108, n := 7, step := 16 },                                    -- GR_TSQ_p_NSHI
    { base := 0x30010C, n := 7, step := 16 },                                    -- GR_TSQ_p_STAT
    { base := 0x300200, n := 6, rw := mask 15 0 },                               -- GR_RL_ASYM_p
    { base := 0x400100, n := 64, step := 8 },                                    -- GR_KIT_SLOT_n
    { base := 0x400104, n := 64, step := 8 },                                    -- GR_KIT_ERR_n
    { base := 0x800000, n := 8, step := 0x20, rw := all32, data := true },       -- GR_IND_ADDR_w
    { base := 0x800004, n := 8, step := 0x20, rw := all32, data := true },       -- GR_IND_DATA_w
    { base := 0x800008, n := 8, step := 0x20, rw := 1, rst := 1, data := true }, -- GR_IND_CTL_w
    { base := 0x80000C, n := 8, step := 0x20, sqc := 1 } ] ++                    -- GR_IND_STAT_w
  [ { base := 0x1000000, keep := all32 },                                        -- GR_ER_WR
    { base := 0x1000004, rw := all32, keep := all32, data := true },             -- GR_ER_REL
    { base := 0x1000008, keep := all32 },                                        -- GR_ER_OVF
    { base := 0x1000100, n := 4, step := 0x100, rw := all32, data := true },     -- GR_ER_CUR_k
    { base := 0x1000104, n := 4, step := 0x100, rw := 1, rst := 1, data := true }, -- GR_ER_CTL_k
    { base := 0x1000140, n := 16, step := 4, m := 4, stepM := 0x100 },           -- GR_ER_WIN_k_w
    { base := 0x1800000 },                                                       -- GR_BB_STAT
    { base := 0x1800004, rw := all32, hiLatch := true, data := true },           -- GR_BB_CUR_LO
    { base := 0x1800008, rw := all32, data := true },                            -- GR_BB_CUR_HI
    { base := 0x1801000, n := 1024 },                                            -- GR_BB_WIN_w
    { base := 0x2000000, rw := mask 2 0 ||| mask 5 4 ||| mask 31 16, w1p := 8, rst := 4 }, -- GR_TRC_CTL
    { base := 0x2000004 },                                                       -- GR_TRC_STAT
    { base := 0x2000008, rw := all32 },                                          -- GR_TRC_DELAY
    { base := 0x200000C, n := 2, rw := all32 },                                  -- GR_TRC_TTICK_LO/HI
    { base := 0x2000014, hiLatch := true },                                      -- GR_TRC_WP_LO
    { base := 0x2000018 },                                                       -- GR_TRC_WP_HI
    { base := 0x2000040, n := 18, rw := all32 },                                 -- GR_TRC_EN_g
    { base := 0x2000090, rw := all32 },                                          -- GR_TRC_PRIO_LO
    { base := 0x2000094, rw := mask 3 0 },                                       -- GR_TRC_PRIO_HI
    { base := 0x3000000, m := 6, stepM := 0x1000 },                              -- GR_RL_STAT_p
    { base := 0x3000004, m := 6, stepM := 0x1000 },                              -- GR_RL_ERR_p
    { base := 0x3000010, n := 5, m := 6, stepM := 0x1000 },                      -- GR_RL_FEC_p_l
    { base := 0x3000100, n := 5, step := 8, m := 6, stepM := 0x1000, fb := mask 11 0 ||| mask 27 16 }, -- GR_RL_SHAPE_p_c
    { base := 0x3000104, n := 5, step := 8, m := 6, stepM := 0x1000, fb := mask 11 0 ||| mask 27 16 }, -- GR_RL_BURST_p_c
    { base := 0x3000200, n := 5, m := 6, stepM := 0x1000, sqc := mask 15 0 },    -- GR_RL_HWM_p_c
    { base := 0x3000300, n := 3, step := 8, m := 6, stepM := 0x1000 },           -- GR_RL_LAT_p_c
    { base := 0x3000304, n := 3, step := 8, m := 6, stepM := 0x1000 },           -- GR_RL_LATD_p_c
    { base := 0x3008000, rst := 0xFC0 },                                         -- GR_TREE_STAT
    { base := 0x3008004 },                                                       -- GR_TREE_EPOCH
    { base := 0x3008008, bl := mask 7 0, rst := 128 },                           -- GR_TREE_CFG
    { base := 0x300800C } ]                                                      -- GR_TREE_MEMB

/-- Gremon's indirect registers (Table 17.11 and Table 19.8). -/
def gremonInd : List RegDesc :=
  [ { base := ind 0x30000, n := 1024, rw := mask 15 0 },                         -- GR_GL_ASYM_n
    { base := ind 0x31000, n := 512 },                                           -- GR_GL_STAT_n
    { base := ind 0x31800, n := 512 },                                           -- GR_GL_ERR_n
    { base := ind 0x40000, n := 34, m := 16, stepM := 0x100, keep := all32, keepPor := all32 }, -- GR_CT_MAP_c_p
    { base := ind 0x41000, n := 32 },                                            -- GR_PKG_DIE_STAT_d
    { base := ind 0x50000, n := 16384, step := 8, hiLatch := true },             -- GR_SYNC_n_LO
    { base := ind 0x50004, n := 16384, step := 8 },                              -- GR_SYNC_n_HI
    { base := ind 0x70000, n := 16384 },                                         -- GR_SYNC_OWN_n
    { base := ind 0x80000, n := 4, m := 16, stepM := 0x20 },                     -- GR_TSE_STAT, USE, LOAD, ERR
    { base := ind 0x90000, bl := mask 21 0, rst := 0x203C0 },                    -- GR_HIST_CFG: 960, 64
    { base := ind 0x90010, n := 3, step := 0x10, keep := all32 },                -- GR_HIST_USED_t
    { base := ind 0x90014, n := 3, step := 0x10, keep := all32, hiLatch := true }, -- GR_HIST_OLD_t_LO
    { base := ind 0x90018, n := 3, step := 0x10, keep := all32 },                -- GR_HIST_OLD_t_HI
    { base := ind 0x90040, sqc := mask 1 0 },                                    -- GR_EXP_STAT
    { base := ind 0x90044, w1p := 1 },                                           -- GR_EXP_CTL
    { base := ind 0x90048, n := 3 },                                             -- GR_EXP_PROG, RSV, LOST
    { base := ind 0xA0000, fb := 1 ||| mask 31 8, rst := 0x02583200 },           -- GR_LAN_CFG
    { base := ind 0xA0004, fb := all32 },                                        -- GR_LAN_SRC_KIT
    { base := ind 0xA0008, fb := all32 },                                        -- GR_LAN_SRC_LOC
    { base := ind 0xA000C, fb := all32, rst := 0x4CCD199A },                     -- GR_LAN_THR_A: 6,554 and 19,661
    { base := ind 0xA0010, fb := all32, rst := 0x051FB333 },                     -- GR_LAN_THR_B: 45,875 and 1,311
    { base := ind 0xA0014 },                                                     -- GR_LAN_STAT
    { base := ind 0xA0100, n := 32, fb := all32 },                               -- GR_LAN_BP_j_LO/HI
    { base := ind 0xA0200, n := 17, fb := mask 15 0 },                           -- GR_LAN_PR_j
    { base := ind 0xB0000, n := 1024, step := 0x20, rw := mask 16 0 },           -- GR_CKT_CFG_n
    { base := ind 0xB0004, n := 1024, step := 0x20, rw := all32 },               -- GR_CKT_RID_n
    { base := ind 0xB0008, n := 1024, step := 0x20, rw := all32, rst := 0x006403E8 }, -- GR_CKT_K_n
    { base := ind 0xB000C, n := 1024, step := 0x20, rw := all32, rst := 0x00780708 }, -- GR_CKT_TMR_n
    { base := ind 0xB0010, n := 1024, step := 0x20 },                            -- GR_CKT_STAT_n
    { base := ind 0xC0000 },                                                     -- GR_VIG_STAT
    { base := ind 0xC0004, fb := mask 6 0, rst := 10 },                          -- GR_VIG_CFG
    { base := ind 0xD0000, rw := mask 27 0, rst := 0x0A28003C },                 -- GR_SCR_CFG
    { base := ind 0xD0004, rw := all32, rst := 0x640A },                         -- GR_SCR_CFG2
    { base := ind 0xD1000, n := 34, m := 16, stepM := 0x100, keep := 3, keepPor := 3 }, -- GR_CORE_ERR_c_p
    { base := ind 0x100000, n := 8192, step := 8, m := 16, stepM := 0x10000, hiLatch := true }, -- GR_OPC_c_l_k_LO
    { base := ind 0x100004, n := 8192, step := 8, m := 16, stepM := 0x10000 },   -- GR_OPC_c_l_k_HI
    { base := ind 0x200000, n := 4096, bl := mask 11 0 } ]                       -- GR_PROT_PERM_m

/-- The registers of a part. -/
def regsOf : Part → List RegDesc
  | .ailen => ailenRegs
  | .gremon => gremonBar0 ++ gremonInd

/-- Whether key `k` is a register of family `d`. -/
def RegDesc.covers (d : RegDesc) (k : Nat) : Bool :=
  if k < d.base then false
  else
    let o := k - d.base
    let j := o / d.stepM
    let r := o % d.stepM
    decide (j < d.m) && decide (r % d.step = 0) && decide (r / d.step < d.n)

/-- The family that key `k` belongs to: none when the key names no register (R560, R571). -/
def regDesc (p : Part) (k : Nat) : Option RegDesc := (regsOf p).find? (·.covers k)

/-- Factory SHAPE words of the five classes: CIR and PIR in 0.1 Gb/s (Table 13.7). -/
def factoryShape : List Nat :=
  [0x00140005, 0x01900064, 0x00C80032, 0x0F3C04B0, 0x0F3C07D0]

/-- Factory BURST words of the five classes: CBS and PBS in flits (Table 13.7). -/
def factoryBurst : List Nat :=
  [0x00200008, 0x01000040, 0x00800020, 0x04000100, 0x08000100]

/-- Reset values that depend on the index of the register. -/
def rstByIndex (p : Part) (k : Nat) : Option Nat :=
  match p with
  | .ailen =>
    if 0x400 ≤ k ∧ k < 0xC00 then some (0x100 ||| (k / 4) % 256) else none
  | .gremon =>
    if ind 0x40000 ≤ k ∧ k < ind 0x41000 then
      let i := (k - ind 0x40000) % 0x100 / 4
      some (if i < 32 then 0x20 ||| i else 0)
    else if 0x3000100 ≤ k ∧ k < 0x3006000 ∧ (k - 0x3000000) % 0x1000 / 0x100 = 1 then
      let o := (k - 0x3000000) % 0x1000 - 0x100
      some (if o % 8 = 0 then factoryShape.getD (o / 8) 0 else factoryBurst.getD (o / 8) 0)
    else none

/-- The reset value of the register at key `k`; 0 where there is none. -/
def rstWord (p : Part) (k : Nat) : Nat :=
  match rstByIndex p k with
  | some v => v
  | none => match regDesc p k with
    | some d => d.rst
    | none => 0

end Sys2Proof.Machine
end

