-- ==== Sys2Proof/Machine/StCommon.lean ====
section
/-! DEFINITION. State shared by the two parts: the register file, a node's clocks, one end of a Guyline link. -/
namespace Sys2Proof.Machine
open Sys2Proof

/-- The registers of a part as the register map describes them (17). `vals` lists every register whose applied
(or only) copy differs from its reset value; an unlisted register reads its reset value. `shadow` holds the
pending copies of FB registers with the PT at which each arrived (R563, R564). `bad` and `badShadow` name the
registers whose applied, or shadow or staging, copy has failed its parity (R572–R576); `force` is `bad` as it was at
the latest frame boundary, from which outputs are marked or valid again (R574, R575). `latch` holds HI words
latched by a LO read, by requester (R562). -/
structure RegFile where
  vals      : Tbl Word
  shadow    : Tbl (Word × Nat)
  bad       : List Nat
  force     : List Nat
  badShadow : List Nat
  latch     : List (Requester × Nat × Word)
deriving DecidableEq, Repr

/-- The three time bases of a node and its servo (04). `pt` and `lm` are in units of 2⁻⁴⁰ ns; `y` and `yInt` are
the rate correction in 2⁻⁴⁰ ns per 10 ns oscillator cycle. -/
structure Clock where
  pt        : Nat
  lm        : Nat
  own       : Quality          -- own state, Table 4.10
  master    : Quality          -- the master's reported quality (R151)
  uMaster   : Nat              -- the master's U, quarter nanoseconds
  y         : Int
  yInt      : Int
  hist      : List Nat         -- last 16 accepted round trips, sixteenths of a nanosecond, newest last
  okRun     : Nat              -- consecutive accepted exchanges within LOCK_THR
  stepRun   : Nat              -- consecutive accepted exchanges beyond STEP_THR
  measure   : Nat              -- exchanges still to be used for D only (R148)
  lastOk    : Nat              -- LM, ns, of the last accepted exchange
  holdFrom  : Nat              -- LM, ns, of the entry to HOLDOVER
  uEntry    : Nat              -- U at that entry, quarter nanoseconds
  exid      : BitVec 16        -- identifier of the latest request
  t1        : Nat              -- its departure, sixteenths of a nanosecond on this PT
  waiting   : Bool             -- a response to it is awaited
  slew      : Int              -- calibration change still to be slewed into PT, sixteenths of a nanosecond (R140)
deriving DecidableEq, Repr

/-- States of a Guyline lane (Table 5.21). -/
inductive GlState where
  | down
  | training
  | init
  | enum
  | up
  | shadow
  | refused
deriving DecidableEq, Repr

/-- What a queued message is, for what its acknowledgement means: an EVENT message by its recorder number (R651), a
VIGIL message (R460), or any other. -/
inductive TxTag where
  | plain
  | event (n : Nat)
  | vigil
deriving DecidableEq, Repr

/-- A message waiting for the lane. -/
structure TxMsg where
  bytes   : List Byte
  started : Bool               -- its first frame has been sent; `bytes` is then what remains
  tag     : TxTag
deriving DecidableEq, Repr

/-- A DATA frame held for replay (R175, R178): all but ACK, ACKV and CRC. -/
structure TxFrame where
  cls  : Nat
  som  : Bool
  eom  : Bool
  seq  : BitVec 8
  data : List Byte
  tag  : TxTag
deriving DecidableEq, Repr

/-- A received message waiting for its reader, with its arrival stamp (Table 4.5). -/
structure RxMsg where
  bytes : List Byte
  stamp : Stamp
deriving DecidableEq, Repr

/-- A message being reassembled, with the stamp of its first frame. -/
structure RxOpen where
  bytes : List Byte
  stamp : Stamp
deriving DecidableEq, Repr

/-- One end of a Guyline link (05). Lists of four are indexed by class: TIME, CTRL, EVENT, BULK. -/
structure GlLink where
  st        : GlState
  active    : Pair             -- the pair this side transmits on
  stbyOk    : Bool             -- the other pair is in lock
  shadowRate : Bool            -- the lane runs at 1/16 rate (R192)
  lock      : Bool             -- the working receiver has block and frame lock
  tx        : List (List TxMsg)
  held      : Bool             -- only ENUM, TIME and MBOX may leave until ENUM_ACK accepts (R202)
  nextSeq   : BitVec 8
  replay    : List TxFrame     -- unacknowledged DATA frames, oldest first
  replayAt  : Option Nat       -- index in `replay` of the next frame to resend
  ctl       : List (List Byte) -- pending CTL and INIT payloads (60 bytes with header KIND in front)
  credits   : List Nat         -- frames this side may still send, by class
  freedSeen : List (BitVec 16) -- the far side's cumulative FREED counts last received
  freed     : List (BitVec 16) -- buffers this side has freed, cumulative
  freedSent : List (BitVec 16) -- the counts in the last CREDIT sent
  expect    : BitVec 8         -- SEQ expected next
  ack       : BitVec 8
  ackv      : Bool
  nakOpen   : Bool             -- a discard has been answered by NAK and the expected frame is still awaited
  rx        : List (Option RxOpen)
  dropRun   : List Bool        -- class c discards bytes until the next SOM (R173)
  goBacks   : Nat              -- consecutive go-backs without a newer ACK
  sinceCtrl : Nat              -- CTRL frames in a row among new DATA frames (R182)
  sinceEvent : Nat             -- new DATA frames since an EVENT frame, saturating at 3
  epoch     : Word             -- the EPOCH this side last sent, and the far side's last received (R181)
  farEpoch  : Word
  keeps     : Bool             -- this side keeps its sequence state under its epoch (R180)
  initSent  : Option (Bool × BitVec 8 × Word)   -- RESUME, NEXT_RX, EPOCH last sent
  initSeen  : Bool
  farOpen   : Bool             -- a DATA or CTL frame shows that the far side has received an INIT (R185)
  rest      : GlState          -- the state a resumed link returns to: ENUM, UP or REFUSED (R181, R203)
  trainFails : Nat
  eqSaved   : Bool             -- equaliser settings of a good training are held (R186)
  wire      : List Byte        -- the frame last put on the lane
  wireBoth  : Bool             -- it went on both pairs (R190)
  wireStby  : List Byte        -- the frame last put on the other pair (R189)
  line      : List (Nat × W64) -- the blocks of that frame as coded on the lane: sync header and 64 bits (R170)
  scrTx     : List Bool        -- the scrambler's last 58 bits, newest first
  trained   : Nat              -- training words sent (Table 5.8)
  inbox     : List RxMsg       -- messages handed to ingest, oldest first
  crcErr    : Nat
  goBackCnt : Nat
  badMsg    : Nat
  takeovers : Nat
  msgs      : Nat              -- messages whose first frame has been received since the last fresh start (R465)
deriving DecidableEq, Repr

/-- The trace encoder's state for one source (R660–R662). -/
structure TrcSrc where
  bits    : List Bool          -- pending branch bits, oldest first
  bitAt   : Nat                -- PT, ns, of the newest
  secure  : Bool
  started : Bool
  lastTgt : W64
  bytes   : Nat                -- bytes emitted since the last SYNC
  dropped : Nat                -- bytes discarded and not yet reported by DROP
  buf     : List (List Byte)   -- packets not yet taken
  cseq    : Nat                -- chunks of this source so far
  syncAt  : Nat                -- PT, ns, of the last SYNC
deriving DecidableEq, Repr

end Sys2Proof.Machine
end

