-- ==== Sys2Proof/Machine/StAilen.lean ====
section
/-! DEFINITION. The state of AILEN: islands and pins (02), capture (03), time (04), its Guyline end (05), step
markers (09), Vigil, continuity and shard digests (14), screening (15), mailbox (16), recorder and trace (20). -/
namespace Sys2Proof.Machine
open Sys2Proof

/-- Build parameters (Table 2.1). -/
structure Build where
  evpBanks    : Nat
  snpChannels : Nat
  trpStreams  : Nat
  stpTaps     : Nat
  standby     : Bool
  scrPresent  : Bool
  vigPresent  : Bool
deriving DecidableEq, Repr

/-- The island power handshake (Table 2.17): ACTIVE, entry up to step 5, SHADOW, exit up to step 9. -/
inductive PwrPhase where
  | active
  | entering
  | shadow
  | exiting
deriving DecidableEq, Repr

/-- One sensor channel (R105–R108): the value held, the aggregates of the open frame and of the open scoring
period, the last transition and the end of the active SNP_FAST span. Times are PT in ns. -/
structure Sensor where
  held     : Option (BitVec 16)
  agg      : Option (BitVec 16)
  aggS     : Option (BitVec 16)
  lastTgl  : Option Nat
  fastFrom : Nat
  fastTo   : Nat
deriving DecidableEq, Repr

/-- A frame latched and not yet coded: its header fields, channel values and exception flags in channel order. -/
structure Latched where
  frame   : Nat
  upTo    : Nat               -- PT, ns, at which it was latched
  gen     : Nat
  qual    : Quality
  cutOfs  : BitVec 16
  step    : Bool
  disc    : Bool
  partialEnd : Bool
  shadow  : Bool
  keyed   : Bool              -- first under a new GEN or after SHADOW (R127)
  keyint  : Nat
  raw     : Bool
  values  : List W64
  flags   : List Nat
deriving DecidableEq, Repr

/-- Capture (03). A capture unit is the list of its registers by key; unlisted registers read 0 but KEYINT. -/
structure Capture where
  applied   : Tbl Word
  pend      : List (Nat × Tbl Word)  -- committed copies by PT of arrival: one for each boundary to come (R95, R111)
  remapPend : List (Nat × Tbl Word)
  frameCnt  : Tbl W64          -- event counters: counts of the open frame
  runCnt    : Tbl W64          -- event counters: counts since the last clear
  opm       : Tbl W64          -- op-matrix cells of the open frame
  unmapped  : W64
  opmRun    : Tbl W64          -- cells and UNMAPPED counted without restarting at frames (R463)
  unmRun    : W64
  frzFrame  : Tbl W64          -- frozen copies of the latest latch
  frzRun    : Tbl W64
  frzOpm    : Tbl W64
  frzUnmapped : W64
  clrBanks  : List Nat         -- banks cleared in the open frame outside L(t)
  sensors   : Tbl Sensor
  openFrame : Nat              -- index of the frame being counted
  counting  : Bool             -- an opening L(t) has been seen since the last loss of counting
  cutAt     : Option (Nat × BitVec 16) -- the cut t′ of SHADOW entry still to come, and its CUT_OFS (R129)
  lastFrame : Option Nat       -- frame index of the last block latched
  disc      : Bool             -- the next block carries DISCONTINUITY
  gap       : Bool             -- an earlier block was discarded
  stepped   : Bool             -- the next block carries STEP
  keyNext   : Bool             -- the next block is KEY (new GEN, first after SHADOW)
  parityHold : Bool            -- outputs are invalid under Table 17.3
  prev      : List W64         -- previous values of the coder (R127)
  latched   : List Latched
  lastLatch : Option Latched   -- the latest frame latch (R118)
  lastSig   : Word             -- load signature of the last latched frame (R505)
deriving DecidableEq, Repr

/-- An open STP transfer on a tap (R78, R79, R487): the running digest and the segment digests so far. -/
structure Transfer where
  job     : BitVec 16
  step    : BitVec 48
  shard   : BitVec 32
  dir     : Bool
  seg     : BitVec 24
  malformed : Bool
  noKey   : Bool
  len     : Nat                -- bytes digested
  segLen  : Nat                -- bytes in the open segment
  acc     : Nat                -- SD128 accumulator of the open segment
  accAll  : Nat                -- SD128 accumulator of the whole transfer
  key     : Option (BitVec 128 × BitVec 128)  -- H and K installed at its SOP (R488)
  segs    : List Nat           -- digests of the closed segments
  snap    : Nat                -- CHASH fixed at the opening
  last    : Stamp              -- the stamp of the latest beat (R201)
deriving DecidableEq, Repr

/-- One STP tap. -/
structure Tap where
  openT  : Option Transfer
  noSop  : Bool                -- inside a run of beats with no transfer open
  ignore : Bool                -- ignoring beats up to the next stp_eop (Table 2.15)
  closed : Nat
deriving DecidableEq, Repr

/-- States of the screening controller (Table 15.9). -/
inductive ScrState where
  | idle
  | request
  | granted
  | closing
deriving DecidableEq, Repr

/-- The screening controller (15). -/
structure Screen where
  st      : ScrState
  pack    : Word
  core    : BitVec 8
  corner  : BitVec 3
  stress  : Bool
  dur     : BitVec 16
  start   : Stamp
  stop    : Stamp
  loadSig : Word
  verdict : Nat
  detail  : List Byte
  temp    : BitVec 16
  volt    : BitVec 16
  freq    : BitVec 16
  reqAt   : Nat                -- PT (LM while UNSET), ns, at which scr_req rose, or of START once granted
  req     : Bool               -- the scr_req pin
  gnt     : Bool               -- the scr_gnt pin
  session : Bool               -- a stress session is open
  sessAt  : Nat
deriving DecidableEq, Repr

/-- A Vigil tick armed in AILEN, and what has been taken for it (14). -/
structure AVigil where
  tick   : W64
  vseq   : Word
  w      : Option Nat          -- W, ns, taken at t − 1 µs
  snapA  : Option (Tbl W64 × Tbl W64 × W64) -- runs of counters, cells and UNMAPPED at L(t − W)
  bank   : Option Latched
  guardBanks : List Nat        -- counter banks cleared in the guard span
  guardSns   : List Nat        -- sensors registered in the guard span
  late   : Bool
deriving DecidableEq, Repr

/-- An AILEN recorder entry (Table 5.15, without its header). -/
structure AEvent where
  rseq  : Word
  code  : BitVec 16
  stamp : Stamp
  data  : List Byte
deriving DecidableEq, Repr

/-- The job installed in the die by AL_JT_JOB (R166). -/
structure JtJob where
  job   : BitVec 16
  epoch : W64
deriving DecidableEq, Repr

/-- The shard key installed at the latest SET (R488). -/
structure SdKey where
  h   : BitVec 128
  k   : BitVec 128
  job : BitVec 16
deriving DecidableEq, Repr

/-- AILEN.
Log: entry 3 (DESIGN CHOICE). -/
structure Ailen where
  build    : Build
  regs     : RegFile
  hdidPin  : W64
  aoReset  : Bool              -- ao_por_n is asserted
  mainReset : Bool             -- main_rst_n is asserted
  pwr      : PwrPhase
  sreq     : Bool
  mpg      : Bool
  exitNext : Bool              -- pwr_sreq fell during entry: exit follows at once (R82)
  pwrAt    : Nat               -- PT (LM while UNSET), ns, of the latest edge of pwr_sreq taken (Table 2.17)
  hclkLost : Bool
  refLost  : Bool
  aoRange  : Bool
  hrpErr   : Bool              -- hrp_err and hrp_rdata of the last access
  hrpData  : Word
  clock    : Clock
  intv     : Nat               -- INTV and DRIFT last adopted (R197)
  drift    : Nat
  jt       : Option JtJob
  cap      : Capture
  marksTaken : Nat              -- marks already accepted in the open frame
  markDrop : Bool              -- the next mark accepted carries OVF
  markHold : Option (List Byte) -- a mark entry waiting for its pair in one MARKS record
  stepHi   : Option Nat        -- a held write of AL_STEP_NUM_HI (R337)
  frameArmed : Option Nat      -- the armed TICK of a frame change, PT ns (R167)
  lastStep : Option Nat        -- PT, ns, of the last accepted step marker (R336)
  taps     : List Tap
  sdKey    : Option SdKey
  scr      : Screen
  vig      : Option AVigil
  vigTag   : BitVec 8          -- vig_tag of the last pulse
  vigPulses : Nat              -- pulses driven since AO-LOSS
  mbHold   : Option (Nat × List Word)   -- an MBOX held until the shown message is released
  recWr    : Nat               -- recorder: entries stored, acknowledged, not stored
  recAck   : Nat
  recOvf   : Nat
  recSlots : Tbl AEvent        -- by slot
  ucode    : Tbl Word          -- the microcode store
  ucodeVer : BitVec 16         -- UCODE_VER of the store and of the running image
  ucodeRun : BitVec 16
  ucodeNew : Bool              -- a completed UCODE waits for the next frame boundary
  ucodeLoad : BitVec 16        -- UCODE_VER to be loaded, from the latest ENUM_ACK (Table 5.20)
  enumCause : Nat
  gl       : GlLink
  trc      : Tbl TrcSrc        -- five streams
deriving DecidableEq, Repr

end Sys2Proof.Machine
end

