-- ==== Sys2Proof/Machine/ResetValues.lean ====
section
/-! DEFINITION. Reset values of the shared pieces and of AILEN. -/
namespace Sys2Proof.Machine
open Sys2Proof

/-- Every register at its reset value. -/
def RegFile.reset : RegFile := { vals := [], shadow := [], bad := [], force := [], badShadow := [], latch := [] }

/-- A node's clocks at the start: PT UNSET reads 0, LM 0, nominal rate (Table 4.6).
Log: entry 1 (DESIGN CHOICE). -/
def Clock.reset : Clock :=
  { pt := 0, lm := 0, own := .unset, master := .unset, uMaster := 0xFFFF, y := 0, yInt := 0, hist := [],
    okRun := 0, stepRun := 0, measure := 0, lastOk := 0, holdFrom := 0, uEntry := 0, exid := 0, t1 := 0,
    waiting := false, slew := 0 }

/-- The initial credits a side receives from the far side's grants (Table 5.5): Gremon grants 4, 16, 32, 128;
AILEN grants 4, 32, 4, 4. -/
def glGrants : Part → List Nat
  | .ailen => [4, 16, 32, 128]
  | .gremon => [4, 32, 4, 4]

/-- A Guyline end before any training: DOWN, nothing queued, `p`'s own end holding the far side's grants.
Log: entry 1 (DESIGN CHOICE). -/
def GlLink.reset (p : Part) : GlLink :=
  { st := .down, active := .working, stbyOk := false, shadowRate := false, lock := false,
    tx := [[], [], [], []], held := decide (p = .ailen), nextSeq := 0, replay := [], replayAt := none, ctl := [],
    credits := glGrants p, freedSeen := [0, 0, 0, 0], freed := [0, 0, 0, 0], freedSent := [0, 0, 0, 0],
    expect := 0, ack := 0, ackv := false, nakOpen := false, rx := [none, none, none, none],
    dropRun := [false, false, false, false], goBacks := 0, sinceCtrl := 0, sinceEvent := 3, epoch := 0, farEpoch := 0,
    keeps := false, initSent := none, initSeen := false, farOpen := false, rest := .enum, trainFails := 0, eqSaved := false,
    wire := [], wireBoth := false, wireStby := [], line := [], scrTx := List.replicate 58 true, trained := 0,
    inbox := [], crcErr := 0, goBackCnt := 0, badMsg := 0, takeovers := 0, msgs := 0 }

/-- Capture with nothing configured, nothing counted and the first block to carry DISCONTINUITY.
Log: entry 1 (DESIGN CHOICE). -/
def Capture.reset : Capture :=
  { applied := [], pend := [], remapPend := [], frameCnt := [], runCnt := [], opm := [], unmapped := 0, opmRun := [], unmRun := 0,
    frzFrame := [], frzRun := [], frzOpm := [], frzUnmapped := 0, clrBanks := [], sensors := [], openFrame := 0,
    counting := false, cutAt := none, lastFrame := none, disc := true, gap := false, stepped := false, keyNext := true,
    parityHold := false, prev := [], latched := [], lastLatch := none, lastSig := 0 }

/-- A tap with no transfer. -/
def Tap.reset : Tap := { openT := none, noSop := false, ignore := false, closed := 0 }

/-- The screening controller IDLE.
Log: entry 1 (DESIGN CHOICE). -/
def Screen.reset : Screen :=
  { st := .idle, pack := 0, core := 0, corner := 0, stress := false, dur := 0,
    start := { ns := 0, sub := 0, qual := .unset, base := .pt, unc := 0 },
    stop := { ns := 0, sub := 0, qual := .unset, base := .pt, unc := 0 },
    loadSig := 0, verdict := 0, detail := [], temp := 0x8000, volt := 0, freq := 0, reqAt := 0, req := false,
    gnt := false, session := false, sessAt := 0 }

/-- The full build of Table 2.1.
Log: entry 1 (DESIGN CHOICE). -/
def Build.full : Build :=
  { evpBanks := 16, snpChannels := 64, trpStreams := 4, stpTaps := 2, standby := true, scrPresent := true,
    vigPresent := true }

/-- AILEN after an AO-LOSS, its always-on reset released and its clocks present.
Log: entry 1 (DESIGN CHOICE). -/
def Ailen.reset : Ailen :=
  { build := Build.full, regs := { RegFile.reset with vals := [(0x10, 1)] }, hdidPin := 1, aoReset := false, mainReset := false,
    pwr := .active, sreq := false, mpg := true, exitNext := false, pwrAt := 0, hclkLost := false, refLost := false,
    aoRange := false, hrpErr := false, hrpData := 0, clock := Clock.reset, intv := 3, drift := 5, jt := none,
    cap := Capture.reset, marksTaken := 0, markDrop := false, markHold := none, stepHi := none, frameArmed := none, lastStep := none,
    taps := [Tap.reset, Tap.reset], sdKey := none, scr := Screen.reset, vig := none, vigTag := 0, vigPulses := 0,
    mbHold := none, recWr := 0, recAck := 0, recOvf := 0, recSlots := [],
    ucode := [], ucodeVer := 0, ucodeRun := 0, ucodeNew := false, ucodeLoad := 0, enumCause := 0, gl := GlLink.reset .ailen,
    trc := [] }

end Sys2Proof.Machine
end

