-- ==== Sys2Proof/Machine/AOps.lean ====
section
/-! DEFINITION. Operations shared by the families: register files, clocks, Guyline queues, and AILEN's registers,
stamps, messages and event recorder. -/
namespace Sys2Proof.Machine
open Sys2Proof

/-! ### Register files -/

/-- The applied (or only) copy of the register at key `k`. -/
def RegFile.get (p : Part) (r : RegFile) (k : Nat) : Nat :=
  match Tbl.find r.vals k with
  | some w => w.toNat
  | none => rstWord p k

/-- A register file whose register `k` holds `v`; a register at its reset value is not listed. -/
def RegFile.set (p : Part) (r : RegFile) (k v : Nat) : RegFile :=
  if v % 2 ^ 32 = rstWord p k then { r with vals := Tbl.erase r.vals k }
  else { r with vals := Tbl.put r.vals k (BitVec.ofNat 32 v) }

/-- Field `[hi:lo]` of register `k`. -/
def RegFile.fld (p : Part) (r : RegFile) (k hi lo : Nat) : Nat := bits (r.get p k) hi lo

/-- Register `k` with field `[hi:lo]` replaced. -/
def RegFile.setFld (p : Part) (r : RegFile) (k hi lo v : Nat) : RegFile :=
  r.set p k (putBits (r.get p k) hi lo v)

/-- The FB bits of the register at `k`. -/
def fbMask (p : Part) (k : Nat) : Nat :=
  match regDesc p k with
  | some d => d.fb
  | none => 0

/-- `old` with the bits of `msk` taken from `v`. -/
def merge (old msk v : Nat) : Nat := (old - (old &&& msk)) + (v &&& msk)

/-- What a read of an FB register returns (R563): its FB bits from the pending copy, if one is pending. -/
def RegFile.getShadow (p : Part) (r : RegFile) (k : Nat) : Nat :=
  match Tbl.find r.shadow k with
  | some (w, _) => merge (r.get p k) (fbMask p k) w.toNat
  | none => r.get p k

/-- Write the bits of `msk` into a stored register (R558): other bits keep their value.
Log: entry 39 (DEDUCED; DESIGN CHOICE). -/
def RegFile.write (p : Part) (r : RegFile) (k msk v : Nat) : RegFile := r.set p k (merge (r.get p k) msk v)

/-- Write the bits of `msk` into an FB register's shadow (R563), noting the PT at which the write arrived. -/
def RegFile.writeShadow (p : Part) (r : RegFile) (k msk v arrived : Nat) : RegFile :=
  { r with shadow := Tbl.put r.shadow k (BitVec.ofNat 32 (merge (r.getShadow p k) msk v), arrived) }

/-- Pending shadows keep their ages when a scale that reads `new` takes over from one that reads `old`. -/
def RegFile.rescale (r : RegFile) (old new : Nat) : RegFile :=
  { r with shadow := r.shadow.map fun e => (e.1, e.2.1, new - (old - e.2.2)) }

/-- The pending shadows that `due` selects apply in one step (R565); an apply clears the register's fault (R575).
Log: entry 39 (DEDUCED; DESIGN CHOICE). -/
def RegFile.applyShadow (p : Part) (due : Nat → Bool) (r : RegFile) : RegFile :=
  let now := r.shadow.filter fun e => due e.2.2
  let r := { r with shadow := r.shadow.filter fun e => !due e.2.2 }
  let r := now.foldl (fun (r : RegFile) e => r.write p e.1 (fbMask p e.1) e.2.1.toNat) r
  { r with bad := r.bad.filter fun k => (Tbl.find now k).isNone }

/-- Advance SEQ in `[31:24]` of an SQC register (R567). -/
def RegFile.bumpSeq (p : Part) (r : RegFile) (k : Nat) : RegFile :=
  r.setFld p k 31 24 ((r.fld p k 31 24 + 1) % 256)

/-- A write to an SQC register (R567): when `[31:24]` names the current SEQ, its SQC fields clear. -/
def RegFile.sqcClear (p : Part) (r : RegFile) (k msk v : Nat) : RegFile :=
  if bits v 31 24 = r.fld p k 31 24 then
    let old := r.get p k
    r.set p k (old - (old &&& msk))
  else r

/-- The latched HI word that requester `w` has pending for the register at `k`, if any (R562).
Log: entry 39 (DEDUCED; DESIGN CHOICE). -/
def RegFile.latched (r : RegFile) (w : Requester) (k : Nat) : Option Word :=
  (r.latch.find? fun e => decide (e.1 = w ∧ e.2.1 = k)).map (·.2.2)

/-- A register file without that latch. -/
def RegFile.unlatch (r : RegFile) (w : Requester) (k : Nat) : RegFile :=
  { r with latch := r.latch.filter fun e => decide (¬(e.1 = w ∧ e.2.1 = k)) }

/-- Latch `v` as the HI word at `k` for requester `w`; a second LO read replaces the latch. -/
def RegFile.setLatch (r : RegFile) (w : Requester) (k v : Nat) : RegFile :=
  { (r.unlatch w k) with latch := (w, k, BitVec.ofNat 32 v) :: (r.unlatch w k).latch }

/-! ### Clocks -/

/-- 2⁻⁴⁰ ns per ns. -/
def tickUnit : Nat := 2 ^ 40

/-- PT in whole ns (R131). -/
def Clock.ptNs (c : Clock) : Nat := c.pt / tickUnit % 2 ^ 64

/-- SUB: sixteenths of a nanosecond of PT. -/
def Clock.sub (c : Clock) : Nat := c.pt / 2 ^ 36 % 16

/-- LM in whole ns (R132). -/
def Clock.lmNs (c : Clock) : Nat := c.lm / tickUnit

/-- The scale on which a node measures delays: PT, or LM while PT is UNSET, in whole ns. -/
def Clock.clkNs (c : Clock) : Nat := if c.own = .unset then c.lmNs else c.ptNs

/-- PT in sixteenths of a nanosecond. -/
def Clock.pt16 (c : Clock) : Nat := c.pt / 2 ^ 36

/-- What of a calibration change `want` enters PT in `d` units of time: at most 1 ppm from `yInt`, where `y` itself leaves
room for it, so the rate stays within every SLEW_MAX (R140).
Log: entry 2 (DESIGN CHOICE). -/
def slewPart (d : Nat) (y yInt want : Int) : Int :=
  let lim : Int := (10 * 2 ^ 40) / 1000000
  let part := fun (r : Int) => floorDiv ((d : Int) * r) (10 * 2 ^ 40)
  max (min 0 (part (yInt - lim - y))) (min (max 0 (part (yInt + lim - y))) want)

/-- What of `c`'s calibration change enters PT in `d`. -/
def Clock.slewIn (c : Clock) (d : Nat) : Int := slewPart d c.y c.yInt c.slew

/-- `d` units of the oscillator's nominal time pass: LM advances by `d`, PT by `d × (1 + y)` plus what is slewed
of a calibration change; an UNSET PT stays 0.
Log: entry 2 (DESIGN CHOICE). -/
def Clock.elapse (c : Clock) (d : Nat) : Clock :=
  let sl := c.slewIn d
  let dp : Int := (d : Int) + floorDiv ((d : Int) * c.y) (10 * 2 ^ 40) + sl
  { c with
    lm := c.lm + d
    pt := if c.own = .unset then 0 else c.pt + dp.toNat
    slew := c.slew - sl }

/-- Nominal time in which PT advances by `gap` at the rate `y`, rounded up. -/
def Clock.ptSpan (c : Clock) (gap : Int) : Nat :=
  if gap ≤ 0 then 0 else max 1 (-(floorDiv (-(gap * (10 * 2 ^ 40))) (10 * 2 ^ 40 + c.y))).toNat

/-- What of a calibration change enters PT by the time it reads `ns`. -/
def Clock.slewTo (c : Clock) (ns : Nat) : Int :=
  let gap : Int := ((ns * tickUnit : Nat) : Int) - c.pt
  c.slewIn (c.ptSpan gap)

/-- Nominal time until this node's PT (LM while PT is UNSET) reads `ns`; 0 when it already does. The part of a calibration
change that enters PT on the way shortens or lengthens it.
Log: entry 4 (DESIGN CHOICE; DEDUCED). -/
def Clock.timeTo (c : Clock) (ns : Nat) : Nat :=
  let t := ns * tickUnit
  if c.own = .unset then t - c.lm
  else if t ≤ c.pt then 0
  else max 1 (c.ptSpan ((t : Int) - c.pt - c.slewTo ns))

/-- This node's clock moved to exactly the instant at which its PT (LM while UNSET) reads `ns`.
Log: entry 4 (DESIGN CHOICE; DEDUCED). -/
def Clock.moveTo (c : Clock) (ns : Nat) : Clock :=
  let d := c.timeTo ns
  if d = 0 then c
  else if c.own = .unset then c.elapse d
  else { c with lm := c.lm + d, pt := ns * tickUnit, slew := c.slew - c.slewTo ns }

/-- U in HOLDOVER, quarter nanoseconds, rounded up: U_entry + 2·10⁻⁹·τ + ½·a·τ² (R152), with τ in ns and `a` in
units of 0.1·10⁻⁹ per second. -/
def holdoverU (uEntry tau a : Nat) : Nat :=
  uEntry + (8 * tau * 10 ^ 10 + 2 * a * tau ^ 2 + (10 ^ 19 - 1)) / 10 ^ 19

/-- U of a node (R152): `hop` is H in quarter ns with any allowance added, `a` the drift allowance. -/
def Clock.uncert (c : Clock) (hop a : Nat) : Nat :=
  match c.own with
  | .locked => sat 0xFFFF (c.uMaster + hop)
  | .holdover => sat 0xFFFF (holdoverU c.uEntry (c.lmNs - c.holdFrom) a)
  | _ => 0xFFFF

/-- The reported quality: the lower of its own state and its master's (R151). -/
def Clock.reported (c : Clock) : Quality := c.own.lower c.master

/-! ### Guyline queues -/

/-- A message of type `ty`: header and body (Table 5.10). -/
def glMsg (ty : Nat) (body : List Byte) : List Byte :=
  leBytes 1 ty ++ leBytes 1 0 ++ leBytes 2 (body.length + 4) ++ body

/-- Queue a message in class `c`, behind those already there. -/
def GlLink.queueAs (l : GlLink) (c : Nat) (m : List Byte) (tag : TxTag) : GlLink :=
  { l with tx := setNth l.tx c (nth [] l.tx c ++ [{ bytes := m, started := false, tag := tag }]) }

/-- Queue a message whose acknowledgement means nothing more. -/
def GlLink.queue (l : GlLink) (c : Nat) (m : List Byte) : GlLink := l.queueAs c m .plain

/-- The bytes of SAMPLE messages that Guyline has not yet accepted (R123).
Log: entry 36 (DEDUCED; DESIGN CHOICE). -/
def GlLink.sampleBytes (l : GlLink) : Nat :=
  ((nth [] l.tx 3).filter fun m => !m.started && decide (leAt m.bytes 0 1 = 1)).foldl
    (fun n m => n + (m.bytes.length - 4)) 0

/-- Class numbers (Table 5.3). -/
def clsTime : Nat := 0
def clsCtrl : Nat := 1
def clsEvent : Nat := 2
def clsBulk : Nat := 3

/-! ### AILEN: registers, time, events -/

/-- The AILEN registers for whose parity faults Table 17.3 gives no outcome of its own.
Log: entry 40 (DEDUCED; DESIGN CHOICE). -/
def aParityReset (k : Nat) : Bool :=
  decide (k = 0x4018) || decide (k = 0x401C) || decide (k = 0x4028) || decide (k = 0x4030) || decide (k = 0x4034) ||
    decide (k = 0x4038) || decide (k = 0x9000)

/-- The value of AILEN's register at key `k` as its function uses it: the stored value, or the reset value while a parity
fault of a register without an outcome of its own is in force (Table 17.3). -/
def Ailen.reg (a : Ailen) (k : Nat) : Nat :=
  if a.regs.force.contains k && aParityReset k then rstWord .ailen k else a.regs.get .ailen k

/-- A field of it. -/
def Ailen.fld (a : Ailen) (k hi lo : Nat) : Nat := bits (a.reg k) hi lo

/-- AILEN with a stored register replaced. -/
def Ailen.setReg (a : Ailen) (k v : Nat) : Ailen := { a with regs := a.regs.set .ailen k v }

/-- AILEN with a stored field replaced. -/
def Ailen.setFld (a : Ailen) (k hi lo v : Nat) : Ailen := { a with regs := a.regs.setFld .ailen k hi lo v }

/-- pwr_sack: the main island is quiesced and isolated (R80, R81).
Log: entry 55 (DEDUCED). -/
def Ailen.sack (a : Ailen) : Bool := decide (a.pwr = .shadow ∨ a.pwr = .exiting)

/-- The main island runs: out of reset, powered and clocked (R57, R92). -/
def Ailen.mainUp (a : Ailen) : Bool :=
  !a.aoReset && !a.mainReset && a.mpg && !a.refLost && !a.sack

/-- The hop bound H of AILEN in quarter ns: 2.0 ns, 4.0 ns in SHADOW, and 2 ns while AOCLK_RANGE (R152).
Log: entry 55 (DEDUCED). -/
def Ailen.hop (a : Ailen) : Nat := (if a.pwr = .shadow then 16 else 8) + (if a.aoRange then 8 else 0)

/-- The drift allowance of AILEN, 0.1·10⁻⁹ per second, tenfold while AOCLK_RANGE (R152). -/
def Ailen.driftA (a : Ailen) : Nat := if a.aoRange then 10 * a.drift else a.drift

/-- AILEN's reported U, quarter ns. -/
def Ailen.uncert (a : Ailen) : Nat :=
  if a.clock.reported = .free ∨ a.clock.reported = .unset then 0xFFFF
  else a.clock.uncert a.hop a.driftA

/-- AILEN's stamp of the present instant (R137, R138). -/
def Ailen.stamp (a : Ailen) : Stamp :=
  { ns := BitVec.ofNat 64 a.clock.ptNs, sub := BitVec.ofNat 4 a.clock.sub, qual := a.clock.reported, base := .pt,
    unc := BitVec.ofNat 16 a.uncert }

/-- AILEN's PT in whole ns. -/
def Ailen.now (a : Ailen) : Nat := a.clock.ptNs
/-- The scale on which AILEN measures delays: PT, or LM while PT is UNSET, in whole ns.
Log: entry 4 (DESIGN CHOICE; DEDUCED). -/
def Ailen.clk (a : Ailen) : Nat := a.clock.clkNs

/-- The EVENT message of a recorder entry (Table 5.15, MLEN 68).
Log: entry 42 (DESIGN CHOICE). -/
def AEvent.message (e : AEvent) : List Byte :=
  glMsg 0x10 (leBytes 4 e.rseq.toNat ++ leBytes 2 e.code.toNat ++ leBytes 2 0 ++ e.stamp.bytes ++ padTo 44 e.data)

/-- Record an event under R651 and send it: stored while fewer than 1,024 entries are unacknowledged, else counted
in OVF. -/
def Ailen.raiseAt (a : Ailen) (ev : Ev) (st : Stamp) (data : List Byte) : Ailen :=
  if a.recWr - a.recAck < 1024 then
    let e : AEvent :=
      { rseq := BitVec.ofNat 32 a.recWr, code := BitVec.ofNat 16 ev.code, stamp := st, data := padTo 44 data }
    { a with
      recSlots := Tbl.put a.recSlots (a.recWr % 1024) e
      recWr := a.recWr + 1
      gl := a.gl.queueAs clsEvent e.message (.event a.recWr) }
  else { a with recOvf := sat 0xFFFFFFFF (a.recOvf + 1) }

/-- Record an event stamped now.
Log: entry 42 (DESIGN CHOICE). -/
def Ailen.raise (a : Ailen) (ev : Ev) (data : List Byte) : Ailen := a.raiseAt ev a.stamp data

/-- AILEN's clock moved to PT `ns` (LM while UNSET) if that is later than now.
Log: entry 4 (DESIGN CHOICE; DEDUCED). -/
def Ailen.clockTo (a : Ailen) (ns : Nat) : Ailen := { a with clock := a.clock.moveTo ns }

/-- Frame length in ns and scoring multiple in force (Table 4.28). -/
def Ailen.frameNs (a : Ailen) : Nat := 1000 * a.fld 0x402C 13 0
def Ailen.scoreNs (a : Ailen) : Nat := a.frameNs * a.fld 0x402C 31 14

/-- The applied remap entry of physical core `p`: its logical core while VALID (Table 2.21). -/
def Ailen.logicalOf (a : Ailen) (p : Nat) : Option Nat :=
  let w := a.reg (0x800 + 4 * p)
  if bit w 8 then some (w % 256) else none

/-- Among listed applied-remap entries, the physical core that serves logical core `l`. -/
def physListed (l : Nat) : Tbl Word → Option Nat
  | [] => none
  | (k, w) :: t =>
    if 0x800 ≤ k ∧ k < 0xC00 ∧ w.toNat = 0x100 + l then some ((k - 0x800) / 4) else physListed l t

/-- The physical core whose applied entry is VALID with LCORE = `l` (R100): an unlisted entry serves its own
number. -/
def Ailen.physOf (a : Ailen) (l : Nat) : Option Nat :=
  match physListed l a.regs.vals with
  | some p => some p
  | none => if (Tbl.find a.regs.vals (0x800 + 4 * l)).isSome then none else some l

end Sys2Proof.Machine
end

