-- ==== Sys2Proof/Machine/Capture.lean ====
section
/-! DEFINITION. Capture on the die (02, 03): counting, sensors, marks, the frame latch, configuration and remap
apply, the source coder, islands and clocks of AILEN. Each function works on AILEN alone. -/
namespace Sys2Proof.Machine
open Sys2Proof

/-! ### The capture configuration -/

/-- Whether key `k` is a register of the capture unit (R109): CAP_CFG, LGRP, OPM_CFG, SNS_CFG, CNT_CFG, PLAN. -/
def isCapKey (k : Nat) : Bool :=
  decide (k = 0x1000) || (decide (0x1020 ≤ k) && decide (k < 0x1040)) ||
  (decide (0x2000 ≤ k) && decide (k < 0x3000)) || (decide (0x3000 ≤ k) && decide (k < 0x3100)) ||
  (decide (ind 0x10000 ≤ k) && decide (k < ind 0x14000)) ||
  (decide (ind 0x20000 ≤ k) && decide (k < ind 0x24000))

/-- A register of a capture unit held as a list of its non-reset words. -/
def capWord (u : Tbl Word) (k : Nat) : Nat :=
  match Tbl.find u k with
  | some w => w.toNat
  | none => if k = 0x1000 then 0x03E80000 else 0

/-- The staging copy as a unit (R111). -/
def Ailen.capStaging (a : Ailen) : Tbl Word := a.regs.vals.filter fun e => isCapKey e.1

/-- Fields of a unit. -/
def capNch (u : Tbl Word) : Nat := bits (capWord u 0x1000) 12 0
def capForceRaw (u : Tbl Word) : Bool := bit (capWord u 0x1000) 13
def capKeyint (u : Tbl Word) : Nat := bits (capWord u 0x1000) 31 16
def capBase (u : Tbl Word) (g : Nat) : Nat := bits (capWord u (0x1020 + 4 * g)) 9 0
def capNcore (u : Tbl Word) (g : Nat) : Nat := bits (capWord u (0x1020 + 4 * g)) 24 16
def capCnt (u : Tbl Word) (n : Nat) : Nat := capWord u (ind 0x10000 + 4 * n)
def capKind (u : Tbl Word) (i : Nat) : Nat := bits (capWord u (ind 0x20000 + 4 * i)) 1 0
def capSrc (u : Tbl Word) (i : Nat) : Nat := bits (capWord u (ind 0x20000 + 4 * i)) 14 2
def capOpm (u : Tbl Word) (c : Nat) : Nat := capWord u (0x2000 + 4 * c)
def capSnsKind (u : Tbl Word) (k : Nat) : Nat := bits (capWord u (0x3000 + 4 * k)) 2 0
def capSnsAgg (u : Tbl Word) (k : Nat) : Nat := bits (capWord u (0x3000 + 4 * k)) 4 3

/-- The bytes of PHASH (R115), `n` words from key `k`. -/
def capBytes (u : Tbl Word) (k n : Nat) : List Byte :=
  (List.range n).flatMap fun i => leBytes 4 (capWord u (k + 4 * i))

/-- PHASH of a unit: CRC-32C of its registers in the order of R115. -/
def capPhash (u : Tbl Word) : Nat :=
  crc32c (capBytes u 0x1000 1 ++ capBytes u 0x1020 8 ++ capBytes u (ind 0x10000) 4096 ++ capBytes u 0x2000 1024 ++
    capBytes u 0x3000 64 ++ capBytes u (ind 0x20000) (capNch u))

/-- Whether a plan exceeds the Guyline limit (R114): 64 × NCH / F over 20.0 Gb/s, `fUs` in µs. -/
def planTooWide (nch fUs : Nat) : Bool := decide (64 * nch > 20000 * fUs)

/-- Two used groups that share a line. -/
def groupsOverlap (u : Tbl Word) (g h : Nat) : Bool :=
  decide (capNcore u g ≠ 0) && decide (capNcore u h ≠ 0) &&
  decide (capBase u g < capBase u h + capNcore u h) && decide (capBase u h < capBase u g + capNcore u g)

/-- Check 2 of Table 3.11. -/
def badLgrp (u : Tbl Word) (evpBanks : Nat) : Bool :=
  (List.range 8).any fun g =>
    decide (capNcore u g ≠ 0) &&
    (decide (capNcore u g > 256) || decide (capBase u g + capNcore u g > 64 * evpBanks) ||
     (List.range 8).any fun h => decide (h ≠ g) && groupsOverlap u g h)

/-- Check 3 of Table 3.11 for one channel. -/
def badSrc (u : Tbl Word) (snp i : Nat) : Bool :=
  let s := capSrc u i
  match capKind u i with
  | 0 => decide (s > 4096)
  | 1 => decide (s ≥ 1024)
  | 2 => decide (s ≥ 64) || decide (s ≥ snp) || decide (capSnsKind u s ≥ 6) || decide (capSnsAgg u s = 3)
  | _ => decide (s ≠ 0)

/-- Check 4 of Table 3.11: one source under two channels. -/
def dupSrc (u : Tbl Word) : List Nat → List (Nat × Nat) → Bool
  | [], _ => false
  | i :: r, seen =>
    let e := (capKind u i, capSrc u i)
    if capKind u i = 3 then dupSrc u r seen
    else if seen.contains e then true else dupSrc u r (e :: seen)

/-- The outcome of Table 3.11 at a boundary: 0, or the REASON of the first check that fails (R113). -/
def capCheck (u : Tbl Word) (b : Build) (fUs : Nat) : Nat :=
  let chans := List.range (min (capNch u) 4096)
  if capNch u > 4096 then 1
  else if badLgrp u b.evpBanks then 2
  else if chans.any (badSrc u b.snpChannels) then 3
  else if dupSrc u chans [] then 4
  else if planTooWide (capNch u) fUs then 5
  else 0

/-! ### Counting -/

/-- The EVP line that a counter's configuration word follows, if it is enabled and served (R100, R101). -/
def Ailen.counterLine (a : Ailen) (w : Nat) : Option Nat :=
  if !bit w 23 then none
  else if bit w 10 then
    let g := bits w 13 11
    match a.physOf (bits w 21 14) with
    | some p => if p < capNcore a.cap.applied g then some (capBase a.cap.applied g + p) else none
    | none => none
  else some (bits w 9 0)

/-- Whether a per-core counter has no line in this frame (R101). -/
def Ailen.counterUnserved (a : Ailen) (n : Nat) : Bool :=
  let w := capCnt a.cap.applied n
  bit w 10 && (match a.physOf (bits w 21 14) with
    | some p => decide (p ≥ capNcore a.cap.applied (bits w 13 11))
    | none => true)

/-- Add `v` to counter `n`, frame and run, modulo 2⁶⁴ (R103). -/
def Capture.addCounter (c : Capture) (n v : Nat) : Capture :=
  { c with frameCnt := Tbl.upd 0 c.frameCnt n (· + BitVec.ofNat 64 v)
           runCnt := Tbl.upd 0 c.runCnt n (· + BitVec.ofNat 64 v) }

/-- Every counter that selects `line` counts `v` (R69); only listed configuration words can be enabled. -/
def Ailen.countLine (a : Ailen) (line v : Nat) : Tbl Word → Capture → Capture
  | [], c => c
  | (k, w) :: t, c =>
    let c' :=
      if ind 0x10000 ≤ k ∧ k < ind 0x14000 ∧ a.counterLine w.toNat = some line then
        c.addCounter ((k - ind 0x10000) / 4) v
      else c
    a.countLine line v t c'

/-- Whether `line` belongs, in its group, to a physical core whose applied entry has VALID 0 (R102). -/
def Ailen.lineUnmapped (a : Ailen) (line : Nat) : Bool :=
  (List.range 8).any fun g =>
    let b := capBase a.cap.applied g
    decide (capNcore a.cap.applied g ≠ 0) && decide (b ≤ line) && decide (line < b + capNcore a.cap.applied g) &&
    (a.logicalOf (line - b)).isNone

/-- Host activity is being counted. -/
def Ailen.hostCounting (a : Ailen) : Bool := a.mainUp && !a.hclkLost && a.cap.counting

/-- One qualified increment (R69, R102). -/
def Ailen.evpOne (a : Ailen) (i : EvpInc) : Ailen :=
  if !a.hostCounting || decide (i.line ≥ 64 * a.build.evpBanks) then a
  else
    let v := i.inc.toNat
    let c := a.countLine i.line v a.cap.applied a.cap
    { a with cap := if a.lineUnmapped i.line then { c with unmapped := c.unmapped + BitVec.ofNat 64 v, unmRun := c.unmRun + BitVec.ofNat 64 v } else c }

/-- AL_STEP_NUM, 48 bits (R337). -/
def Ailen.stepNum (a : Ailen) : Nat := a.reg 0x114 + 2 ^ 32 * a.fld 0x118 15 0

/-- AILEN with AL_STEP_NUM set as one value. -/
def Ailen.setStepNum (a : Ailen) (n : Nat) : Ailen := (a.setReg 0x114 (n % 2 ^ 32)).setReg 0x118 (n / 2 ^ 32 % 2 ^ 16)

/-- A step marker on the line (R336): ignored within 1 µs of the last accepted one, else stamped and numbered. -/
def Ailen.stepMark (a : Ailen) : Ailen :=
  let near := match a.lastStep with
    | some t => decide (a.clk < t + 1000)
    | none => false
  if near then a.setFld 0x110 31 16 (sat 0xFFFF (a.fld 0x110 31 16 + 1))
  else
    let b := a.raise .stepMark (leBytes 8 a.stepNum ++ leBytes 2 (a.fld 0x110 9 0))
    { (b.setStepNum ((a.stepNum + 1) % 2 ^ 48)) with lastStep := some a.clk }

/-- Whether the applied copy of a register has a parity fault (R574). -/
def Ailen.parityBad (a : Ailen) (k : Nat) : Bool := a.regs.force.contains k

/-- One hclk cycle of EVP (R69, R336). -/
def Ailen.evp (a : Ailen) (incs : List EvpInc) : Ailen :=
  let mark := bit (a.reg 0x110) 10 && !a.parityBad 0x110 && a.mainUp && !a.hclkLost &&
    incs.any fun i => decide (i.line = a.fld 0x110 9 0 ∧ i.inc ≠ 0 ∧ i.line < 64 * a.build.evpBanks)
  let b := incs.foldl Ailen.evpOne a
  if mark then b.stepMark else b

/-- Drop the counters of bank `b` from a table. -/
def dropBank (b : Nat) (t : Tbl W64) : Tbl W64 := t.filter fun e => decide (e.1 / 64 ≠ b)

/-- A bank cleared between the snapshots of an armed cut guards its channels (R463). -/
def guardBank (v : Option AVigil) (b : Nat) : Option AVigil :=
  v.map fun g => if g.snapA.isSome ∧ ¬ g.guardBanks.contains b then { g with guardBanks := b :: g.guardBanks } else g

/-- evp_clr outside L(t) (R70, R120): the runs of the bank restart, and its channels will carry CLR in the frame being
counted. A clear is sampled whenever the front ends are clocked, also before the first L(t) after a loss of counting. -/
def Ailen.bankClear (a : Ailen) (b : Nat) : Ailen :=
  if a.mainUp && !a.hclkLost then
    { a with
      cap := { a.cap with
        runCnt := dropBank b a.cap.runCnt
        clrBanks := if a.cap.clrBanks.contains b || !a.cap.counting then a.cap.clrBanks else b :: a.cap.clrBanks }
      vig := guardBank a.vig b }
  else a

/-! ### The op matrix and marks -/

/-- Add a packet's count under its cell's filter (R72, R104); an unresolved core counts into UNMAPPED. -/
def Ailen.oppCount (a : Ailen) (p : OppPkt) : Ailen :=
  if !a.hostCounting then a
  else
    let v := BitVec.ofNat 64 p.cnt.toNat
    match a.logicalOf p.core.toNat with
    | none => { a with cap := { a.cap with unmapped := a.cap.unmapped + v, unmRun := a.cap.unmRun + v } }
    | some l =>
      let cell := 16 * p.cls.toNat + p.fmt.toNat
      let f := capOpm a.cap.applied cell
      if bit f 0 && decide (bits f 15 8 ≠ l) then a
      else { a with cap := { a.cap with opm := Tbl.upd 0 a.cap.opm cell (· + v), opmRun := Tbl.upd 0 a.cap.opmRun cell (· + v) } }

/-- MAXPF (Table 4.25): 0 means 1. -/
def Ailen.markMax (a : Ailen) : Nat := if a.fld 0x4020 15 8 = 0 then 1 else a.fld 0x4020 15 8

/-- Count malformed mark packets (R159).
Log: entry 54 (DEDUCED). -/
def Ailen.markBad (a : Ailen) (n : Nat) : Ailen := a.setFld 0x4024 31 16 (sat 0xFFFF (a.fld 0x4024 31 16 + n))

/-- A MARKS event holding one or two mark entries (R200, Table 5.15). -/
def Ailen.sendMarks (a : Ailen) (ms : List (List Byte)) : Ailen :=
  a.raise .marks (leBytes 1 ms.length ++ leBytes 3 0 ++ ms.flatten)

/-- A well-formed mark (R160): within MAXPF it becomes an entry, two entries to a record.
Log: entry 54 (DEDUCED). -/
def Ailen.markAccept (a : Ailen) (core id : Nat) (dir : Bool) : Ailen :=
  if a.marksTaken ≥ a.markMax then
    { (a.setFld 0x4024 15 0 (sat 0xFFFF (a.fld 0x4024 15 0 + 1))) with markDrop := true }
  else
    let l := a.logicalOf core
    let fl := b2n dir + 2 * b2n a.markDrop + 4 * b2n l.isNone
    let e := a.stamp.bytes ++ leBytes 2 id ++ leBytes 1 (l.getD 0) ++ leBytes 1 fl
    let b := { a with marksTaken := a.marksTaken + 1, markDrop := false }
    match a.markHold with
    | none => { b with markHold := some e }
    | some e0 => { (b.sendMarks [e0, e]) with markHold := none }

/-- The packet in slot `j`, if valid. -/
def slotPkt (ps : List OppPkt) (j : Nat) : Option OppPkt := ps.find? fun p => decide (p.slot = j)

/-- Slots 2m and 2m + 1 as a mark (R159, Table 4.12).
Log: entry 54 (DEDUCED). -/
def Ailen.markPair (a : Ailen) (cls : Nat) (p q : Option OppPkt) : Ailen :=
  let is := fun (o : Option OppPkt) => match o with
    | some x => decide (x.cls.toNat = cls)
    | none => false
  match p, q with
  | some x, some y =>
    if is p && is q then
      if x.core = y.core ∧ bits y.fmt.toNat 2 0 = 0 ∧ bits y.cnt.toNat 7 4 = 0 then
        a.markAccept x.core.toNat
          (4096 * x.fmt.toNat + 16 * x.cnt.toNat + bits y.cnt.toNat 3 0) (bit y.fmt.toNat 3)
      else a.markBad 2
    else if is p || is q then a.markBad 1 else a
  | _, _ => if is p || is q then a.markBad 1 else a

/-- One hclk cycle of OPP (R72, R159, R160).
Log: entry 54 (DEDUCED). -/
def Ailen.opp (a : Ailen) (ps : List OppPkt) : Ailen :=
  if !a.mainUp || a.hclkLost then a
  else if bit (a.reg 0x4020) 6 && !a.parityBad 0x4020 then
    let cls := a.fld 0x4020 5 0
    let b := (ps.filter fun p => decide (p.cls.toNat ≠ cls)).foldl Ailen.oppCount a
    [0, 1, 2, 3].foldl (fun s m => s.markPair cls (slotPkt ps (2 * m)) (slotPkt ps (2 * m + 1))) b
  else if bit (a.reg 0x4020) 6 then
    (ps.filter fun p => decide (p.cls.toNat ≠ a.fld 0x4020 5 0)).foldl Ailen.oppCount a
  else ps.foldl Ailen.oppCount a

/-! ### Sensors -/

/-- A sensor channel that has registered nothing. -/
def Sensor.none : Sensor := { held := .none, agg := .none, aggS := .none, lastTgl := .none, fastFrom := 0, fastTo := 0 }

/-- A sensor reading as the integer its kind compares (R106, R107). -/
def snsInt (kind : Nat) (v : BitVec 16) : Int := if kind = 1 ∨ kind = 2 then v.toInt else (v.toNat : Int)

/-- The delivered 64-bit value of a sensor reading (Table 3.1). -/
def snsDeliver (kind : Nat) (v : BitVec 16) : W64 := if kind = 1 ∨ kind = 2 then v.signExtend 64 else v.setWidth 64

/-- The aggregate after one more value (R107): 0 LAST, 1 MIN, 2 MAX. -/
def snsAgg (agg kind : Nat) (old v : BitVec 16) : BitVec 16 :=
  match agg with
  | 1 => if snsInt kind v < snsInt kind old then v else old
  | 2 => if snsInt kind v > snsInt kind old then v else old
  | _ => v

/-- The opening tick of the frame in progress. -/
def Ailen.frameOpen (a : Ailen) : Nat := a.cap.openFrame * a.frameNs

/-- A value in the armed band of AL_SCR_COND (R516): LO ≤ v < HI as signed numbers, LO < HI. -/
def Ailen.inBand (a : Ailen) (v : BitVec 16) : Bool :=
  let lo := toInt 16 (a.fld 0x8048 15 0)
  let hi := toInt 16 (a.fld 0x8048 31 16)
  decide (lo < hi) && decide (lo ≤ v.toInt) && decide (v.toInt < hi)

/-- TEMP and VOLT of an open screen take a value registered between START and END (R504). -/
def Ailen.screenSense (a : Ailen) (k : Nat) (v : BitVec 16) : Ailen :=
  if a.scr.st = .granted ∨ a.scr.st = .request then
    let t := if bit (a.reg 0x8000) 6 && decide (a.fld 0x8000 5 0 = k) then
        (if a.scr.temp = 0x8000 ∨ v.toInt > a.scr.temp.toInt then v else a.scr.temp) else a.scr.temp
    let w := if bit (a.reg 0x8000) 13 && decide (a.fld 0x8000 12 7 = k) then
        (if a.scr.volt = 0 ∨ v.toNat < a.scr.volt.toNat then v else a.scr.volt) else a.scr.volt
    { a with scr := { a.scr with temp := t, volt := w } }
  else a

/-- A MIN, MAX or LAST aggregate takes a value; one registered at the instant its interval opens replaces what was held
(R107, Table 3.14). -/
def aggTake (opens : Bool) (agg kind : Nat) (old : Option (BitVec 16)) (v : BitVec 16) : Option (BitVec 16) :=
  match old with
  | some o => some (if opens then v else snsAgg agg kind o v)
  | none => some v

/-- A transition of snp_tgl[k] registered at this instant (R73, R74, R105, R516). -/
def Ailen.sensor (a : Ailen) (k : Nat) (v : BitVec 16) : Ailen :=
  if a.aoReset || decide (k ≥ a.build.snpChannels) then a
  else
    let s := Tbl.get Sensor.none a.cap.sensors k
    let t := a.clk
    let close := match s.lastTgl with
      | some u => decide (t < u + 200)
      | none => false
    let spanActive := decide (t < s.fastTo)
    let newSpan := close && !spanActive
    let kind := capSnsKind a.cap.applied k
    let agg := capSnsAgg a.cap.applied k
    let s' := { s with
      held := some v, lastTgl := some t
      agg := aggTake (decide (t = a.frameOpen)) agg kind s.agg v
      aggS := aggTake (decide (a.scoreNs ≠ 0) && decide (t % a.scoreNs = 0)) agg kind s.aggS v
      fastFrom := if newSpan then t else s.fastFrom
      fastTo := if close then t + 200 else s.fastTo }
    let b : Ailen := { a with
      cap := { a.cap with sensors := Tbl.set Sensor.none a.cap.sensors k s' }
      vig := a.vig.map fun g => match g.w with
        | some w =>
          if g.tick.toNat * 4 ≤ 4 * t + w ∧ 4 * t ≤ g.tick.toNat * 4 + w ∧ ¬ g.guardSns.contains k then
            { g with guardSns := k :: g.guardSns }
          else g
        | none => g }
    let c := if newSpan then b.raise .snpFast (leBytes 1 k) else b
    let band := bit (a.reg 0x8000) 6 && decide (a.fld 0x8000 5 0 = k) && a.inBand v && !a.parityBad 0x8048 &&
      !a.parityBad 0x8000 && (match s.held with
        | some o => !a.inBand o
        | none => false)
    let d := if band then c.raise .scrInband [] else c
    d.screenSense k v

/-! ### Latching -/

/-- Whether the SNP_FAST span of a channel overlaps [o, t) (R108). -/
def Sensor.suspect (s : Sensor) (o t : Nat) : Bool :=
  decide (s.fastFrom < s.fastTo) && decide (s.fastFrom < t) && decide (o < s.fastTo)

/-- The value and exception flags of one channel over [o, t): BOUNDARY 1, CLR 2, NOVAL 4, SUSPECT 8, UNSERVED 16
(Table 3.17). `clr` are the banks with evp_clr in L(t). -/
def Ailen.channel (a : Ailen) (clr : List Nat) (o t i : Nat) : W64 × Nat :=
  let u := a.cap.applied
  let s := capSrc u i
  match capKind u i with
  | 0 =>
    if s = 4096 then (a.cap.unmapped, 0)
    else
      let v := if bit (capCnt u s) 22 then Tbl.get 0 a.cap.runCnt s else Tbl.get 0 a.cap.frameCnt s
      let b := s / 64
      (v, b2n (clr.contains b) + 2 * b2n (a.cap.clrBanks.contains b) +
        16 * b2n (a.counterUnserved s))
  | 1 => (Tbl.get 0 a.cap.opm s, 0)
  | 2 =>
    let e := Tbl.get Sensor.none a.cap.sensors s
    let sus := 8 * b2n (e.suspect o t)
    let held := if capSnsAgg u s = 0 then e.held else if a.sack then e.aggS else e.agg
    match held with
    | some v => (snsDeliver (capSnsKind u s) v, sus)
    | none => (0, 4 + sus)
  | _ => (0, 0)

/-- The channels of a latch: all of the plan, or in SHADOW its sensor channels only (R128). -/
def Ailen.latchChannels (a : Ailen) : List Nat :=
  let all := List.range (capNch a.cap.applied)
  if a.sack then all.filter fun i => decide (capKind a.cap.applied i = 2) else all

/-- A latch of frame `f` over [o, t) (R116). -/
def Ailen.latchNow (a : Ailen) (clr : List Nat) (cutOfs : BitVec 16) (f o t : Nat) (part : Bool) : Latched :=
  let vs := a.latchChannels.map (a.channel clr o t)
  { frame := f, upTo := t, gen := a.fld 0x1008 23 16, qual := a.clock.reported, cutOfs := cutOfs, step := a.cap.stepped,
    disc := a.cap.disc, partialEnd := part, shadow := a.sack, keyed := a.cap.keyNext, keyint := capKeyint a.cap.applied,
    raw := capForceRaw a.cap.applied, values := vs.map (·.1), flags := vs.map (·.2) }

/-- Per-class totals of a frame's op-matrix cells. -/
def opTotals (opm : Tbl W64) : List Nat :=
  (List.range 64).map fun k => (List.range 16).foldl (fun n s => n + (Tbl.get 0 opm (16 * k + s)).toNat) 0

/-- The load signature of a frame's op-matrix counts (R505). -/
def loadSignature (opm : Tbl W64) : Nat :=
  let tot := opTotals opm
  let s := tot.foldl (· + ·) 0
  if s = 0 then 0
  else
    let q := tot.map fun t => min 15 (16 * t / s)
    let sig := crc32c ((List.range 32).map fun i => BitVec.ofNat 8 (nth 0 q (2 * i) + 16 * nth 0 q (2 * i + 1)))
    if sig ≠ 0 then sig else 1

/-- Aggregates of the frame restart from the values held (R107); in SHADOW those of the scoring period (R128). -/
def reopenSensors (t : Tbl Sensor) : Tbl Sensor := t.map fun e => (e.1, { e.2 with agg := e.2.held })
def reopenScoring (t : Tbl Sensor) : Tbl Sensor := t.map fun e => (e.1, { e.2 with aggS := e.2.held })

/-- An interval opens: DELTA counts start at 0, and so do the runs of banks cleared in L(t) (R116, R119). -/
def Ailen.openInterval (a : Ailen) (clr : List Nat) : Ailen :=
  { a with
    cap := { a.cap with
      frameCnt := [], opm := [], unmapped := 0, clrBanks := []
      runCnt := clr.foldl (fun t b => dropBank b t) a.cap.runCnt
      sensors := reopenSensors a.cap.sensors }
    vig := clr.foldl guardBank a.vig
    marksTaken := 0 }

/-- The interval closes: frozen copies take the counts, the load signature of the frame is formed (R505, R516), and the
next interval opens (R116). -/
def Ailen.closeInterval (a : Ailen) (clr : List Nat) : Ailen :=
  let c := a.cap
  let sig := loadSignature c.opm
  let want := a.reg 0x804C
  let inload := decide (want ≠ 0) && decide (sig = want) && decide (c.lastSig.toNat ≠ want) && !a.parityBad 0x804C
  let b : Ailen := { a with
    cap := { c with
      frzFrame := c.frameCnt, frzRun := c.runCnt, frzOpm := c.opm, frzUnmapped := c.unmapped, lastSig := BitVec.ofNat 32 sig } }
  let b := (b.openInterval clr).setReg 0x8050 sig
  if inload then b.raise .scrInload [] else b

/-- Outputs of capture are invalid while any of its registers has a parity fault (Table 17.3). -/
def Ailen.captureBad (a : Ailen) : Bool :=
  a.regs.force.any fun k => isCapKey k || (decide (0x800 ≤ k) && decide (k < 0xC00))

/-! ### Applying at the boundary -/

/-- The lowest logical core named by two valid entries of a staged remap (R96): entries 0–255 as words. -/
def remapConflict (ws : List Nat) : Option Nat :=
  (List.range 256).find? fun l => decide ((ws.filter fun w => decide (w = 0x100 + l)).length ≥ 2)

/-- The words of a remap table held as its non-reset entries at `base`. -/
def remapWords (t : Tbl Word) (base : Nat) : List Nat :=
  (List.range 256).map fun p => match Tbl.find t (base + 4 * p) with
    | some w => w.toNat
    | none => 0x100 + p

/-- The physical core that serves `l` in a list of remap words; 0xFFFF for none (R34). -/
def physIn (ws : List Nat) (l : Nat) : Nat :=
  match ws.findIdx? (fun w => decide (w = 0x100 + l)) with
  | some p => p
  | none => 0xFFFF

/-- REMAP records of a change, one per logical core that moved (R34, R96). -/
def Ailen.remapRecords (a : Ailen) (st : Stamp) (old new : List Nat) : Ailen :=
  (List.range 256).foldl (fun s l =>
    let p := physIn old l
    let q := physIn new l
    if p = q then s
    else s.raiseAt .remap st (st.bytes ++ leBytes 1 l ++ leBytes 2 p ++ leBytes 2 q)) a

/-- Whether what arrived at `n` came before the cut strobe of the boundary at `t`, 20 ns before it (R95, Table 3.12).
Log: entry 53 (DEDUCED). -/
def strobed (n t : Nat) : Bool := decide (n + 20 < t)

/-- A copy committed at `n` joins those pending: it replaces one that no boundary has taken yet (R94, R111), `t` being the
next boundary.
Log: entry 53 (DEDUCED). -/
def commitTo {α : Type} (l : List (Nat × α)) (n t : Nat) (x : α) : List (Nat × α) :=
  (if strobed n t then [] else l.filter fun e => strobed e.1 t) ++ [(n, x)]

/-- The copy that the boundary at `t` takes, and those that stay. -/
def commitAt {α : Type} (l : List (Nat × α)) (t : Nat) : Option α × List (Nat × α) :=
  ((l.find? fun e => strobed e.1 t).map (·.2), l.filter fun e => !strobed e.1 t)

/-- The end of the open frame. -/
def Ailen.frameEnd (a : Ailen) : Nat := (a.cap.openFrame + 1) * a.frameNs

/-- REMAP_APPLY at the boundary at `t` (R96). The event names the reason BAD_REMAP and the logical core.
Log: entry 42 (DESIGN CHOICE), entry 53 (DEDUCED). -/
def Ailen.remapApply (a : Ailen) (t : Nat) (st : Stamp) : Ailen :=
  let due := commitAt a.cap.remapPend t
  match due.1 with
  | none => a
  | some t =>
    let ws := remapWords t 0x400
    let a := ({ a with cap := { a.cap with remapPend := due.2 } }).setFld 0x104 2 2 (b2n !due.2.isEmpty)
    match remapConflict ws with
    | some l =>
      let a := { a with regs := (a.regs.setFld .ailen 0x104 1 0 2).bumpSeq .ailen 0x104 }
      (a.setFld 0x104 15 8 l).raiseAt .remapRefused st (Config.badRemap :: leBytes 1 l)
    | none =>
      let old := remapWords a.regs.vals 0x800
      let rs := (a.regs.vals.filter fun e => decide (e.1 < 0x800) || decide (0xC00 ≤ e.1))
      let moved := t.map fun e => (e.1 + 0x400, e.2)
      let vals := moved.foldl (fun v e => Tbl.put v e.1 e.2) rs
      let regs := { a.regs with vals := vals, bad := a.regs.bad.filter fun k => decide (k < 0x800) || decide (0xC00 ≤ k) }
      let a := { a with regs := (regs.setFld .ailen 0x104 1 0 1).bumpSeq .ailen 0x104 }
      a.remapRecords st old ws

/-- CAP_CONFIG_APPLY at the boundary at `t` (R113): a new configuration's counters start their runs at zero (Table 3.14).
REASON has its meaning on REFUSED and keeps its last code after an APPLIED.
Log: entry 53 (DEDUCED). -/
def Ailen.capApply (a : Ailen) (t : Nat) (st : Stamp) : Ailen :=
  let due := commitAt a.cap.pend t
  match due.1 with
  | none => a
  | some u =>
    let a := ({ a with cap := { a.cap with pend := due.2 } }).setFld 0x1008 2 2 (b2n !due.2.isEmpty)
    let r := capCheck u a.build (a.fld 0x402C 13 0)
    if r = 0 then
      let a := { a with
        cap := { a.cap with applied := u, runCnt := [], keyNext := true }
        regs := { a.regs with bad := a.regs.bad.filter fun k => !isCapKey k } }
      let a := { a with regs := (a.regs.setFld .ailen 0x1008 1 0 1).bumpSeq .ailen 0x1008 }
      (a.setFld 0x1008 23 16 (a.fld 0x1008 23 16 + 1)).setReg 0x100C (capPhash u)
    else
      let a := { a with regs := (a.regs.setFld .ailen 0x1008 1 0 2).bumpSeq .ailen 0x1008 }
      (a.setFld 0x1008 15 8 r).raiseAt .capRefused st (leBytes 1 r)

/-- The shadows that `due` selects by their time of arrival apply, and AL_FB_STAT records it (R565). -/
def Ailen.fbApplyWhere (a : Ailen) (due : Nat → Bool) : Ailen :=
  if a.regs.shadow.any fun e => due e.2.2 then
    let r := a.regs.applyShadow .ailen due
    { a with regs := (r.setFld .ailen 0x128 2 1 1).bumpSeq .ailen 0x128 }
  else a

/-- FB apply in AILEN at a boundary (R565): every pending shadow applies in one step. -/
def Ailen.fbApply (a : Ailen) : Ailen := a.fbApplyWhere fun _ => true

/-- With PT UNSET no boundary falls: an FB write applies 1 µs after it reached the register (Table 17.1). The clock
moves to the oldest such instant. -/
def Ailen.fbUnsetApply (a : Ailen) : Ailen :=
  if a.aoReset ∨ a.clock.own ≠ .unset then a
  else match a.regs.shadow with
    | [] => a
    | e :: t =>
      let first := t.foldl (fun n x => min n x.2.2) e.2.2
      let a := { a with clock := a.clock.moveTo (first + 1000) }
      a.fbApplyWhere fun n => decide (n + 1000 ≤ a.clock.lmNs)

/-- Whether F (µs) and n are a frame and scoring length that R38 and R40 allow. -/
def frameOk (f n : Nat) : Bool :=
  decide (10 ≤ f) && decide (f ≤ 10000) && decide (1000000 % f = 0) && decide (1 ≤ n) &&
  decide (n * f ≤ 1000000) && decide (1000000 % (n * f) = 0)

/-- Whether an armed frame change falls due at `t` (Table 4.28, R167). -/
def Ailen.frameDue (a : Ailen) (t : Nat) : Bool :=
  match a.frameArmed with
  | some k => decide (k ≤ t)
  | none => false

/-- FRAME_LENGTH_CHANGE (R167): NEXT becomes ACT; the open frame is renumbered under the new length, and with a new F the
frame indices of R44 begin anew.
Log: entry 53 (DEDUCED). -/
def Ailen.applyFrame (a : Ailen) (t : Nat) : Ailen :=
  let was := a.frameNs
  let a := ((a.setReg 0x402C (a.reg 0x4030)).setReg 0x4034 0).setReg 0x4038 0
  let a := { a with frameArmed := none }
  if a.frameNs = 0 then a
  else { a with cap := { a.cap with
    openFrame := t / a.frameNs, lastFrame := if a.frameNs = was then a.cap.lastFrame else none } }

/-- A held mark is sent alone when its frame closes.
Log: entry 54 (DEDUCED). -/
def Ailen.flushMark (a : Ailen) : Ailen :=
  match a.markHold with
  | none => a
  | some e => { (a.sendMarks [e]) with markHold := none }

/-- A parity hold over a latch: no block, and the first block afterwards carries GAP and KEY (Table 17.3). -/
def Ailen.holdBlocks (a : Ailen) : Ailen :=
  if a.captureBad then { a with cap := { a.cap with parityHold := true, gap := true } }
  else { a with cap := { a.cap with parityHold := false } }

/-- The latch of frame `f` over [o, t), if one is due: none while NCH is 0, outputs are invalid or a frame of that
index or a later one has been sent under the frame length in force (R44).
Log: entry 53 (DEDUCED). -/
def Ailen.latchFrame (a : Ailen) (clr : List Nat) (cutOfs : BitVec 16) (f o t : Nat) (part : Bool) : Ailen :=
  let fresh := match a.cap.lastFrame with
    | some l => decide (l < f)
    | none => true
  if !fresh then a
  else
    let c := a.cap
    if capNch c.applied = 0 ∨ c.parityHold then { a with cap := { c with lastFrame := some f } }
    else
      let l := a.latchNow clr cutOfs f o t part
      let c := { c with latched := c.latched ++ [l], lastLatch := some l, lastFrame := some f, keyNext := false }
      { a with cap := { c with disc := false, stepped := false } }

/-- Everything staged for the boundary at `t` applies (R95, R111, R565, R167, R194).
Log: entry 53 (DEDUCED). -/
def Ailen.applyStaged (a : Ailen) (t : Nat) (st : Stamp) : Ailen :=
  let a := a.remapApply t st
  let a := a.capApply t st
  let a := a.fbApply
  let a := if a.frameDue t then a.applyFrame t else a
  if a.ucodeNew && a.mainUp then { a with ucodeRun := a.ucodeVer, ucodeNew := false } else a

/-- The cut of SHADOW entry at L(t′) (R129): the open frame is latched with PARTIAL, and host events count no more.
Log: entry 55 (DEDUCED). -/
def Ailen.shadowCut (a : Ailen) (cutOfs : BitVec 16) : Ailen :=
  let a := { a with cap := { a.cap with cutAt := none } }
  let a := if a.hostCounting && decide (a.clock.own ≠ Quality.unset) then
      ((a.latchFrame [] cutOfs a.cap.openFrame a.frameOpen a.now true).closeInterval []).flushMark
    else a
  { a with cap := { a.cap with counting := false } }

/-- The part of AILEN's time up to `ns`: a cut of SHADOW entry that falls due is made on the way, unless a boundary comes
first, whose latch completes (R121, R129).
Log: entry 4 (DESIGN CHOICE; DEDUCED), entry 55 (DEDUCED). -/
def Ailen.moveTo (a : Ailen) (ns : Nat) : Ailen :=
  match a.cap.cutAt with
  | some (t, ofs) =>
    if t ≤ ns ∧ (a.clock.own = .unset ∨ a.frameNs = 0 ∨ t < a.frameEnd) then ((a.clockTo t).shadowCut ofs).clockTo ns else a.clockTo ns
  | none => a.clockTo ns

/-- Host activity is latched at boundaries: the main island runs, clocked, and SHADOW entry has not made its cut. -/
def Ailen.latching (a : Ailen) : Bool :=
  a.mainUp && !a.hclkLost && (decide (a.pwr = .active) || a.cap.cutAt.isSome)

/-- FRAME_BOUNDARY in AILEN (R39, Table 1.6, R116): PT reaches the end of the open frame. No boundary falls while
PT is UNSET. In SHADOW and in reset only what is staged applies. The first L(t) after a loss of counting only opens an
interval (R122).
Log: entry 53 (DEDUCED). -/
def Ailen.frameBoundary (a : Ailen) (clr : List Nat) (cutOfs : BitVec 16) : Ailen :=
  if a.aoReset ∨ a.clock.own = .unset ∨ a.frameNs = 0 then a
  else
    let f := a.cap.openFrame
    let t := a.frameEnd
    let a := a.moveTo t
    let a := { a with regs := { a.regs with force := a.regs.bad } }
    let o := f * a.frameNs
    let now := a.now
    let st := { a.stamp with ns := BitVec.ofNat 64 (if a.cap.stepped then now else t), sub := 0 }
    let a := a.holdBlocks
    let a := if a.latching && a.cap.counting then ((a.latchFrame clr cutOfs f o t false).closeInterval clr).flushMark
      else if a.latching then { a.openInterval clr with cap := { (a.openInterval clr).cap with counting := true } }
      else a
    let a := { a with cap := { a.cap with openFrame := now / a.frameNs } }
    a.applyStaged t st

/-! ### The source coder -/

/-- Zig-zag of a 64-bit residue read as signed (R126). -/
def zigzag (r : W64) : Nat := ((r <<< 1) ^^^ (r.sshiftRight 63)).toNat

/-- `n` bits of `v`, least significant first. -/
def bitsOf : (n v : Nat) → List Bool
  | 0, _ => []
  | n + 1, v => (v % 2 = 1 : Bool) :: bitsOf n (v / 2)

/-- The length of a number in bits. -/
def bitLength (n : Nat) : Nat := if n = 0 then 0 else Nat.log2 n + 1

/-- The Rice code of one value under parameter `k`, with the escape at 24 (R126). -/
def riceCode (k z : Nat) : List Bool :=
  let q := z >>> k
  if q ≥ 24 then List.replicate 24 true ++ bitsOf 64 z
  else List.replicate q true ++ [false] ++ bitsOf k z

/-- One group of at most 32 residues: the parameter and the codes (R126). -/
def riceGroup (zs : List Nat) : List Bool :=
  let m := zs.foldl (· + ·) 0 / zs.length
  let k := min 63 (bitLength m)
  bitsOf 6 k ++ zs.flatMap (riceCode k)

/-- Lists cut into groups of `n`, by fuel. -/
def chunks {α : Type} (n : Nat) : Nat → List α → List (List α)
  | 0, _ => []
  | _ + 1, [] => []
  | fuel + 1, l => l.take n :: chunks n fuel (l.drop n)

/-- The coded payload of a block (R126). -/
def encodePayload (vals prev : List W64) (key : Bool) : List Bool :=
  let zs := vals.mapIdx fun i v => zigzag (v - (if key then 0 else nth 0 prev i))
  (chunks 32 (zs.length + 1) zs).flatMap riceGroup

/-- Bits, least significant first, as bytes padded with zeros. -/
def packBits (bs : List Bool) : List Byte :=
  (chunks 8 (bs.length + 1) bs).map fun g => BitVec.ofNat 8 (g.foldr (fun b n => b2n b + 2 * n) 0)

/-- Maximal runs of consecutive channels with the same non-zero flags: (first, count − 1, flags) (R125). -/
def excRuns : Nat → List Nat → Option (Nat × Nat × Nat) → List (Nat × Nat × Nat)
  | _, [], none => []
  | _, [], some r => [r]
  | i, f :: t, none => if f = 0 then excRuns (i + 1) t none else excRuns (i + 1) t (some (i, 0, f))
  | i, f :: t, some (a, n, g) =>
    if f = g then excRuns (i + 1) t (some (a, n + 1, g))
    else if f = 0 then (a, n, g) :: excRuns (i + 1) t none
    else (a, n, g) :: excRuns (i + 1) t (some (i, 0, f))

/-- 16-channel stripes whose flags OR to a non-zero value (R125). -/
def excStripes : Nat → List (List Nat) → List (Nat × Nat × Nat)
  | _, [] => []
  | i, g :: t =>
    let f := g.foldl (· ||| ·) 0
    if f = 0 then excStripes (i + 16) t else (i, g.length - 1, f) :: excStripes (i + 16) t

/-- The exception entries of a block and whether they are stripes. -/
def excEntries (flags : List Nat) : List (Nat × Nat × Nat) × Bool :=
  let r := excRuns 0 flags none
  if r.length ≤ 256 then (r, false) else (excStripes 0 (chunks 16 (flags.length + 1) flags), true)

/-- Whether a latch is sent as KEY (R127). -/
def Latched.isKey (l : Latched) (gap : Bool) : Bool :=
  l.keyed || l.disc || gap || l.step || l.shadow || (decide (l.keyint ≠ 0) && decide (l.frame % l.keyint = 0))

/-- The sample block of a latch (Tables 3.15–3.17). Exception entries name channels by their place among those coded, in a
SHADOW block as in any other.
Log: entry 53 (DEDUCED). -/
def Latched.block (l : Latched) (prev : List W64) (gap key : Bool) : List Byte :=
  let n := l.values.length
  let coded := encodePayload l.values prev key
  let raw := l.raw || decide (coded.length > 64 * n)
  let payload := if raw then l.values.flatMap (fun v => bitsOf 64 v.toNat) else coded
  let ex := excEntries l.flags
  let bf := l.qual.code + 4 * b2n key + 8 * b2n l.step + 16 * b2n l.disc + 32 * b2n raw + 64 * b2n l.shadow +
    128 * b2n l.partialEnd + 256 * b2n gap + 512 * b2n ex.2
  leBytes 8 l.frame ++ leBytes 2 n ++ leBytes 2 bf ++ leBytes 1 l.gen ++ leBytes 1 0 ++
    leBytes 2 (if l.shadow then 0 else l.cutOfs.toNat) ++ leBytes 2 ex.1.length ++ leBytes 2 0 ++
    leBytes 4 payload.length ++
    ex.1.flatMap (fun e => leBytes 4 (e.1 + 4096 * e.2.1 + 2 ^ 24 * e.2.2)) ++ packBits payload

/-- The sample queue's size (R123).
Log: entry 36 (DEDUCED; DESIGN CHOICE). -/
def sampleQueue : Nat := 98304

/-- The next block to be coded, or latched, carries DISCONTINUITY. -/
def Capture.oweDisc (c : Capture) : Capture :=
  match c.latched with
  | [] => { c with disc := true }
  | m :: r => { c with latched := { m with disc := true } :: r }

/-- Code a latch and queue its block, or discard it with CAP_DROP when the queue lacks room (R117, R123, R124). What made a
discarded block DISCONTINUITY is carried to the next block latched; STEP is not.
Log: entry 53 (DEDUCED). -/
def Ailen.sendBlock (a : Ailen) (l : Latched) : Ailen :=
  let key := l.isKey a.cap.gap
  let blk := l.block a.cap.prev a.cap.gap key
  if a.gl.sampleBytes + blk.length ≤ sampleQueue then
    { a with
      gl := a.gl.queue clsBulk (glMsg 0x01 blk)
      cap := { a.cap with prev := l.values, gap := false } }
  else
    let b := a.raise .capDrop (leBytes 8 l.frame)
    let c := { b.cap with gap := true }
    { b with cap := if l.disc then c.oweDisc else c }

/-- SAMPLE_BLOCK_CODED (R117): the oldest latched frame is coded. -/
def Ailen.codeBlock (a : Ailen) : Ailen :=
  match a.cap.latched with
  | [] => a
  | l :: r =>
    if a.mainUp then ({ a with cap := { a.cap with latched := r } }).sendBlock l else a

/-- A check of the counters of bank `b`, or of their frozen copies, fails (Table 15.15): the block that waits to be coded is
dropped under R123, the bank restarts at zero, the next block carries DISCONTINUITY, and CNT_ERR is written.
Log: entry 61 (DEDUCED). -/
def Ailen.counterError (a : Ailen) (b : Nat) : Ailen :=
  if !a.mainUp || decide (b ≥ 64) then a
  else
    let a := match a.cap.latched with
      | [] => { a with cap := { a.cap with disc := true } }
      | l :: r =>
        let x := a.raise .capDrop (leBytes 8 l.frame)
        { x with cap := ({ x.cap with latched := r, gap := true } : Capture).oweDisc }
    let a := { a with
      cap := { a.cap with frameCnt := dropBank b a.cap.frameCnt, runCnt := dropBank b a.cap.runCnt }, vig := guardBank a.vig b }
    a.raise .cntErr []

/-- The checking decoder disagrees with the coder (Table 15.15): the block that waits goes RAW from the frozen copy, and
CODER_ERR is written.
Log: entry 61 (DEDUCED). -/
def Ailen.coderError (a : Ailen) : Ailen :=
  match a.cap.latched with
  | [] => a
  | l :: r =>
    if a.mainUp then ({ a with cap := { a.cap with latched := { l with raw := true } :: r } }).raise .coderErr [] else a

/-- SCORING_BOUNDARY in AILEN (R128): while the main island is down one block of the plan's sensor channels, unless its
frame has been sent (R129) or the plan has no channel; the aggregates of the next scoring period open. SUSPECT is judged
over the scoring period that the block covers.
Log: entry 53 (DEDUCED). -/
def Ailen.scoringBoundary (a : Ailen) : Ailen :=
  let t := a.frameOpen
  if a.aoReset ∨ a.clock.own = .unset ∨ a.scoreNs = 0 ∨ t % a.scoreNs ≠ 0 ∨ t = 0 then a
  else
    let f := a.cap.openFrame - 1
    let fresh := match a.cap.lastFrame with
      | some l => decide (l < f)
      | none => true
    let b : Ailen := { a with cap := { a.cap with sensors := reopenScoring a.cap.sensors } }
    if !fresh || !a.sack || decide (capNch a.cap.applied = 0) || a.captureBad then b
    else
      let l := a.latchNow [] 0 f (t - a.scoreNs) t false
      { b with cap := { b.cap with lastFrame := some f, stepped := false, disc := false, keyNext := true } } |>.sendBlock l

end Sys2Proof.Machine
end

