-- ==== Sys2Proof/Machine/Digest.lean ====
section
/-! DEFINITION. SD128 (R486): multiplication in GF(2¹²⁸) and the digest of bytes. -/
namespace Sys2Proof.Machine
open Sys2Proof

/-- Carry-less product: `a << i` for each bit `i` of `b`, from bit `i` on, `n` bits. -/
def clmul (a b : Nat) : (n i r : Nat) → Nat
  | 0, _, r => r
  | n + 1, i, r => clmul a b n (i + 1) (if b.testBit i then r ^^^ (a <<< i) else r)

/-- Reduction by x¹²⁸ + x⁷ + x² + x + 1 of bits `127 + n` down to 128. -/
def gfReduce : (n r : Nat) → Nat
  | 0, r => r
  | n + 1, r => gfReduce n (if r.testBit (128 + n) then r ^^^ ((2 ^ 128 + 0x87) <<< n) else r)

/-- gmul of R486. -/
def gmul (a b : Nat) : Nat := gfReduce 127 (clmul a b 128 0 0)

/-- The domains of a digest. -/
def domSeg : Nat := 0
def domCont : Nat := 1
def domShard : Nat := 2

/-- Absorb bytes in 16-byte blocks, the last padded with zeros; `n` bounds the number of blocks. -/
def sdAbsorb (h : Nat) : (n y : Nat) → List Byte → Nat
  | 0, y, _ => y
  | n + 1, y, bs =>
    match bs with
    | [] => y
    | _ :: _ => sdAbsorb h n (gmul (y ^^^ ofLe (bs.take 16)) h) (bs.drop 16)

/-- The last step: the length, index and domain block, and K. -/
def sdFinish (h k y len dom idx : Nat) : Nat :=
  gmul (y ^^^ ((8 * len) ||| (idx <<< 64) ||| (dom <<< 126))) h ^^^ k

/-- sd128 of R486.
Log: entry 10 (DESIGN CHOICE). -/
def sd128 (data : List Byte) (h k dom idx : Nat) : Nat :=
  sdFinish h k (sdAbsorb h (data.length / 16 + 1) 0 data) data.length dom idx

end Sys2Proof.Machine
end

