-- ==== Sys2Proof/Machine/AilenPins.lean ====
section
/-! DEFINITION. AILEN's other ports and services: the shard taps (02, 14), the screening controller (15), the
mailbox (16), the Vigil cut of one die (14), islands, resets and clock checks (02, 18). -/
namespace Sys2Proof.Machine
open Sys2Proof

/-! ### Shard taps -/

/-- The fields by which an STP event names a transfer (R79): tap, job, step, shard.
Log: entry 54 (DEDUCED). -/
def stpData (tap job step shard : Nat) : List Byte :=
  leBytes 1 tap ++ leBytes 2 job ++ leBytes 6 step ++ leBytes 4 shard

/-- The same for an open transfer. -/
def Transfer.data (t : Transfer) (tap : Nat) : List Byte := stpData tap t.job.toNat t.step.toNat t.shard.toNat

/-- The bytes of the continuity registers (R483). -/
def Ailen.contBytes (a : Ailen) : List Byte := (List.range 1024).flatMap fun i => leBytes 4 (a.reg (0x6000 + 4 * i))

/-- The key usable for a transfer of `job` (R488); a parity fault of AL_SD_CTL makes KEYV read 0. -/
def Ailen.usableKey (a : Ailen) (job : BitVec 16) : Option SdKey :=
  if a.parityBad 0x7020 then none
  else match a.sdKey with
    | some k => if k.job = job then some k else none
    | none => none

/-- SEGD messages of at most 64 consecutive segment digests each (R201, Table 5.16). -/
def segdMsgs (t : Transfer) (tap : Nat) : Nat → Nat → List Nat → List (List Byte)
  | 0, _, _ => []
  | fuel + 1, seg0, ds =>
    match ds with
    | [] => []
    | _ :: _ =>
      let g := ds.take 64
      glMsg 0x12 (leBytes 2 t.job.toNat ++ leBytes 1 tap ++ leBytes 1 g.length ++ leBytes 8 t.step.toNat ++
        leBytes 4 t.shard.toNat ++ leBytes 4 seg0 ++ g.flatMap (leBytes 16)) ::
      segdMsgs t tap fuel (seg0 + 64) (ds.drop 64)

/-- Close the transfer open on a tap: segment and shard digests where it is whole, SEGD then SHARD messages
(R201, R487, Table 5.16); CLOSE is the stamp of its last beat.
Log: entry 54 (DEDUCED). -/
def Ailen.closeTransfer (a : Ailen) (tap : Nat) (incomplete : Bool) : Ailen :=
  let tp := nth Tap.reset a.taps tap
  match tp.openT with
  | none => a
  | some t =>
    let bad := t.malformed || incomplete
    let hk := t.key.getD (0, 0)
    let h := hk.1.toNat
    let k := hk.2.toNat
    let seg := t.seg.toNat
    let segs := if t.segLen = 0 then t.segs
      else t.segs ++ [sdFinish h k t.acc t.segLen domSeg (seg + t.segs.length)]
    let digest := if bad ∨ seg ≠ 0 then 0 else sdFinish h k t.accAll t.len domShard 0
    let segd := if bad then [] else segdMsgs t tap (segs.length + 1) seg segs
    let fl := b2n t.dir + 2 * b2n incomplete + 4 * b2n t.malformed + 8 * b2n (decide (seg ≠ 0))
    let shard := glMsg 0x11 (leBytes 2 t.job.toNat ++ leBytes 1 tap ++ leBytes 1 fl ++ leBytes 8 t.step.toNat ++
      leBytes 4 t.shard.toNat ++ leBytes 4 seg ++ leBytes 8 t.len ++ leBytes 16 digest ++ leBytes 16 t.snap ++
      t.last.bytes ++ leBytes 4 0)
    { a with
      gl := (segd ++ [shard]).foldl (fun l m => l.queue clsEvent m) a.gl
      taps := setNth a.taps tap { tp with openT := none, closed := sat 0xFFFF (tp.closed + 1) } }

/-- A check of the digest engine of a tap fails (Table 15.15): the open transfer is MALFORMED, closes so at its stp_eop
(Table 2.15), and SD_ERR is written.
Log: entry 61 (DEDUCED). -/
def Ailen.digestError (a : Ailen) (tap : Nat) : Ailen :=
  if decide (tap ≥ a.build.stpTaps) || !a.mainUp then a
  else
    let tp := nth Tap.reset a.taps tap
    match tp.openT with
    | none => a
    | some t => ({ a with taps := setNth a.taps tap { tp with openT := some { t with malformed := true } } }).raise .sdErr []

/-- Open a transfer at its SOP (R484, R488). -/
def Ailen.openTransfer (a : Ailen) (b : StpBeat) : Ailen :=
  let key := a.usableKey b.job
  let snap := match key with
    | some k => sd128 a.contBytes k.h.toNat k.k.toNat domCont 0
    | none => 0
  let t : Transfer :=
    { job := b.job, step := b.step, shard := b.shard, dir := b.dir, seg := b.seg, malformed := key.isNone,
      noKey := key.isNone, len := 0, segLen := 0, acc := 0, accAll := 0, key := key.map fun k => (k.h, k.k),
      segs := [], snap := snap, last := a.stamp }
  let a := { a with
    taps := setNth a.taps b.tap { nth Tap.reset a.taps b.tap with openT := some t, noSop := false } }
  if key.isNone then a.raise .stpNokey (t.data b.tap) else a

/-- Digest the bytes of a beat; a segment closes at 1 MiB (R487).
Log: entry 54 (DEDUCED). -/
def Transfer.absorb (t : Transfer) (bs : List Byte) : Transfer :=
  let t := { t with len := t.len + bs.length }
  match t.key with
  | none => t
  | some (h, k) =>
    if t.malformed then t
    else
      let acc := sdAbsorb h.toNat 5 t.acc bs
      let all := sdAbsorb h.toNat 5 t.accAll bs
      let n := t.segLen + bs.length
      if n = 2 ^ 20 then
        { t with acc := 0, accAll := all, segLen := 0
                 segs := t.segs ++ [sdFinish h.toNat k.toNat acc n domSeg (t.seg.toNat + t.segs.length)] }
      else { t with acc := acc, accAll := all, segLen := n }

/-- A beat of the open transfer (Table 2.15): a bad stp_nb marks it MALFORMED, otherwise its bytes are digested.
Log: entry 54 (DEDUCED). -/
def Ailen.beatData (a : Ailen) (b : StpBeat) : Ailen :=
  let tp := nth Tap.reset a.taps b.tap
  match tp.openT with
  | none => a
  | some t =>
    let bad := decide (b.nb = 0) || decide (b.nb > 64) || (!b.eop && decide (b.nb ≠ 64))
    let bs := (padTo 64 b.dat).take (min b.nb 64)
    let t' := if bad then { t with malformed := true, len := t.len + bs.length } else t.absorb bs
    let a := { a with taps := setNth a.taps b.tap { tp with openT := some { t' with last := a.stamp } } }
    if bad then a.raise .stpBadNb (t.data b.tap) else a

/-- One beat on a tap, with the framing checks of Table 2.15 (R78, R79). A second stp_sop in a run that is ignored after
pwr_sreq is a stp_sop of its own. A tap whose main island is down sees no beat.
Log: entry 54 (DEDUCED). -/
def Ailen.stpBeat (a : Ailen) (b : StpBeat) : Ailen :=
  if decide (b.tap ≥ a.build.stpTaps) || !a.mainUp then a
  else
    let tp := nth Tap.reset a.taps b.tap
    if tp.ignore && !(b.sop && decide (a.pwr ≠ .active)) then
      { a with taps := setNth a.taps b.tap { tp with ignore := !b.eop } }
    else if b.sop then
      if a.pwr ≠ .active then
        let a := { a with taps := setNth a.taps b.tap { tp with ignore := !b.eop, noSop := false } }
        a.raise .stpShadow (stpData b.tap b.job.toNat b.step.toNat b.shard.toNat)
      else
        let a := match tp.openT with
          | some t => (a.raise .stpSopOpen (t.data b.tap)).closeTransfer b.tap true
          | none => a
        let a := (a.openTransfer b).beatData b
        if b.eop then a.closeTransfer b.tap false else a
    else match tp.openT with
      | none =>
        if tp.noSop then a
        else
          let a := { a with taps := setNth a.taps b.tap { tp with noSop := true } }
          a.raise .stpNoSop (stpData b.tap 0 0 0)
      | some _ =>
        let a := a.beatData b
        if b.eop then a.closeTransfer b.tap false else a

/-! ### Screening -/

/-- A sensor channel's held value, if its number is valid (R504). -/
def Ailen.named (a : Ailen) (valid : Bool) (ch : Nat) : Option (BitVec 16) :=
  if valid then (Tbl.get Sensor.none a.cap.sensors ch).held else none

/-- TEMP, VOLT and FREQ as held now (R504, R506): 0x8000, 0 and 0 where unnamed or never registered.
Log: entry 55 (DEDUCED). -/
def Ailen.conditions (a : Ailen) : BitVec 16 × BitVec 16 × BitVec 16 :=
  ((a.named (bit (a.reg 0x8000) 6) (a.fld 0x8000 5 0)).getD 0x8000,
   (a.named (bit (a.reg 0x8000) 13) (a.fld 0x8000 12 7)).getD 0,
   (a.named (bit (a.reg 0x8000) 20) (a.fld 0x8000 19 14)).getD 0)

/-- The SCREEN message (Table 5.17). -/
def Screen.message (s : Screen) : List Byte :=
  glMsg 0x13 (leBytes 4 s.pack.toNat ++ leBytes 1 s.core.toNat ++
    leBytes 1 (s.verdict + 16 * b2n s.stress + 32 * s.corner.toNat) ++ leBytes 2 s.temp.toNat ++
    leBytes 2 s.volt.toNat ++ leBytes 2 s.freq.toNat ++ leBytes 4 s.loadSig.toNat ++ s.start.bytes ++ s.stop.bytes ++
    padTo 20 s.detail)

/-- Step 7 of Table 15.2: the message goes, STATE is IDLE, LAST and SEQ advance. -/
def Ailen.screenSend (a : Ailen) : Ailen :=
  let a := { a with gl := a.gl.queue clsEvent a.scr.message, scr := { a.scr with st := .idle } }
  { a with regs := (a.regs.setFld .ailen 0x8020 11 8 (a.scr.verdict + 1)).bumpSeq .ailen 0x8020 }

/-- Step 5: form the verdict, stamp END and lower scr_req; with no grant standing, step 7 follows at once.
Log: entry 56 (DEDUCED; DESIGN CHOICE). -/
def Ailen.screenClose (a : Ailen) (verdict : Nat) (detail : List Byte) : Ailen :=
  let a := { a with
    scr := { a.scr with st := .closing, verdict := verdict, detail := detail, stop := a.stamp, req := false } }
  if a.scr.gnt then a else a.screenSend

/-- SCREEN_START (R500, R501 step 1): its status, 0 OK, 2 BAD_OP, 3 PWRDN. While a grant of an earlier screen still stands
scr_req stays low until it has fallen (R86).
Log: entry 56 (DEDUCED; DESIGN CHOICE). -/
def Ailen.screenStart (a : Ailen) (pack : Word) (core : BitVec 8) (dur : BitVec 16) : Ailen × Nat :=
  let badRegs := [0x8000, 0x8004, 0x8048, 0x804C].any a.parityBad
  if !a.build.scrPresent then (a, 2)
  else if a.sack then (a, 3)
  else if badRegs || decide (a.scr.st ≠ .idle) || decide (dur = 0) || (bit (a.reg 0x8004) 0 && !a.scr.session) ||
      decide (a.pwr ≠ .active) then (a, 2)
  else
    let c := a.conditions
    ({ a with scr := { a.scr with
        st := .request, pack := pack, core := core, dur := dur, corner := BitVec.ofNat 3 (a.fld 0x8004 3 1)
        stress := bit (a.reg 0x8004) 0, start := a.stamp, loadSig := a.cap.lastSig, temp := c.1, volt := c.2.1
        freq := c.2.2, reqAt := a.clk, req := !a.scr.gnt, detail := [] } }, 0)

/-- What the screening controller makes of scr_gnt as it stands, once its island runs (R86, R501): START, the load
signature and the conditions are fixed at a grant; the message goes when the grant of a closing screen has fallen.
Log: entry 56 (DEDUCED; DESIGN CHOICE). -/
def Ailen.screenSees (a : Ailen) : Ailen :=
  if !a.mainUp then a
  else match a.scr.st, a.scr.gnt with
    | .request, true =>
      if a.scr.req then
        let c := a.conditions
        { a with scr := { a.scr with
            st := .granted, reqAt := a.clk, start := a.stamp, loadSig := a.cap.lastSig, temp := c.1, volt := c.2.1, freq := c.2.2 } }
      else a
    | .request, false => { a with scr := { a.scr with req := true } }
    | .closing, false => a.screenSend
    | _, _ => a

/-- scr_gnt rises (R501 step 3).
Log: entry 56 (DEDUCED; DESIGN CHOICE). -/
def Ailen.screenGrant (a : Ailen) : Ailen :=
  if a.scr.gnt then a else ({ a with scr := { a.scr with gnt := true } } : Ailen).screenSees

/-- scr_gnt falls (R501 step 7).
Log: entry 56 (DEDUCED; DESIGN CHOICE). -/
def Ailen.screenGrantFall (a : Ailen) : Ailen := ({ a with scr := { a.scr with gnt := false } } : Ailen).screenSees

/-- A screen in progress is ABORTED (R88, Table 15.3). -/
def Ailen.screenAbort (a : Ailen) : Ailen :=
  match a.scr.st with
  | .granted => a.screenClose 3 []
  | .request => a.screenClose 3 []
  | _ => a

/-- scr_rev rises while a grant stands (R88).
Log: entry 56 (DEDUCED; DESIGN CHOICE). -/
def Ailen.screenRevoke (a : Ailen) : Ailen := if a.mainUp && a.scr.gnt then a.screenAbort else a

/-- AL_SCR_DONE with DONE (R502, R503). A controller without its clock takes none (R92). -/
def Ailen.screenDone (a : Ailen) (hcode : Nat) : Ailen :=
  if a.scr.st = .granted then
    if !a.mainUp then a else
    let same := [0, 1, 2, 3].all fun w => decide (a.reg (0x8030 + 4 * w) = a.reg (0x8010 + 4 * w))
    let v := if hcode ≠ 0 then 5 else if same then 0 else 1
    let res := [0, 1, 2, 3].flatMap fun w => leBytes 4 (a.reg (0x8030 + 4 * w))
    a.screenClose v (res ++ leBytes 1 hcode)
  else a.raise .scrStray []

/-- WAIT of AL_SCR_CFG in ms; 0 reads as 1 (Table 15.8). -/
def Ailen.screenWait (a : Ailen) : Nat := if a.fld 0x8000 31 21 = 0 then 1 else a.fld 0x8000 31 21

/-- A write of AL_SCR_SESS (R509). -/
def Ailen.sessionWrite (a : Ailen) (on : Bool) : Ailen :=
  if on && !a.scr.session then
    ({ a with scr := { a.scr with session := true } }).raise .stressOpen []
  else if !on && a.scr.session then
    ({ a with scr := { a.scr with session := false } }).raise .stressClose []
  else a

/-- A write of AL_HERR (R506). -/
def Ailen.hostErr (a : Ailen) (v : Nat) : Ailen :=
  let c := a.conditions
  a.raise .hostErr (leBytes 2 (bits v 15 0) ++ leBytes 1 (bits v 23 16) ++ leBytes 1 (bits v 31 24) ++
    leBytes 2 c.1.toNat ++ leBytes 2 c.2.1.toNat ++ leBytes 2 c.2.2.toNat ++ leBytes 4 a.cap.lastSig.toNat)

/-! ### Mailbox -/

/-- States in which messages travel. -/
def GlState.open : GlState → Bool
  | .enum => true | .up => true | .shadow => true | .refused => true | _ => false

/-- The lane carries traffic: UP or SHADOW. -/
def GlLink.carries (l : GlLink) : Bool := decide (l.st = .up ∨ l.st = .shadow)

/-- Set RESULT, clear BUSY and advance SEQ of AL_MB_TX_STAT (R552). -/
def Ailen.mbResult (a : Ailen) (r : Nat) : Ailen :=
  let a := (a.setFld 0x5044 0 0 0).setFld 0x5044 2 1 r
  { a with regs := a.regs.bumpSeq .ailen 0x5044 }

/-- SEND, or a doorbell edge while DB_SEND is 1 (R552).
Log: entry 38 (DEDUCED). -/
def Ailen.mbSend (a : Ailen) : Ailen :=
  if bit (a.reg 0x5044) 0 then a
  else if !a.gl.carries then a.mbResult 3
  else
    let m := glMsg 0x20 (leBytes 1 (a.fld 0x5040 7 0) ++ leBytes 3 0 ++
      (List.range 16).flatMap fun w => leBytes 4 (a.reg (0x5000 + 4 * w)))
    { (a.setFld 0x5044 0 0 1) with gl := a.gl.queue clsCtrl m }

/-- Show a message in AL_MB_RX. -/
def Ailen.mbShow (a : Ailen) (chan : Nat) (ws : List Word) : Ailen :=
  let a := (List.range 16).foldl (fun s w => s.setReg (0x5080 + 4 * w) (nth 0 ws w).toNat) a
  (a.setFld 0x50C0 15 8 chan).setFld 0x50C0 0 0 1

/-- An MBOX message arrives (R552): shown, discarded as a resend, or held as pending.
Log: entry 38 (DEDUCED). -/
def Ailen.mbArrive (a : Ailen) (chan : Nat) (ws : List Word) : Ailen :=
  if !bit (a.reg 0x50C0) 0 then a.mbShow chan ws
  else
    let shown := (List.range 16).map fun w => BitVec.ofNat 32 (a.reg (0x5080 + 4 * w))
    if a.fld 0x50C0 15 8 = chan ∧ shown = ws then a else { a with mbHold := some (chan, ws) }

/-- ACK releases the shown message with an MB_READ event and shows a pending one (R552).
Log: entry 38 (DEDUCED). -/
def Ailen.mbAck (a : Ailen) : Ailen :=
  if bit (a.reg 0x50C0) 0 then
    let a := (a.raise .mbRead (leBytes 1 (a.fld 0x50C0 15 8))).setFld 0x50C0 0 0 0
    match a.mbHold with
    | some (c, ws) => ({ a with mbHold := none }).mbShow c ws
    | none => a
  else a

/-- mbx_a2h[1:0] (R84, R551); a parity fault of AL_MB_CTL holds it at 0. -/
def Ailen.mbxLines (a : Ailen) : Nat :=
  if a.parityBad 0x50C4 then 0
  else b2n (bit (a.reg 0x50C0) 0 && bit (a.reg 0x50C4) 0) + 2 * b2n (bit (a.reg 0x50C4) 2 && bit (a.reg 0x50C4) 1)

/-! ### Vigil on one die -/

/-- A bank of an earlier cut is still queued (R460): its message is not wholly acknowledged. -/
def GlLink.bankQueued (l : GlLink) : Bool :=
  (l.tx.any fun q => q.any fun m => decide (m.tag = .vigil)) || l.replay.any fun f => decide (f.tag = .vigil)

/-- VIGIL_ARM (R460): its status, 0 OK or 2 BAD_OP.
Log: entry 56 (DEDUCED; DESIGN CHOICE). -/
def Ailen.vigilArm (a : Ailen) (tick : W64) (vseq : Word) : Ailen × Nat :=
  if a.clock.reported ≠ .unset ∧ a.vig.isNone ∧ a.gl.bankQueued = false ∧ a.now + 1000 ≤ tick.toNat then
    ({ (a.setFld 0x11C 3 3 1) with
        vig := some { tick := tick, vseq := vseq, w := none, snapA := none, bank := none, guardBanks := [],
                      guardSns := [], late := false } }, 0)
  else ((a.raise .vigilLate []).setFld 0x11C 2 0 4, 2)

/-- The guard snapshots are taken only under these conditions (R463); W in quarter ns. -/
def guardable (w : Nat) (q : Quality) : Bool := decide (w ≠ 0xFFFF) && decide (q ≠ .free) && decide (w < 4000)

/-- One microsecond before t: W (R463).
Log: entry 56 (DEDUCED; DESIGN CHOICE). -/
def Ailen.vigilW (a : Ailen) : Ailen :=
  match a.vig with
  | some v =>
    if v.w.isSome ∨ v.bank.isSome ∨ v.tick.toNat < 1000 then a
    else
      let a := a.moveTo (v.tick.toNat - 1000)
      { a with vig := some { v with w := some a.uncert } }
  | none => a

/-- Snapshot A at L(t − W) (R463).
Log: entry 56 (DEDUCED; DESIGN CHOICE). -/
def Ailen.vigilA (a : Ailen) : Ailen :=
  match a.vig with
  | some v => match v.w with
    | some w =>
      if v.snapA.isSome ∨ v.bank.isSome ∨ guardable w a.clock.reported = false ∨ a.mainUp = false ∨
          a.hclkLost = true then a
      else
        let a := a.moveTo ((4 * v.tick.toNat - w) / 4)
        { a with vig := some { v with snapA := some (a.cap.runCnt, a.cap.opmRun, a.cap.unmRun) } }
    | none => a
  | none => a

/-- The bank at t (R461, R462): the frame latch at t where there is one (R118), else what a latch at t would deliver.
Log: entry 56 (DEDUCED; DESIGN CHOICE). -/
def Ailen.vigilBank (a : Ailen) (t : Nat) : Latched :=
  let f := t / a.frameNs
  let fresh := { a.latchNow [] 0 f ((t - 1) / a.frameNs * a.frameNs) t false with step := false, disc := false }
  match a.cap.lastLatch with
  | some l => if l.upTo = t ∧ l.shadow = a.sack then { l with frame := f } else fresh
  | none => fresh

/-- The tick (R461, Table 14.3): a bank, or VIGIL_NOBANK; the pulse where it is driven (R468).
Log: entry 56 (DEDUCED; DESIGN CHOICE). -/
def Ailen.vigilTick (a : Ailen) : Ailen :=
  match a.vig with
  | some v =>
    if v.bank.isSome ∨ a.frameNs = 0 then a
    else
      let a := a.moveTo v.tick.toNat
      let a := (a.setFld 0x11C 3 3 0).setFld 0x11C 31 16 (v.vseq.toNat % 65536)
      let shadow := a.sack
      if a.captureBad ∨ (!shadow ∧ (a.mainUp = false ∨ a.hclkLost = true)) then
        ({ a with vig := none }.raise .vigilNobank []).setFld 0x11C 2 0 3
      else
        let a := { a with vig := some { v with bank := some (a.vigilBank v.tick.toNat) } }
        let a := a.setFld 0x11C 2 0 (if shadow then 2 else 1)
        if !shadow ∧ a.build.vigPresent ∧ bit (a.reg 0x108) 0 ∧ !a.parityBad 0x108 then
          { a with vigTag := v.vseq.setWidth 8, vigPulses := a.vigPulses + 1 }
        else a
  | none => a

/-- The guard bit of channel `i` (R463). -/
def Ailen.guardBit (a : Ailen) (v : AVigil) (sa : Tbl W64 × Tbl W64 × W64) (i : Nat) : Bool :=
  let u := a.cap.applied
  let s := capSrc u i
  match capKind u i with
  | 0 =>
    if s = 4096 then decide (sa.2.2 ≠ a.cap.unmRun)
    else decide (Tbl.get 0 sa.1 s ≠ Tbl.get 0 a.cap.runCnt s) || v.guardBanks.contains (s / 64)
  | 1 => decide (Tbl.get 0 sa.2.1 s ≠ Tbl.get 0 a.cap.opmRun s)
  | 2 => v.guardSns.contains s
  | _ => false

/-- The GUARD field: one bit a channel in 32-bit words. -/
def guardWords (bs : List Bool) : List Byte := padTo (4 * ((bs.length + 31) / 32)) (packBits bs)

/-- Snapshot B at L(t + W): guard bits, and the bank is coded and sent (R463, R464, Table 5.18), by the main island or in
SHADOW the always-on one; a main island without its clock sends it later (R92).
Log: entry 56 (DEDUCED; DESIGN CHOICE). -/
def Ailen.vigilB (a : Ailen) : Ailen :=
  if !(a.mainUp || a.sack && !a.aoReset) then a else
  match a.vig with
  | some v => match v.bank with
    | some l =>
      let w := v.w.getD 0xFFFF
      let gOk := guardable w l.qual
      let a := if gOk then a.moveTo ((4 * v.tick.toNat + w) / 4) else a
      let n := l.values.length
      let chans := if l.shadow then
          (List.range (capNch a.cap.applied)).filter fun i => decide (capKind a.cap.applied i = 2)
        else List.range n
      let bs := if !gOk then List.replicate n true
        else if l.shadow then chans.map fun i => v.guardSns.contains (capSrc a.cap.applied i)
        else match v.snapA with
          | some sa => chans.map (a.guardBit v sa)
          | none => List.replicate n true
      let m := glMsg 0x02 (leBytes 4 v.vseq.toNat ++ leBytes 8 v.tick.toNat ++ leBytes 2 n ++ leBytes 2 0 ++
        guardWords bs ++ l.block [] false true)
      { a with vig := none, gl := a.gl.queueAs clsBulk m .vigil }
    | none => a
  | none => a

/-! ### Islands, resets and clocks -/

/-- The link fails on this side: lock is lost, open receptions stand. -/
def GlLink.goDown (l : GlLink) : GlLink := { l with st := .down, lock := false, stbyOk := false }

/-- BLOCK reset of the main island (R59, R122, Table 18.7): transfers, screen and session are discarded, counters
restart, the link goes down to start fresh with a new epoch (R180). The power handshake lies in the always-on island and
goes on (R57, R80). -/
def Ailen.blockReset (a : Ailen) : Ailen :=
  let a := (List.range 2).foldl (fun s n =>
    match (nth Tap.reset s.taps n).openT with
    | some t => s.raise .stpReset (t.data n)
    | none => s) a
  let keep := fun (e : Nat × Word) => match regDesc .ailen e.1 with
    | some d => (e.1, BitVec.ofNat 32 ((e.2.toNat &&& d.keep) ||| (rstWord .ailen e.1 &&& (0xFFFFFFFF ^^^ d.keep))))
    | none => e
  let vals := (a.regs.vals.map keep).filter fun e => decide (e.2.toNat ≠ rstWord .ailen e.1)
  { a with
    regs := { a.regs with vals := vals, latch := [] }
    taps := [Tap.reset, Tap.reset]
    scr := { Screen.reset with gnt := a.scr.gnt }
    cap := { a.cap with
      frameCnt := [], runCnt := [], opm := [], unmapped := 0, opmRun := [], unmRun := 0, frzFrame := [], frzRun := []
      frzOpm := [], frzUnmapped := 0, clrBanks := [], counting := false, cutAt := none, disc := true, latched := []
      lastLatch := none, keyNext := true, lastSig := 0 }
    vig := match a.vig with
      | some v => if v.bank.isSome then none else some { v with snapA := none }
      | none => none
    markHold := none, markDrop := false
    gl := { a.gl.goDown with
      active := .working, shadowRate := false, crcErr := 0, inbox := [], tx := [[], [], [], []], ctl := [], keeps := false
      initSent := none, farEpoch := 0 }
    trc := [], enumCause := 1 }

/-- main_rst_n asserts (R59): no further effect in SHADOW or under ao_por_n.
Log: entry 55 (DEDUCED). -/
def Ailen.mainRst (a : Ailen) : Ailen :=
  if a.aoReset then { a with mainReset := true }
  else if a.pwr = .shadow then { a with mainReset := true }
  else { a.blockReset with mainReset := true }

/-- The main island leaves reset or SHADOW: it loads the stored microcode (R194). -/
def Ailen.loadMicrocode (a : Ailen) : Ailen := { a with ucodeRun := a.ucodeVer, ucodeNew := false }

/-- main_rst_n deasserts: the island runs, Guyline trains (R185), counting waits for the next L(t) (R122). -/
def Ailen.mainRstRelease (a : Ailen) : Ailen :=
  if a.mainReset ∨ a.mpg = false then
    let a := { a with mainReset := false, mpg := true }
    if a.aoReset ∨ a.pwr = .shadow then a
    else
      let a := a.loadMicrocode
      ({ a with cap := { a.cap with counting := false, disc := true }
                gl := if a.refLost then a.gl else { a.gl with st := .training } } : Ailen).screenSees
  else a

/-- ao_por_n asserts: an AO-LOSS of everything (R59, R683); HRP stops answering.
Log: entry 9 (DEDUCED). -/
def Ailen.aoPor (a : Ailen) : Ailen :=
  { Ailen.reset with build := a.build, hdidPin := a.hdidPin, aoReset := true, mainReset := a.mainReset, mpg := a.mpg
                     refLost := a.refLost, hclkLost := false, scr := { Screen.reset with gnt := a.scr.gnt }
                     gl := { GlLink.reset .ailen with epoch := a.gl.epoch } }

/-- ao_por_n is released: hdid is sampled and checked (R54, R98), HRP answers, Guyline trains; a gln_ref already lost is
reported (R98). -/
def Ailen.aoPorRelease (a : Ailen) (hdid : W64) : Ailen :=
  if a.aoReset then
    let a := { a with aoReset := false, hdidPin := hdid, enumCause := 0 }
    let a := (a.setReg 0x10 (hdid.toNat % 2 ^ 32)).setReg 0x14 (hdid.toNat / 2 ^ 32)
    let a := if hdid = 0 ∨ hdid = BitVec.allOnes 64 then a.raise .hdidInvalid [] else a
    let a := if a.refLost then a.raise .refclkLost [] else a
    { a with gl := if a.mainUp then { a.gl with st := .training } else a.gl }
  else a

/-- pwr_sreq rises (Table 2.17, steps 2 and 3: R79, R81, R88): transfers close INCOMPLETE, a screen ends ABORTED, and the
cut of capture is set for t′ with its CUT_OFS (R129), behind a boundary whose cut strobe has been raised (R121).
Log: entry 55 (DEDUCED). -/
def Ailen.shadowEntry (a : Ailen) (cutAt : Nat) (cutOfs : BitVec 16) : Ailen :=
  if a.aoReset ∨ a.pwr ≠ .active then { a with sreq := true }
  else
    let late := decide (a.clock.own ≠ .unset) && decide (a.clk < a.frameEnd) && !strobed a.clk a.frameEnd
    let t := max a.clk (if late then max a.frameEnd cutAt else cutAt)
    let a := { a with sreq := true, pwr := .entering, pwrAt := a.clk }
    let a := (List.range 2).foldl (fun s n =>
      match (nth Tap.reset s.taps n).openT with
      | some t => (s.raise .stpShadow (t.data n)).closeTransfer n true
      | none => s) a
    let a := a.screenAbort
    { a with cap := { a.cap with cutAt := some (t, cutOfs) } }

/-- The link no longer holds up the handshake: its rate has changed, it carries nothing, or the bound of Table 2.17, `lim` ns
after the edge of pwr_sreq, has come (R81, R193).
Log: entry 55 (DEDUCED). -/
def Ailen.linkSettled (a : Ailen) (shadow : Bool) (lim : Nat) : Bool :=
  decide (a.gl.shadowRate = shadow) || !a.gl.st.open || decide (a.clk ≥ a.pwrAt + lim)

/-- What a trace source holds in the main island: lost with its supply (R57). -/
def TrcSrc.unpowered (s : TrcSrc) : TrcSrc := { s with bits := [], dropped := 0, buf := [] }

/-- Step 5: once the cut is made, messages are acknowledged and the rate changed, the island is clamped and pwr_sack rises;
what the main island held is lost (R57, Table 18.7). A screen whose grant still stands is closed first; its message leaves
after SHADOW (R194). A lane without Gremon's answer runs at the SHADOW rate from a new training. With pwr_sreq low again
exit follows at once, its microcode loaded (R82, R194).
Log: entry 55 (DEDUCED). -/
def Ailen.shadowEntryDone (a : Ailen) : Ailen :=
  if a.pwr = .entering ∧ a.cap.cutAt = none ∧ a.linkSettled true 20000 = true then
    let a := if a.scr.st = .closing then a.screenSend else a
    let gl := if a.gl.shadowRate ∨ a.gl.st.open = false then a.gl else { a.gl with st := .training, lock := false, initSeen := false }
    let b := { a with
      pwr := if a.exitNext then .exiting else .shadow
      exitNext := false
      taps := [Tap.reset, Tap.reset]
      trc := a.trc.map fun e => (e.1, e.2.unpowered)
      gl := { gl with shadowRate := true, st := if gl.st = .up then .shadow else gl.st, stbyOk := false }
      cap := { a.cap with frameCnt := [], runCnt := [], opm := [], unmapped := 0, opmRun := [], unmRun := 0, frzFrame := []
                          frzRun := [], frzOpm := [], frzUnmapped := 0, clrBanks := [], lastLatch := none, keyNext := true } }
    if a.exitNext then { b.loadMicrocode with pwrAt := a.clk } else b
  else a

/-- pwr_sreq falls (R82, step 8): the island is released, its microcode loaded, Guyline asked back to full rate.
Log: entry 55 (DEDUCED). -/
def Ailen.shadowExit (a : Ailen) : Ailen :=
  let a := { a with sreq := false }
  match a.pwr with
  | .entering => { a with exitNext := true }
  | .shadow =>
    let a := a.loadMicrocode
    { a with pwr := .exiting, mpg := true, pwrAt := a.clk }
  | _ => a

/-- Step 9: island restored and link at full rate, pwr_sack falls; the next block is KEY and DISCONTINUITY
(R122, R130). A lane without Gremon's answer trains again at full rate.
Log: entry 55 (DEDUCED). -/
def Ailen.shadowExitDone (a : Ailen) : Ailen :=
  if a.pwr = .exiting ∧ a.mainReset = false ∧ a.linkSettled false 100000 = true then
    let gl := if a.gl.shadowRate = false ∨ a.gl.st.open = false then a.gl
      else { a.gl with st := .training, lock := false, initSeen := false }
    ({ a with pwr := .active
              cap := { a.cap with counting := false, disc := true, keyNext := true }
              gl := { gl with shadowRate := false, st := if gl.st = .shadow then .up else gl.st } } : Ailen).screenSees
  else a

/-- pwr_mpg falls while pwr_sack is low (R83).
Log: entry 55 (DEDUCED). -/
def Ailen.pwrAbrupt (a : Ailen) : Ailen :=
  if a.aoReset || a.sack then { a with mpg := false }
  else (a.blockReset.raise .pwrAbrupt []) |> fun b => { b with mpg := false }

/-- No hclk edge for 10 µs while pwr_sack is low (R98).
Log: entry 55 (DEDUCED). -/
def Ailen.hclkLoss (a : Ailen) : Ailen :=
  if a.aoReset || a.sack || a.hclkLost then a
  else ({ a with hclkLost := true, cap := { a.cap with counting := false, disc := true } }).raise .hclkLost []

/-- hclk returns (R122).
Log: entry 55 (DEDUCED). -/
def Ailen.hclkBack (a : Ailen) : Ailen :=
  if a.hclkLost then { a with hclkLost := false, cap := { a.cap with counting := false, disc := true } } else a

/-- gln_ref is lost (R92, R98): the main island stops and the link falls; time continues.
Log: entry 55 (DEDUCED). -/
def Ailen.refLoss (a : Ailen) : Ailen :=
  if a.aoReset || a.refLost then { a with refLost := true }
  else ({ a with refLost := true, gl := a.gl.goDown, cap := { a.cap with counting := false, disc := true } }).raise
    .refclkLost []

/-- gln_ref returns: mclk runs again, the link trains.
Log: entry 55 (DEDUCED). -/
def Ailen.refBack (a : Ailen) : Ailen :=
  if a.refLost then
    let a := { a with refLost := false }
    ({ a with gl := if a.mainUp || a.sack && !a.aoReset then { a.gl with st := .training } else a.gl } : Ailen).screenSees
  else a

/-- ao_clk out of range, or back in range (R98, R152).
Log: entry 55 (DEDUCED). -/
def Ailen.aoRangeSet (a : Ailen) (on : Bool) : Ailen :=
  if a.aoReset || a.refLost then a
  else if on && !a.aoRange then ({ a with aoRange := true }).raise .aoclkRange []
  else if on then a
  else { a with aoRange := false }

end Sys2Proof.Machine
end

