-- ==== Sys2Proof/Machine/ARegs.lean ====
section
/-! DEFINITION. AILEN's registers as HRP and Gremon's commands reach them (02 R63–R67, 05 R199, 17): what a read
returns, what a write does, the indirect window, and the CMD messages. -/
namespace Sys2Proof.Machine
open Sys2Proof

/-! ### Reading -/

/-- AL_CFGID (Table 2.4). -/
def Build.cfgid (b : Build) : Nat :=
  b.evpBanks % 32 + 32 * (b.trpStreams % 8) + 256 * (b.stpTaps % 4) + 1024 * b2n b.standby + 2048 * b2n b.scrPresent +
    4096 * b2n b.vigPresent + 65536 * (b.snpChannels % 128)

/-- The state code of Table 5.21. -/
def GlState.code : GlState → Nat
  | .down => 0 | .training => 1 | .init => 2 | .enum => 3 | .up => 4 | .shadow => 5 | .refused => 6

/-- A pair as a bit. -/
def pairCode : Pair → Nat
  | .working => 0 | .standby => 1

/-- The state code of Table 15.9. -/
def ScrState.code : ScrState → Nat
  | .idle => 0 | .request => 1 | .granted => 2 | .closing => 3

/-- Word `w` of an AILEN recorder entry. -/
def AEvent.word (e : AEvent) (w : Nat) : Nat := leAt (e.message.drop 4) (4 * w) 4

/-- The word that a live or frozen counter address shows (Table 17.8a): the running count, or the latest latch. -/
def Ailen.counterWord (a : Ailen) (k : Nat) : Nat :=
  let o := k - ind 0
  let n := o % 0x10000 / 8
  let run := bit (capCnt a.cap.applied n) 22
  let v : W64 :=
    if o < 0x40000 then (if run then Tbl.get 0 a.cap.runCnt n else Tbl.get 0 a.cap.frameCnt n)
    else if o < 0x50000 then (if run then Tbl.get 0 a.cap.frzRun n else Tbl.get 0 a.cap.frzFrame n)
    else Tbl.get 0 a.cap.frzOpm n
  if o % 8 = 0 then v.toNat % 2 ^ 32 else v.toNat / 2 ^ 32

/-- What the register at `k` holds for a read, before latches: stored words, shadows of FB registers, and the
values the part computes. -/
def Ailen.live (a : Ailen) (k : Nat) : Nat :=
  if k = 0x008 then a.build.cfgid
  else if k = 0x10C then
    a.gl.st.code + 8 * pairCode a.gl.active + 16 * b2n a.gl.stbyOk + 65536 * (sat 0xFFFF a.gl.crcErr)
  else if k = 0x120 then putBits (a.reg k) 0 0 (b2n (!a.regs.bad.isEmpty))
  else if k = 0x128 then putBits (a.reg k) 0 0 (b2n (!a.regs.shadow.isEmpty))
  else if k = 0x4000 then a.clock.reported.code + 4 * b2n a.aoRange + 65536 * a.uncert
  else if k = 0x4004 then a.now % 2 ^ 32
  else if k = 0x4008 then a.now / 2 ^ 32
  else if k = 0x400C then a.stamp.tq
  else if k = 0x4010 then a.clock.lmNs % 2 ^ 32
  else if k = 0x4014 then a.clock.lmNs / 2 ^ 32 % 2 ^ 32
  else if k = 0x7020 then putBits (a.reg k) 16 16 (b2n (a.sdKey.isSome && !a.parityBad 0x7020))
  else if k = 0x7030 ∨ k = 0x7034 then
    let t := nth Tap.reset a.taps ((k - 0x7030) / 4)
    b2n t.openT.isSome + 65536 * t.closed
  else if k = 0x8020 then putBits (a.reg k) 3 0 (a.scr.st.code + 8 * b2n a.scr.session)
  else if k = 0x8024 then a.scr.pack.toNat
  else if k = 0x8028 then
    a.scr.core.toNat + 256 * a.scr.corner.toNat + 2048 * b2n a.scr.stress + 65536 * a.scr.dur.toNat
  else if k = 0x8044 then b2n a.scr.session
  else if k = 0xA000 then a.recWr % 2 ^ 32
  else if k = 0xA004 then a.recAck % 2 ^ 32
  else if k = 0xA008 then a.recOvf
  else if 0xA040 ≤ k ∧ k < 0xA080 then
    match Tbl.find a.recSlots (a.reg 0xA00C % 1024) with
    | some e => e.word ((k - 0xA040) / 4)
    | none => 0
  else if ind 0x30000 ≤ k ∧ k < ind 0x60000 then a.counterWord k
  else a.regs.getShadow .ailen k

/-- Bits that always read 0: WO and W1P fields (R558). -/
def RegDesc.hidden (d : RegDesc) : Nat := d.wo ||| d.w1p

/-- Reading the register at `k`, with the latches of R562 and R165 and the cursor of R652.
Log: entry 39 (DEDUCED; DESIGN CHOICE). -/
def Ailen.readReg (a : Ailen) (who : Requester) (k : Nat) : Ailen × Nat :=
  match regDesc .ailen k with
  | none => (a, 0)
  | some d =>
    let v := a.live k - (a.live k &&& d.hidden)
    if k = 0x4004 then
      let r := [0x4008, 0x400C, 0x4010, 0x4014].foldl (fun (r : RegFile) j => r.setLatch who j (a.live j)) a.regs
      ({ a with regs := r }, v)
    else match a.regs.latched who k with
      | some w => ({ a with regs := a.regs.unlatch who k }, w.toNat)
      | none =>
        if d.hiLatch then ({ a with regs := a.regs.setLatch who (k + 4) (a.live (k + 4)) }, v)
        else if k = 0xA07C ∧ a.reg 0xA010 = 1 then (a.setReg 0xA00C ((a.reg 0xA00C + 1) % 2 ^ 32), v)
        else (a, v)

/-! ### Writing -/

/-- Whether the writer may write the register (R109, R165, R517, Table 20.10). -/
def RegDesc.admits (d : RegDesc) (who : Requester) : Bool :=
  match d.writer with
  | .any => true
  | .cmdOnly => decide (who = .cmd)
  | .hrpOnly => decide (who ≠ .cmd)

/-- A plain write (R558): RW and WO bits are stored, and a good word clears the register's parity fault (R575) unless
it lies in a staged table, whose applied copy a commit restores. -/
def Ailen.store (a : Ailen) (d : RegDesc) (k v : Nat) : Ailen :=
  let r := a.regs.write .ailen k (d.rw ||| d.wo) v
  let staged := isCapKey k || (decide (0x400 ≤ k) && decide (k < 0x800))
  if staged then { a with regs := { r with badShadow := r.badShadow.filter fun j => decide (j ≠ k) } }
  else { a with regs := { r with bad := r.bad.filter fun j => decide (j ≠ k) } }

/-- COMMIT of the remap staging table (R94, R95). -/
def Ailen.remapCommit (a : Ailen) : Ailen :=
  let pend := a.regs.vals.filter fun e => decide (0x400 ≤ e.1) && decide (e.1 < 0x800)
  ({ a with cap := { a.cap with remapPend := commitTo a.cap.remapPend a.clk a.frameEnd pend } }).setFld 0x104 2 2 1

/-- COMMIT of the capture configuration (R111). -/
def Ailen.capCommit (a : Ailen) : Ailen :=
  ({ a with cap := { a.cap with pend := commitTo a.cap.pend a.clk a.frameEnd a.capStaging } }).setFld 0x1008 2 2 1

/-- The AL_JT_JOB write (R166): the job and both epoch words as one unit, or withdrawn with EV 0. -/
def Ailen.jtJob (a : Ailen) (v : Nat) : Ailen :=
  let a := a.setReg 0x4028 (v % 2 ^ 17)
  let e := BitVec.ofNat 64 (a.reg 0x4018 + 2 ^ 32 * a.reg 0x401C)
  { a with jt := if bit v 16 then some { job := BitVec.ofNat 16 v, epoch := e } else none }

/-- Whether the AL_FRAME_TICK_HI write is refused (R167).
Log: entry 53 (DEDUCED). -/
def Ailen.frameTickBad (a : Ailen) (hi : Nat) : Bool :=
  let tick := a.reg 0x4034 + 2 ^ 32 * hi
  !frameOk (a.fld 0x4030 13 0) (a.fld 0x4030 31 14) ||
  (decide (tick ≠ 0) && (decide (tick % 10 ^ 9 ≠ 0) || decide (tick ≤ a.now)))

/-- The AL_FRAME_TICK_HI write (R167): TICK 0 applies NEXT at once, another arms it. The first block at a new length
carries DISCONTINUITY; a NEXT equal to what is in force changes nothing. After a change at once host events count again
from the next boundary; those of the partial frame before it count nowhere, in RUN values either.
Log: entry 53 (DEDUCED). -/
def Ailen.frameTickHi (a : Ailen) (hi : Nat) : Ailen :=
  if a.reg 0x4034 = 0 ∧ hi = 0 ∧ a.reg 0x4030 = a.reg 0x402C then
    { a.setReg 0x4038 0 with frameArmed := none }
  else if a.reg 0x4034 = 0 ∧ hi = 0 then
    let a := a.applyFrame a.now
    { a with cap := { a.cap with counting := false, disc := true } }
  else { a.setReg 0x4038 hi with frameArmed := some (a.reg 0x4034 + 2 ^ 32 * hi) }

/-- SET of AL_SD_CTL (R488). -/
def Ailen.sdSet (a : Ailen) : Ailen :=
  let h := (List.range 4).foldl (fun n w => n + a.reg (0x7000 + 4 * w) * 2 ^ (32 * w)) 0
  let k := (List.range 4).foldl (fun n w => n + a.reg (0x7010 + 4 * w) * 2 ^ (32 * w)) 0
  { a with sdKey :=
      if h = 0 then none
      else some { h := BitVec.ofNat 128 h, k := BitVec.ofNat 128 k, job := BitVec.ofNat 16 (a.reg 0x7020) } }

/-- A write of the register at `k` (R558 and the chapters' own behaviour). The Bool is false where AILEN answers
BAD_OP and nothing may take effect (R167).
Log: entry 39 (DEDUCED; DESIGN CHOICE). -/
def Ailen.writeReg (a : Ailen) (who : Requester) (k v : Nat) : Ailen × Bool :=
  match regDesc .ailen k with
  | none => (a, true)
  | some d =>
    if !d.admits who then (a, true)
    else if d.sqc ≠ 0 then ({ a with regs := a.regs.sqcClear .ailen k d.sqc v }, true)
    else if d.fb ≠ 0 then
      let t := if a.clock.own = .unset then a.clock.lmNs else a.now
      ({ a with regs := a.regs.writeShadow .ailen k d.fb v t }, true)
    else if k = 0x100 then (if bit v 0 then a.remapCommit else a, true)
    else if k = 0x1004 then (if bit v 0 then a.capCommit else a, true)
    else if k = 0x114 then
      let hi := a.stepHi.getD (a.fld 0x118 15 0)
      ({ (a.setStepNum (v % 2 ^ 32 + 2 ^ 32 * hi)) with stepHi := none }, true)
    else if k = 0x118 then ({ a with stepHi := some (v % 2 ^ 16) }, true)
    else if k = 0x4028 then (a.jtJob v, true)
    else if k = 0x4038 then (if a.frameTickBad v then (a, false) else (a.frameTickHi v, true))
    else if k = 0x5040 then
      let a := a.store d k v
      (if bit v 8 then a.mbSend else a, true)
    else if k = 0x5044 then (a.mbResult (bits v 2 1), true)
    else if k = 0x50C0 then (if bit v 16 then a.mbAck else a, true)
    else if k = 0x50C4 then
      let attn := if who = .cmd then bit v 2 else bit v 2 && bit (a.reg 0x50C4) 2
      (a.store d k (putBits v 2 2 (b2n attn)), true)
    else if k = 0x7020 then
      let a := a.store d k v
      (if bit v 17 then a.sdSet else a, true)
    else if k = 0x8040 then (if bit v 0 then a.screenDone (bits v 15 8) else a, true)
    else if k = 0x8044 then (a.sessionWrite (bit v 0), true)
    else if k = 0x8060 then (a.hostErr v, true)
    else (a.store d k v, true)

/-! ### HRP and the indirect window -/

/-- AL_IND_STAT after a failed access (R571). -/
def Ailen.windowFail (a : Ailen) (ecode : Nat) : Ailen :=
  { a with regs := ((a.regs.setFld .ailen 0xF00C 0 0 1).setFld .ailen 0xF00C 3 2 ecode).bumpSeq .ailen 0xF00C }

/-- ADDR advances by 4 under INC (R570). -/
def Ailen.windowNext (a : Ailen) : Ailen :=
  if bit (a.reg 0xF008) 0 then a.setReg 0xF000 ((a.reg 0xF000 + 4) % 2 ^ 32) else a

/-- The ECODE of an access through AILEN's window, 0 for none (R571). -/
def Ailen.windowCode (a : Ailen) : Nat :=
  let k := a.reg 0xF000
  if k % 4 ≠ 0 then 2
  else match regDesc .ailen (ind k) with
    | none => 1
    | some d => if d.mainIsland ∧ a.sack then 3 else 0

/-- A read of AL_IND_DATA: the value, or none where the access fails. -/
def Ailen.windowRead (a : Ailen) : Ailen × Option Nat :=
  let c := a.windowCode
  if c ≠ 0 then ((a.windowFail c).windowNext, none)
  else
    let r := a.readReg (.window 0) (ind (a.reg 0xF000))
    (r.1.windowNext, some r.2)

/-- A write of AL_IND_DATA. -/
def Ailen.windowWrite (a : Ailen) (who : Requester) (v : Nat) : Ailen × Bool :=
  let c := a.windowCode
  if c ≠ 0 then ((a.windowFail c).windowNext, false)
  else ((a.writeReg who (ind (a.reg 0xF000)) v).1.windowNext, true)

/-- Whether an HRP access fails (R66, R560). -/
def Ailen.hrpBad (a : Ailen) (addr : Nat) : Bool :=
  decide (addr ≥ 0x10000) || decide (addr % 4 ≠ 0) ||
  (match regDesc .ailen addr with
    | none => true
    | some d => d.mainIsland && a.sack)

/-- An HRP read: hrp_err and hrp_rdata (R64, R66). While ao_por_n is asserted there is no answer (R683). -/
def Ailen.hrpRead (a : Ailen) (addr : Nat) : Ailen :=
  if a.aoReset then a
  else if a.hrpBad addr then { a with hrpErr := true, hrpData := 0 }
  else if addr = 0xF004 then
    match a.windowRead with
    | (b, some v) => { b with hrpErr := false, hrpData := BitVec.ofNat 32 v }
    | (b, none) => { b with hrpErr := true, hrpData := 0 }
  else
    let r := a.readReg .hrp addr
    { r.1 with hrpErr := false, hrpData := BitVec.ofNat 32 r.2 }

/-- An HRP write; hrp_rdata after it reads 0.
Log: entry 39 (DEDUCED; DESIGN CHOICE). -/
def Ailen.hrpWrite (a : Ailen) (addr v : Nat) : Ailen :=
  if a.aoReset then a
  else if a.hrpBad addr then { a with hrpErr := true, hrpData := 0 }
  else if addr = 0xF004 then
    let r := a.windowWrite .hrp v
    { r.1 with hrpErr := !r.2, hrpData := 0 }
  else { (a.writeReg .hrp addr v).1 with hrpErr := false, hrpData := 0 }

/-- A write by the requester named, as one word; commands write without changing HRP's outputs, and no one else reaches
AILEN's registers. -/
def Ailen.accessWrite (a : Ailen) (x : Access) : Ailen :=
  if a.aoReset then a
  else match x.who with
    | .cmd => (a.writeReg .cmd x.addr (x.data.toNat % 2 ^ 32)).1
    | .hrp => if x.size = 4 then a.hrpWrite x.addr (x.data.toNat % 2 ^ 32) else a
    | _ => a

/-- A read by the requester named. -/
def Ailen.accessRead (a : Ailen) (x : Access) : Ailen :=
  if a.aoReset then a
  else match x.who with
    | .cmd => (a.readReg .cmd x.addr).1
    | .hrp => if x.size = 4 then a.hrpRead x.addr else a
    | _ => a

/-! ### Parity -/

/-- A parity mismatch found at `k` (R574, R576, R577): `v` and `p` are the value and parity bit read. A second fault
in the same copy adds no further entry.
Log: entry 40 (DEDUCED; DESIGN CHOICE). -/
def Ailen.parityFault (a : Ailen) (k : Nat) (shadow : Bool) (v : Word) (p : Bool) : Ailen :=
  let held := if shadow then a.regs.badShadow.contains k else a.regs.bad.contains k
  let act := decide (0x800 ≤ k) && decide (k < 0xC00)
  let stg := decide (0x400 ≤ k) && decide (k < 0x800)
  match regDesc .ailen k with
  | none => a
  | some d =>
    let here := if shadow then stg || isCapKey k || (Tbl.find a.regs.shadow k).isSome
      else act || (!stg && decide (d.rw ||| d.fb ≠ 0))
    if held || d.data || a.aoReset || !here then a
    else
      let isInd := decide (ind 0 ≤ k)
      let addr := if isInd then k - ind 0 else k
      let a := a.raise .cfgParity (leBytes 1 (b2n isInd) ++ leBytes 4 addr ++ leBytes 4 v.toNat ++ leBytes 1 (b2n p) ++
        leBytes 1 (b2n shadow) ++ a.stamp.bytes)
      let r := ((a.regs.setFld .ailen 0x120 1 1 1).setFld .ailen 0x120 2 2 (b2n shadow)).bumpSeq .ailen 0x120
      let r := r.set .ailen 0x124 (addr % 2 ^ 20 + 2 ^ 20 * b2n isInd)
      let a := { a with regs := r }
      if !shadow then
        let m := if act then 0x1FF else if isCapKey k then 0 else d.rw ||| d.fb
        let r := a.regs.write .ailen k m v.toNat
        { a with regs := { r with bad := k :: r.bad } }
      else if d.fb ≠ 0 then { a with regs := { a.regs with shadow := Tbl.erase a.regs.shadow k } }
      else
        let a := { a with regs := { a.regs with badShadow := k :: a.regs.badShadow } }
        if isCapKey k then ({ a with cap := { a.cap with pend := [] } }).setFld 0x1008 2 2 0
        else ({ a with cap := { a.cap with remapPend := [] } }).setFld 0x104 2 2 0

/-! ### Commands from Gremon -/

/-- The operation code of a CMD message (Table 5.13). -/
def cmdOp (m : List Byte) : Nat := leAt m 6 1
/-- Its COUNT. -/
def cmdCount (m : List Byte) : Nat := leAt m 12 2
/-- Its data word `i`. -/
def cmdWord (m : List Byte) (i : Nat) : Nat := leAt m (16 + 4 * i) 4

/-- Whether a message is a CMD. -/
def isCmd (m : RxMsg) : Bool := decide (leAt m.bytes 0 1 = 0x21)

/-- Whether a CMD's operation and COUNT fit (R682). -/
def cmdFits (m : List Byte) : Bool :=
  match cmdOp m with
  | 1 => true | 2 => true | 3 => true
  | 4 => decide (cmdCount m = 4)
  | 5 => decide (cmdCount m = 2)
  | _ => false

/-- AILEN answers a CMD (Table 5.13). -/
def Ailen.respond (a : Ailen) (m : List Byte) (status : Nat) (data : List Nat) : Ailen :=
  { a with gl := a.gl.queue clsCtrl (glMsg 0x22 (leBytes 2 (leAt m 4 2) ++ leBytes 1 status ++ leBytes 1 0 ++
      leBytes 4 data.length ++ data.flatMap (leBytes 4))) }

/-- The CMD at the head of AILEN's order of arrival is taken and `f` runs it, when it satisfies `p` (R199); one that waits
while gln_ref is lost is taken when it has returned (R92).
Log: entry 11 (DESIGN CHOICE). -/
def Ailen.onCmd (a : Ailen) (p : List Byte → Bool) (f : Ailen → List Byte → Ailen) : Ailen :=
  match takeFirst isCmd a.gl.inbox with
  | some (m, r) =>
    if p m.bytes && !a.aoReset && !a.refLost then f { a with gl := { a.gl with inbox := r } } m.bytes else a
  | none => a

/-- The register keys that a READ or WRITE names. -/
def cmdKeys (m : List Byte) : List Nat :=
  (List.range (cmdCount m)).map fun i =>
    let x := leAt m 8 4 + 4 * i
    if bit (leAt m 7 1) 0 then ind x else x

/-- The status of a READ's or WRITE's addresses: 0 OK, 1 BAD_ADDR, 3 PWRDN (R194, R199). -/
def Ailen.cmdAddrs (a : Ailen) (m : List Byte) : Nat :=
  let ks := cmdKeys m
  if ks.any fun k => decide (k % 4 ≠ 0) || (regDesc .ailen k).isNone then 1
  else if a.sack && ks.any (fun k => match regDesc .ailen k with
      | some d => d.mainIsland
      | none => false) then 3
  else 0

/-- CMD READ (R199). -/
def Ailen.cmdRead (a : Ailen) : Ailen :=
  a.onCmd (fun m => decide (cmdOp m = 1)) fun a m =>
    let st := a.cmdAddrs m
    if st ≠ 0 then a.respond m st []
    else
      let r := (cmdKeys m).foldl (fun (s : Ailen × List Nat) k =>
        let x := s.1.readReg .cmd k
        (x.1, s.2 ++ [x.2])) (a, [])
      r.1.respond m 0 r.2

/-- CMD WRITE (R199): all of its words, or none.
Log: entry 38 (DEDUCED). -/
def Ailen.cmdWrite (a : Ailen) : Ailen :=
  a.onCmd (fun m => decide (cmdOp m = 2)) fun a m =>
    let st := a.cmdAddrs m
    if st ≠ 0 then a.respond m st []
    else
      let r := (cmdKeys m).foldl (fun (s : Ailen × Bool × Nat) k =>
        let x := s.1.writeReg .cmd k (cmdWord m s.2.2)
        (x.1, s.2.1 && x.2, s.2.2 + 1)) (a, true, 0)
      if r.2.1 then r.1.respond m 0 [] else a.respond m 2 []

/-- CMD UCODE (R194): words into the always-on store, to run from the next frame boundary. -/
def Ailen.cmdUcode (a : Ailen) : Ailen :=
  a.onCmd (fun m => decide (cmdOp m = 3)) fun a m =>
    let st := (List.range (cmdCount m)).foldl (fun t i => Tbl.put t (leAt m 8 4 + i) (BitVec.ofNat 32 (cmdWord m i)))
      a.ucode
    ({ a with ucode := st, ucodeVer := a.ucodeLoad, ucodeNew := true }).respond m 0 []

/-- CMD VIGIL_ARM (R460). -/
def Ailen.cmdVigilArm (a : Ailen) : Ailen :=
  a.onCmd (fun m => decide (cmdOp m = 4) && cmdFits m) fun a m =>
    let r := a.vigilArm (BitVec.ofNat 64 (leAt m 16 8)) (BitVec.ofNat 32 (leAt m 24 4))
    r.1.respond m r.2 []

/-- CMD SCREEN_START (R500). -/
def Ailen.cmdScreenStart (a : Ailen) : Ailen :=
  a.onCmd (fun m => decide (cmdOp m = 5) && cmdFits m) fun a m =>
    let r := a.screenStart (BitVec.ofNat 32 (leAt m 16 4)) (BitVec.ofNat 8 (leAt m 20 1)) (BitVec.ofNat 16 (leAt m 22 2))
    r.1.respond m r.2 []

/-- A well-formed CMD that no operation takes (R682). -/
def Ailen.cmdBadOp (a : Ailen) : Ailen :=
  a.onCmd (fun m => !cmdFits m) fun a m => a.respond m 2 []

end Sys2Proof.Machine
end

