-- ==== Sys2Proof/Machine/Guyline.lean ====
section
/-! DEFINITION. One end of a Guyline link (05): frames, sequence and retry, credits, the choice at a frame slot,
reassembly and the checks of a message, training, resume and standby takeover. The two parts wrap these. -/
namespace Sys2Proof.Machine
open Sys2Proof

/-! ### Frames (Tables 5.2 to 5.5) -/

/-- A link frame: header, payload and CRC. -/
def glFrame (hdr : Nat) (payload : List Byte) : List Byte :=
  let b := leBytes 4 hdr ++ padTo 56 payload
  b ++ leBytes 4 (crc32c b)

/-- The fields of a received frame. -/
def frKind (f : List Byte) : Nat := leAt f 0 4 % 8
def frClass (f : List Byte) : Nat := bits (leAt f 0 4) 4 3
def frSom (f : List Byte) : Bool := bit (leAt f 0 4) 5
def frEom (f : List Byte) : Bool := bit (leAt f 0 4) 6
def frLen (f : List Byte) : Nat := bits (leAt f 0 4) 12 7
def frSeq (f : List Byte) : BitVec 8 := BitVec.ofNat 8 (bits (leAt f 0 4) 20 13)
def frAck (f : List Byte) : BitVec 8 := BitVec.ofNat 8 (bits (leAt f 0 4) 28 21)
def frAckv (f : List Byte) : Bool := bit (leAt f 0 4) 29

/-- Whether the CRC of a frame passes (R172). -/
def frCrcOk (f : List Byte) : Bool := decide (f.length = 64) && decide (crc32c (f.take 60) = leAt f 60 4)

/-- Whether kind and reserved header bits are those a receiver accepts (R172, Table 5.3).
Log: entry 16 (DEDUCED; DESIGN CHOICE). -/
def frHdrOk (f : List Byte) : Bool :=
  let h := leAt f 0 4
  decide (h % 8 ≤ 3) && decide (bits h 31 30 = 0) && (decide (h % 8 = 1) || decide (bits h 20 3 = 0))

/-- The ACK bits every frame carries (R177). -/
def GlLink.ackBits (l : GlLink) : Nat := l.ack.toNat * 2 ^ 21 + b2n l.ackv * 2 ^ 29

/-- A DATA frame as sent now (R178): only ACK, ACKV and CRC are the sender's current ones. -/
def GlLink.dataFrame (l : GlLink) (t : TxFrame) : List Byte :=
  glFrame (1 + 8 * t.cls + 32 * b2n t.som + 64 * b2n t.eom + 128 * (t.data.length - 1) + 2 ^ 13 * t.seq.toNat + l.ackBits)
    t.data

/-- The four counts of freed buffers as bytes. -/
def GlLink.freedBytes (l : GlLink) : List Byte := l.freed.flatMap fun v => leBytes 2 v.toNat

/-- CTL payloads (Table 5.4). -/
def ctlCredit (l : GlLink) : List Byte := leBytes 1 2 ++ leBytes 1 1 ++ leBytes 3 0 ++ l.freedBytes
def ctlNak (expect : BitVec 8) : List Byte := leBytes 1 2 ++ leBytes 1 2 ++ leBytes 1 expect.toNat ++ leBytes 2 0
def ctlLane (p : Pair) : List Byte := leBytes 1 2 ++ leBytes 1 3 ++ leBytes 1 (pairCode p) ++ leBytes 2 0
def ctlRate (shadow answer : Bool) : List Byte :=
  leBytes 1 2 ++ leBytes 1 4 ++ leBytes 1 (b2n shadow) ++ leBytes 1 (b2n answer) ++ leBytes 1 0

/-- The other part. -/
def otherPart : Part → Part
  | .ailen => .gremon
  | .gremon => .ailen

/-- An INIT payload (Table 5.5): the grants are those this side gives the far one. -/
def initFrame (p : Part) (resume : Bool) (next : BitVec 8) (epoch : Word) : List Byte :=
  leBytes 1 3 ++ leBytes 1 (b2n (decide (p = .gremon))) ++ leBytes 1 (b2n resume) ++ leBytes 1 next.toNat ++ leBytes 1 0 ++
    leBytes 4 epoch.toNat ++ (glGrants (otherPart p)).flatMap (leBytes 1)

/-! ### Line coding (R170) -/

/-- The self-synchronising scrambler x⁵⁸ + x³⁹ + 1 over bits in the order sent, its last 58 output bits newest first. -/
def scramble (st : List Bool) : List Bool → List Bool × List Bool
  | [] => ([], st)
  | d :: t =>
    let b := xor d (xor (st.getD 38 false) (st.getD 57 false))
    let r := scramble (b :: st.take 57) t
    (b :: r.1, r.2)

/-- A number from bits, least significant first. -/
def ofBits (bs : List Bool) : Nat := bs.foldr (fun b n => b2n b + 2 * n) 0

/-- The eight blocks of a frame: sync header 10 on the first, 01 on the others, and 64 scrambled bits (R170, R171).
Log: entry 16 (DEDUCED; DESIGN CHOICE). -/
def lineBlocks (st : List Bool) (f : List Byte) : List (Nat × W64) × List Bool :=
  let r := scramble st (f.flatMap fun b => bitsOf 8 b.toNat)
  ((chunks 64 8 r.1).mapIdx fun i g => (if i = 0 then 2 else 1, BitVec.ofNat 64 (ofBits g)), r.2)

/-- A frame goes on the pair carrying traffic, or on both; on a standby pair in lock a NULL frame goes beside it (R189). -/
def GlLink.put (l : GlLink) (f : List Byte) (both : Bool) : GlLink :=
  let r := lineBlocks l.scrTx f
  { l with wire := f, wireBoth := both, wireStby := if both then f else if l.stbyOk then glFrame l.ackBits [] else []
           line := r.1, scrTx := r.2 }

/-- A training word (Table 5.8 step 3), one block with sync header 10; a retrain uses the settings saved and sends none
(R186).
Log: entry 16 (DEDUCED; DESIGN CHOICE). -/
def GlLink.train (l : GlLink) : GlLink :=
  if l.eqSaved then l
  else
    let w := padTo 8 (leBytes 1 0x5C ++ [Config.trainRequest l.trained] ++ leBytes 1 (b2n (Config.trainDone l.trained)))
    { l with wire := w, wireBoth := true, wireStby := w, line := [(2, BitVec.ofNat 64 (ofLe w))], trained := l.trained + 1 }

/-! ### What a link event leaves its part to do -/

/-- News of one link event. -/
structure GlNews where
  retired  : List TxTag := []       -- tags of messages whose last frame was acknowledged
  badMsgs  : Nat := 0               -- messages discarded under R173 or R195
  fresh    : Bool := false          -- the link started fresh (R181)
  takeover : Option Nat := none     -- a takeover, with its cause (R191)
  failed   : Bool := false          -- the lane failed and retrains
deriving DecidableEq, Repr

/-! ### Acknowledgement and go-back -/

/-- How many of the frames in flight `ack` retires: those up to the one that carries it. -/
def ackCount (ack : BitVec 8) : List TxFrame → Option Nat
  | [] => none
  | f :: t => if f.seq = ack then some 1 else (ackCount ack t).map (· + 1)

/-- An ACK arrives (R175, R177, R178): frames are retired and a replay skips them.
Log: entry 16 (DEDUCED; DESIGN CHOICE). -/
def GlLink.takeAck (l : GlLink) (ackv : Bool) (ack : BitVec 8) : GlLink × List TxTag :=
  if !ackv then (l, [])
  else match ackCount ack l.replay with
    | none => (l, [])
    | some n =>
      let at' := match l.replayAt with
        | some i => if i - n < (l.replay.drop n).length then some (i - n) else none
        | none => none
      ({ l with replay := l.replay.drop n, replayAt := at', goBacks := 0 },
       ((l.replay.take n).filter (·.eom)).map (·.tag))

/-- Move transmission to pair `p` and replay from the oldest unacknowledged frame (R190). -/
def GlLink.moveTo (l : GlLink) (p : Pair) : GlLink :=
  { l with active := p, stbyOk := false, replayAt := if l.replay.isEmpty then none else some 0,
           takeovers := sat 255 (l.takeovers + 1), goBacks := 0 }

/-- The pair other than `p`. -/
def otherPair : Pair → Pair
  | .working => .standby
  | .standby => .working

/-- The pair carrying traffic has failed with `cause` (R178, R187, R188, R190): takeover when the other is in lock,
otherwise the lane retrains. A REFUSED lane stays UP (R203). -/
def GlLink.fail (l : GlLink) (cause : Nat) : GlLink × GlNews :=
  if l.stbyOk ∧ (l.st = .up ∨ l.st = .refused) then
    let p := otherPair l.active
    ({ (l.moveTo p) with ctl := l.ctl ++ [ctlLane p] }, { takeover := some cause })
  else
    ({ l with st := .training, lock := false, stbyOk := false, initSeen := false, goBacks := 0 }, { failed := true })

/-- One go-back (R178); the sixteenth in a row fails the lane. -/
def GlLink.goBack (l : GlLink) : GlLink × GlNews :=
  if l.replay.isEmpty then (l, {})
  else
    let l := { l with replayAt := some 0, goBacks := l.goBacks + 1, goBackCnt := l.goBackCnt + 1 }
    if l.goBacks ≥ 16 then l.fail 2 else (l, {})

/-! ### The frame slot (R182) -/

/-- Whether a message may leave while the link waits for ENUM_ACK (R202). -/
def heldMay (m : TxMsg) : Bool :=
  let t := leAt m.bytes 0 1
  decide (t = 0x23) || decide (t = 0x30) || decide (t = 0x20)

/-- Whether a message may leave in SHADOW (R194): of what AILEN sends, not SHARD, SEGD, SCREEN, TRACE or an ordinary
sample block. Gremon sends none of these. -/
def shadowMay (m : TxMsg) : Bool :=
  let t := leAt m.bytes 0 1
  !(decide (t = 3) || decide (0x11 ≤ t) && decide (t ≤ 0x13) || decide (t = 1) && !bit (leAt m.bytes 14 2) 6)

/-- The index of the next message of class `c`: the started one, else the first in order; within BULK SAMPLE, then
VIGIL, then TRACE (R182). -/
def GlLink.nextMsg (l : GlLink) (c : Nat) : Option Nat :=
  let q := nth [] l.tx c
  let ok := fun (m : TxMsg) => (!l.held || heldMay m) && (!l.shadowRate || shadowMay m)
  match q.findIdx? (·.started) with
  | some i => some i
  | none =>
    if c = clsBulk then
      let pick := fun ty => q.findIdx? fun m => ok m && decide (leAt m.bytes 0 1 = ty)
      match pick 1, pick 2 with
      | some i, _ => some i
      | none, some i => some i
      | none, none => pick 3
    else q.findIdx? ok

/-- Whether class `c` has a frame ready. -/
def GlLink.ready (l : GlLink) (c : Nat) : Bool :=
  (l.nextMsg c).isSome && decide (nth 0 l.credits c > 0) && decide (l.replay.length < 128)

/-- The class of the new DATA frame to send, if any (R182, steps 3 to 6). -/
def GlLink.pickClass (l : GlLink) : Option Nat :=
  if l.ready clsTime then some clsTime
  else if l.ready clsCtrl && !(decide (l.sinceCtrl ≥ 8) && l.ready clsEvent) then some clsCtrl
  else if l.ready clsEvent && !(decide (l.sinceEvent < 3) && l.ready clsBulk) then some clsEvent
  else if l.ready clsBulk then some clsBulk
  else none

/-- Send the next frame of class `c`: the message's next 56 bytes. `patch` changes a message as its first frame
leaves (R197). -/
def GlLink.sendData (l : GlLink) (c : Nat) (patch : List Byte → List Byte) : GlLink :=
  let q := nth [] l.tx c
  match l.nextMsg c with
  | none => l
  | some i => match q[i]? with
    | none => l
    | some m =>
      let bs := if m.started then m.bytes else patch m.bytes
      let rest := bs.drop 56
      let f : TxFrame :=
        { cls := c, som := !m.started, eom := rest.isEmpty, seq := l.nextSeq, data := bs.take 56, tag := m.tag }
      let q' := if rest.isEmpty then q.eraseIdx i else q.set i { m with bytes := rest, started := true }
      { l with
        tx := setNth l.tx c q'
        nextSeq := l.nextSeq + 1
        credits := setNth l.credits c (nth 0 l.credits c - 1)
        replay := l.replay ++ [f]
        sinceCtrl := if c = clsCtrl then l.sinceCtrl + 1 else 0
        sinceEvent := if c = clsEvent then 0 else min 3 (l.sinceEvent + 1) }.put (l.dataFrame f) false

/-- One frame slot (R171, R182); a lane in training sends training words. -/
def GlLink.slot (l : GlLink) (patch : List Byte → List Byte) : GlLink :=
  let null := l.put (glFrame l.ackBits []) false
  let ctl := fun (f : List Byte) (r : List (List Byte)) =>
    ({ l with ctl := r } : GlLink).put (glFrame (leAt f 0 1 + l.ackBits) (f.drop 1)) (decide (leAt f 1 1 = 3))
  if l.st = .training then l.train
  else if l.st = .init then
    match l.ctl with
    | f :: r => ctl f r
    | [] => null
  else if !l.st.open then l
  else match l.replayAt with
    | some i => match l.replay[i]? with
      | some f =>
        ({ l with replayAt := if i + 1 < l.replay.length then some (i + 1) else none } : GlLink).put (l.dataFrame f) false
      | none => null
    | none => match l.ctl with
      | f :: r => ctl f r
      | [] => match l.pickClass with
        | some c => l.sendData c patch
        | none => null

/-! ### Messages received -/

/-- The class a message type travels in (Table 5.11). -/
def glTypeClass (ty : Nat) : Option Nat :=
  if ty = 1 ∨ ty = 2 ∨ ty = 3 then some clsBulk
  else if 0x10 ≤ ty ∧ ty ≤ 0x13 then some clsEvent
  else if 0x20 ≤ ty ∧ ty ≤ 0x24 then some clsCtrl
  else if ty = 0x30 ∨ ty = 0x31 then some clsTime
  else none

/-- Whether messages of the type travel toward part `p` (Table 5.11). -/
def glToward (p : Part) (ty : Nat) : Bool :=
  match p with
  | .gremon => decide (ty ≠ 0x21) && decide (ty ≠ 0x24) && decide (ty ≠ 0x31)
  | .ailen => decide (ty = 0x20) || decide (ty = 0x21) || decide (ty = 0x24) || decide (ty = 0x31)

/-- Whether every byte of `m` from `o`, `n` bytes, is 0. -/
def zeroAt (m : List Byte) (o n : Nat) : Bool := decide (leAt m o n = 0)

/-- Whether the reserved byte 9 of the stamps at `os` is 0 (Table 4.3). -/
def stampsOk (m : List Byte) (os : List Nat) : Bool := os.all fun o => zeroAt m (o + 9) 1

/-- The reserved fields of a sample block at `o` (Tables 3.15, 3.16). -/
def blockOk (m : List Byte) (o : Nat) : Bool :=
  decide (m.length ≥ o + 24) && decide (leAt m (o + 8) 2 < 2 ^ 13) && decide (leAt m (o + 10) 2 < 2 ^ 10) && zeroAt m (o + 13) 1 &&
    zeroAt m (o + 18) 2

/-- The length and reserved fields of each message type (Tables 3.15, 5.12–5.20, R682). -/
def glBodyOk (m : List Byte) : Bool :=
  let n := m.length
  match leAt m 0 1 with
  | 0x01 => blockOk m 4
  | 0x02 =>
    let g := leAt m 16 2
    let w := 4 * ((g + 31) / 32)
    zeroAt m 18 2 && decide (leAt m 20 w < 2 ^ g) && blockOk m (20 + w)
  | 0x03 => decide (n ≥ 9) && zeroAt m 5 1 && decide (leAt m 6 2 + 8 = n) && decide (leAt m 6 2 ≤ 4096)
  | 0x10 => decide (n = 68) && zeroAt m 10 2 && stampsOk m [12]
  | 0x11 => decide (n = 80) && decide (leAt m 7 1 < 16) && zeroAt m 14 2 && zeroAt m 23 1 && zeroAt m 76 4 && stampsOk m [64]
  | 0x12 => decide (n = 24 + 16 * leAt m 7 1) && decide (1 ≤ leAt m 7 1) && decide (leAt m 7 1 ≤ 64)
  | 0x13 => decide (n = 64) && stampsOk m [20, 32]
  | 0x20 => decide (n = 72) && zeroAt m 5 3
  | 0x21 =>
    let c := leAt m 12 2
    decide (1 ≤ c) && decide (c ≤ 256) && decide (n = if leAt m 6 1 = 1 then 16 else 16 + 4 * c) &&
      decide (leAt m 7 1 < 2) && zeroAt m 14 2 &&
      (decide (leAt m 6 1 ≠ 4 ∨ c ≠ 4) || zeroAt m 28 4) && (decide (leAt m 6 1 ≠ 5 ∨ c ≠ 2) || zeroAt m 21 1)
  | 0x22 => decide (n = 12 + 4 * leAt m 8 4) && zeroAt m 7 1 && decide (leAt m 8 4 < 512)
  | 0x23 => decide (n = 552) && zeroAt m 29 3 && zeroAt m 38 2 &&
      (List.range 256).all fun p => decide (leAt m (40 + 2 * p) 2 < 512)
  | 0x24 => decide (n = 16) && zeroAt m 5 3 && decide (leAt m 8 4 < 2 ^ 19) && zeroAt m 14 2
  | 0x30 => decide (n = 8) && zeroAt m 6 2
  | 0x31 => decide (n = 32) && decide (leAt m 6 1 < 16) && stampsOk m [8, 20]
  | _ => false

/-- Whether a whole message is handed to ingest (R195). -/
def glMsgOk (p : Part) (c : Nat) (m : List Byte) : Bool :=
  decide (m.length ≥ 4) && zeroAt m 1 1 && decide (leAt m 2 2 = m.length) &&
  decide (glTypeClass (leAt m 0 1) = some c) && glToward p (leAt m 0 1) && glBodyOk m

/-- A message is complete: handed to ingest, or discarded. A refused lane takes only ENUM and TIME_REQ (R203). -/
def GlLink.finish (l : GlLink) (p : Part) (c : Nat) (m : RxOpen) : GlLink × Nat :=
  if !glMsgOk p c m.bytes then ({ l with badMsg := sat 255 (l.badMsg + 1) }, 1)
  else if l.st = .refused ∧ leAt m.bytes 0 1 ≠ 0x23 ∧ leAt m.bytes 0 1 ≠ 0x30 then (l, 0)
  else ({ l with inbox := l.inbox ++ [{ bytes := m.bytes, stamp := m.stamp }] }, 0)

/-- The bytes of an accepted DATA frame (R173): the new link and the number of messages discarded. -/
def GlLink.absorb (l : GlLink) (p : Part) (st : Stamp) (f : List Byte) : GlLink × Nat :=
  let c := frClass f
  let bs := (f.drop 4).take (min 56 (frLen f + 1))
  let l := { l with freed := setNth l.freed c (nth 0 l.freed c + 1) }
  let go := fun (l : GlLink) (o : RxOpen) (bad : Nat) =>
    if frEom f then
      let r := ({ l with rx := setNth l.rx c none }).finish p c o
      (r.1, bad + r.2)
    else ({ l with rx := setNth l.rx c (some o) }, bad)
  if frSom f then
    let bad := b2n (nth none l.rx c).isSome
    let l := { l with dropRun := setNth l.dropRun c false, badMsg := sat 255 (l.badMsg + bad), msgs := (l.msgs + 1) % 2 ^ 32 }
    go l { bytes := bs, stamp := st } bad
  else match nth none l.rx c with
    | some o => go l { o with bytes := o.bytes ++ bs } 0
    | none =>
      if nth false l.dropRun c then (l, 0)
      else ({ l with dropRun := setNth l.dropRun c true, badMsg := sat 255 (l.badMsg + 1) }, 1)

/-- A frame that passes CRC and header checks carries an ACK in any kind (R177). -/
def GlLink.ackOf (l : GlLink) (f : List Byte) : GlLink × List TxTag :=
  if l.st.open then l.takeAck (frAckv f) (frAck f) else (l, [])

/-- The front of every reception: `k` is run on a frame of kind `kind` that passes (R172). -/
def GlLink.onFrame (l : GlLink) (kind : Nat) (f : List Byte) (k : GlLink → GlLink × GlNews) : GlLink × GlNews :=
  if !frCrcOk f then ({ l with crcErr := l.crcErr + 1 }, {})
  else if !frHdrOk f ∨ frKind f ≠ kind then (l, {})
  else
    let r := l.ackOf f
    let n := k r.1
    (n.1, { n.2 with retired := r.2 ++ n.2.retired })

/-- A DATA frame arrives on pair `pr` (R173, R176). One on the standby pair takes the far side's takeover as begun; a pair
that has failed and is not yet back in lock is no standby pair, and its frames are only accepted (R190, R191). -/
def GlLink.rxData (l : GlLink) (p : Part) (pr : Pair) (st : Stamp) (f : List Byte) : GlLink × GlNews :=
  l.onFrame 1 f fun l =>
    if !l.st.open then (l, {})
    else
      let tk := decide (pr ≠ l.active) && l.stbyOk && decide (l.st = .up ∨ l.st = .refused)
      let l := { (if tk then l.moveTo pr else l) with farOpen := true }
      let nt := if tk then some 3 else none
      if frSeq f = l.expect then
        let l := { l with expect := l.expect + 1, ack := frSeq f, ackv := true, nakOpen := false }
        let r := l.absorb p st f
        (r.1, { badMsgs := r.2, takeover := nt })
      else if l.nakOpen then (l, { takeover := nt })
      else ({ l with nakOpen := true, ctl := l.ctl ++ [ctlNak l.expect] }, { takeover := nt })

/-- A NULL frame (R177). -/
def GlLink.rxNull (l : GlLink) (f : List Byte) : GlLink × GlNews := l.onFrame 0 f fun l => (l, {})

/-- The front of a CTL reception: CTYPE `ty`, byte 7 reserved. -/
def GlLink.onCtl (l : GlLink) (ty : Nat) (f : List Byte) (k : GlLink → GlLink × GlNews) : GlLink × GlNews :=
  l.onFrame 2 f fun l => if l.st.open ∧ leAt f 4 1 = ty ∧ leAt f 7 1 = 0 then k { l with farOpen := true } else (l, {})

/-- CREDIT (R179, Table 5.4). -/
def GlLink.rxCredit (l : GlLink) (f : List Byte) : GlLink × GlNews :=
  l.onCtl 1 f fun l =>
    let new := (List.range 4).map fun c => BitVec.ofNat 16 (leAt f (8 + 2 * c) 2)
    let cr := (List.range 4).map fun c => nth 0 l.credits c + (nth 0 new c - nth 0 l.freedSeen c).toNat
    ({ l with credits := cr, freedSeen := new }, {})

/-- NAK (R178). -/
def GlLink.rxNak (l : GlLink) (f : List Byte) : GlLink × GlNews := l.onCtl 2 f GlLink.goBack

/-- LANE (R190); in SHADOW takeover is unavailable (R192). -/
def GlLink.rxLane (l : GlLink) (f : List Byte) : GlLink × GlNews :=
  l.onCtl 3 f fun l =>
    let p := if leAt f 5 1 = 1 then Pair.standby else Pair.working
    if p ≠ l.active ∧ leAt f 5 1 ≤ 1 ∧ l.shadowRate = false then (l.moveTo p, { takeover := some 3 }) else (l, {})

/-- Begin the INIT exchange (Table 5.8 step 5): RESUME when sequence state is kept. ACKV is 0 until a DATA frame arrives
(Table 5.3).
Log: entry 16 (DEDUCED; DESIGN CHOICE). -/
def GlLink.startInit (l : GlLink) (p : Part) : GlLink :=
  let ep := if l.keeps then l.epoch else l.epoch + 1
  { l with st := .init, initSeen := false, farOpen := false, ackv := false, initSent := some (l.keeps, l.expect, ep), epoch := ep,
           ctl := [initFrame p l.keeps l.expect ep] }

/-- RATE (R193): Gremon answers a request and changes; AILEN changes on the answer. The link then resumes (R181). -/
def GlLink.rxRate (l : GlLink) (p : Part) (f : List Byte) : GlLink × GlNews :=
  l.onCtl 4 f fun l =>
    let sh := decide (leAt f 5 1 = 1)
    if p = .gremon ∧ leAt f 6 1 = 0 then
      let l := { l with shadowRate := sh, stbyOk := false, wireBoth := false }.startInit p
      ({ l with ctl := ctlRate sh true :: l.ctl }, {})
    else if p = .ailen ∧ leAt f 6 1 = 1 then (({ l with shadowRate := sh, stbyOk := false }).startInit p, {})
    else (l, {})

/-- A fresh start of this side (R181).
Log: entry 16 (DEDUCED; DESIGN CHOICE). -/
def GlLink.startFresh (l : GlLink) (grants : List Nat) : GlLink :=
  { l with st := .enum, nextSeq := 0, expect := 0, ack := 0, ackv := false, nakOpen := false, replay := []
           replayAt := none, credits := grants, freedSeen := [0, 0, 0, 0], freed := [0, 0, 0, 0]
           freedSent := [0, 0, 0, 0], rx := [none, none, none, none], dropRun := [false, false, false, false]
           tx := l.tx.map fun q => q.filter fun m => !m.started
           goBacks := 0, sinceCtrl := 0, sinceEvent := 3, initSeen := true, msgs := 0, keeps := true, rest := .enum }

/-- The state a resumed link returns to: the one it left, at the rate it runs.
Log: entry 16 (DEDUCED; DESIGN CHOICE). -/
def GlLink.resumed (l : GlLink) : GlState := if l.rest = .up ∧ l.shadowRate = true then .shadow else l.rest

/-- This side starts fresh on an INIT `f` (R181); where it had offered to resume, it says so with a new epoch (R180).
Log: entry 16 (DEDUCED; DESIGN CHOICE). -/
def GlLink.goFresh (l : GlLink) (p : Part) (f : List Byte) : GlLink × GlNews :=
  let offered : Bool := match l.initSent with
    | some (r, _, _) => r
    | none => false
  let ep := if offered then l.epoch + 1 else l.epoch
  let l := { l with epoch := ep, initSent := some (false, 0, ep), ctl := [initFrame p false 0 ep] }
  ({ (l.startFresh ((List.range 4).map fun c => leAt f (12 + c) 1)) with farEpoch := BitVec.ofNat 32 (leAt f 8 4), farOpen := false },
    { fresh := true })

/-- INIT (R181): resume when both sides kept their state, otherwise a fresh start; a side that has resumed starts fresh when
the far side turns out to have. A side that is already open repeats its own INIT until the far side is open too (R185).
Log: entry 16 (DEDUCED; DESIGN CHOICE). -/
def GlLink.rxInit (l : GlLink) (p : Part) (f : List Byte) : GlLink × GlNews :=
  l.onFrame 3 f fun l =>
    let role := leAt f 4 1
    if role ≠ b2n (decide (p = .ailen)) ∨ leAt f 7 1 ≠ 0 ∨ l.st = .down ∨ l.st = .training then (l, {})
    else
      let l := if l.st = .init ∨ l.initSeen then l else l.startInit p
      let mine : Bool := match l.initSent with
        | some (r, _, _) => r
        | none => false
      let same := decide (leAt f 5 1 = 1) && decide (BitVec.ofNat 32 (leAt f 8 4) = l.farEpoch)
      if l.initSeen then (if mine && decide (leAt f 5 1 = 0) then l.goFresh p f
        else if leAt f 5 1 = 0 then ({ l with farEpoch := BitVec.ofNat 32 (leAt f 8 4), farOpen := false }, {})
        else ({ l with farOpen := false }, {}))
      else if mine && same then
        let r := l.takeAck true (BitVec.ofNat 8 (leAt f 6 1) - 1)
        let l := r.1
        ({ l with st := l.resumed, initSeen := true, replayAt := if l.replay.isEmpty then none else some 0 },
         { retired := r.2 })
      else l.goFresh p f

/-- Timers of an open link (R176, R178, R179, R185). -/
def GlLink.nakRepeat (l : GlLink) : GlLink :=
  if l.st.open && l.nakOpen then { l with ctl := l.ctl ++ [ctlNak l.expect] } else l
def GlLink.creditTimer (l : GlLink) : GlLink :=
  if l.st.open && decide (l.freed ≠ l.freedSent) then { l with ctl := l.ctl ++ [ctlCredit l], freedSent := l.freed }
  else l
def GlLink.initRepeat (l : GlLink) (p : Part) : GlLink :=
  match l.initSent with
  | some (r, n, e) =>
    if l.st = .init ∨ (l.st.open = true ∧ l.farOpen = false) then { l with ctl := l.ctl ++ [initFrame p r n e] } else l
  | none => l
def GlLink.replayTimeout (l : GlLink) : GlLink × GlNews := if l.st.open then l.goBack else (l, {})

/-- Training (R185, R187). -/
def GlLink.trainStart (l : GlLink) : GlLink :=
  if l.st = .down then { l with st := .training, lock := false, stbyOk := false } else l
/-- A training attempt fails (R187); where the other pair alone found lock the lane comes up on that one, as a standby pair does
without its partner's PD (R229).
Log: entry 16 (DEDUCED; DESIGN CHOICE). -/
def GlLink.trainFail (l : GlLink) (p : Part) : GlLink :=
  if l.st ≠ .training then l
  else if l.stbyOk then ({ l with active := otherPair l.active, lock := true, stbyOk := false, trainFails := 0, eqSaved := true }).startInit p
  else { l with trainFails := sat 255 (l.trainFails + 1) }

/-- A receiver gains block and frame lock on pair `pr` (Table 5.8 step 4): the training lane goes to INIT, and a pair
beside a running one is in lock as standby (R189). -/
def GlLink.gainLock (l : GlLink) (p : Part) (pr : Pair) (standby : Bool) : GlLink :=
  if l.st = .training then
    if pr = l.active then ({ l with lock := true, trainFails := 0, eqSaved := true }).startInit p else { l with stbyOk := true }
  else if pr ≠ l.active ∧ standby ∧ l.shadowRate = false ∧ l.st ≠ .down then { l with stbyOk := true }
  else l

/-- The pair carrying traffic loses block lock, or no frame passes for 1 µs (R188). -/
def GlLink.lossOf (l : GlLink) (cause : Nat) : GlLink × GlNews :=
  if l.st.open ∨ l.st = .init then l.fail cause else (l, {})

/-- The standby pair loses block lock (R189): true where STBY_FAIL is written. -/
def GlLink.standbyLoss (l : GlLink) : GlLink × Bool := ({ l with stbyOk := false }, l.stbyOk)

end Sys2Proof.Machine
end

