-- ==== Sys2Proof/Machine/Almanac.lean ====
section
/-! DEFINITION. Time on a node (04): the four-timestamp exchange, the servo, own-state transitions, holdover, steps
and calibration, on a clock alone; and AILEN's side of them. -/
namespace Sys2Proof.Machine
open Sys2Proof

/-! ### One clock -/

/-- The scale an exchange is measured on: PT, or LM while PT is UNSET, in sixteenths of a nanosecond. -/
def Clock.own16 (c : Clock) : Nat := if c.own = .unset then c.lm / 2 ^ 36 else c.pt16

/-- LM moved to `ns` if that is later. -/
def Clock.lmTo (c : Clock) (ns : Nat) : Clock := c.elapse (ns * tickUnit - c.lm)

/-- An exchange interval: 125 µs × 2ⁿ, n held to 7 (R197, Table 4.18). -/
def intervalNs (n : Nat) : Nat := 125000 * 2 ^ min n 7

/-- θ and D of an exchange, in sixteenths (R147).
Log: entry 13 (DEDUCED; DESIGN CHOICE). -/
def thetaOf (t1 t2 t3 t4 asym : Int) : Int := floorDiv ((t4 - t3) - (t2 - t1) + asym) 2
/-- Log: entry 13 (DEDUCED; DESIGN CHOICE). -/
def roundTrip (t1 t2 t3 t4 : Int) : Int := (t4 - t1) - (t3 - t2)

/-- What an exchange did beside moving the rate. -/
structure TimeNews where
  set     : Bool := false            -- PT left UNSET
  stepped : Option (Nat × Nat) := none   -- PT before and after a step, sixteenths of a nanosecond
  held    : Bool := false            -- HOLDOVER was entered
  expired : Bool := false            -- HOLD_EXPIRED
deriving DecidableEq, Repr

/-- PT moved by `d` sixteenths in one cycle. -/
def Clock.jump (c : Clock) (d : Int) : Clock := { c with pt := ((c.pt : Int) + d * 2 ^ 36).toNat }

/-- LOCK_THR, STEP_THR and the rejection margin, in sixteenths (R149, R150). -/
def lockThr : Int := 128
def stepThr : Int := 16000

/-- y held within SLEW_MAX, `ppm`, of y_int. -/
def clampY (yInt y : Int) (ppm : Nat) : Int :=
  let lim : Int := (ppm * (10 * 2 ^ 40) / 1000000 : Nat)
  max (yInt - lim) (min (yInt + lim) y)

/-- SLEW_MAX of GR_ALM_CFG: 1–100, other values 100 (Table 4.18). -/
def slewPpm (v : Nat) : Nat := if 1 ≤ v ∧ v ≤ 100 then v else 100

/-- The servo on an accepted exchange (R149, Table 4.10): θ in sixteenths, the interval in ns.
Log: entry 13 (DEDUCED; DESIGN CHOICE). -/
def Clock.servo (c : Clock) (theta : Int) (iNs ppm : Nat) : Clock × TimeNews :=
  let c := { c with lastOk := c.lmNs }
  if c.own = .unset then
    let pt := ((c.lm / 2 ^ 36 : Nat) : Int) - theta
    ({ c with own := .free, pt := pt.toNat * 2 ^ 36, okRun := 0, stepRun := 0 }, { set := true })
  else if theta > stepThr ∨ theta < -stepThr then
    if c.stepRun + 1 ≥ 2 then
      let d := (c.jump (-theta))
      ({ d with own := .free, stepRun := 0, okRun := 0 }, { stepped := some (c.pt16, d.pt16) })
    else ({ c with stepRun := c.stepRun + 1, okRun := 0 }, {})
  else
    let k : Int := theta * (10 * 2 ^ 40)
    let yInt := c.yInt - floorDiv k ((16 * 256 * iNs : Nat) : Int)
    let y := clampY yInt (yInt - floorDiv k ((16 * 8 * iNs : Nat) : Int)) ppm
    let ok := decide (-lockThr ≤ theta) && decide (theta ≤ lockThr)
    let run := if ok then c.okRun + 1 else 0
    let lock := decide (run ≥ 8) && (decide (c.own = .free) || decide (c.own = .holdover))
    ({ c with yInt := yInt, y := y, okRun := run, stepRun := 0, own := if lock then .locked else c.own }, {})

/-- A response arrives with T2, T3 at own-scale `t4` (R146–R149): the round trip is filtered against the last
sixteen, the first four after a retrain or takeover measure D only (R148).
Log: entry 13 (DEDUCED; DESIGN CHOICE). -/
def Clock.exchange (c : Clock) (t2 t3 : Stamp) (t4 : Nat) (asym : Int) (iNs ppm : Nat) : Clock × TimeNews :=
  if t3.qual = .unset then ({ c with waiting := false }, {})
  else
    let d := roundTrip c.t1 t2.sixteenths t3.sixteenths t4
    let th := thetaOf c.t1 t2.sixteenths t3.sixteenths t4 asym
    let hist := (c.hist ++ [d.toNat]).drop ((c.hist.length + 1) - 16)
    let lo := hist.foldl min d.toNat
    if c.measure > 0 then ({ c with waiting := false, hist := hist, measure := c.measure - 1 }, {})
    else if d > lo + 32 then ({ c with waiting := false }, {})
    else
      ({ c with waiting := false, hist := hist, master := t3.qual, uMaster := t3.unc.toNat }).servo th iNs ppm

/-- The loss timeout (Table 4.10): LOCKED becomes HOLDOVER with y frozen at y_int; `u` is U at the entry.
Log: entry 13 (DEDUCED; DESIGN CHOICE). -/
def Clock.hold (c : Clock) (u : Nat) : Clock × TimeNews :=
  if c.own = .locked then
    ({ c with own := .holdover, y := c.yInt, holdFrom := c.lmNs, uEntry := u, okRun := 0, stepRun := 0 }, { held := true })
  else (c, {})

/-- HOLD_MAX of GR_ALM_CFG in quarter ns: units of 8 ns, 0 means 8 ns (Table 4.18). -/
def holdMax (v : Nat) : Nat := 32 * (if v = 0 then 1 else v)

/-- HOLDOVER ends FREE once U exceeds HOLD_MAX (Table 4.10, R152).
Log: entry 13 (DEDUCED; DESIGN CHOICE). -/
def Clock.expire (c : Clock) (a maxQ : Nat) : Clock × TimeNews :=
  if c.own = .holdover ∧ holdoverU c.uEntry (c.lmNs - c.holdFrom) a > maxQ then
    ({ c with own := .free, okRun := 0, stepRun := 0 }, { expired := true })
  else (c, {})

/-- A calibration change of `d` sixteenths is slewed into PT (R140).
Log: entry 13 (DEDUCED; DESIGN CHOICE). -/
def Clock.calibrate (c : Clock) (d : Int) : Clock :=
  if c.own = .unset then c else { c with slew := c.slew + d * 2 ^ 36 }

/-! ### AILEN -/

/-- A stamp moved to a reading in sixteenths of a nanosecond. -/
def stampAt16 (s : Stamp) (n : Nat) : Stamp := { s with ns := BitVec.ofNat 64 (n / 16), sub := BitVec.ofNat 4 n }

/-- PT was stepped from inside frame `f` (Table 1.6): forward past a boundary, one latch at the step, labelled f with
STEP; backward, no latch until the first boundary after the last latched frame. -/
def Ailen.afterStep (a : Ailen) (before16 after16 : Nat) (cutOfs : BitVec 16) : Ailen :=
  let before := before16 / 16
  let after := after16 / 16
  if a.frameNs = 0 then a
  else
    let f := a.cap.openFrame
    let n := after / a.frameNs
    if after < before then { a with cap := { a.cap with stepped := true } }
    else if n ≤ f then a
    else
      let live := a.latching && a.cap.counting
      let a := { a with cap := { a.cap with stepped := true } }
      let a := a.holdBlocks
      let a := if live then ((a.latchFrame [] cutOfs f (f * a.frameNs) after false).closeInterval []).flushMark else a
      { a with cap := { a.cap with openFrame := n, stepped := if live then false else true } }

/-- What a change of AILEN's clock brings with it. -/
def Ailen.timeNews (a : Ailen) (n : TimeNews) (cutOfs : BitVec 16) : Ailen :=
  let a := if n.set then
      { a with cap := { a.cap with openFrame := if a.frameNs = 0 then 0 else a.now / a.frameNs, disc := true }
               regs := a.regs.rescale a.clock.lmNs a.now }
    else a
  let a := match n.stepped with
    | some (b, e) => (a.raise .timeStep ((stampAt16 a.stamp b).bytes ++ (stampAt16 a.stamp e).bytes)).afterStep b e cutOfs
    | none => a
  let a := if n.held then a.raise .holdover [] else a
  if n.expired then a.raise .holdExpired [] else a

/-- AILEN's exchange interval in ns: 8 ms in SHADOW (Table 4.7). -/
def Ailen.interval (a : Ailen) : Nat := if a.pwr = .shadow then 8000000 else intervalNs a.intv

/-- TIME_EXCHANGE_OPEN in AILEN (R146, R197): a TIME_REQ with the next EXID; t1 is stamped as it leaves. -/
def Ailen.openExchange (a : Ailen) : Ailen :=
  if a.aoReset || !a.gl.st.open then a
  else
    let x := a.clock.exid + 1
    { a with clock := { a.clock with exid := x, waiting := false }
             gl := a.gl.queue clsTime (glMsg 0x30 (leBytes 2 x.toNat ++ leBytes 2 0)) }

/-- TIME_RSP_RX in AILEN (R147–R150, R198). `ppm` is SLEW_MAX of its Gremon, `asym` the A of the pair in use.
Log: entry 13 (DEDUCED; DESIGN CHOICE). -/
def Ailen.timeRsp (a : Ailen) (asym : Int) (ppm : Nat) (cutOfs : BitVec 16) : Ailen :=
  match takeFirst (fun m => decide (leAt m.bytes 0 1 = 0x31)) a.gl.inbox with
  | none => a
  | some (m, r) =>
    let a := { a with gl := { a.gl with inbox := r } }
    let t4 := m.stamp.sixteenths
    if a.aoReset ∨ a.clock.waiting = false ∨ leAt m.bytes 4 2 ≠ a.clock.exid.toNat ∨ t4 > a.clock.t1 + 1600000 then a
    else
      let t3 := Stamp.ofBytes m.bytes 20
      let i := a.interval
      let c := a.clock.exchange (Stamp.ofBytes m.bytes 8) t3 t4 asym i ppm
      let a := if t3.qual = .unset then a else { a with intv := min 7 (leAt m.bytes 6 1 % 16), drift := leAt m.bytes 7 1 }
      ({ a with clock := c.1 }).timeNews c.2 cutOfs

/-- LOCK_LOSS_TIMEOUT in AILEN (R150): eight intervals of LM after the last accepted exchange. -/
def Ailen.lockLoss (a : Ailen) : Ailen :=
  if a.aoReset ∨ a.clock.own ≠ .locked then a
  else
    let a := { a with clock := a.clock.lmTo (a.clock.lastOk + 8 * a.interval) }
    let c := a.clock.hold a.uncert
    ({ a with clock := c.1 }).timeNews c.2 0

/-- HOLD_EXPIRED in AILEN (R152). -/
def Ailen.holdExpire (a : Ailen) (holdMaxField : Nat) : Ailen :=
  if a.aoReset then a
  else
    let c := a.clock.expire a.driftA (holdMax holdMaxField)
    ({ a with clock := c.1 }).timeNews c.2 0

/-- The ordered step of pod time in AILEN (R144). -/
def Ailen.ptStep (a : Ailen) (tick : Nat) (amount : Int) (cutOfs : BitVec 16) : Ailen :=
  if a.aoReset ∨ a.clock.own ≠ .locked then a
  else
    let a := a.moveTo tick
    let c := a.clock.jump (16 * amount)
    let b := a.clock.pt16
    ({ a with clock := c }).afterStep b c.pt16 cutOfs

/-! ### AILEN's end of the link -/

/-- ENUM (Table 5.20). -/
def Ailen.enumMsg (a : Ailen) : List Byte :=
  glMsg 0x23 (leBytes 4 (a.live 0) ++ leBytes 4 (a.live 4) ++ leBytes 4 (a.live 8) ++ leBytes 4 (a.live 0x10) ++
    leBytes 4 (a.live 0x14) ++ leBytes 1 a.enumCause ++ leBytes 1 a.clock.reported.code ++ leBytes 2 a.ucodeRun.toNat ++
    leBytes 1 (a.fld 0x1008 23 16) ++ leBytes 3 0 ++ leBytes 4 (a.reg 0x100C) ++ leBytes 2 (a.recWr - a.recAck) ++
    leBytes 2 0 ++ (List.range 256).flatMap fun p => leBytes 2 (a.reg (0x800 + 4 * p)))

/-- A fresh start in AILEN (R181, R202, R552): LINK_FRESH, ENUM ahead of all else, everything but ENUM, TIME_REQ and
MBOX held; a mailbox send in progress ends ERR_PWRDN. -/
def Ailen.freshStart (a : Ailen) : Ailen :=
  let a := a.raise .linkFresh []
  let a := if bit (a.reg 0x5044) 0 then a.mbResult 3 else a
  let q := (nth [] a.gl.tx clsCtrl).filter fun m => decide (leAt m.bytes 0 1 ≠ 0x23) && decide (leAt m.bytes 0 1 ≠ 0x22)
  let e : TxMsg := { bytes := a.enumMsg, started := false, tag := .plain }
  { a with gl := { a.gl with tx := setNth a.gl.tx clsCtrl (e :: q), held := true,
                             inbox := a.gl.inbox.filter fun m => !isCmd m }
           enumCause := 2 }

/-- The recorder's ACK follows the messages whose last frame is acknowledged (R651). -/
def Ailen.ackTags (a : Ailen) (ts : List TxTag) : Ailen :=
  ts.foldl (fun (s : Ailen) t => match t with
    | .event n => { s with recAck := max s.recAck (n + 1) }
    | _ => s) a

/-- AILEN after a link event. -/
def Ailen.linkNews (a : Ailen) (r : GlLink × GlNews) : Ailen :=
  let a := ({ a with gl := r.1 }).ackTags r.2.retired
  let a := loop (fun s => s.raise .glBadMsg []) r.2.badMsgs a
  let a := if r.2.takeover.isSome ∨ r.2.failed then { a with clock := { a.clock with measure := 4, hist := [] } } else a
  if r.2.fresh then a.freshStart else a

/-- A link event at PT `at` on AILEN's end; no macro runs without gln_ref or in reset (R92). -/
def Ailen.onLink (a : Ailen) (ns : Nat) (f : Stamp → GlLink → GlLink × GlNews) : Ailen :=
  if a.aoReset || a.refLost then a
  else
    let a := a.moveTo ns
    a.linkNews (f { a.stamp with ns := BitVec.ofNat 64 (a.clock.own16 / 16), sub := BitVec.ofNat 4 a.clock.own16 } a.gl)

/-- A cut whose tick has passed and whose bank is not yet sent (Table 2.17 step 3). -/
def Ailen.cutOpen (a : Ailen) : Bool :=
  match a.vig with
  | some v => v.bank.isSome
  | none => false

/-- RATE, asked for once the cut is made, blocks, banks and a screen's message are sent and the queues acknowledged on entry
to SHADOW, and on exit (R193). -/
def Ailen.rateWanted (a : Ailen) : Option (List Byte) :=
  if a.gl.ctl ≠ [] then none
  else if a.pwr = .entering ∧ a.cap.cutAt = none ∧ a.scr.st ≠ .closing ∧ a.gl.shadowRate = false ∧ a.cap.latched = [] ∧ a.cutOpen = false ∧ a.gl.replay = [] ∧
      a.gl.tx.all (·.isEmpty) ∧ a.trc.all (fun e => e.2.buf.isEmpty) then
    some (ctlRate true false)
  else if a.pwr = .exiting ∧ a.gl.shadowRate = true then some (ctlRate false false)
  else none

/-- GL_TX_SLOT at AILEN's end (R182): a TIME_REQ that leaves fixes t1. -/
def Ailen.txSlot (a : Ailen) (ns : Nat) : Ailen :=
  if a.aoReset || a.refLost then a
  else
    let a := a.moveTo ns
    let l := match a.rateWanted with
      | some f => { a.gl with ctl := [f] }
      | none => a.gl
    let n := l.slot id
    let req := l.pickClass = some clsTime ∧ n.nextSeq ≠ l.nextSeq
    { a with gl := n
             clock := if req then { a.clock with t1 := a.clock.own16, waiting := true } else a.clock }

/-- ENUM_ACK_RX (R202): ACCEPT releases what was held and sends the recorder's unacknowledged entries again, in
order (R595). -/
def Ailen.enumAck (a : Ailen) : Ailen :=
  match takeFirst (fun m => decide (leAt m.bytes 0 1 = 0x24)) a.gl.inbox with
  | none => a
  | some (m, r) =>
    let a := { a with gl := { a.gl with inbox := r } }
    if leAt m.bytes 4 1 ≠ 0 ∨ a.aoReset then a
    else
      let old := (nth [] a.gl.tx clsEvent).filter fun t => match t.tag with
        | .event _ => false
        | _ => true
      let again := (List.range (a.recWr - a.recAck)).filterMap fun i =>
        (Tbl.find a.recSlots ((a.recAck + i) % 1024)).map fun e =>
          ({ bytes := e.message, started := false, tag := .event (a.recAck + i) } : TxMsg)
      { a with
        ucodeLoad := BitVec.ofNat 16 (leAt m.bytes 12 2)
        gl := { a.gl with held := false, rest := .up, st := if a.gl.shadowRate then .shadow else .up
                          tx := setNth a.gl.tx clsEvent (again ++ old) } }

/-- MBOX_RX_AILEN (R552). -/
def Ailen.mboxRx (a : Ailen) : Ailen :=
  match takeFirst (fun m => decide (leAt m.bytes 0 1 = 0x20)) a.gl.inbox with
  | none => a
  | some (m, r) =>
    let a := { a with gl := { a.gl with inbox := r } }
    if a.aoReset then a
    else a.mbArrive (leAt m.bytes 4 1) ((List.range 16).map fun w => BitVec.ofNat 32 (leAt m.bytes (8 + 4 * w) 4))

/-- Training and lock at AILEN's end (R185, R187–R189). AILEN starts when gln_ref runs and the main island is out of
reset; in SHADOW the always-on island holds the link. -/
def Ailen.trainStart (a : Ailen) : Ailen :=
  if a.aoReset || a.refLost || (a.mainReset && decide (a.pwr ≠ .shadow)) then a else { a with gl := a.gl.trainStart }

end Sys2Proof.Machine
end

