-- ==== Sys2Proof/Machine/Trace.lean ====
section
/-! DEFINITION. The trace encoder of one source (20 R659–R662), generic over the two parts, and AILEN's use of it
(02 R75, R76). -/
namespace Sys2Proof.Machine
open Sys2Proof

/-- A source that has emitted nothing. -/
def TrcSrc.reset : TrcSrc :=
  { bits := [], bitAt := 0, secure := false, started := false, lastTgt := 0, bytes := 0, dropped := 0, buf := [],
    cseq := 0, syncAt := 0 }

/-- Packets of Table 20.8. -/
def pktHead (kind arg : Nat) : List Byte := leBytes 1 (kind + 16 * arg)
def pktBranch (bs : List Bool) : List Byte :=
  pktHead 1 0 ++ leBytes 4 (bs.foldr (fun b n => b2n b + 2 * n) 1)
def pktTarget (exc : Bool) (t : Nat) : List Byte := pktHead 2 (b2n exc) ++ leBytes 8 t
def pktSync (addr ctx : Nat) : List Byte := pktHead 3 0 ++ leBytes 8 addr ++ leBytes 4 ctx
def pktPt (st : Stamp) : List Byte := pktHead 4 0 ++ st.bytes
def pktDrop (n : Nat) : List Byte := pktHead 5 0 ++ leBytes 4 (sat 0xFFFFFFFF n)
def pktPwr (arg : Nat) : List Byte := pktHead 6 arg
def pktTrig : List Byte := pktHead 7 0
def pktSec (arg : Nat) : List Byte := pktHead 8 arg
def pktWait (n : Nat) : List Byte := pktHead 9 0 ++ leBytes 4 (sat 0xFFFFFFFF n)

/-- What an encoder needs of its surroundings: free bytes of its buffer, the stamp, the PC (or last target) and the
CONTEXT of a SYNC. -/
structure TrcEnv where
  room : Nat
  st   : Stamp
  at'  : Nat
  pc   : Nat
  ctx  : Nat
deriving DecidableEq, Repr

/-- Bytes of packets waiting in a source's buffer. -/
def TrcSrc.held (s : TrcSrc) : Nat := s.buf.foldl (fun n p => n + p.length) 0

/-- Put a packet into the buffer, `room` being what the other sources leave free. -/
def TrcSrc.push (s : TrcSrc) (p : List Byte) : TrcSrc := { s with buf := s.buf ++ [p], bytes := s.bytes + p.length }

/-- PT and SYNC (R661). -/
def TrcSrc.sync (s : TrcSrc) (e : TrcEnv) : TrcSrc :=
  { ((s.push (pktPt e.st)).push (pktSync e.pc e.ctx)) with bytes := 0, syncAt := e.at', started := true }

/-- Emit one packet: a buffer that cannot take it discards and counts, until 256 bytes are free; then DROP, PT and
SYNC come first (R663).
Log: entry 50 (DEDUCED). -/
def TrcSrc.emit (s : TrcSrc) (e : TrcEnv) (p : List Byte) : TrcSrc :=
  let free := e.room - s.held
  if s.dropped > 0 then
    if free < 256 then { s with dropped := s.dropped + p.length }
    else ((({ s with dropped := 0 }).push (pktDrop s.dropped)).sync e).push p
  else if p.length > free then { s with dropped := s.dropped + p.length }
  else s.push p

/-- Pending branch bits leave as a BRANCH packet (R660). -/
def TrcSrc.flush (s : TrcSrc) (e : TrcEnv) : TrcSrc :=
  if s.bits.isEmpty then s else ({ s with bits := [] }).emit e (pktBranch s.bits)

/-- Any other packet, after the pending bits (R660).
Log: entry 50 (DEDUCED). -/
def TrcSrc.packet (s : TrcSrc) (e : TrcEnv) (p : List Byte) : TrcSrc := (s.flush e).emit e p

/-- PT and then SYNC as packets that may be discarded. -/
def TrcSrc.emitSync (s : TrcSrc) (e : TrcEnv) : TrcSrc :=
  let s := (s.flush e).emit e (pktPt e.st)
  { (s.emit e (pktSync e.pc e.ctx)) with bytes := 0, syncAt := e.at', started := true }

/-- PT and SYNC are due at the start, and once 4,096 bytes or 100 µs have passed since the last SYNC (R661). -/
def TrcSrc.due (s : TrcSrc) (now : Nat) : Bool :=
  !s.started || decide (s.bytes ≥ 4096) || decide (now ≥ s.syncAt + 100000)

/-- The source before it reports a retirement: PT and SYNC if due. -/
def TrcSrc.ready (s : TrcSrc) (e : TrcEnv) : TrcSrc := if s.due e.at' then s.emitSync e else s

/-- A conditional branch retires: one bit, flushed at 30. -/
def TrcSrc.branch (s : TrcSrc) (e : TrcEnv) (taken : Bool) : TrcSrc :=
  let s := s.ready e
  let s := { s with bits := s.bits ++ [taken], bitAt := e.at' }
  if s.bits.length ≥ 30 then s.flush e else s

/-- An indirect transfer of control (R659). -/
def TrcSrc.target (s : TrcSrc) (e : TrcEnv) (exc : Bool) (t : Nat) : TrcSrc :=
  let s := s.ready e
  { (s.packet e (pktTarget exc t)) with lastTgt := BitVec.ofNat 64 t }

/-- A secure retirement produces no packet but SEC at the first (R662). -/
def TrcSrc.enterSecure (s : TrcSrc) (e : TrcEnv) : TrcSrc :=
  if s.secure then s else { (s.packet e (pktSec 0)) with secure := true }

/-- The first non-secure retirement after secure ones: SEC, PT, SYNC (R662). -/
def TrcSrc.leaveSecure (s : TrcSrc) (e : TrcEnv) : TrcSrc :=
  if s.secure then { ((s.packet e (pktSec 1)).emitSync e) with secure := false } else s

/-- Entry to a low-power state or halt: PWR and then PT; return: PT and SYNC (R661). -/
def TrcSrc.powerDown (s : TrcSrc) (e : TrcEnv) (arg : Nat) : TrcSrc := (s.packet e (pktPwr arg)).emit e (pktPt e.st)

/-- Whole packets from the head of a buffer, at most `n` bytes. -/
def takePackets : (n : Nat) → List (List Byte) → List (List Byte) × List (List Byte)
  | _, [] => ([], [])
  | n, p :: r =>
    if p.length ≤ n then
      let q := takePackets (n - p.length) r
      (p :: q.1, q.2)
    else ([], p :: r)

/-! ### AILEN -/

/-- Source `i` of AILEN: TRP streams 0–3, microsequencer 4. -/
def Ailen.src (a : Ailen) (i : Nat) : TrcSrc := Tbl.get TrcSrc.reset a.trc i

/-- AILEN with source `i` replaced. -/
def Ailen.setSrc (a : Ailen) (i : Nat) (s : TrcSrc) : Ailen := { a with trc := Tbl.set TrcSrc.reset a.trc i s }

/-- The surroundings of source `i`: the five sources share 16 KiB (R663). -/
def Ailen.trcEnv (a : Ailen) (i : Nat) : TrcEnv :=
  let others := (a.trc.filter fun e => decide (e.1 ≠ i)).foldl (fun n e => n + e.2.held) 0
  { room := 16384 - others, st := a.stamp, at' := a.clk, pc := (a.src i).lastTgt.toNat, ctx := 0 }

/-- Whether a source is traced (Table 20.10). -/
def Ailen.traced (a : Ailen) (i : Nat) : Bool :=
  bit (a.reg 0x9000) i && decide (i ≤ 4) && (decide (i = 4) || decide (i < a.build.trpStreams)) && a.mainUp &&
    decide (a.pwr = .active)

/-- TRP_RETIREMENT (R75, R76, R660, R662).
Log: entry 50 (DEDUCED). -/
def Ailen.retire (a : Ailen) (r : TrpRet) : Ailen :=
  if !a.traced r.stream || a.hclkLost then a
  else
    let e := a.trcEnv r.stream
    let s := a.src r.stream
    a.setSrc r.stream
      (if r.sec && !bit (a.reg 0x9000) 5 then s.enterSecure e
       else
         let s := s.leaveSecure e
         if r.ind then s.target e r.exc r.tgt.toNat else s.branch e r.tkn)

/-- TRACE_BRANCH_FLUSH in AILEN: 1 µs after the newest bit (R660). -/
def Ailen.traceFlush (a : Ailen) (i : Nat) : Ailen :=
  let s := a.src i
  if s.bits.isEmpty ∨ a.mainUp = false then a
  else
    let a := a.moveTo (s.bitAt + 1000)
    a.setSrc i (s.flush (a.trcEnv i))

/-- TRACE_SYNC_TIMER in AILEN (R661). -/
def Ailen.traceSync (a : Ailen) (i : Nat) : Ailen :=
  let s := a.src i
  if !s.started || !a.traced i then a
  else
    let a := if s.bytes ≥ 4096 then a else a.moveTo (s.syncAt + 100000)
    a.setSrc i (s.emitSync (a.trcEnv i))

/-- Every started source reports entry to, or return from, SHADOW (R661). -/
def Ailen.tracePower (a : Ailen) (down : Bool) : Ailen :=
  (List.range 5).foldl (fun a i =>
    let s := a.src i
    if s.started then a.setSrc i (if down then s.powerDown (a.trcEnv i) 3 else s.emitSync (a.trcEnv i)) else a) a

/-- With nothing else to send, packets of the first source that has any leave as a TRACE message (R183, R663). -/
def Ailen.traceSend (a : Ailen) : Ailen :=
  if a.gl.pickClass.isSome ∨ a.gl.ctl ≠ [] ∨ a.gl.replayAt.isSome ∨ a.gl.st ≠ .up ∨ a.gl.held = true then a
  else match (List.range 5).find? fun i => !(a.src i).buf.isEmpty with
    | none => a
    | some i =>
      let s := a.src i
      let t := takePackets 4096 s.buf
      let bs := t.1.flatten
      { (a.setSrc i { s with buf := t.2 }) with
        gl := a.gl.queue clsBulk (glMsg 3 (leBytes 1 i ++ leBytes 1 0 ++ leBytes 2 bs.length ++ bs)) }

/-- GL_TX_SLOT at AILEN's end, trace taking only slots that nothing else claims. -/
def Ailen.slot (a : Ailen) (ns : Nat) : Ailen := (a.traceSend).txSlot ns

end Sys2Proof.Machine
end

