-- ==== Sys2Proof/Machine/APorts.lean ====
section
/-! DEFINITION. AILEN's ports as the commands name them: beats of the shard taps by their place in a transfer, the ends of
the island handshake, the doorbell, the screening timers, link training, the failing window access. -/
namespace Sys2Proof.Machine
open Sys2Proof

/-- A beat with stp_sop (R78). -/
def Ailen.stpOpen (a : Ailen) (b : StpBeat) : Ailen := if b.sop then a.stpBeat b else a
/-- A beat that neither opens nor closes. -/
def Ailen.stpMiddle (a : Ailen) (b : StpBeat) : Ailen := if !b.sop && !b.eop then a.stpBeat b else a
/-- A beat with stp_eop that does not open (R487). -/
def Ailen.stpClose (a : Ailen) (b : StpBeat) : Ailen := if b.eop && !b.sop then a.stpBeat b else a

/-- pwr_sreq rises (Table 2.17 step 2); trace sources report the entry while their packets can still leave (R661). -/
def Ailen.shadowAsked (a : Ailen) (cutAt : Nat) (cutOfs : BitVec 16) : Ailen :=
  let b := a.shadowEntry cutAt cutOfs
  if b.pwr = a.pwr then b else b.tracePower true

/-- pwr_sack falls (Table 2.17 step 9). -/
def Ailen.shadowLeft (a : Ailen) : Ailen :=
  let b := a.shadowExitDone
  if b.pwr = a.pwr then b else b.tracePower false

/-- A rising edge of mbx_h2a (R84, Table 16.14): SEND while DB_SEND is 1. -/
def Ailen.doorbell (a : Ailen) : Ailen :=
  if a.aoReset || a.parityBad 0x50C4 || !bit (a.reg 0x50C4) 3 then a else a.mbSend

/-- The DUR timer expires: DUR µs after START (R502). The controller runs with its island (R92). -/
def Ailen.screenTimer (a : Ailen) : Ailen :=
  if a.scr.st = .granted ∧ a.mainUp = true then (a.moveTo (a.scr.reqAt + 1000 * a.scr.dur.toNat)).screenClose 2 [] else a

/-- No grant within WAIT ms (R501). -/
def Ailen.screenWaitOver (a : Ailen) : Ailen :=
  if a.scr.st = .request ∧ a.mainUp = true then (a.moveTo (a.scr.reqAt + 1000000 * a.screenWait)).screenClose 4 [] else a

/-- A training of AILEN's end has failed (R187). -/
def Ailen.trainRetry (a : Ailen) : Ailen := if a.aoReset || a.refLost then a else { a with gl := a.gl.trainFail .ailen }

/-- AILEN's standby receiver loses block lock (R189); the event is Gremon's. -/
def Ailen.stbyLoss (a : Ailen) : Ailen := if a.aoReset || a.refLost then a else { a with gl := a.gl.standbyLoss.1 }

/-- AILEN's receiver gains block and frame lock (Table 5.8); after a retrain the first four exchanges measure D only
(R148). -/
def Ailen.gainLock (a : Ailen) (pr : Pair) : Ailen :=
  if a.aoReset || a.refLost then a
  else
    let l := a.gl.gainLock .ailen pr a.build.standby
    { a with gl := l
             clock := if a.gl.st = .training ∧ l.st = .init then { a.clock with measure := 4, hist := [] } else a.clock }

/-- An access through AILEN's window that fails (R571): HRP is answered with hrp_err. -/
def Ailen.windowFailed (a : Ailen) : Ailen := if a.windowCode = 0 then a else a.hrpRead 0xF004

end Sys2Proof.Machine
end

