-- ==== Sys2Proof/Machine/Coder.lean ====
section
/-! DEFINITION. The residue coder (11 R361–R369): predictions, Rice groups of 64, coded blocks and their checks. -/
namespace Sys2Proof.Machine
open Sys2Proof

/-- What the predictor may use: the header's flags with PRED, and the context (Table 11.1). -/
structure CoderCtx where
  pred  : Nat
  prev1 : Option Nat
  prev2 : Option Nat
  nbl   : Option (List Nat)
  nbr   : Option (List Nat)
deriving DecidableEq, Repr

/-- The middle of three values as two's complement numbers (R363). -/
def median3 (a b c : Nat) : Nat :=
  let le := fun (x y : Nat) => decide (toInt 64 x ≤ toInt 64 y)
  let lo := if le a b then a else b
  let hi := if le a b then b else a
  if le c lo then lo else if le hi c then hi else c

/-- The prediction of an element from the two before it (R363). -/
def predict (c : CoderCtx) (i : Nat) (a1 a2 : Option Nat) : Nat :=
  match c.pred with
  | 0 => a1.getD 0
  | 1 =>
    match a1, a2 with
    | none, _ => 0
    | some x, none => x
    | some x, some y => (2 * x + (2 ^ 64 - y % 2 ^ 64)) % 2 ^ 64
  | _ =>
    let l := c.nbl.map fun v => v.getD i 0
    let r := c.nbr.map fun v => v.getD i 0
    let a := match a1, l, r with
      | some x, _, _ => x
      | none, some x, _ => x
      | none, none, some x => x
      | none, none, none => 0
    median3 a (l.getD a) (r.getD a)

/-- The residues of elements `i`, `i + 1`, … (R364). -/
def residues (c : CoderCtx) : List Nat → Nat → Option Nat → Option Nat → List Nat
  | [], _, _, _ => []
  | x :: xs, i, a1, a2 =>
    zigzag (BitVec.ofNat 64 (x + (2 ^ 64 - predict c i a1 a2))) :: residues c xs (i + 1) (some x) a1

/-- Coded bits of a group at parameter k, without G. -/
def groupLen (zs : List Nat) (k : Nat) : Nat :=
  zs.foldl (fun n z => n + (if z / 2 ^ k < 32 then k + 1 + z / 2 ^ k else 96)) 0

/-- The parameter that codes a group shortest, ties to the lower. -/
def bestK (zs : List Nat) : Nat :=
  ((List.range 64).foldl (fun (b : Nat × Nat) k =>
    let n := groupLen zs k
    if n < b.2 then (k, n) else b) (0, groupLen zs 0)).1

/-- One group's bits (R364). -/
def coderGroup (zs : List Nat) : List Bool :=
  let k := bestK zs
  if groupLen zs k ≥ 64 * zs.length then bitsOf 7 64 ++ zs.flatMap (bitsOf 64)
  else bitsOf 7 k ++ zs.flatMap fun z =>
    let q := z / 2 ^ k
    if q ≥ 32 then List.replicate 32 true ++ bitsOf 64 z else List.replicate q true ++ [false] ++ bitsOf k (z % 2 ^ k)

/-- BHDR (Table 11.3). -/
def bhdr (n : Nat) (c : CoderCtx) (pod raw : Bool) (plen : Nat) : Nat :=
  (n - 1) + 2 ^ 10 * (if raw then 0 else c.pred) + 2 ^ 12 * b2n pod + 2 ^ 13 * b2n raw + 2 ^ 14 * b2n c.prev1.isSome +
    2 ^ 15 * b2n c.prev2.isSome + 2 ^ 16 * b2n c.nbl.isSome + 2 ^ 17 * b2n c.nbr.isSome + 2 ^ 18 * plen

/-- A header and payload closed by the CRC (R365). -/
def sealBlock (h : Nat) (payload : List Byte) : List Byte :=
  let b := leBytes 4 h ++ payload
  b ++ leBytes 4 (crc32c b)

/-- A coded block of `xs` (R364–R367): the context's flags as used, RAW in pod mode when coding does not shorten.
Log: entry 36 (DEDUCED; DESIGN CHOICE). -/
def encodeBlock (xs : List Nat) (c : CoderCtx) (pod : Bool) : List Byte :=
  let c : CoderCtx := { c with
    prev2 := if c.pred = 1 then c.prev2 else none, nbl := if c.pred = 2 then c.nbl else none
    nbr := if c.pred = 2 then c.nbr else none }
  let payload := packBits ((chunks 64 (xs.length + 1) (residues c xs 0 c.prev1 c.prev2)).flatMap coderGroup)
  if pod && decide (payload.length + 8 ≥ 8 * xs.length) then
    sealBlock (bhdr xs.length { pred := 0, prev1 := none, prev2 := none, nbl := none, nbr := none } true true (8 * xs.length))
      (xs.flatMap (leBytes 8))
  else sealBlock (bhdr xs.length c pod false payload.length) payload

/-! ### Decoding -/

/-- `n` bits as a number, least significant first, and what remains; none where they end. -/
def takeBits : (n : Nat) → List Bool → Option (Nat × List Bool)
  | 0, bs => some (0, bs)
  | n + 1, b :: bs => (takeBits n bs).map fun r => (b2n b + 2 * r.1, r.2)
  | _ + 1, [] => none

/-- The one-bits before the first zero, at most 32, which is then consumed. -/
def takeOnes : (n q : Nat) → List Bool → Option (Nat × List Bool)
  | 0, q, bs => some (q, bs)
  | n + 1, q, b :: bs => if b then takeOnes n (q + 1) bs else some (q, bs)
  | _ + 1, _, [] => none

/-- One coded residue at parameter k. -/
def takeRes (k : Nat) (bs : List Bool) : Option (Nat × List Bool) :=
  match takeOnes 32 0 bs with
  | none => none
  | some (32, r) => takeBits 64 r
  | some (q, r) => (takeBits k r).map fun x => (q * 2 ^ k + x.1, x.2)

/-- `n` residues of a group. -/
def takeGroup (raw : Bool) (k : Nat) : (n : Nat) → List Bool → Option (List Nat × List Bool)
  | 0, bs => some ([], bs)
  | n + 1, bs =>
    match (if raw then takeBits 64 bs else takeRes k bs) with
    | none => none
    | some (z, r) => (takeGroup raw k n r).map fun x => (z :: x.1, x.2)

/-- The residues of `n` elements from a payload's bits; none where a G is reserved, the bits end early, or what is left
is no padding (R369 check 4). -/
def takeGroups : (fuel n : Nat) → List Bool → Option (List Nat)
  | 0, _, _ => none
  | fuel + 1, n, bs =>
    if n = 0 then (if bs.length < 8 ∧ bs.all (! ·) then some [] else none)
    else match takeBits 7 bs with
      | none => none
      | some (k, r) =>
        if k > 64 then none
        else match takeGroup (k = 64) k (min n 64) r with
          | none => none
          | some (zs, r) => (takeGroups fuel (n - min n 64) r).map (zs ++ ·)

/-- The value that zigzag codes. -/
def unzigzag (z : Nat) : Nat := if z % 2 = 0 then z / 2 else 2 ^ 64 - 1 - z / 2

/-- Elements from residues. -/
def unresidues (c : CoderCtx) : List Nat → Nat → Option Nat → Option Nat → List Nat
  | [], _, _, _ => []
  | z :: zs, i, a1, a2 =>
    let x := (predict c i a1 a2 + unzigzag z) % 2 ^ 64
    x :: unresidues c zs (i + 1) (some x) a1

/-- A decoded block, or the first check of R369 that fails.
Log: entry 36 (DEDUCED; DESIGN CHOICE). -/
def decodeBlock (bs : List Byte) (n : Nat) (pod : Bool) (ctx : CoderCtx) : Except Nat (List Nat) :=
  let h := leAt bs 0 4
  let plen := bits h 30 18
  let raw := bit h 13
  let pred := bits h 11 10
  if bs.length < 9 ∨ bs.length ≠ plen + 8 then .error 1
  else if bit h 31 = true ∨ pred = 3 ∨ bit h 12 ≠ pod ∨ bits h 9 0 + 1 ≠ n ∨ (raw = true ∧ pod = false) then .error 2
  else if crc32c (bs.take (4 + plen)) ≠ leAt bs (4 + plen) 4 then .error 3
  else
    let payload := (bs.drop 4).take plen
    if raw then (if plen = 8 * n then .ok ((List.range n).map fun i => leAt payload (8 * i) 8) else .error 4)
    else match takeGroups (n + 1) n (payload.flatMap fun b => bitsOf 8 b.toNat) with
      | none => .error 4
      | some zs =>
        let c : CoderCtx :=
          { pred := pred, prev1 := if bit h 14 then some (ctx.prev1.getD 0) else none
            prev2 := if bit h 15 then some (ctx.prev2.getD 0) else none
            nbl := if bit h 16 then some (ctx.nbl.getD []) else none, nbr := if bit h 17 then some (ctx.nbr.getD []) else none }
        .ok (unresidues c zs 0 c.prev1 c.prev2)

/-- The predictor context at bytes (Table 11.1) with `n` elements, for CENC: what its flags supply. -/
def ctxOfBytes (bs : List Byte) (n pred : Nat) : CoderCtx :=
  let fl := leAt bs 0 1
  let arr := fun (o : Nat) => (List.range n).map fun i => leAt bs (o + 8 * i) 8
  { pred := pred, prev1 := if bit fl 0 then some (leAt bs 8 8) else none, prev2 := if bit fl 1 then some (leAt bs 16 8) else none
    nbl := if bit fl 2 then some (arr 64) else none, nbr := if bit fl 3 then some (arr (64 + 8 * n)) else none }

/-- The context for CDEC: the values whatever the flags say. -/
def ctxAll (bs : List Byte) (n : Nat) : CoderCtx :=
  let arr := fun (o : Nat) => (List.range n).map fun i => leAt bs (o + 8 * i) 8
  { pred := 0, prev1 := some (leAt bs 8 8), prev2 := some (leAt bs 16 8), nbl := some (arr 64), nbr := some (arr (64 + 8 * n)) }

end Sys2Proof.Machine
end

