-- ==== Sys2Proof/Machine/Fp.lean ====
section
/-! DEFINITION. Arithmetic of the number formats of Table 7.4 (R238–R250): exact values, one rounding, flags. Flags
are numbers with the bits of Table 7.3. -/
namespace Sys2Proof.Machine
open Sys2Proof

/-! ### Flags -/

def fNX : Nat := 1
def fUF : Nat := 2
def fOF : Nat := 4
def fDZ : Nat := 8
def fNV : Nat := 16

/-! ### Formats -/

/-- Width of a format in bits (Table 7.4). -/
def fmtWidth (f : Nat) : Nat :=
  match f with
  | 0 => 64 | 1 => 64 | 2 => 32 | 3 => 32 | 4 => 64 | 5 => 32 | 6 => 16 | 7 => 16 | 8 => 8 | _ => 16

/-- The classes of formats R238 names. -/
def fmtInt (f : Nat) : Bool := decide (f ≤ 3)
def fmtSigned (f : Nat) : Bool := decide (f = 1 ∨ f = 3)
def fmtFp (f : Nat) : Bool := decide (4 ≤ f ∧ f ≤ 8)
def fmtLq (f : Nat) : Bool := decide (f = 9)

/-- Exponent bits and fraction bits of an FP format. -/
def fpExp (f : Nat) : Nat :=
  match f with
  | 4 => 11 | 5 => 8 | 6 => 8 | 7 => 5 | _ => 4
def fpFrac (f : Nat) : Nat :=
  match f with
  | 4 => 52 | 5 => 23 | 6 => 7 | 7 => 10 | _ => 3

/-- The exponent bias. -/
def fpBias (f : Nat) : Nat := 2 ^ (fpExp f - 1) - 1

/-- An FP or LQ16 value: NaN, signalling or not; an infinity; or (−1)ˢ · m · 2ᵉ exactly. -/
inductive Val where
  | nan (snan : Bool)
  | inf (s : Bool)
  | fin (s : Bool) (m : Nat) (e : Int)
deriving DecidableEq, Repr

/-- The canonical NaN (R240). -/
def canonNan (f : Nat) : Nat :=
  match f with
  | 4 => 0x7FF8000000000000 | 5 => 0x7FC00000 | 6 => 0x7FC0 | 7 => 0x7E00 | 8 => 0x7F | _ => 0x8000

/-- The value of a code of an FP format (R239, R241). -/
def fpDecode (f w : Nat) : Val :=
  let eb := fpExp f
  let fb := fpFrac f
  let s := w.testBit (eb + fb)
  let e := bits w (eb + fb - 1) fb
  let m := w % 2 ^ fb
  let top := 2 ^ eb - 1
  if f = 8 then
    if e = top ∧ m = 7 then .nan false
    else if e = 0 then .fin s m (1 - (fpBias f : Int) - fb)
    else .fin s (2 ^ fb + m) ((e : Int) - fpBias f - fb)
  else if e = top then (if m = 0 then .inf s else .nan (!m.testBit (fb - 1)))
  else if e = 0 then .fin s m (1 - (fpBias f : Int) - fb)
  else .fin s (2 ^ fb + m) ((e : Int) - fpBias f - fb)

/-- Whether a magnitude's discarded part rounds up: `odd` is the kept part's low bit, `half` compares the discarded
part with one half (0 below, 1 equal, 2 above), `any` says it is not zero (Table 7.7). -/
def roundUp (rm : Nat) (s odd : Bool) (half : Nat) (any : Bool) : Bool :=
  match rm with
  | 0 => decide (half = 2) || (decide (half = 1) && odd)
  | 1 => false
  | 2 => any && !s
  | 3 => any && s
  | _ => decide (half ≥ 1)

/-- `m · 2ᵉ`, with a non-zero part below it when `sticky`, as an integer multiple of 2^q, rounded: the multiple and
whether anything was discarded. -/
def roundAt (rm : Nat) (s : Bool) (m : Nat) (e : Int) (sticky : Bool) (q : Int) : Nat × Bool :=
  if q ≤ e then
    let k := m <<< (e - q).toNat
    let up := roundUp rm s (k % 2 = 1) 0 sticky
    (if up then k + 1 else k, sticky)
  else
    let sh := (q - e).toNat
    let k := m >>> sh
    let r := m % 2 ^ sh
    let any := decide (r ≠ 0) || sticky
    let half := if 2 * r < 2 ^ sh then 0 else if 2 * r = 2 ^ sh then (if sticky then 2 else 1) else 2
    (if roundUp rm s (k % 2 = 1) half any then k + 1 else k, any)

/-- The largest finite code and the infinity of a format, without sign. -/
def fpMaxFin (f : Nat) : Nat := if f = 8 then 0x7E else (2 ^ fpExp f - 1) * 2 ^ fpFrac f - 1
def fpInf (f : Nat) : Nat := if f = 8 then 0x7E else (2 ^ fpExp f - 1) * 2 ^ fpFrac f

/-- The sign bit of a format. -/
def fpSign (f : Nat) (s : Bool) : Nat := if s then 2 ^ (fpExp f + fpFrac f) else 0

/-- Round an exact non-zero magnitude into format `f` (R239, R241, Table 7.7): the code and its flags. Tininess is
detected after rounding. -/
def fpRound (f rm : Nat) (s : Bool) (m : Nat) (e : Int) (sticky : Bool) : Nat × Nat :=
  let fb := fpFrac f
  let p := fb + 1
  let emin : Int := 1 - (fpBias f : Int)
  let lead : Int := (Nat.log2 m : Int) + e
  -- the result with unbounded exponent
  let un := roundAt rm s m e sticky (lead - fb)
  let unLead : Int := if un.1 = 2 ^ p then lead + 1 else lead
  let tiny := decide (unLead < emin)
  let q : Int := max (lead - fb) (emin - fb)
  let r := roundAt rm s m e sticky q
  let k := if r.1 = 2 ^ p then 2 ^ fb else r.1
  let q' : Int := if r.1 = 2 ^ p then q + 1 else q
  let nx := if r.2 then fNX else 0
  let uf := if tiny && r.2 then fUF else 0
  if k < 2 ^ fb then (fpSign f s + k, nx + uf)
  else
    let be := (q' + fb + fpBias f).toNat
    let code := be * 2 ^ fb + (k - 2 ^ fb)
    if code > fpMaxFin f then
      let toMax := f = 8 ∨ rm = 1 ∨ (rm = 2 ∧ s = true) ∨ (rm = 3 ∧ s = false)
      (fpSign f s + (if toMax then fpMaxFin f else fpInf f), fOF + fNX)
    else (fpSign f s + code, nx + uf)

/-- A value as a code of FP format `f` (R240, R241, R249). -/
def fpEncode (f rm : Nat) : Val → Nat × Nat
  | .nan sn => (canonNan f, if sn then fNV else 0)
  | .inf s => (fpSign f s + fpInf f, if f = 8 then fOF else 0)
  | .fin s m e => if m = 0 then (fpSign f s, 0) else fpRound f rm s m e false

/-! ### Exact operations -/

def Val.isNan : Val → Bool
  | .nan _ => true | _ => false
def Val.isSnan : Val → Bool
  | .nan b => b | _ => false
def Val.neg : Val → Val
  | .nan b => .nan b | .inf s => .inf (!s) | .fin s m e => .fin (!s) m e

/-- NV of signalling inputs. -/
def snanFlag (vs : List Val) : Nat := if vs.any (·.isSnan) then fNV else 0

/-- A signed magnitude as an integer at exponent `e0 ≤ e`. -/
def signedAt (s : Bool) (m : Nat) (e e0 : Int) : Int :=
  let k : Int := ((m <<< (e - e0).toNat : Nat) : Int)
  if s then -k else k

/-- The sum of two finite values, rounded once; an exact zero sum is −0 only when rounding down or of two −0 (IEEE
754-2019 6.3). -/
def addFin (f rm : Nat) (s1 : Bool) (m1 : Nat) (e1 : Int) (s2 : Bool) (m2 : Nat) (e2 : Int) : Nat × Nat :=
  let e0 := min e1 e2
  let t := signedAt s1 m1 e1 e0 + signedAt s2 m2 e2 e0
  if t = 0 then
    let neg := if m1 = 0 ∧ m2 = 0 ∧ s1 = s2 then s1 else decide (rm = 3)
    (fpSign f neg, 0)
  else fpRound f rm (decide (t < 0)) t.natAbs e0 false

/-- Addition (R239). -/
def fpAdd (f rm : Nat) (a b : Val) : Nat × Nat :=
  match a, b with
  | .fin s1 m1 e1, .fin s2 m2 e2 => addFin f rm s1 m1 e1 s2 m2 e2
  | .inf s, .inf t => if s = t then fpEncode f rm (.inf s) else (canonNan f, fNV)
  | .inf s, .fin _ _ _ => fpEncode f rm (.inf s)
  | .fin _ _ _, .inf s => fpEncode f rm (.inf s)
  | _, _ => (canonNan f, snanFlag [a, b])

/-- Multiplication. -/
def fpMul (f rm : Nat) (a b : Val) : Nat × Nat :=
  match a, b with
  | .fin s1 m1 e1, .fin s2 m2 e2 => fpEncode f rm (.fin (s1 != s2) (m1 * m2) (e1 + e2))
  | .inf s, .inf t => fpEncode f rm (.inf (s != t))
  | .inf s, .fin t m _ => if m = 0 then (canonNan f, fNV) else fpEncode f rm (.inf (s != t))
  | .fin t m _, .inf s => if m = 0 then (canonNan f, fNV) else fpEncode f rm (.inf (s != t))
  | _, _ => (canonNan f, snanFlag [a, b])

/-- Fused multiply-add, rounded once.
Log: entry 62 (DEDUCED; DESIGN CHOICE). -/
def fpFma (f rm : Nat) (a b c : Val) : Nat × Nat :=
  let sn := snanFlag [a, b, c]
  match a, b with
  | .fin s1 m1 e1, .fin s2 m2 e2 =>
    match c with
    | .fin s3 m3 e3 => addFin f rm (s1 != s2) (m1 * m2) (e1 + e2) s3 m3 e3
    | .inf s => fpEncode f rm (.inf s)
    | .nan _ => (canonNan f, sn)
  | .nan _, _ => (canonNan f, sn)
  | _, .nan _ => (canonNan f, sn)
  | _, _ =>
    let bad := (match a, b with
      | .inf _, .fin _ m _ => decide (m = 0)
      | .fin _ m _, .inf _ => decide (m = 0)
      | _, _ => false)
    let ps := (match a, b with
      | .inf s, .inf t => s != t
      | .inf s, .fin t _ _ => s != t
      | .fin s _ _, .inf t => s != t
      | _, _ => false)
    if bad then
      (canonNan f, match c with
        | .nan sn => if sn || Config.fmaNanInvalid f then fNV else 0
        | _ => fNV)
    else match c with
      | .nan _ => (canonNan f, sn)
      | .inf s => if s = ps then fpEncode f rm (.inf s) else (canonNan f, fNV)
      | .fin _ _ _ => fpEncode f rm (.inf ps)

/-- Division, to more bits than any format keeps and a sticky bit.
Log: entry 62 (DEDUCED; DESIGN CHOICE). -/
def fpDiv (f rm : Nat) (a b : Val) : Nat × Nat :=
  match a, b with
  | .fin s1 m1 e1, .fin s2 m2 e2 =>
    if m2 = 0 then
      if m1 = 0 then (canonNan f, fNV)
      else
        let r := fpEncode f rm (.inf (s1 != s2))
        (r.1, fDZ ||| r.2)
    else if m1 = 0 then (fpSign f (s1 != s2), 0)
    else
      let sh := 64 + Nat.log2 m2 + 1
      let n := m1 <<< sh
      fpRound f rm (s1 != s2) (n / m2) (e1 - e2 - sh) (n % m2 ≠ 0)
  | .inf _, .inf _ => (canonNan f, fNV)
  | .inf s, .fin t _ _ => fpEncode f rm (.inf (s != t))
  | .fin s _ _, .inf t => (fpSign f (s != t), 0)
  | _, _ => (canonNan f, snanFlag [a, b])

/-- The integer square root, one bit of the result at a time from bit `n − 1`. -/
def isqrtFrom (x : Nat) : (n r : Nat) → Nat
  | 0, r => r
  | n + 1, r => isqrtFrom x n (if (r + 2 ^ n) * (r + 2 ^ n) ≤ x then r + 2 ^ n else r)

/-- Square root. -/
def fpSqrt (f rm : Nat) (a : Val) : Nat × Nat :=
  match a with
  | .fin s m e =>
    if m = 0 then (fpSign f s, 0)
    else if s then (canonNan f, fNV)
    else
      let odd : Int := e % 2
      let m' := (m <<< odd.toNat) <<< 128
      let e' : Int := (e - odd - 128) / 2
      let r := isqrtFrom m' (Nat.log2 m' / 2 + 1) 0
      fpRound f rm false r e' (r * r ≠ m')
  | .inf s => if s then (canonNan f, fNV) else fpEncode f rm (.inf false)
  | .nan _ => (canonNan f, snanFlag [a])

/-- Order of two values that are no NaN; −0 equals +0. -/
def Val.lt (a b : Val) : Bool :=
  match a, b with
  | .fin s1 m1 e1, .fin s2 m2 e2 =>
    let e0 := min e1 e2
    decide (signedAt s1 m1 e1 e0 < signedAt s2 m2 e2 e0)
  | .inf s, .inf t => s && !t
  | .inf s, .fin _ _ _ => s
  | .fin _ _ _, .inf t => !t
  | _, _ => false
def Val.eq (a b : Val) : Bool := !a.isNan && !b.isNan && !Val.lt a b && !Val.lt b a

/-- A comparison of Table 7.8: the result and NV. -/
def valCmp (cond : Nat) (a b : Val) : Bool × Nat :=
  let un := a.isNan || b.isNan
  let sn := snanFlag [a, b]
  let any := if un then fNV else 0
  match cond with
  | 0 => (Val.eq a b, sn)
  | 1 => (!Val.eq a b, sn)
  | 2 => (!un && Val.lt a b, any)
  | 3 => (!un && (Val.lt a b || Val.eq a b), any)
  | 4 => (!un && Val.lt b a, any)
  | 5 => (!un && (Val.lt b a || Val.eq a b), any)
  | _ => (un, sn)

/-- The sign of a value. -/
def Val.sign : Val → Bool
  | .fin s _ _ => s | .inf s => s | .nan _ => false

/-! ### LQ16 (R242–R245) -/

/-- Whether 2^(j/64) · 2⁶³ ≤ m: the comparison with TH[j] of R243, in whole numbers. -/
def lqAtLeast (m j : Nat) : Bool := decide (2 ^ (j + 64 * 63) ≤ m ^ 64)

/-- The largest j with m ≥ TH[j], from the binary digits of j. -/
def lqIndex (m : Nat) : (n j : Nat) → Nat
  | 0, j => j
  | n + 1, j => lqIndex m n (if lqAtLeast m (j + 2 ^ n) then j + 2 ^ n else j)

/-- Conversion of an exact value to LQ16 (R243). -/
def lqEncode (v : Val) : Nat × Nat :=
  match v with
  | .nan sn => (0x8000, if sn then fNV else 0)
  | .inf s => ((if s then 0x8000 else 0) + 0x7FFF, 0)
  | .fin s m e =>
    if m = 0 then (0, 0)
    else
      let l := Nat.log2 m
      let norm := if l ≤ 63 then m <<< (63 - l) else m >>> (l - 63)
      let j := lqIndex norm 6 0
      let mm : Int := 64 * ((l : Int) + e) + j + 16384
      let sg := if s then 0x8000 else 0
      if mm < 1 then (0, fUF + fNX)
      else if mm > 0x7FFE then (sg + 0x7FFF, fOF + fNX)
      else (sg + mm.toNat, if j = 0 ∧ norm = 2 ^ 63 then 0 else fNX)

/-- The FP64 significand of 2^(j/64) rounded to nearest (C of R244): the integer k, 2⁵² ≤ k < 2⁵³, nearest to
2^(j/64) · 2⁵², found bit by bit as the largest k with (2k − 1)⁶⁴ ≤ 2^(j + 64·53). -/
def lqRootFrom (j : Nat) : (n k : Nat) → Nat
  | 0, k => k
  | n + 1, k => lqRootFrom j n (if (2 * (k + 2 ^ n) - 1) ^ 64 ≤ 2 ^ (j + 64 * 53) then k + 2 ^ n else k)
def lqRoot (j : Nat) : Nat := lqRootFrom j 52 (2 ^ 52)

/-- The FP64 value of an LQ16 code (R244). -/
def lqDecode (c : Nat) : Val :=
  let m : Nat := c % 2 ^ 15
  let s := c.testBit 15
  if c = 0 then .fin false 0 0
  else if c = 0x8000 then .nan false
  else if m = 0x7FFF then .inf s
  else
    let n : Int := (m : Int) - 16384
    .fin s (lqRoot (n % 64).toNat) (floorDiv n 64 - 52)

/-- A code as an ordered value (R245): the key +M or −M. -/
def lqOrder (c : Nat) : Val :=
  if c = 0x8000 then .nan false
  else if c = 0 then .fin false 0 0
  else .fin (c.testBit 15) (c % 2 ^ 15) 0

/-- The code of a result index with its sign (R245). -/
def lqOfIndex (s : Bool) (m : Int) : Nat × Nat :=
  let sg := if s then 0x8000 else 0
  if m < 1 then (0, fUF + fNX) else if m > 0x7FFE then (sg + 0x7FFF, fOF + fNX) else (sg + m.toNat, 0)

/-- Multiplication on bucket indices (R245). -/
def lqMul (a b : Nat) : Nat × Nat :=
  let s := a.testBit 15 != b.testBit 15
  let ma : Nat := a % 2 ^ 15
  let mb : Nat := b % 2 ^ 15
  if a = 0x8000 ∨ b = 0x8000 then (0x8000, 0)
  else if (a = 0 ∧ mb = 0x7FFF) ∨ (b = 0 ∧ ma = 0x7FFF) then (0x8000, fNV)
  else if a = 0 ∨ b = 0 then (0, 0)
  else if ma = 0x7FFF ∨ mb = 0x7FFF then ((if s then 0x8000 else 0) + 0x7FFF, 0)
  else lqOfIndex s ((ma : Int) - 16384 + mb)

/-- Division on bucket indices (R245). -/
def lqDiv (a b : Nat) : Nat × Nat :=
  let s := a.testBit 15 != b.testBit 15
  let ma : Nat := a % 2 ^ 15
  let mb : Nat := b % 2 ^ 15
  let beyond := (if s then 0x8000 else 0) + 0x7FFF
  if a = 0x8000 ∨ b = 0x8000 then (0x8000, 0)
  else if (a = 0 ∧ b = 0) ∨ (ma = 0x7FFF ∧ mb = 0x7FFF) then (0x8000, fNV)
  else if ma = 0x7FFF then (beyond, 0)
  else if b = 0 then (beyond, fDZ)
  else if a = 0 ∨ mb = 0x7FFF then (0, 0)
  else lqOfIndex s ((ma : Int) - mb + 16384)

/-! ### One element of any format -/

/-- The value of an element of format `f` for comparison and conversion. -/
def elemVal (f w : Nat) : Val :=
  if fmtFp f then fpDecode f w
  else if fmtLq f then lqDecode w
  else
    let i : Int := if fmtSigned f then toInt (fmtWidth f) w else (w % 2 ^ fmtWidth f : Nat)
    .fin (decide (i < 0)) i.natAbs 0

/-- Integers of a format: the element as an Int. -/
def elemInt (f w : Nat) : Int := if fmtSigned f then toInt (fmtWidth f) w else ((w % 2 ^ fmtWidth f : Nat) : Int)

/-- Addition, subtraction. -/
def elemAdd (f rm a b : Nat) : Nat × Nat :=
  if fmtInt f then ((a + b) % 2 ^ fmtWidth f, 0) else fpAdd f rm (fpDecode f a) (fpDecode f b)
def elemSub (f rm a b : Nat) : Nat × Nat :=
  if fmtInt f then ((a + (2 ^ fmtWidth f - b % 2 ^ fmtWidth f)) % 2 ^ fmtWidth f, 0)
  else
    let y := fpDecode f b
    fpAdd f rm (fpDecode f a) y.neg

/-- Multiplication: the low half for INT. -/
def elemMul (f rm a b : Nat) : Nat × Nat :=
  if fmtInt f then (a * b % 2 ^ fmtWidth f, 0)
  else if fmtLq f then lqMul a b else fpMul f rm (fpDecode f a) (fpDecode f b)

/-- The high half of an integer product, signedness from the format. -/
def elemMulh (f a b : Nat) : Nat := ofInt (fmtWidth f) (floorDiv (elemInt f a * elemInt f b) (2 ^ fmtWidth f : Nat))

/-- Division of FP and LQ16. -/
def elemDiv (f rm a b : Nat) : Nat × Nat :=
  if fmtLq f then lqDiv a b else fpDiv f rm (fpDecode f a) (fpDecode f b)

/-- Integer division and remainder (R250). -/
def intDiv (f a b : Nat) : Nat × Nat :=
  let w := fmtWidth f
  if b % 2 ^ w = 0 then (2 ^ w - 1, fDZ) else (ofInt w (Int.tdiv (elemInt f a) (elemInt f b)), 0)
def intRem (f a b : Nat) : Nat × Nat :=
  let w := fmtWidth f
  if b % 2 ^ w = 0 then (a % 2 ^ w, fDZ) else (ofInt w (Int.tmod (elemInt f a) (elemInt f b)), 0)

/-- The comparison key: order for LQ16, value otherwise. -/
def cmpVal (f w : Nat) : Val := if fmtLq f then lqOrder w else elemVal f w

/-- A comparison (R248). -/
def elemCmp (f cond a b : Nat) : Bool × Nat := valCmp cond (cmpVal f a) (cmpVal f b)

/-- Minimum and maximum (R248): minimumNumber and maximumNumber for FP, −0 below +0. -/
def elemMinMax (f : Nat) (mx : Bool) (a b : Nat) : Nat × Nat :=
  let x := cmpVal f a
  let y := cmpVal f b
  let sn := snanFlag [x, y]
  if x.isNan && y.isNan then (canonNan f, sn)
  else if x.isNan then (b, sn)
  else if y.isNan then (a, sn)
  else
    let aFirst := Val.lt x y || (Val.eq x y && x.sign)
    ((if aFirst != mx then a else b), sn)

/-- Absolute value and negation (R240, R245; integer wraps). -/
def elemAbs (f a : Nat) : Nat :=
  let w := fmtWidth f
  if fmtInt f then ofInt w (elemInt f a).natAbs
  else if fmtLq f then (if a = 0 ∨ a = 0x8000 then a else a % 2 ^ 15)
  else a % 2 ^ (w - 1)
def elemNeg (f a : Nat) : Nat :=
  let w := fmtWidth f
  if fmtInt f then ofInt w (-(elemInt f a))
  else if fmtLq f then (if a = 0 ∨ a = 0x8000 then a else a ^^^ 0x8000)
  else (a % 2 ^ w) ^^^ 2 ^ (w - 1)

/-- A value converted to an integer format under `rm` (R249). -/
def toIntFmt (f rm : Nat) (v : Val) : Nat × Nat :=
  let w := fmtWidth f
  let lo : Int := if fmtSigned f then -(2 ^ (w - 1) : Nat) else 0
  let hi : Int := if fmtSigned f then (2 ^ (w - 1) : Nat) - 1 else (2 ^ w : Nat) - 1
  match v with
  | .nan _ => (0, fNV)
  | .inf s => (ofInt w (if s then lo else hi), fNV)
  | .fin s m e =>
    let r := roundAt rm s m e false 0
    let i : Int := if s then -(r.1 : Int) else r.1
    if i < lo then (ofInt w lo, fNV)
    else if i > hi then (ofInt w hi, fNV)
    else (ofInt w i, if r.2 then fNX else 0)

/-- Conversion from format `f` to format `t` (R249); to LQ16 it is R243 of any value, that of an LQ16 code included.
Log: entry 62 (DEDUCED; DESIGN CHOICE). -/
def elemCvt (f t rm a : Nat) : Nat × Nat :=
  if fmtInt f && fmtInt t then (ofInt (fmtWidth t) (elemInt f a), 0)
  else if fmtLq t then lqEncode (elemVal f a)
  else if fmtInt t then toIntFmt t rm (elemVal f a)
  else fpEncode t rm (elemVal f a)

/-- Shifts of an element by `n` modulo its width. -/
def elemSll (f a n : Nat) : Nat := (a <<< (n % fmtWidth f)) % 2 ^ fmtWidth f
def elemSrl (f a n : Nat) : Nat := (a % 2 ^ fmtWidth f) >>> (n % fmtWidth f)
def elemSra (f a n : Nat) : Nat :=
  ofInt (fmtWidth f) (floorDiv (toInt (fmtWidth f) a) (2 ^ (n % fmtWidth f) : Nat))

end Sys2Proof.Machine
end

