-- ==== Sys2Proof/Machine/StCore.lean ====
section
/-! DEFINITION. The state of a logical core, its streams and engine commands, and of the Sync Hub (07, 08). -/
namespace Sys2Proof.Machine
open Sys2Proof

/-- A window granted to a kit (R278): Canopy addresses `[lo, hi)`, read-only for the history region. -/
structure Window where
  lo : Nat
  hi : Nat
  ro : Bool
deriving DecidableEq, Repr

/-- What the kit of a core may reach: windows beside the core's own scratchpad, its handle, its MID and the ensemble
handles it has loaded. -/
structure Grants where
  kit     : Nat
  mid     : Nat
  windows : List Window
  ens     : List Nat
  ftFirst : Nat                -- first granted Feature Table row, and how many (R347)
  ftRows  : Nat
deriving DecidableEq, Repr

/-- An entry of the vector queue (R263): the word and its address, its g operand and scratchpad address as read at
scalar issue, and the cycle it entered. -/
structure VqEntry where
  word  : BitVec 64
  pc    : BitVec 22
  gval  : W64
  addr  : Nat
  cycle : Nat
deriving DecidableEq, Repr

/-- An ACTIVE stream: its s register, its descriptor at SGO, the GATHER index list read then, its place in the core's
program order, how many entries of the vector queue it waits for (R298), and memory as it was when its own accesses could
begin. -/
structure Stream where
  s     : Nat
  desc  : List Byte
  idx   : List Nat
  seq   : Nat
  after : Nat
  mem   : Tbl Byte
deriving DecidableEq, Repr

/-- What a core waits for: a Sync Hub object, a PT; or, on a core halted by a cut, nothing more than its resumption
(R469): its answer has come. -/
inductive CoreWait where
  | sem (obj : Nat) (count : Nat)
  | bar (obj : Nat) (gen : Nat)
  | event (obj : Nat)
  | pt (target : Nat) (d : Nat)
  | done (d : Option Nat)
deriving DecidableEq, Repr

/-- The engines of a CT (Table 8.7). -/
inductive Engine where
  | sketch
  | topk
  | baseline
  | coder
  | tse
deriving DecidableEq, Repr

/-- An engine command that has been issued (R284–R287): its block's bytes 0–55 and address, format, and, for TSUB, its
ticket; and memory as it was at issue. -/
structure EngCmd where
  core   : Nat
  engine : Engine
  op     : Nat
  fmt    : Nat
  block  : List Byte
  addr   : Nat
  ticket : Nat
  seq    : Nat
  mem    : Tbl Byte
deriving DecidableEq, Repr

/-- An MSND on its way (R301): its block and address, MSEQ and the PT of its send. -/
structure MsndOut where
  core  : Nat
  block : List Byte
  addr  : Nat
  mseq  : Nat
  dest  : Nat
  at'   : Nat
  seq   : Nat
deriving DecidableEq, Repr

/-- A logical core (Table 7.1, Table 7.2) with the pipeline state that its timing rules name (R262–R266): the cycle
of the next scalar and vector issue, the cycles from which registers and dividers are ready, and the vector queue. -/
structure BCore where
  run     : Bool               -- a kit's program runs on this core and has not halted
  frozen  : Bool               -- halted by a Vigil cut (R469)
  g       : Tbl W64
  v       : Tbl (BitVec 512)
  p       : Tbl W64
  s       : Tbl (List Byte)
  pc      : BitVec 22
  badPc   : Option W64         -- control has passed from `pc` to this address outside the code window
  inTrap  : Bool
  fflags  : BitVec 5
  tvec    : BitVec 22
  epc     : BitVec 22
  cause   : BitVec 8
  halt    : BitVec 4
  tval    : W64
  cycle   : Nat                -- the cycle at which the next scalar instruction may issue
  retired : W64
  codeBase : BitVec 22
  codeSize : BitVec 22
  opc     : Tbl (BitVec 48)
  grants  : Grants
  vq      : List VqEntry
  vcycle  : Nat                -- the cycle at which the vector unit may next issue
  vlog    : List Nat           -- the cycles of its last 16 issues, oldest first
  vmemAt  : Nat                -- the first cycle after its last VLD or VST
  vdone   : Nat                -- the cycle by which every vector instruction issued so far has completed
  gReady  : Tbl Nat
  vReady  : Tbl Nat
  pReady  : Tbl Nat
  sReady  : Tbl Nat
  divFree : Nat
  vdivFree : Nat
  streams : List Stream
  seq     : Nat                -- program order of streams, commands and messages
  firstSeq : Nat               -- the place at which the present run of the kit began
  ticket  : Nat                -- tickets issued since kit start; the latest is this number modulo 2³² (R287)
  results : Tbl (BitVec 8)     -- RESULT of completed jobs, by ticket
  trd     : W64                -- bytes 8–11 of the last TRD stamp
  mseq    : Nat                -- messages sent by MSND
  wait    : Option CoreWait
deriving DecidableEq, Repr

/-- A Sync Hub object (Tables 8.9, 8.13): KIND 0 FREE, 1 SEM, 2 BAR, 3 EVENT; its owner's handle, its state, and the
cores waiting on it in order of arrival. -/
structure SyncObj where
  kind    : Nat
  kit     : Nat
  state   : W64
  waiters : List Nat
deriving DecidableEq, Repr

end Sys2Proof.Machine
end

