-- ==== Sys2Proof/Machine/StHost.lean ====
section
/-! DEFINITION. State of Gremon's host side (16) and of its recorder (20): queue pairs, result queues, commands in
progress, management messages, mailbox channels, the lanes' dies. -/
namespace Sys2Proof.Machine
open Sys2Proof

/-- A Gremon recorder record (Table 20.1). -/
structure GEvent where
  rseq  : Word
  code  : BitVec 16
  job   : BitVec 16
  stamp : Stamp
  src   : Word
  data  : List Byte
deriving DecidableEq, Repr

/-- Where a command came from, and where its completion goes (R531, R535, R544). -/
inductive CmdSrc where
  | qp (q : Nat)
  | mgmt (session : Nat) (mseq : Nat)
  | hcmd (origin : Nat) (qp : Nat)
deriving DecidableEq, Repr

/-- A command in progress: its descriptor (Table 16.3), its data, and where a reply may be written. -/
structure HostCmd where
  src  : CmdSrc
  mid  : Nat
  desc : List Byte
  data : List Byte
  segs : List (Nat × Nat)      -- reply buffer: address and length of each part
  due  : Nat                   -- PT, ns, after which a forwarded command ends UNREACH
deriving DecidableEq, Repr

/-- A queue pair (R531–R533). -/
structure QPair where
  sqHead : Nat
  tail   : Nat
  cqTail : Nat                 -- next CQ index Gremon writes
  cqHead : Nat                 -- next CQ index the host will read
  phase  : Bool
  busy   : Nat                 -- commands fetched and not completed
  err    : Nat                 -- ERRCODE, 0 for none
deriving DecidableEq, Repr

/-- A result queue (R541, R542, R685). -/
structure RQueue where
  head : Nat
  tail : Nat
  seq  : Nat
  drop : Nat
  loss : Bool                  -- the next record delivered carries LOSS
deriving DecidableEq, Repr

/-- An interrupt vector (R543): PT of its last message, and whether one is held by the 2 µs limit. -/
structure Vector where
  last : Option Nat
  held : Bool
deriving DecidableEq, Repr

/-- A message being reassembled on MGMT or SVC (R545). -/
structure MgmtPart where
  svc     : Bool
  session : Nat
  mseq    : Nat
  len     : Nat
  parts   : List (Nat × List Byte)
  first   : Nat                -- PT, ns, of the first fragment
deriving DecidableEq, Repr

/-- A mailbox channel (R547–R549). -/
structure MbChan where
  full : Bool
  msg  : List Byte
  msgs : Nat
  sent : Bool                  -- forwarded to its die and not yet read
deriving DecidableEq, Repr

/-- What Gremon knows of the die on a lane (R202–R204, R25, R647, R549). -/
structure DieInfo where
  accepted : Bool
  hdid     : W64
  alId     : Word
  alVer    : Word
  cfgid    : Word
  ucode    : BitVec 16
  capGen   : BitVec 8
  phash    : Word
  rseqHi   : Option Nat        -- highest AILEN RSEQ filed
  resend   : Nat               -- re-sent entries still expected since the last ENUM
  tag      : BitVec 16         -- TAG of the latest CMD
  waiting  : List (BitVec 16 × List Byte)   -- CMDs without an answer
  remap    : List (BitVec 16)  -- the remap announced at ENUM
  mbFwd    : Option Nat        -- channel forwarded to the die and still FULL
  mbAgain  : Bool              -- it is sent again once the re-sent entries have come (R549)
  cause    : Nat               -- CAUSE of its last ENUM
deriving DecidableEq, Repr

/-- A change of a binding that waits for its swap boundary (R25): the PDA and STATE it will have, and the PT. -/
structure BindNext where
  pda   : Nat
  state : Nat
  at'   : Nat
deriving DecidableEq, Repr

/-- A binding of an LDA of a job (Table 1.4), as delivered. -/
structure Binding where
  pda   : Nat
  lda   : Nat
  job   : Nat
  state : Nat                  -- 0 UNBOUND, 1 BOUND, 2 SWAPPING, 3 RETIRED
  gen   : BitVec 8
  ever  : Bool                 -- it has been bound since it was first named
  next  : List BindNext        -- delivered changes whose swap boundaries are still to come
deriving DecidableEq, Repr

/-- A job known to this Gremon (R133, R134, R622). -/
structure JobInfo where
  job   : Nat
  epoch : W64
  owner : Nat                  -- MID
  key   : Option (List Byte)   -- SD128 key set by JOBKEY
deriving DecidableEq, Repr

end Sys2Proof.Machine
end

