-- ==== Sys2Proof/Machine/StKit.lean ====
section
/-! DEFINITION. State of tree scoring (10) and of the kit slots (12). -/
namespace Sys2Proof.Machine
open Sys2Proof

/-- The TSE of a CT (R341, R356, Tables 10.10, 10.13). -/
structure TseCt where
  planes    : Nat              -- active planes P
  spare     : Bool             -- the spare plane is present and unused
  failedAt  : Option Nat       -- PT, ns, of a plane failure whose substitution is awaited
  transient : Nat
  poisoned  : Nat
  retry     : Bool             -- a check of the row being scored has failed: the row is scored again (R355)
deriving DecidableEq, Repr

/-- A resident ensemble (R346): its handle, its kit's handle, the CTs it is loaded on, its declared row rate and image. -/
structure Ensemble where
  handle : Nat
  kit    : Nat
  ctmask : Nat
  rows   : Nat
  image  : List Byte
deriving DecidableEq, Repr

/-- A phase of a kit's schedule as the scheduler follows it (R401–R403): the period whose deadline comes next, and
consecutive overruns. -/
structure PhaseRun where
  next : Nat
  late : Nat
deriving DecidableEq, Repr

/-- A kit slot (Tables 12.13, 12.14) with what the loader placed for it. STATE: 0 EMPTY, 1 PLACING, 2 WAIT_START,
3 RUNNING, 4 STOPPING, 5 FAULTED, 6 STOPPED, 7 HALTED. -/
structure KitSlot where
  handle   : Nat
  state    : Nat
  prev     : Nat               -- STATE to return to from HALTED
  boot     : Bool
  cause    : Nat
  restarts : Nat
  overruns : Nat
  faults   : Nat
  lagging  : Nat
  pkg      : List Byte         -- the loader's copy
  cores    : List Nat          -- logical cores 32·CT + slot, in CODE order
  bufs     : Tbl (Nat × Nat)   -- CT-buffer grants by CT: offset and bytes
  hbm      : Nat × Nat         -- kit-space grant: HPA and bytes
  ft       : Nat × Nat         -- Feature Table rows: first and count
  obj0     : Nat
  nobj     : Nat
  ens      : List Nat          -- ensemble handles in ENS order
  lanes    : List Nat          -- mapped lanes with an enumerated die at placement
  waiting  : List Nat          -- lanes whose dies have not yet reported the plan APPLIED (R400)
  committed : Nat              -- PT, ns, of the plan's commit
  appliedAt : Nat              -- PT, ns, of the last APPLIED, or of the time-out
  start    : Nat               -- PT, ns, of the start boundary; 0 while it is not known
  phases   : List PhaseRun
  haltNow  : Bool              -- its cores halt at the next frame boundary
  unload   : Bool              -- an unload has been requested
  restartAt : Option Nat       -- PT, ns, from which a restart is due at a scoring boundary
deriving DecidableEq, Repr

end Sys2Proof.Machine
end

