-- ==== Sys2Proof/Machine/StPod.lean ====
section
/-! DEFINITION. State of the pod tree at one Gremon (13 R426–R441). -/
namespace Sys2Proof.Machine
open Sys2Proof

/-- The latest HELLO heard on a port (Table 13.14). -/
structure Hello where
  sender   : Nat
  prio     : Nat
  rootPrio : Nat
  depth    : Nat
  phase    : Nat
  root     : Nat
  parent   : Nat
  beat     : Nat
  epoch    : Nat
  path     : List Nat
  serial   : W64
  at'      : Nat               -- PT, ns, of its arrival
deriving DecidableEq, Repr

/-- A Gremon in this one's subtree (R428, R437): the CHILD port it lies behind and its MOVES. -/
structure Member where
  gid   : Nat
  port  : Nat
  moves : Nat
  rehomed : Bool               -- the record in force came by REHOME (R438)
deriving DecidableEq, Repr

/-- Tree formation at one Gremon. PHASE: 0 ALONE, 1 FORMING, 2 FORMED, 3 REFUSED. -/
structure Tree where
  phase    : Nat
  root     : Nat
  rootPrio : Nat
  depth    : Nat
  parent   : Option Nat        -- PARENT port
  alt      : Option Nat        -- ALT_PARENT port
  hellos   : Tbl Hello
  since    : Nat               -- PT, ns, since which the vector has not changed (R431)
  stale    : List (Nat × Nat)  -- stale roots, with the PT each was marked (R435)
  beat     : Nat
  beatAt   : Nat               -- PT, ns, at which the parent's BEAT last advanced
  epoch    : Nat
  moves    : Nat
  joined   : Bool
  none     : Bool              -- refused by the root: every port has the role NONE (R433)
  subtree  : List Member
  joinedAs : List (Nat × W64)  -- the root's membership: Gremon ID and serial
  pruned   : List (Nat × Nat × Nat)  -- pruned members: ID, MOVES, PT (R439)
  failed   : List Nat          -- members declared failed
  lostOnce : List Nat          -- at the root: those declared failed since the tree formed (Table 13.22)
deriving DecidableEq, Repr

end Sys2Proof.Machine
end

