-- ==== Sys2Proof/Machine/StRed.lean ====
section
/-! DEFINITION. State of the reduction service (09 R322–R335, R684). -/
namespace Sys2Proof.Machine
open Sys2Proof

/-- A contribution held for a period: a CT partial (`tray`) or the output of the CHILD with Gremon ID `src`. STATE:
0 PROVISIONAL, 1 confirmed, 2 retracted. `gone`: counted missing after retention ended. -/
structure RedIn where
  tray    : Bool
  src     : Nat
  attempt : Nat
  state   : Nat
  record  : List Byte
  gone    : Bool
deriving DecidableEq, Repr

/-- A period of a reduction at this Gremon. -/
structure RedPeriod where
  rid      : Nat
  period   : Nat
  firstAt  : Option Nat        -- PT, ns, of the first contribution (STEP)
  cts      : List (Nat × Nat)  -- CTs signalled, by kit slot and CT
  inputs   : List RedIn
  early    : List (Nat × Nat × Nat) -- CONFIRM (1) and RETRACT (2) waiting for their PROVISIONAL: child, attempt, state
  closedAt : Option Nat
  absentCts : List (Nat × Nat) -- declared CTs absent at the close
  absentKids : List (Nat × List Byte) -- children absent at the close or given up since, with the coverage counted for each
  attempt  : Nat
  out      : Option (List Byte) -- this attempt's record once it has left
  outAt    : Nat
  wrong    : Bool              -- the primary erred in this attempt
  verdict  : Bool              -- the shadow has matched this attempt
  fails    : Nat               -- own failures (R332)
  tried    : List (Nat × Nat × Option Nat) -- mismatched merges: CT, physical core, PCRC (none: certainly wrong) (R520)
  final    : Bool
  done     : Bool              -- CONFIRM has left
  ended    : Bool              -- retention has ended
deriving DecidableEq, Repr

/-- A child that has sent an output for a RID since it joined: its EXPECTED in the latest, whether it has left the subtree
since, and the members that left with it. -/
structure RedKid where
  rid      : Nat
  gid      : Nat
  expected : Nat
  left     : Bool
  members  : List Nat
deriving DecidableEq, Repr

end Sys2Proof.Machine
end

