-- ==== Sys2Proof/Machine/StRl.lean ====
section
/-! DEFINITION. State of a Ridgeline port and of the messages between Gremons (13). -/
namespace Sys2Proof.Machine
open Sys2Proof

/-- Port states (Table 13.15). -/
inductive RlState where
  | down
  | training
  | init
  | up
  | laneWait
  | failed
deriving DecidableEq, Repr

/-- A DATA flit held for replay: all but ACK, ACKV and CRC (R418). -/
structure RlFlit where
  vc    : Nat
  som   : Bool
  eom   : Bool
  abort : Bool
  tag   : Nat
  seq   : BitVec 12
  data  : List Byte
deriving DecidableEq, Repr

/-- A message queued in a shaping class (R420): the bytes not yet sent, whether no more will come, whether it ends
ABORT, the TAG once its first flit has left, the PT ns at which its head flit came, the message ID of a transmit stamp
asked for, and the incoming port, VC and TAG of a message being forwarded. -/
structure RlOut where
  bytes  : List Byte
  whole  : Bool
  abort  : Bool
  tag    : Option Nat
  at'    : Nat
  tsid   : Option Nat
  fwd    : Option (Nat × Nat × Nat)
deriving DecidableEq, Repr

/-- A message arriving under a TAG: its bytes so far, the stamp of its first flit, and the port it is forwarded on. -/
structure RlIn where
  bytes : List Byte
  stamp : Stamp
  fwd   : Option Nat
deriving DecidableEq, Repr

/-- A message received for this Gremon. -/
structure RlMsgIn where
  port  : Nat
  bytes : List Byte
  stamp : Stamp
deriving DecidableEq, Repr

/-- A shaping class's queue and buckets (R421, R422): tokens in units of 1/20,480 flit, start and finish tags as
fractions, and the latency samples of the open 1 ms window (R424). -/
structure RlClass where
  q       : List RlOut
  commit  : Nat
  peak    : Nat
  start   : Nat × Nat
  finish  : Nat × Nat
  samples : Nat
  delaySum : Nat
  delayMax : Nat
  depthMax : Nat               -- for BULK: within the window of R451
  beyond    : Nat
deriving DecidableEq, Repr

/-- A Ridgeline port (13). Lists of four are indexed by VC: TIME, CONTROL, REDUCE, BULK. -/
structure RlPort where
  st       : RlState
  active   : List Nat          -- the physical lanes in use, receiving
  spare    : Option Nat        -- the trained spare, receiving
  txActive : List Nat          -- the same, transmitting
  txSpare  : Option Nat
  lost     : List Nat          -- receiving lanes that have lost lock or are degraded
  laneMove : Option (Nat × Nat) -- the lane to leave, and the PT of the boundary at which it moves (R414)
  neighbour : Option Nat       -- from the neighbour's INIT
  classes  : List RlClass      -- five (Table 13.6)
  virt     : Nat × Nat         -- V of R422
  filled   : Nat               -- PT, ns, up to which the buckets are filled
  nextSeq  : BitVec 12
  replay   : List RlFlit
  replayAt : Option Nat
  ctl      : List (List Byte)  -- pending CTL and INIT payloads, header KIND in front
  credits  : List Nat
  freedSeen : List (BitVec 32)
  freed    : List (BitVec 32)
  freedSent : List (BitVec 32)
  expect   : BitVec 12
  ack      : BitVec 12
  ackv     : Bool
  nakOpen  : Bool
  rx       : Tbl RlIn          -- by 256·VC + TAG
  dropRun  : List Nat          -- the same keys, of runs being discarded (R417)
  goBacks  : Nat
  epoch    : Word
  farEpoch : Word
  initSent : Option (Bool × BitVec 12 × Word)
  keeps    : Bool              -- this side keeps its sequence state under its epoch (R419)
  initSeen : Bool
  farOpen  : Bool              -- a DATA or CTL flit shows that the far side has received an INIT (Table 13.2)
  initAt   : Nat               -- PT, ns, at which INIT last left
  eqSaved  : Bool
  wire     : List Byte         -- the flit last put on the port
  sampleAt : Nat               -- the 1 ms window being sampled: PT div 1,000,000
  corr     : List Nat          -- corrected symbols of each lane in the last whole window
  uncorr   : List Nat
  crcErr   : Nat
  goBackCnt : Nat
  badMsg   : Nat
  helloAt  : Option Nat        -- PT, ns, of the last HELLO heard
  rxMsgs   : List Nat          -- messages received and sent since the last fresh start, by VC (R465)
  txMsgs   : List Nat
deriving DecidableEq, Repr

/-- A broadcast retained at a Gremon (R442, R443). -/
structure BcastRec where
  bid     : W64
  msg     : List Byte
  seenAt  : Nat                -- PT, ns
  done    : Bool               -- local delivery is done
  acks    : List Nat           -- ACKSET
  fails   : List Nat           -- FAILSET, at the root
  expect  : List Nat           -- expected set, at the root
  issued  : Nat                -- PT, ns
  ended   : Bool               -- complete or reported INCOMPLETE, at the root
  backAt  : Nat                -- PT, ns, of the last BACK sent
  backOf  : List Nat           -- the ACKSET last sent
  answered : List Nat          -- CHILD ports that have answered
  cmd     : Option HostCmd     -- the host command it completes, at the root
deriving DecidableEq, Repr

/-- A query part being gathered (R447–R449): the message, the Gremon's depth, merged answer and coverage, the children
still awaited, and, for FETCH at the root, the parts by Gremon. -/
structure QueryRec where
  qid      : W64
  msg      : List Byte
  seenAt   : Nat
  deadline : Nat
  port     : Option Nat        -- the port it came on
  answer   : List Byte
  cov      : List Byte         -- coverage record, 24 bytes
  waiting  : List Nat          -- CHILD ports, or for FETCH Gremons, whose part has not come
  sent     : Bool
  parts    : List (Nat × Nat × List Byte)   -- Gremon, part number, bytes
  covs     : List (Nat × List Byte)
  cmd      : Option HostCmd    -- the host command it answers, at the root
  old      : Bool              -- a part of the answer uses pre-reset records (R376)
deriving DecidableEq, Repr

/-- A sample that a feed has taken: lane, frame, and the values of the feed's channels. -/
structure FeedSample where
  lane  : Nat
  frame : Nat
  vals  : List (Nat × W64)
deriving DecidableEq, Repr

/-- A feed (R450–R453): its QID, the QUERY that opened it, the commander levels held, each with the frame it takes effect
at, this Gremon's own watch, and the samples of periods not yet sent. -/
structure FeedRec where
  fid     : W64
  msg     : List Byte
  levels  : List (Nat × Nat × Nat)  -- commander, level, frame; the latest of a commander last
  nextAt  : Nat                -- the frame at which the next period begins
  high    : Nat                -- consecutive windows above 75 %
  low     : Nat                -- consecutive windows below 25 %
  mid     : Nat                -- at the root: who opened it
  src     : Option Nat         -- at the root: the queue pair it came by
  got     : List FeedSample
  heard   : List (Nat × Nat)   -- at the root: Gremon, and the frame that its next message opens with
deriving DecidableEq, Repr

end Sys2Proof.Machine
end

