-- ==== Sys2Proof/Machine/StSvc.lean ====
section
/-! DEFINITION. State of Gremon's services: Vigil, Lantern, checkpoint triggers and continuity (14), screening and core
health (15), the history store and its export (11), marks and site time (04). -/
namespace Sys2Proof.Machine
open Sys2Proof

/-! ### Vigil (R457–R473) -/

/-- A die in the scope of a cut: RES of Table 14.6 (5 until its bank comes), and its VIGIL message from offset 4. -/
structure LaneCut where
  lane   : Nat
  res    : Nat
  qual   : Nat
  guards : Nat
  bank   : List Byte
deriving DecidableEq, Repr

/-- A cut at one Gremon. STATE: 0 armed, 1 the tick is past, 2 closed. -/
structure Cut where
  vseq   : Nat
  tick   : Nat
  job    : Nat
  halt   : Bool
  late   : Bool                -- LATE: not armed (R459)
  state  : Nat
  lanes  : List LaneCut
  stamp  : Stamp
  rx     : Tbl Nat             -- messages received before t, by lane
  ports  : List (Nat × Nat)    -- RXCNT and TXCNT, by 4·port + VC
  self   : List Byte           -- Gremon's own bank
  halted : Bool
  denied : Bool
  record : List Byte           -- the cut record, once closed (Table 14.5)
deriving DecidableEq, Repr

/-- A cut accepted at the root (R457). -/
structure RootCut where
  vseq    : Nat
  tick    : Nat
  job     : Nat
  halt    : Bool
  resumed : Bool
deriving DecidableEq, Repr

/-- A debug halt in force (R469): its cut, its job, and the tick of its RESUME. -/
structure HaltRec where
  vseq   : Nat
  job    : Nat
  resume : Option Nat
deriving DecidableEq, Repr

/-- Vigil. -/
structure VigilSvc where
  cuts  : List Cut             -- oldest first: the last 16 and any still open
  halts : List HaltRec
  next  : Nat                  -- at the root: the next VSEQ
  root  : List RootCut
deriving DecidableEq, Repr

/-! ### Lantern and checkpoint triggers (R474–R482) -/

/-- The level and risk of an entity, with the job and logical EID of a die. -/
structure LanEnt where
  eid   : Nat
  level : Nat
  risk  : Nat
  job   : Nat
  leid  : Nat
deriving DecidableEq, Repr

/-- The Lantern service. -/
structure LanternSvc where
  ents     : List LanEnt       -- entities of this tray that have been scored
  lastK    : Option Nat        -- index of the scoring boundary last read for
  missed   : Nat               -- periods in a row without a usable block
  stale    : Bool
  badEnt   : Nat
  root     : List LanEnt       -- at the root: the latest of every entity
  podLevel : Nat
  podRisk  : Nat
deriving DecidableEq, Repr

/-- A trigger slot (R479–R481): T_C, C, n, and what the last evaluation left. -/
structure CkptSlot where
  tc       : Nat
  c        : Option Nat
  n        : Option Nat
  level    : Nat
  pending  : Bool
  drained  : Bool              -- while PENDING it has fired on a rise to DRAIN
  cause    : Nat
  fires    : Nat
  lastFire : Nat               -- PT, ns
deriving DecidableEq, Repr

/-! ### Continuity (R488–R494) -/

/-- A shard-log entry (Table 14.11), with its job, direction (IN or not) and the PT of its CLOSE. -/
structure ShardEnt where
  job   : Nat
  dirIn : Bool
  step  : Nat
  close : Nat
  lda   : Nat
  bytes : List Byte
deriving DecidableEq, Repr

/-- An open restore at the root (R492). -/
structure Restore where
  job      : Nat
  openAt   : Nat
  manifest : List Byte
deriving DecidableEq, Repr

/-- A RESTORE_OPEN that waits for a manifest certificate (R632): the command and the PT, ns, of its CERTREQ. -/
structure RestoreWait where
  cmd : HostCmd
  at' : Nat
deriving DecidableEq, Repr

/-- Shard logs, segment digests waiting for their SHARD, and open restores. -/
structure Continuity where
  log      : List ShardEnt     -- in order of filing
  segs     : List (Nat × List Byte)  -- lane and SEGD message
  restores : List Restore
  waits    : List RestoreWait
deriving DecidableEq, Repr

/-! ### Screening and core health (15) -/

/-- Why a screen runs (R507): 0 classification, 1 conditional, 2 stress, 3 rotation. -/
structure ScrOpen where
  kind   : Nat
  pack   : Nat                 -- PACK_ID
  core   : Nat
  corner : Nat
  stress : Bool
  image  : List Byte           -- the pack it was started with
  due    : Nat                 -- PT, ns, from which the screen is LOST
deriving DecidableEq, Repr

/-- A PASS or FAIL in a correlation record (R514). -/
structure ScrRes where
  fail : Bool
  band : Option Nat
  sig  : Nat
deriving DecidableEq, Repr

/-- A correlation record (R514, R515), with its last class record. -/
structure ScrCorr where
  core  : Nat
  pack  : Nat                  -- pack number
  ver   : Nat
  res   : List ScrRes          -- the last 64, oldest first
  ct    : Bool
  cl    : Bool
  cls   : List Byte            -- the class record last delivered
  condAt : Option Nat          -- PT, ns, of the last conditional screen queued
deriving DecidableEq, Repr

/-- A classification in progress (R511): step 0 repeats on A, step 1 runs on B. -/
structure ScrClass where
  core   : Nat
  pack   : Nat                 -- PACK_ID
  stress : Bool
  corner : Nat
  miss   : Bool
  first  : List Byte           -- the 16 result bytes of the first FAIL
  band   : Nat
  sig    : Nat
  bcore  : Nat
  step   : Nat
  tries  : Nat
  onA    : Option (List Byte)  -- none: PASS; otherwise the wrong value of the repeat
deriving DecidableEq, Repr

/-- Screening of the die on a lane. -/
structure ScrDie where
  cur     : Option ScrOpen
  rotPack : Nat                -- pack number and core of the last rotation screen
  rotCore : Nat
  started : Bool               -- a rotation has begun
  nextAt  : Nat                -- PT, ns, of the next rotation screen
  session : Bool
  stress  : List (Nat × Nat)   -- pack number and core of the session's screens still to run
  cls     : List ScrClass
  corr    : List ScrCorr
  cond    : List (Nat × Nat)   -- conditional screens waiting: core and pack number
deriving DecidableEq, Repr

/-- Health of a physical core beside GR_CORE_ERR and GR_CT_MAP: the hour its CE counts and the count, its last residue
mismatch, the end of its core test, a move that waits for a boundary, and whether it is then retired without a test. -/
structure CoreHealth where
  hour    : Nat
  ce      : Nat
  lastRes : Option Nat
  testEnd : Option Nat
  move    : Bool
  retire  : Bool
deriving DecidableEq, Repr

/-- The screening service. -/
structure ScreenSvc where
  packs  : Tbl (List Byte)     -- installed packs, by pack number
  staged : Tbl (List Byte)     -- installed since the last frame boundary
  dies   : Tbl ScrDie          -- by lane
  cores  : Tbl CoreHealth      -- by 64·CT + physical core
deriving DecidableEq, Repr

/-! ### History (11) -/

/-- An open series block (R371, R372). `key`: the lane it comes from. -/
structure HistOpen where
  eid   : Nat
  job   : Nat                  -- the job of a series keyed by LDA (R22), 0 otherwise
  lane  : Nat
  chan  : Nat
  tier  : Nat
  stat  : Nat
  pred  : Nat
  ent   : Nat                  -- frame-length log entry
  first : Nat
  vals  : List W64
  flags : Nat                  -- RFLAGS bits 0–2
deriving DecidableEq, Repr

/-- An open summary interval (R373). -/
structure HistIntv where
  eid   : Nat
  job   : Nat
  lane  : Nat
  chan  : Nat
  tier  : Nat
  pred  : Nat
  ent   : Nat
  idx   : Nat
  min'  : W64
  max'  : W64
  sum   : W64
  last  : W64
  count : Nat
  flags : Nat
deriving DecidableEq, Repr

/-- A tier's ring (R374, R376): the offset of the next record, the next RSEQ, and offset and size of the records held. -/
structure HistRing where
  wp   : Nat
  seq  : Nat
  recs : List (Nat × Nat)
deriving DecidableEq, Repr

/-- What PD and the history service hold of a die's sample stream: the values of the last block decoded, its GEN and its
frame index (R127, R371), and the latest frames and step numbers that it sent (R51). -/
structure HistDie where
  prev : List W64
  gen  : Option Nat
  last : Option Nat
  seen : List Nat
  steps : List Nat
deriving DecidableEq, Repr

/-- A decoded sample that waits to be filed: its frame, whether it carries DISCONTINUITY or STEP, whether its GEN differs
from the sample before, and the values of the channels that a plan stores. -/
structure HistSample where
  lane   : Nat
  frame  : Nat
  disc   : Bool
  newgen : Bool
  vals   : List (Nat × W64)
deriving DecidableEq, Repr

/-- A running export (R382–R385): the command, its range, the next page, the snapshot epoch, the pages preserved with the
reserve page of each, and how many were sent. -/
structure Export where
  cmd   : HostCmd
  first : Nat
  pages : Nat
  next  : Nat
  epoch : Nat
  cutAt : Nat
  kept  : Tbl Nat
  sent  : List Byte            -- pages sent to a source that has no buffer in host memory
deriving DecidableEq, Repr

/-- The history service. -/
structure History where
  rings  : List HistRing       -- FULL, MS1, MS10
  opens  : List HistOpen
  intvs  : List HistIntv
  dies   : Tbl HistDie         -- by lane
  frames : List (Nat × Nat × Nat × Nat) -- frame-length log: number, tick, F µs, S µs
  waiting : List HistSample
  drowse : List FeedSample     -- values of listed channels taken in DROWSE, frame by frame (R604)
  exp    : Option Export
  epochs : Tbl Nat             -- write epoch of each page of the region, by page number
deriving DecidableEq, Repr

/-! ### Marks and site time (04) -/

/-- A mark as the alignment kit holds it (R160, R162). -/
structure Mark where
  job  : Nat
  lda  : Nat
  id   : Nat
  recv : Bool
  at16 : Nat                   -- stamp, sixteenths of a nanosecond
  unc  : Nat
deriving DecidableEq, Repr

/-- A master heard on MGMT by its Announce messages (Table 4.8). -/
structure PtpMaster where
  source : Nat                 -- its port identity
  rank   : List Nat            -- what the best master clock algorithm compares, in order
  until' : Nat                 -- LM, ns, until which it is present without another Announce
deriving DecidableEq, Repr

/-- A Sync of the master: its origin time T1 and its arrival T2, sixteenths of a nanosecond. -/
structure PtpSync where
  source : Nat
  seq    : Nat
  t1     : Nat
  t2     : Nat
deriving DecidableEq, Repr

/-- The site servo (R142, R143): SITE of GR_ALM_STAT, the latest offset of PT from site time in sixteenths of a
nanosecond, whether SITE_FAR has been written for the present excursion, the LM, ns, at which the self-test ended, whether
the 1,000 ms of R145 are over, the masters heard, a two-step Sync without its Follow_Up, the Delay_Req that waits for
its answer with the Sync it completes, and the sequence number of the next. -/
structure SiteTrack where
  state  : Nat
  offset : Int
  far    : Bool
  since  : Nat
  waited : Bool
  masters : List PtpMaster
  sync   : Option PtpSync
  dreq   : Option (BitVec 16 × PtpSync)
  dseq   : BitVec 16
deriving DecidableEq, Repr

/-- An applied change of a binding (R25–R29) whose boundary still bears on samples: the PDA that stood behind the LDA
before and after it, if any. `rebind`: the LDA went to a new PDA; `marked`: its SWAP marker has been filed. -/
structure SwapRec where
  lda    : Nat
  job    : Nat
  old    : Option Nat
  new    : Option Nat
  at'    : Nat                 -- PT of the swap boundary
  rebind : Bool
  marked : Bool
deriving DecidableEq, Repr

/-- What this Gremon counted missing in a period of a reduction (R539), and at the root the MISSING_HASH published. -/
structure MissedRec where
  rid    : Nat
  period : Nat
  eids   : List Nat
  hash   : Option Nat
deriving DecidableEq, Repr

/-- All of it. -/
structure Svc where
  vig    : VigilSvc
  lan    : LanternSvc
  ckpt   : Tbl CkptSlot
  cont   : Continuity
  scr    : ScreenSvc
  hist   : History
  swaps  : List SwapRec
  marks  : List Mark
  aligned : List (Nat × List Byte) -- alignment results published: job and record
  ambig  : Nat                 -- ambiguous marks discarded (AMBIG, R162)
  minima : List (Nat × Nat × Nat × Int) -- at a solver: job, die a, die b and ub(a, b) as home Gremons have sent them
  planNch : Nat                -- NCH of the union plan last committed to this Gremon's dies
  plans  : Tbl Nat             -- at the root: the same of each other Gremon (R114)
  hdids  : Tbl W64             -- the HDID of each PDA in the tray manifests of this Gremon and those below it (R204)
  site   : SiteTrack
  ptSteps : List (Nat × Int)   -- ordered steps of PT: tick and ns (R144)
  missed : List MissedRec      -- the last 256 periods of each RID
deriving DecidableEq, Repr

end Sys2Proof.Machine
end

