-- ==== Sys2Proof/Machine/StSys.lean ====
section
/-! DEFINITION. State of Gremon's power, boot, protection, update, black-box record, trace collector, thermal
protection, self-telemetry and transmit-stamp queues (04, 18–21). -/
namespace Sys2Proof.Machine
open Sys2Proof

/-- An entry of the host-write set (R596): SPACE as R598, address, PDA for AILEN spaces, the value that boot applied and
the value now. -/
structure HwEntry where
  space  : Nat
  addr   : Nat
  pda    : Nat
  before : Nat
  value  : Nat
deriving DecidableEq, Repr

/-- Input, resets, power states and boot (18). Times are Gremon's PT in ns (LM while UNSET). -/
structure Power where
  pwrEn    : Bool              -- the sideband input PWR_EN
  rails    : Bool              -- the module's rails are on: power-good has come and nothing has removed them
  glOn     : Bool              -- the Guyline ports are enabled (R614)
  ready    : Bool              -- boot has ended: MODULE reads READY or DEGRADED, not BOOTING
  vin      : Nat               -- input voltage, 10 mV
  pstate   : Nat               -- 0 RUN, 1 IDLE, 2 DROWSE, 3 HOLD
  want     : Option (Nat × Nat) -- a pending DROWSE or HOLD and the PT of its write (R603)
  waking   : Bool
  brace    : Bool
  braceAt  : Nat               -- PT of the warning crossing
  vmin     : Nat               -- least input voltage of this BRACE
  recoverAt : Option Nat       -- PT from which the recovery timer runs
  braceCommit : Bool           -- the BRACE commit has completed
  held     : Option Nat        -- a FULL reset requested in BRACE, by source (R588)
  heldTarget : Option Nat      -- a power-state change requested in BRACE
  porSrc   : Nat               -- the source of the POR under way
  goodAt   : Nat               -- LM, ns, of power-good
  fullReset : Option Nat       -- a FULL reset requested and not yet performed, by source
  reqAt    : Nat               -- PT, ns, of the latest request
  cls      : Nat               -- GR_RESET_CAUSE
  src      : Nat
  prevBoot : Nat
  step     : Nat               -- GR_BOOT_STAT
  podReady : Bool
  podPartial : Bool            -- POD_READY_PARTIAL has been delivered
  podSent  : Option Nat        -- the tree EPOCH for which this Gremon has contributed to 0xF000_0002
  image    : Nat               -- 0 copy A, 1 copy B, 2 factory
  kitsOk   : Nat
  kitsRef  : Nat
  imgSeq   : Nat               -- GR_DEF_STAT
  defaulted : Nat
  lostMid  : Bool              -- writes may have come after the last commit (R597)
  wdtAt    : Nat               -- PT of the last KICK or of the start of the watchdog
  silentAt : Nat               -- PT at which CD firmware last fed its watchdog
  hwSet    : List HwEntry
  hwDirty  : Bool
  hwCommitted : List HwEntry   -- the set as last committed
  lastList : List (Nat × Nat)  -- SPACE and address of what the last applied Defaults Image set (R612)
  copyA    : List Byte         -- the two Defaults Images in the NOR
  copyB    : List Byte
  drowseList : List (Nat × Int) -- the applied image's DROWSE section: channel and SCALE
  keys     : List OpKey        -- the operator key table (R389, R609)
  bootKits : List (List Byte)  -- the packages its BOOTKITS section names
  pushList : List (Nat × Nat × Nat × Nat)  -- its SETTINGS entries of SPACE 2 and 3: SPACE, address, value, mask
deriving DecidableEq, Repr

/-- The persistent configuration store (R639): installed packs, the committed host-write set, manifest certificates. -/
structure NvStore where
  packs : Tbl (List Byte)
  hw    : List HwEntry
  certs : List (Nat × W64 × List Byte)
deriving DecidableEq, Repr

/-- A STAGE_END that waits while BRACE suspends NOR programs: its message number, TOTAL_LEN, and what its signatures say. -/
structure StageWait where
  mseq     : Nat
  total    : Nat
  sigOk    : Bool
  nestedOk : Bool
deriving DecidableEq, Repr

/-- Firmware banks and update (19). STATE, BANK, DEFERRED, FALLBACK, REASON and SEQ stand in GR_UPD_STAT. -/
structure Update where
  running  : List Byte         -- the image of the running bank
  other    : List Byte         -- the inactive bank
  otherOk  : Bool              -- it holds a checked image: staged, or the one to fall back to
  otherDigest : List Byte      -- the SHA-384 of it
  buf      : List Byte         -- the image being received
  tick     : Nat               -- the scheduled TICK, 0 for none
  tickGone : Bool              -- a FULL reset has cleared GR_UPD_TICK while the schedule stands
  deferred : Bool              -- the activation has been deferred
  autoRevert : Bool
  confirmWin : Nat
  activatedAt : Nat            -- PT, ns, of the activation reset
  nvWrites : Bool              -- NV writes have come since the activation
  old      : Option NvStore    -- the store as the activation found it, kept until CONFIRM (R639)
  waits    : List StageWait
  schedules : List (Nat × List Byte) -- at the root: schedules accepted and not yet past, tick and payload
deriving DecidableEq, Repr

/-- A secured session (R544, R627, R628): over MGMT or DOE, its number, and the MID it is bound to. -/
structure Session where
  doe  : Bool
  num  : Nat
  mid  : Option Nat
  beat : Nat                   -- PT, ns, of its last message
deriving DecidableEq, Repr

/-- A record of an AILEN as attested (R631): Table 19.6a without LANE, STATE and AGE, and when the lane left UP. -/
structure MeasRec where
  pda    : Nat
  hdid   : W64
  alId   : Word
  alVer  : Word
  cfgid  : Word
  ucode  : BitVec 16
  capGen : BitVec 8
  phash  : Word
  since  : Option Nat          -- PT, ns, at which the lane left UP: STALE from then
deriving DecidableEq, Repr

/-- Protection and attestation (19). -/
structure Protect where
  token    : Option (Nat × Nat)      -- SCOPE and NOT_AFTER in seconds
  sessions : List Session
  certs    : List (Nat × W64 × List Byte)  -- manifest certificates: Gremon ID, serial, chain (R632)
  meas     : Tbl MeasRec
  spdmOut  : List (Bool × Nat × List Byte) -- SPDM answers: over DOE, session, bytes
deriving DecidableEq, Repr

/-- A black-box record (R653). `key` distinguishes State records of one type; `ext` is its extent. -/
structure BbRec where
  ty    : Nat
  pin   : Bool
  bseq  : Nat
  boot  : Nat
  stamp : Stamp
  body  : List Byte
  key   : Nat
  ext   : Nat
deriving DecidableEq, Repr

/-- The black-box record (R653–R658). -/
structure BlackBox where
  recs    : List BbRec         -- committed records, ascending BSEQ
  next    : Nat                -- the next BSEQ
  writes  : Tbl Nat            -- by extent: how often it has been written anew
  cur     : Nat                -- the extent being filled, and the bytes used in it
  fill    : Nat
  pinned  : Nat                -- bytes of pinned records
  pinFull : Bool
  firsts  : List Nat           -- event codes whose first FAULT record is pinned
  mirrored : Nat               -- records below this BSEQ are in the NOR mirror
  lost    : Nat
deriving DecidableEq, Repr

/-- The trace collector (R659–R665). -/
structure TraceCol where
  srcs   : Tbl TrcSrc          -- cores 32·CT + l and CD cores, by SRCID
  dieQ   : List (Nat × List Byte)  -- packets of AILEN's TRACE messages not yet taken, by SRCID
  dieLost : Tbl Nat            -- bytes of them discarded since the last that fitted, by SRCID
  cseq   : Tbl Nat             -- chunks of each source so far
  turn   : Nat                 -- the SRCID drained last, for the round-robin
  state  : Nat                 -- 0 OFF, 1 RUNNING, 2 TRIGGERED, 3 STOPPED
  trigAt : Nat                 -- PT, ns, of the trigger
  wp     : Nat                 -- bytes written to the reserve
  port   : List Byte           -- the stream sent to the trace port
deriving DecidableEq, Repr

/-- Thermal protection (R675, R676). -/
structure Thermal where
  dies    : Tbl Int            -- die temperatures, 1/64 °C, by CDN
  stks  : Tbl Int
  warm    : List Nat           -- dies, and 32 + stack, in their warm condition
  hot     : List Nat           -- CTs and stacks in their hot condition
  ceiling : Tbl Nat            -- CORE clock ceilings below the DVFS setting, by CT, 0.1 MHz
  stepAt  : Nat                -- PT, ns, of the last 1 ms change of the ceilings
  tripAt  : Option Nat         -- PT, ns, since which a trip condition has held
deriving DecidableEq, Repr

/-- Self-telemetry (R667, R668): running counts and the values they had at the last latch. -/
structure Telemetry where
  counts  : Tbl Nat            -- by channel, for DELTA channels counted by events
  base    : Tbl Nat            -- values of DELTA channels at the previous latch
  vinMin  : Nat                -- least input voltage since the latch
  power   : Nat                -- mean input power, 0.1 W, as last measured
  last    : List Nat           -- the block last latched
deriving DecidableEq, Repr

/-- A transmit-stamp queue (R157, R158): entries of message ID and stamp, oldest first, and how many were lost. -/
structure TsQueue where
  q     : List (Nat × Stamp)
  head  : Stamp                -- the entry whose NS words are latched
  lost  : Nat
deriving DecidableEq, Repr

/-- All of it. -/
structure Sys where
  pwr  : Power
  upd  : Update
  prot : Protect
  bb   : BlackBox
  trc  : TraceCol
  hot  : Thermal
  tel  : Telemetry
  tsq  : Tbl TsQueue
deriving DecidableEq, Repr

end Sys2Proof.Machine
end

