-- ==== Sys2Proof/Machine/StGremon.lean ====
section
/-! DEFINITION. The state of Gremon. -/
namespace Sys2Proof.Machine
open Sys2Proof

/-- A record on its way to the result queues (R542). -/
structure OutRec where
  kind : Nat
  prov : Bool
  job  : Nat
  body : List Byte
deriving DecidableEq, Repr

/-- The identity that the PCIe endpoint presents in its configuration space (R2, Table 16.1). -/
structure PciIdent where
  vendor : BitVec 16
  device : BitVec 16
  cls    : BitVec 24           -- class code
deriving DecidableEq, Repr

/-- Gremon's host side (16).
Log: entry 60 (DESIGN CHOICE; DEDUCED; PRESUMED). -/
structure HostSide where
  qps    : Tbl QPair
  rqs    : Tbl RQueue
  vecs   : Tbl Vector
  cmds   : List HostCmd        -- fetched and started, not completed, in order of start
  fwd    : List HostCmd        -- forwarded to the root and waiting for HRSP (R535)
  dma    : List (Nat × List Byte)   -- writes made into host memory, oldest first
  msix   : List Nat            -- interrupt messages sent, oldest first
  mgmt   : List MgmtPart
  mgmtOut : List (Nat × Nat × List Byte)   -- replies sent on MGMT and SVC: session, message number, bytes
  sealIn : Tbl Nat             -- next SEQ expected of each MID's data-in records (R555)
  sealOut : Tbl Nat
  chans  : Tbl MbChan
  linkUp : Bool                -- the PCIe link is trained
  d0     : Bool                -- the function is in D0
  pci    : PciIdent
deriving DecidableEq, Repr

/-- Gremon's recorder (R646). -/
structure Recorder where
  wr     : Nat
  rel    : Nat
  ovf    : Nat
  slots  : Tbl GEvent
  offers : List GEvent         -- filed or not, waiting to be offered (R647); empty between commands
deriving DecidableEq, Repr

/-- Gremon.
Log: entry 3 (DESIGN CHOICE). -/
structure Gremon where
  regs   : RegFile
  rdData : W64                 -- data of the last register read answered
  clock  : Clock
  replicas : Tbl Int           -- how far each die's replica stands from PT, by CDN, 2⁻⁴⁰ ns (R228)
  root   : Bool                -- this Gremon is the root
  lanes  : Tbl GlLink
  dies   : Tbl DieInfo
  binds  : List Binding
  jobs   : List JobInfo
  frameUs : Nat                -- F in force, µs
  frameN : Nat                 -- n in force
  frameNext : Option (Nat × Nat × Nat)   -- F, n and the tick of a change in progress (R42)
  log   : Recorder
  host   : HostSide
  mem    : Tbl Byte            -- bytes of scratchpads, CT buffers and HBM by CNA (R215); unlisted bytes read 0
  poison : List Nat            -- 64-byte lines, by CNA / 64, whose data read POISON (R213)
  deadStacks : List Nat        -- HBM stacks retired (R221)
  deadLinks : List (Nat × Nat) -- Canopy links failed since the last FULL reset, by their CDNs (R213)
  exclLinks : List (Nat × Nat) -- Canopy links excluded at the last self-test (R214)
  flits  : List Nat            -- CTs to which a flit with an uncorrectable error is on its way (R213)
  cores  : Tbl BCore           -- logical core 32·CT + slot
  sync   : Tbl SyncObj
  eng    : List EngCmd         -- engine commands issued and not completed, oldest first
  msnd   : List MsndOut
  tse    : Tbl TseCt
  ens    : List Ensemble       -- ensembles resident, oldest first
  ensNext : Nat                -- the next ensemble handle
  kits   : Tbl KitSlot
  kitNext : Nat                -- the next kit handle
  halted : List Nat            -- cores halted within the present command (R269, R403); empty between commands
  sys    : Sys                 -- power, protection, update, records, trace, temperature
  svc    : Svc                 -- Vigil, Lantern, triggers, continuity, screening, history
  tree   : Tree
  ports  : Tbl RlPort          -- Ridgeline ports 0–5
  rlIn   : List RlMsgIn        -- messages received for this Gremon, oldest first
  bcasts : List BcastRec
  bcastNext : Nat              -- the next broadcast sequence number at the root
  queries : List QueryRec
  queryNext : Nat
  feeds  : List FeedRec
  reds   : List RedPeriod      -- periods of reductions that are open or retained (R334)
  redNext : Tbl Nat            -- by RID: the next FRAME or SCORE period to close
  redOld : List (Nat × Nat × Nat) -- periods under an earlier F that are still to close: RID, period, and the PT of its end
  redKids : List RedKid
  failed : Bool                -- the module is FAILED (R214, R536)
  badRegAt : Option Nat        -- PT, ns, of the last BAD_REG, and those suppressed since (R560)
  badRegs : Nat
  seed   : Nat                 -- the model's own counter of free values drawn (see Config)
deriving DecidableEq, Repr

end Sys2Proof.Machine
end

