-- ==== Sys2Proof/Machine/GOps.lean ====
section
/-! DEFINITION. Operations shared by Gremon's families: registers, time, entities, coverage records, the recorder. -/
namespace Sys2Proof.Machine
open Sys2Proof

/-! ### Registers and time -/

/-- The Gremon registers for whose parity faults Table 17.3 gives an outcome other than the reset value.
Log: entry 40 (DEDUCED; DESIGN CHOICE). -/
def gParityOwn (k : Nat) : Bool :=
  (decide (0x100000 ≤ k) && decide (k < 0x101000)) || (decide (0x108000 ≤ k) && decide (k < 0x108400)) ||
    (decide (0x200000 ≤ k) && decide (k < 0x200800)) || decide (k = 0x300004) || (decide (0x300200 ≤ k) && decide (k < 0x300218)) ||
    (decide (ind 0x30000 ≤ k) && decide (k < ind 0x31000)) || decide (k = ind 0x90000) ||
    (decide (ind 0xA0000 ≤ k) && decide (k < ind 0xC0000)) || decide (k = ind 0xD0000) || decide (k = ind 0xD0004)

/-- The value of Gremon's register at key `k` as its function uses it: the applied value, or the reset value while a parity
fault of a register without an outcome of its own is in force (Table 17.3). -/
def Gremon.reg (g : Gremon) (k : Nat) : Nat :=
  if g.regs.force.contains k && !gParityOwn k then rstWord .gremon k else g.regs.get .gremon k
/-- A field of it. -/
def Gremon.fld (g : Gremon) (k hi lo : Nat) : Nat := bits (g.reg k) hi lo
/-- Gremon with a stored register replaced. -/
def Gremon.setReg (g : Gremon) (k v : Nat) : Gremon := { g with regs := g.regs.set .gremon k v }
/-- Gremon with a stored field replaced. -/
def Gremon.setFld (g : Gremon) (k hi lo v : Nat) : Gremon := { g with regs := g.regs.setFld .gremon k hi lo v }
/-- An SQC register's field set by a new event, with SEQ advanced (R567). -/
def Gremon.sqcEvent (g : Gremon) (k hi lo v : Nat) : Gremon :=
  { g with regs := (g.regs.setFld .gremon k hi lo v).bumpSeq .gremon k }
/-- Whether the register at `k` has a parity fault (R574).
Log: entry 40 (DEDUCED; DESIGN CHOICE). -/
def Gremon.parityBad (g : Gremon) (k : Nat) : Bool := g.regs.force.contains k

/-- Register keys of the families. -/
def kModule : Nat := 0x18
def kGlbStat : Nat := 0x10000
def kProtCtl : Nat := 0x10200
def kAlmCfg : Nat := 0x300004

/-- The Gremon ID (Table 17.5). -/
def Gremon.gid (g : Gremon) : Nat := g.fld kModule 9 0
/-- Confidential mode (R624), and the protection lock (R569). -/
def Gremon.conf (g : Gremon) : Bool := bit (g.reg kProtCtl) 1
def Gremon.locked (g : Gremon) : Bool := bit (g.reg kProtCtl) 0
/-- GR_ALM_CFG as its function uses it. -/
def Gremon.almCfg (g : Gremon) : Nat := g.reg kAlmCfg

/-- PT in whole ns. -/
def Gremon.now (g : Gremon) : Nat := g.clock.ptNs
/-- The scale on which Gremon measures delays: PT, or LM while PT is UNSET, in whole ns.
Log: entry 4 (DESIGN CHOICE; DEDUCED). -/
def Gremon.clk (g : Gremon) : Nat := g.clock.clkNs
/-- Gremon's clock moved to PT `ns` (LM while UNSET), if later.
Log: entry 4 (DESIGN CHOICE; DEDUCED). -/
def Gremon.moveTo (g : Gremon) (ns : Nat) : Gremon := { g with clock := g.clock.moveTo ns }

/-- PT has been set: pending shadows of FB registers, timed on LM until then, keep their ages on PT (R564, R566). -/
def Gremon.ptSet (g : Gremon) : Gremon := { g with regs := g.regs.rescale g.clock.lmNs g.now }

/-- A parity fault of the time configuration (Table 17.3): stamps are FREE with U 0xFFFF. -/
def Gremon.timeBad (g : Gremon) : Bool :=
  g.regs.force.any fun k => decide (k = kAlmCfg) || (decide (0x300200 ≤ k) && decide (k < 0x300218)) ||
    (decide (ind 0x30000 ≤ k) && decide (k < ind 0x31000))

/-- The quality Gremon reports (R143, R151): the root's own, or the lower of its own and its master's. -/
def Gremon.quality (g : Gremon) : Quality :=
  let q := if g.root then g.clock.own else g.clock.reported
  if g.timeBad && decide (q ≠ .unset) then .free else q

/-- Gremon's U in quarter ns (R136, R143, R152): hop bound 0.5 ns, drift 0.5 × 10⁻⁹ per second. -/
def Gremon.uncert (g : Gremon) : Nat :=
  if g.quality = .free ∨ g.quality = .unset then 0xFFFF
  else if g.root ∧ g.clock.own = .locked then 0
  else g.clock.uncert 2 5

/-- PT as the replica of die `cdn` reads it, in 2⁻⁴⁰ ns (R228); it stays 0 while PT is UNSET. -/
def Gremon.replicaPt (g : Gremon) (cdn : Nat) : Nat :=
  if g.clock.own = .unset then 0 else ((g.clock.pt : Int) + Tbl.get 0 g.replicas cdn).toNat

/-- LM as the replica of a die reads it, in whole ns: both bases are carried by one replica (R228). -/
def Gremon.replicaLm (g : Gremon) (cdn : Nat) : Nat := ((g.clock.lm : Int) + Tbl.get 0 g.replicas cdn).toNat / tickUnit

/-- A stamp of the present instant made on die `cdn`: the value of its replica (R228). -/
def Gremon.stampOn (g : Gremon) (cdn : Nat) : Stamp :=
  let pt := g.replicaPt cdn
  { ns := BitVec.ofNat 64 (pt / tickUnit), sub := BitVec.ofNat 4 (pt / 2 ^ 36), qual := g.quality, base := .pt
    unc := BitVec.ofNat 16 g.uncert }

/-- A stamp made by CD. -/
def Gremon.stamp (g : Gremon) : Stamp := g.stampOn 30

/-- REPLICA_REALIGN: TD brings every die's replica to within 0.25 ns of PT; where in that span is not fixed. TD itself
holds the master copy.
Log: entry 7 (DESIGN CHOICE). -/
def Gremon.realign (g : Gremon) : Gremon :=
  { g with
    replicas := (List.range 31).foldl (fun t d =>
      Tbl.set 0 t d (((Config.freeWord (g.seed + d)).toNat % (2 ^ 39 + 1) : Nat) - (2 ^ 38 : Int))) []
    seed := g.seed + 31 }

/-- F and S in ns (R38–R40). -/
def Gremon.frameNs (g : Gremon) : Nat := 1000 * g.frameUs
def Gremon.scoreNs (g : Gremon) : Nat := g.frameNs * g.frameN

/-- A self-telemetry count goes up (Table 20.12). -/
def Gremon.count (g : Gremon) (chan n : Nat) : Gremon :=
  if n = 0 then g
  else { g with sys := { g.sys with tel := { g.sys.tel with counts := Tbl.upd 0 g.sys.tel.counts chan (· + n) } } }

/-- GR_PKG_DIE_STAT_d, and a transfer that ended POISON at a die (Table 6.11). -/
def kDieStat (cdn : Nat) : Nat := ind 0x41000 + 4 * cdn
def Gremon.poisonAt (g : Gremon) (cdn : Nat) : Gremon :=
  (g.setFld (kDieStat cdn) 31 16 (sat 0xFFFF (g.fld (kDieStat cdn) 31 16 + 1))).count 304 1

/-- Change the services. -/
def Gremon.onSvc (g : Gremon) (f : Svc → Svc) : Gremon := { g with svc := f g.svc }

/-- A fresh value the spec does not fix.
Log: entry 7 (DESIGN CHOICE). -/
def Gremon.draw (g : Gremon) : Nat × Gremon := ((Config.freeWord g.seed).toNat, { g with seed := g.seed + 1 })

/-- `n` bytes that the spec does not fix.
Log: entry 7 (DESIGN CHOICE). -/
def Gremon.drawBytes (g : Gremon) (n : Nat) : List Byte × Gremon :=
  ((List.range n).map fun i => Config.freeByte (g.seed + i), { g with seed := g.seed + n })

/-! ### Entities (01) -/

/-- The PDA of a lane of this Gremon (Table 1.3). -/
def Gremon.pda (g : Gremon) (lane : Nat) : Nat := 512 * g.gid + lane % 512

/-- EIDs (Table 1.2). -/
def eidPhys (pda : Nat) : Nat := pda
def eidLog (lda : Nat) : Nat := 2 ^ 29 + lda
def eidTray (gid : Nat) : Nat := 2 ^ 30 + gid
def eidGremon (gid : Nat) : Nat := 2 ^ 31 + gid
def eidPod : Nat := 3 * 2 ^ 30

/-- Whether an EID is valid (R20). -/
def eidValid (e : Nat) : Bool :=
  let kind := bits e 31 30
  decide (bits e 28 20 = 0) &&
  (match kind with
    | 0 => bit e 29 || !bit e 19
    | 3 => decide (e % 2 ^ 30 = 0)
    | _ => !bit e 29 && decide (bits e 19 10 = 0))

/-- The binding in force for a PDA of this tray, if any (R22, R25). -/
def Gremon.bindOf (g : Gremon) (pda : Nat) : Option Binding :=
  g.binds.find? fun b => decide (b.pda = pda) && (decide (b.state = 1) || decide (b.state = 2))

/-- The job of the die with a PDA, or 0. -/
def Gremon.jobOf (g : Gremon) (pda : Nat) : Nat :=
  match g.bindOf pda with
  | some b => b.job
  | none => 0

/-- What this Gremon knows of a job. -/
def Gremon.jobInfo (g : Gremon) (job : Nat) : Option JobInfo := g.jobs.find? fun j => decide (j.job = job)

/-- The MID that owns a job (R534).
Log: entry 20 (DEDUCED; DESIGN CHOICE). -/
def Gremon.ownerOf (g : Gremon) (job : Nat) : Option Nat := (g.jobInfo job).map (·.owner)

/-- A JT stamp of `job` made on die `cdn` (R133, R134): NS 0 and UNSET where its epoch is not held; PT − E modulo 2⁶⁴. -/
def Gremon.jtStampOn (g : Gremon) (cdn job : Nat) : Stamp :=
  let st := g.stampOn cdn
  match g.jobInfo job with
  | some j => { st with ns := st.ns - j.epoch, base := .jt }
  | none => { st with ns := 0, sub := 0, qual := .unset, base := .jt, unc := 0xFFFF }

/-- An LM stamp made on die `cdn`. -/
def Gremon.lmStamp (g : Gremon) (cdn : Nat) : Stamp :=
  { g.stampOn cdn with ns := BitVec.ofNat 64 (g.replicaLm cdn), sub := 0, base := .lm }

/-- The PD that carries a pair of a lane: lanes 128·k to 128·k + 127 have their working pairs on PD k and their standby pairs on its
partner (R169). -/
def pdOf (lane : Nat) (p : Pair) : Nat := 24 + (match p with
  | .working => lane / 128
  | .standby => lane / 128 / 2 * 2 + (1 - lane / 128 % 2))
/-- The RD of a Ridgeline port (Table 6.1). -/
def rdOf (port : Nat) : Nat := 28 + port / 3

/-- The stamp of a message that arrives or leaves now at die `cdn`: on PT, or LM while PT is UNSET (R146, R228). -/
def Gremon.linkStamp (g : Gremon) (cdn : Nat) : Stamp :=
  let n := (((if g.clock.own = .unset then g.clock.lm else g.clock.pt) : Int) + Tbl.get 0 g.replicas cdn).toNat / 2 ^ 36
  { g.stampOn cdn with ns := BitVec.ofNat 64 (n / 16), sub := BitVec.ofNat 4 n }

/-- A die's stream of which nothing has come. -/
def HistDie.none : HistDie := { prev := [], gen := Option.none, last := Option.none, seen := [], steps := [] }

/-! ### Coverage (R46–R50) -/

/-- A coverage record. -/
structure Coverage where
  expected : Nat
  received : Nat
  hash     : Nat
  unit     : Nat
  degraded : Bool
  failed   : Nat
deriving DecidableEq, Repr

/-- The record as 24 bytes, CFLAGS computed under R47. -/
def Coverage.bytes (c : Coverage) : List Byte :=
  leBytes 4 c.expected ++ leBytes 4 c.received ++ leBytes 8 c.hash ++ leBytes 1 c.unit ++
    leBytes 1 (b2n (decide (c.received < c.expected)) + 2 * b2n c.degraded + 4 * b2n (decide (c.failed > 0))) ++
    leBytes 2 0 ++ leBytes 4 c.failed

/-- A coverage record read from bytes at `o`. -/
def Coverage.ofBytes (bs : List Byte) (o : Nat) : Coverage :=
  { expected := leAt bs o 4, received := leAt bs (o + 4) 4, hash := leAt bs (o + 8) 8, unit := leAt bs (o + 16) 1
    degraded := bit (leAt bs (o + 17) 1) 1, failed := leAt bs (o + 20) 4 }

/-- MISSING_HASH of a set of units (R49). -/
def missingHash (us : List Nat) : Nat := us.foldl (fun h u => h ^^^ mix64 u) 0

/-- Records merge (R50). -/
def Coverage.merge (a b : Coverage) : Coverage :=
  { expected := a.expected + b.expected, received := a.received + b.received, hash := a.hash ^^^ b.hash, unit := a.unit
    degraded := a.degraded || b.degraded, failed := a.failed + b.failed }

/-- The record of a set of expected units, of which `missing` did not come. -/
def Coverage.of (unit : Nat) (expected : Nat) (missing : List Nat) (degraded : Bool) (failed : Nat) : Coverage :=
  { expected := expected, received := expected - missing.length, hash := missingHash missing, unit := unit
    degraded := degraded, failed := failed }

/-! ### The recorder (R643–R648) -/

/-- A record as 64 bytes (Table 20.1).
Log: entry 42 (DESIGN CHOICE). -/
def GEvent.bytes (e : GEvent) : List Byte :=
  leBytes 4 e.rseq.toNat ++ leBytes 2 e.code.toNat ++ leBytes 2 e.job.toNat ++ e.stamp.bytes ++ leBytes 4 e.src.toNat ++
    padTo 40 e.data

/-- File a record, or count it in OVF (R646); it is offered either way (R647). -/
def Gremon.file (g : Gremon) (code job : Nat) (st : Stamp) (src : Nat) (data : List Byte) : Gremon :=
  let r := g.log
  let e : GEvent :=
    { rseq := BitVec.ofNat 32 r.wr, code := BitVec.ofNat 16 code, job := BitVec.ofNat 16 job, stamp := st
      src := BitVec.ofNat 32 src, data := padTo 40 data }
  if (r.wr + 2 ^ 32 - r.rel) % 2 ^ 32 < 16384 then
    { g with log := { r with
        slots := Tbl.put r.slots (r.wr % 16384) e, wr := (r.wr + 1) % 2 ^ 32, offers := r.offers ++ [e] } }
  else ({ g with log := { r with ovf := sat 0xFFFFFFFF (r.ovf + 1), offers := r.offers ++ [e] } } : Gremon).count 307 1

/-- Gremon's own event, stamped now.
Log: entry 42 (DESIGN CHOICE). -/
def Gremon.raise (g : Gremon) (ev : Ev) (data : List Byte) : Gremon :=
  g.file ev.code 0 g.stamp (eidGremon g.gid) data

/-- Gremon's own event that belongs to a job. -/
def Gremon.raiseJob (g : Gremon) (ev : Ev) (job : Nat) (data : List Byte) : Gremon :=
  g.file ev.code job g.stamp (eidGremon g.gid) data

/-- A write of GR_ER_REL (R648). -/
def Gremon.release (g : Gremon) (v : Nat) : Gremon :=
  let r := g.log
  if (v + 2 ^ 32 - r.rel) % 2 ^ 32 ≤ (r.wr + 2 ^ 32 - r.rel) % 2 ^ 32 then { g with log := { r with rel := v % 2 ^ 32 } }
  else g

/-- BAD_REG, at most one a millisecond; those suppressed are counted in the next one's DATA (R560).
Log: entry 39 (DEDUCED; DESIGN CHOICE). -/
def Gremon.badReg (g : Gremon) : Gremon :=
  let due := match g.badRegAt with
    | some t => decide (g.clk ≥ t + 1000000)
    | none => true
  if due then
    { (g.raise .badReg (leBytes 4 g.badRegs)) with badRegAt := some g.clk, badRegs := 0 }
  else { g with badRegs := sat 0xFFFFFFFF (g.badRegs + 1) }

/-! ### Messages between Gremons (13) -/

/-- Shaping classes (Table 13.6). -/
def vcTime : Nat := 0
def vcControl : Nat := 1
def vcLantern : Nat := 2
def vcReduce : Nat := 3
def vcBulk : Nat := 4

/-- An empty shaping class: its buckets are filled when the port reaches UP. -/
def RlClass.reset : RlClass :=
  { q := [], commit := 0, peak := 0, start := (0, 1), finish := (0, 1), samples := 0, delaySum := 0, delayMax := 0
    depthMax := 0, beyond := 0 }

/-- The credits each Gremon grants (R419). -/
def rlGrants : List Nat := [16, 256, 1024, 2048]

/-- A port that is DOWN and has never trained. -/
def RlPort.reset : RlPort :=
  { st := .down, active := [], spare := none, txActive := [], txSpare := none, lost := [], laneMove := none, neighbour := none
    classes := List.replicate 5 RlClass.reset, virt := (0, 1), filled := 0, nextSeq := 0, replay := [], replayAt := none
    ctl := [], credits := [0, 0, 0, 0], freedSeen := [0, 0, 0, 0], freed := [0, 0, 0, 0], freedSent := [0, 0, 0, 0]
    expect := 0, ack := 0, ackv := false, nakOpen := false, rx := [], dropRun := [], goBacks := 0, epoch := 0, farEpoch := 0
    initSent := none, keeps := false, initSeen := false, farOpen := false, initAt := 0, eqSaved := false, wire := [], sampleAt := 0, corr := [0, 0, 0, 0, 0]
    uncorr := [0, 0, 0, 0, 0], crcErr := 0, goBackCnt := 0, badMsg := 0, helloAt := none, rxMsgs := [0, 0, 0, 0]
    txMsgs := [0, 0, 0, 0] }

def Gremon.port (g : Gremon) (p : Nat) : RlPort := Tbl.get RlPort.reset g.ports p
def Gremon.setPort (g : Gremon) (p : Nat) (x : RlPort) : Gremon := { g with ports := Tbl.set RlPort.reset g.ports p x }

/-- The keys of a class's registers (Tables 13.18, 13.19). -/
def kShape (p c : Nat) : Nat := 0x3000100 + 0x1000 * p + 8 * c
def kBurst (p c : Nat) : Nat := 0x3000104 + 0x1000 * p + 8 * c
def kHwm (p c : Nat) : Nat := 0x3000200 + 0x1000 * p + 4 * c

/-- A flit of the message can be sent: 244 bytes of it are here, or all that will come. -/
def RlOut.avail (m : RlOut) : Bool := m.whole || decide (m.bytes.length ≥ 244)
/-- Whether a class has a flit to send, and how many it holds. -/
def RlClass.backlog (c : RlClass) : Bool := c.q.any RlOut.avail
def RlClass.depth (c : RlClass) : Nat := c.q.foldl (fun n m => n + max 1 ((m.bytes.length + 243) / 244)) 0

/-- Virtual times are fractions (R422).
Log: entry 17 (DEDUCED; DESIGN CHOICE). -/
def fracLe (a b : Nat × Nat) : Bool := decide (a.1 * b.2 ≤ b.1 * a.2)
def fracMax (a b : Nat × Nat) : Nat × Nat := if fracLe a b then b else a
def fracAdd (a b : Nat × Nat) : Nat × Nat :=
  let n := a.1 * b.2 + b.1 * a.2
  let d := a.2 * b.2
  let k := Nat.gcd n d
  (n / max 1 k, d / max 1 k)

/-- A port's five classes with class `c` replaced. -/
def putClass (ks : List RlClass) (c : Nat) (k : RlClass) : List RlClass :=
  (List.range 5).map fun i => if i = c then k else ks.getD i RlClass.reset

/-- A class's queue changes: a queue that wakes takes its start tag (R422), and the high-water mark follows (R424). -/
def Gremon.rlQueue (g : Gremon) (p c : Nat) (f : List RlOut → List RlOut) : Gremon :=
  let x := g.port p
  let k := x.classes.getD c RlClass.reset
  let k' := { k with q := f k.q }
  let k' := if k'.backlog && !k.backlog then { k' with start := fracMax x.virt k.finish } else k'
  let k' := if c = vcBulk then { k' with depthMax := max k'.depthMax k'.depth } else k'
  let g := g.setPort p { x with classes := putClass x.classes c k' }
  let d := sat 0xFFFF k'.depth
  if d > g.fld (kHwm p c) 15 0 then g.sqcEvent (kHwm p c) 15 0 d else g

/-- Queue a message in a port's class; `tsid` asks for a transmit stamp (R157). -/
def Gremon.rlSendTs (g : Gremon) (port cls : Nat) (m : List Byte) (tsid : Option Nat) : Gremon :=
  g.rlQueue port cls fun q =>
    q ++ [{ bytes := m, whole := true, abort := false, tag := none, at' := g.clk, tsid := tsid, fwd := none }]

/-- Queue a message in a port's class. -/
def Gremon.rlSend (g : Gremon) (port cls : Nat) (m : List Byte) : Gremon := g.rlSendTs port cls m none

/-- A message of type `ty` for Gremon `dst` (Table 13.13). -/
def Gremon.rlMsg (g : Gremon) (ty mfl dst ring tsid : Nat) (body : List Byte) : List Byte :=
  leBytes 1 ty ++ leBytes 1 mfl ++ leBytes 2 0 ++ leBytes 4 (16 + body.length) ++ leBytes 2 g.gid ++ leBytes 2 dst ++
    leBytes 2 ring ++ leBytes 2 tsid ++ body

/-- Whether a port carries messages. -/
def RlState.isOpen : RlState → Bool
  | .up => true | .laneWait => true | _ => false
def Gremon.portUp (g : Gremon) (p : Nat) : Bool := (g.port p).st.isOpen

/-- The neighbour on a port that is UP, by its latest HELLO. -/
def Gremon.neighbour (g : Gremon) (port : Nat) : Option Nat :=
  if g.portUp port then (Tbl.find g.tree.hellos port).map (·.sender) else none

/-- The port toward Gremon `dst`, none for itself or where it cannot be reached (R428). -/
def Gremon.routeTo (g : Gremon) (dst : Nat) : Option Nat :=
  if dst = g.gid then none
  else match g.tree.hellos.find? fun e => g.portUp e.1 && decide (e.2.sender = dst) with
    | some e => some e.1
    | none => match g.tree.subtree.find? fun m => decide (m.gid = dst) with
      | some m => some m.port
      | none => g.tree.parent

/-- Send a message toward `dst` under R428: to itself it is delivered at once; with no way to it, RL_UNREACH. -/
def Gremon.rlTo (g : Gremon) (dst vc ty ring : Nat) (body : List Byte) : Gremon :=
  if dst = g.gid then { g with rlIn := g.rlIn ++ [{ port := 7, bytes := g.rlMsg ty 0 dst ring 0 body, stamp := g.stamp }] } else
  match g.routeTo dst with
  | some p => g.rlSend p vc (g.rlMsg ty 0 dst ring 0 body)
  | none => g.raise .rlUnreach []

/-! ### Lanes -/

/-- Gremon's end of a lane. -/
def Gremon.lane (g : Gremon) (n : Nat) : GlLink := Tbl.get (GlLink.reset .gremon) g.lanes n
/-- Gremon with a lane's end replaced. -/
def Gremon.setLane (g : Gremon) (n : Nat) (l : GlLink) : Gremon :=
  { g with lanes := Tbl.set (GlLink.reset .gremon) g.lanes n l }

/-- A lane on which no die has enumerated. -/
def DieInfo.none : DieInfo :=
  { accepted := false, hdid := 0, alId := 0, alVer := 0, cfgid := 0, ucode := 0, capGen := 0, phash := 0,
    rseqHi := .none, resend := 0, tag := 0, waiting := [], remap := [], mbFwd := .none, mbAgain := false, cause := 0 }

/-- The die on a lane. -/
def Gremon.die (g : Gremon) (n : Nat) : DieInfo := Tbl.get DieInfo.none g.dies n
/-- Gremon with it replaced. -/
def Gremon.setDie (g : Gremon) (n : Nat) (d : DieInfo) : Gremon := { g with dies := Tbl.set DieInfo.none g.dies n d }

/-- Queue a message to the die on lane `n`. -/
def Gremon.glSend (g : Gremon) (n c : Nat) (m : List Byte) : Gremon := g.setLane n ((g.lane n).queue c m)

/-- Send a CMD to the die on lane `n` under the next TAG (Table 5.13). -/
def Gremon.command (g : Gremon) (n op cflg addr count : Nat) (data : List Byte) : Gremon :=
  let d := g.die n
  let tag := d.tag + 1
  let m := glMsg 0x21 (leBytes 2 tag.toNat ++ leBytes 1 op ++ leBytes 1 cflg ++ leBytes 4 addr ++ leBytes 2 count ++
    leBytes 2 0 ++ data)
  (g.setDie n { d with tag := tag, waiting := d.waiting ++ [(tag, m)] }).glSend n clsCtrl m

/-- A command WRITE of words at consecutive HRP offsets, 256 words a message. -/
def Gremon.cmdWords (g : Gremon) (n cflg addr : Nat) (ws : List Nat) : Gremon :=
  ((chunks 256 (ws.length + 1) ws).foldl (fun (s : Gremon × Nat) c =>
    (s.1.command n 2 cflg s.2 c.length (c.flatMap (leBytes 4)), s.2 + 4 * c.length)) (g, addr)).1

/-- A command WRITE of one word. -/
def Gremon.cmdWord (g : Gremon) (n addr v : Nat) : Gremon := g.cmdWords n 0 addr [v]

end Sys2Proof.Machine
end

