-- ==== Sys2Proof/Machine/Mem.lean ====
section
/-! DEFINITION. Gremon's memory by Canopy address (R206–R221): the byte table, the address map, the mesh routes, and
POISON. Every store keeps the canonical form of the table. -/
namespace Sys2Proof.Machine
open Sys2Proof

/-! ### Addresses (Tables 6.4–6.6) -/

/-- The CNA of byte `a` of the scratchpad of logical core `n` = 32·CT + slot. -/
def spadCna (n a : Nat) : Nat := (n / 32) * 2 ^ 42 + 0x100000000 + (n % 32) * 0x200000 + a
/-- The CNA of byte `o` of a CT's buffer. -/
def bufCna (ct o : Nat) : Nat := ct * 2 ^ 42 + o
/-- The CNA of an HBM physical address. -/
def hbmCna (hpa : Nat) : Nat := 2 ^ 47 + hpa

/-- Whether a CNA is HBM, its HPA, and the CDN of a die-local address. -/
def cnaHbm (a : Nat) : Bool := a.testBit 47
def cnaHpa (a : Nat) : Nat := a % 2 ^ 41
def cnaCdn (a : Nat) : Nat := bits a 46 42

/-- Regions of Table 6.6. -/
def hpaFeature : Nat := 0x0180000000
def hpaKit : Nat := 0x0580000000
def hpaTrace : Nat := 0x0D80000000
def hpaCow : Nat := 0x1D80000000
def hpaHist : Nat := 0x3D80000000
def hpaEnd : Nat := 0x18000000000

/-- The die of a CT from which an address is reached: ACCESS for a reserved field, an HPA beyond the end, an unmapped
offset, another CT's scratchpad or a die that is no CT (R216). -/
def cnaReach (ct a : Nat) : Bool :=
  if cnaHbm a then decide (bits a 46 41 = 0) && decide (cnaHpa a < hpaEnd)
  else
    let o := a % 2 ^ 42
    decide (a < 2 ^ 47) && decide (cnaCdn a < 16) &&
      (decide (o < 0x4000000) ||
        (decide (cnaCdn a = ct) && decide (0x100000000 ≤ o) && decide (o < 0x100000000 + 32 * 0x200000)))

/-- Whether each of `len` bytes from `a` is reached: both ends, in one region. -/
def cnaReachRange (ct a len : Nat) : Bool :=
  cnaReach ct a && cnaReach ct (a + len - 1) &&
    (cnaHbm a || decide (a % 2 ^ 42 < 0x4000000) == decide ((a + len - 1) % 2 ^ 42 < 0x4000000))

/-- The stack that holds an HPA, the byte's place within that stack, and the MH of a stack (R217). -/
def stackOf (hpa : Nat) : Nat := (hpa / 4096) % 24
def stackOfs (hpa : Nat) : Nat := hpa / 4096 / 24 * 4096 + hpa % 4096
def mhCdn (stack : Nat) : Nat := 16 + stack / 3

/-- The parts of an access to `n` bytes from an HPA, split at granules, each by its first HPA and its length (R219). -/
def hpaParts (hpa n : Nat) : List (Nat × Nat) :=
  (List.range (n / 4096 + 2)).filterMap fun i =>
    let lo := max hpa (4096 * (hpa / 4096 + i))
    let hi := min (hpa + n) (4096 * (hpa / 4096 + i + 1))
    if lo < hi then some (lo, hi - lo) else none

/-! ### The mesh (R207, R211) -/

/-- The position of a CDN (Table 6.2): x and y. -/
def meshPos (cdn : Nat) : Nat × Nat :=
  if cdn < 8 then (cdn, 1) else if cdn < 16 then (cdn - 8, 2)
  else match cdn with
    | 16 => (1, 0) | 17 => (2, 0) | 18 => (5, 0) | 19 => (6, 0) | 20 => (1, 3) | 21 => (2, 3) | 22 => (5, 3) | 23 => (6, 3)
    | 24 => (0, 0) | 25 => (7, 0) | 26 => (0, 3) | 27 => (7, 3) | 28 => (3, 0) | 29 => (4, 3) | 30 => (4, 0) | _ => (3, 3)

/-- The die at a position. -/
def meshDie (p : Nat × Nat) : Nat := ((List.range 32).find? fun d => meshPos d == p).getD 0

/-- One step from `a` toward `b`. -/
def towards (a b : Nat) : Nat := if a < b then a + 1 else if b < a then a - 1 else a

/-- The dies on the way from `p` to `q`: X first for REQ and SYS, Y first for RSP (R211). -/
def meshPath (xFirst : Bool) (q : Nat × Nat) : Nat → Nat × Nat → List Nat
  | 0, p => [meshDie p]
  | n + 1, p =>
    if p = q then [meshDie p]
    else
      let x := (towards p.1 q.1, p.2)
      let y := (p.1, towards p.2 q.2)
      meshDie p :: meshPath xFirst q n (if xFirst then (if p.1 = q.1 then y else x) else (if p.2 = q.2 then x else y))

/-- The links of a path, each by its lower and higher CDN. -/
def pathLinks : List Nat → List (Nat × Nat)
  | a :: b :: l => (min a b, max a b) :: pathLinks (b :: l)
  | _ => []

/-- The neighbours of a die over links that are not excluded, in rising CDN order. -/
def meshNext (excl : List (Nat × Nat)) (d : Nat) : List Nat :=
  let p := meshPos d
  (List.range 32).filter fun e =>
    let q := meshPos e
    ((decide (p.1 = q.1) && (decide (p.2 = q.2 + 1) || decide (q.2 = p.2 + 1))) ||
      (decide (p.2 = q.2) && (decide (p.1 = q.1 + 1) || decide (q.1 = p.1 + 1)))) &&
    !excl.contains (min d e, max d e)

/-- One round of distances to a destination: 99 where none is known yet. -/
def distRound (excl : List (Nat × Nat)) (ds : List Nat) : List Nat :=
  (List.range 32).map fun d => (meshNext excl d).foldl (fun m e => min m (ds.getD e 99 + 1)) (ds.getD d 99)

/-- The hops from every die to `dst` over links that are not excluded. -/
def meshDist (excl : List (Nat × Nat)) (dst : Nat) : List Nat :=
  loop (distRound excl) 32 ((List.range 32).map fun d => if d = dst then 0 else 99)

/-- The fixed path of least hops that avoids excluded links, the lowest CDN first at each step (R214). -/
def meshDetour (excl : List (Nat × Nat)) (ds : List Nat) : Nat → Nat → List Nat
  | 0, d => [d]
  | n + 1, d =>
    match (meshNext excl d).find? fun e => decide (ds.getD e 99 + 1 = ds.getD d 99) with
    | some e => d :: meshDetour excl ds n e
    | none => [d]

/-- The links of one way of a flow: the route of R211 unless it would cross an excluded link. -/
def wayLinks (excl : List (Nat × Nat)) (xFirst : Bool) (src dst : Nat) : List (Nat × Nat) :=
  let ls := pathLinks (meshPath xFirst (meshPos dst) 10 (meshPos src))
  if ls.any fun l => excl.contains l then pathLinks (meshDetour excl (meshDist excl dst) 32 src) else ls

/-- The links a request from one die to another and its response cross. -/
def flowLinks (excl : List (Nat × Nat)) (src dst : Nat) : List (Nat × Nat) :=
  wayLinks excl true src dst ++ wayLinks excl false dst src

/-- Whether some die cannot be reached over links that are not excluded (R214). -/
def meshSplit (excl : List (Nat × Nat)) : Bool := (meshDist excl 30).any fun d => decide (d ≥ 99)

/-! ### Bytes -/

/-- Memory is in its one form: addresses strictly rise and no byte listed is 0, which is what an unlisted one reads.
Log: entry 6 (DESIGN CHOICE). -/
def Memory.wf (m : Tbl Byte) : Bool := Tbl.wf 0 m
/-- A byte of memory; one that nothing has written reads 0.
Log: entry 6 (DESIGN CHOICE). -/
def Gremon.byte (g : Gremon) (a : Nat) : Byte := Tbl.get 0 g.mem a
/-- `n` bytes from `a`, addresses modulo 2⁴⁸. -/
def Gremon.rdBytes (g : Gremon) (a n : Nat) : List Byte := (List.range n).map fun i => g.byte ((a + i) % 2 ^ 48)
/-- `n` bytes from `a` as a little-endian number. -/
def Gremon.rd (g : Gremon) (a n : Nat) : Nat := ofLe (g.rdBytes a n)

/-- A table of bytes with `bs` stored from `a`.
Log: entry 6 (DESIGN CHOICE). -/
def memPut : Tbl Byte → Nat → List Byte → Tbl Byte
  | m, _, [] => m
  | m, a, b :: bs => memPut (Tbl.set 0 m (a % 2 ^ 48) b) (a + 1) bs

/-- The 64-byte lines that `n` bytes from `a` cover wholly. -/
def wholeLine (a n l : Nat) : Bool := decide (a ≤ 64 * l) && decide (64 * l + 64 ≤ a + n)

/-- Store bytes; a line stored whole reads POISON no longer. -/
def Gremon.wrBytes (g : Gremon) (a : Nat) (bs : List Byte) : Gremon :=
  { g with mem := memPut g.mem a bs, poison := g.poison.filter fun l => !wholeLine a bs.length l }
/-- Store `n` bytes of a number. -/
def Gremon.wr (g : Gremon) (a n v : Nat) : Gremon := g.wrBytes a (leBytes n v)

/-- Whether any line of `n` bytes from `a` is stored with an uncorrectable error (R213). -/
def Gremon.linePoison (g : Gremon) (a n : Nat) : Bool := g.poison.any fun l => decide (64 * l < a + n) && decide (a < 64 * l + 64)

/-- Whether the flow between two dies crosses a link that has failed since the last FULL reset (R213). -/
def Gremon.flowDead (g : Gremon) (src dst : Nat) : Bool :=
  !g.deadLinks.isEmpty && decide (dst ≠ src) && (flowLinks g.exclLinks src dst).any fun l => g.deadLinks.contains l

/-- Whether an access from die `src` to `n` bytes at `a`, a read or a write, completes POISON because of the way it takes:
for HBM a part of it lies in a retired stack (R221), or the flow of a part crosses a failed link. 25 granules meet every stack. -/
def Gremon.lost (g : Gremon) (src a n : Nat) : Bool :=
  !(g.deadStacks.isEmpty && g.deadLinks.isEmpty) &&
    (if cnaHbm a then
      (hpaParts (cnaHpa a) (min n 102400)).any fun p => g.deadStacks.contains (stackOf p.1) || g.flowDead src (mhCdn (stackOf p.1))
     else decide (0 < n) && g.flowDead src (cnaCdn a))

/-- Whether a read by die `src` of `n` bytes at `a` ends POISON. -/
def Gremon.flowPoison (g : Gremon) (src a n : Nat) : Bool := g.linePoison a n || g.lost src a n

/-- Store bytes from die `src`: the parts of the access that are lost have no effect, and the transfer ends POISON (R213, R221). -/
def Gremon.wrFrom (g : Gremon) (src a : Nat) (bs : List Byte) : Gremon :=
  if !g.lost src a bs.length then g.wrBytes a bs
  else
    let ps := if cnaHbm a then hpaParts (cnaHpa a) bs.length else []
    (ps.foldl (fun (g : Gremon) p =>
      let b := hbmCna p.1
      if g.lost src b p.2 then g else g.wrBytes b ((bs.drop (p.1 - cnaHpa a)).take p.2)) g).poisonAt src

/-- Whether `a` lies outside the die `d`: an access to it crosses the mesh. -/
def acrossMesh (d a : Nat) : Bool := cnaHbm a || decide (cnaCdn a ≠ d)

end Sys2Proof.Machine
end

