-- ==== Sys2Proof/Machine/Sketch.lean ====
section
/-! DEFINITION. The fabric operators' arithmetic on bytes (09): LQ16 histograms, quantiles, top-k lists, EWMA and CUSUM
states, and the merges of Table 9.1. -/
namespace Sys2Proof.Machine
open Sys2Proof

/-! ### Histograms (R308–R313) -/

def histBytes : Nat := 16448
/-- The greatest count. -/
def cntMax : Nat := 2 ^ 48

/-- A saturating addition: the count and whether it reached 2⁴⁸ (R312). -/
def cntAdd (a b : Nat) : Nat × Bool := (min (a + b) cntMax, decide (a + b ≥ cntMax))

/-- The bucket index n of a magnitude `m · 2ᵉ`: 64·e + j (R243, R310). -/
def lqBucket (m : Nat) (e : Int) : Int :=
  let l := Nat.log2 m
  let norm := if l ≤ 63 then m <<< (63 - l) else m >>> (l - 63)
  64 * ((l : Int) + e) + lqIndex norm 6 0

/-- Bins of a histogram. -/
inductive HBin where
  | zero
  | nan
  | beyond
  | b (i : Nat)
deriving DecidableEq, Repr

/-- The bin of bucket `n` under scale `e`. -/
def hbinOf (n e : Int) : HBin :=
  let b := n - 64 * (e - 16)
  if b < 0 then .zero else if b ≥ 2048 then .beyond else .b b.toNat

/-- The bin of a value (R310). -/
def hbin (f x : Nat) (e : Int) : HBin :=
  if fmtLq f then
    if x = 0 then .zero else if x = 0x8000 then .nan else if x % 2 ^ 15 = 0x7FFF then .beyond
    else hbinOf ((x % 2 ^ 15 : Nat) - (16384 : Int)) e
  else match elemVal f x with
    | .nan _ => .nan
    | .inf _ => .beyond
    | .fin _ m ex => if m = 0 then .zero else hbinOf (lqBucket m ex) e

/-- Whether a value adds to NEG (R311). -/
def hNegative (f x : Nat) : Bool :=
  match cmpVal f x with
  | .nan _ => false
  | .inf s => s
  | .fin s m _ => s && decide (m ≠ 0)

/-- The byte offset of a bin's count. -/
def binOfs : HBin → Nat
  | .zero => 16 | .nan => 24 | .beyond => 32 | .b i => 64 + 8 * i

/-- SCALE of a histogram header, and the checks of R309 on its first 64 bytes. -/
def histScale (h : List Byte) : Int := toInt 16 (leAt h 0 2)
def histOk (h : List Byte) : Bool :=
  decide (-239 ≤ histScale h) && decide (histScale h ≤ 239) && decide (leAt h 2 2 ≤ 3) && decide (leAt h 4 4 = 0) &&
    decide (leAt h 48 16 = 0)

/-- Buckets of a histogram's bytes. -/
def histBuckets (h : List Byte) : List Nat := (List.range 2048).map fun i => leAt h (64 + 8 * i) 8

/-- A histogram's bytes from its parts. -/
def histMake (scale : Int) (flags total zer nan beyond neg : Nat) (bs : List Nat) : List Byte :=
  leBytes 2 (ofInt 16 scale) ++ leBytes 2 flags ++ leBytes 4 0 ++ leBytes 8 total ++ leBytes 8 zer ++ leBytes 8 nan ++
    leBytes 8 beyond ++ leBytes 8 neg ++ leBytes 16 0 ++ bs.flatMap (leBytes 8)

/-- The identity histogram at a scale. -/
def histZero (scale : Int) : List Byte := histMake scale 0 0 0 0 0 0 (List.replicate 2048 0)

/-- Source counts moved to the destination's scale: what falls below, bucket by bucket, and above (R313). -/
def histShift (s : Int) (bs : List Nat) : Nat × List Nat × Nat :=
  let at' := fun (i : Nat) => ((i : Int) + s)
  let lo := ((List.range 2048).zip bs).foldl (fun n e => if at' e.1 < 0 then n + e.2 else n) 0
  let hi := ((List.range 2048).zip bs).foldl (fun n e => if at' e.1 ≥ 2048 then n + e.2 else n) 0
  (lo, (List.range 2048).map fun (i : Nat) =>
    let j : Int := (i : Int) - s
    if 0 ≤ j ∧ j < 2048 then bs.getD j.toNat 0 else 0, hi)

/-- The source histogram added into the destination (R312, R313). -/
def histMerge (dst src : List Byte) : List Byte :=
  let sd := histScale dst
  let ss := histScale src
  let (lo, bs, hi) := if sd = ss then (0, histBuckets src, 0) else histShift (64 * (ss - sd)) (histBuckets src)
  let add := fun (o extra : Nat) => cntAdd (leAt dst o 8) (leAt src o 8 + extra)
  let bk := (histBuckets dst).zipWith cntAdd bs
  let total := add 8 0
  let zero := add 16 lo
  let nan := add 24 0
  let beyond := add 32 hi
  let neg := add 40 0
  let sat := total.2 || zero.2 || nan.2 || beyond.2 || neg.2 || bk.any (·.2) || (leAt dst 2 1).testBit 0 || (leAt src 2 1).testBit 0
  let shifted := (leAt dst 2 1).testBit 1 || decide (sd ≠ ss)
  histMake sd (b2n sat + 2 * b2n shifted) total.1 zero.1 nan.1 beyond.1 neg.1 (bk.map (·.1))

/-- The merge of two histograms as contributions: SHIFTED of either is kept, so that no order of merging shows (R305).
Log: entry 30 (DEDUCED; DESIGN CHOICE). -/
def histJoin (a b : List Byte) : List Byte :=
  let r := histMerge a b
  r.take 2 ++ leBytes 2 (leAt r 2 2 ||| (leAt b 2 2 &&& 2)) ++ r.drop 4

/-- The first bucket at which the running count reaches `r` (R314). -/
def quantScan (r : Nat) : List Nat → (b acc : Nat) → Option Nat
  | [], _, _ => none
  | c :: cs, b, acc => if acc + c ≥ r then some b else quantScan r cs (b + 1) (acc + c)

/-- A quantile answer (R314, Table 9.4). -/
def quantile (h : List Byte) (q32 : Nat) : List Byte :=
  let t := leAt h 8 8 - leAt h 24 8
  let sat := b2n ((leAt h 2 1).testBit 0)
  let ans := fun (lo hi fl : Nat) => leBytes 2 lo ++ leBytes 2 hi ++ leBytes 2 (fl + 2 * sat) ++ leBytes 2 0
  if t = 0 then ans 0 0 1
  else
    let r := max 1 ((q32 * t + 2 ^ 32 - 1) / 2 ^ 32)
    let m0 := (64 * (histScale h - 16) + 16384).toNat
    if leAt h 16 8 ≥ r then ans 0 m0 4
    else match quantScan r (histBuckets h) 0 (leAt h 16 8) with
      | some b => ans (m0 + b) (m0 + b + 1) 0
      | none => ans (m0 + 2048) 0x7FFF 8

/-! ### Top-k lists (R315–R318) -/

def topkBytes : Nat := 1088

/-- An entry: VALUE and KEY. -/
structure TkEntry where
  value : Nat
  key   : Nat
deriving DecidableEq, Repr

/-- A top-k list. -/
structure TkList where
  k        : Nat
  fmt      : Nat
  dir      : Bool
  mismatch : Bool
  offered  : Nat
  nans     : Nat
  entries  : List TkEntry
deriving DecidableEq, Repr

/-- Whether entry `x` comes before entry `y` (R316). -/
def tkBefore (f : Nat) (dir : Bool) (x y : TkEntry) : Bool :=
  let a := cmpVal f (x.value % 2 ^ fmtWidth f)
  let b := cmpVal f (y.value % 2 ^ fmtWidth f)
  let first := if dir then Val.lt a b else Val.lt b a
  let second := if dir then Val.lt b a else Val.lt a b
  if first then true else if second then false
  else if x.key < y.key then true else if y.key < x.key then false
  else decide (x.value < y.value)

/-- Insert an entry in list order; an entry equal to one held stands beside it. -/
def tkInsert (f : Nat) (dir : Bool) (e : TkEntry) : List TkEntry → List TkEntry
  | [] => [e]
  | x :: xs => if tkBefore f dir e x then e :: x :: xs else x :: tkInsert f dir e xs

/-- Parse and write a list (Tables 9.5, 9.6). -/
def TkList.ofBytes (bs : List Byte) : TkList :=
  { k := leAt bs 0 1, fmt := leAt bs 2 1, dir := bit (leAt bs 3 1) 0, mismatch := bit (leAt bs 3 1) 1,
    offered := leAt bs 8 8, nans := leAt bs 16 8,
    entries := (List.range (min (leAt bs 1 1) 64)).map fun i =>
      { value := leAt bs (64 + 16 * i) 8, key := leAt bs (72 + 16 * i) 4 } }
def TkList.bytes (t : TkList) : List Byte :=
  leBytes 1 t.k ++ leBytes 1 t.entries.length ++ leBytes 1 t.fmt ++ leBytes 1 (b2n t.dir + 2 * b2n t.mismatch) ++ leBytes 4 0 ++
    leBytes 8 t.offered ++ leBytes 8 t.nans ++ leBytes 40 0 ++
    padTo 1024 (t.entries.flatMap fun e => leBytes 8 e.value ++ leBytes 4 e.key ++ leBytes 4 0)

/-- Offer one value: a NaN is refused and counted. -/
def TkList.offer (t : TkList) (v key : Nat) : TkList :=
  let t := { t with offered := (cntAdd t.offered 1).1 }
  if (cmpVal t.fmt v).isNan then { t with nans := (cntAdd t.nans 1).1 }
  else { t with entries := (tkInsert t.fmt t.dir { value := v, key := key } t.entries).take t.k }

/-- Merge an input list, or skip it with MISMATCH (R318). -/
def TkList.merge (t u : TkList) : TkList :=
  if u.fmt ≠ t.fmt ∨ u.dir ≠ t.dir then { t with mismatch := true }
  else
    { t with
      mismatch := t.mismatch || u.mismatch, offered := (cntAdd t.offered u.offered).1, nans := (cntAdd t.nans u.nans).1
      entries := (u.entries.foldl (fun l e => tkInsert t.fmt t.dir e l) t.entries).take t.k }

/-- An empty list. -/
def TkList.empty (k fmt : Nat) (dir : Bool) : TkList :=
  { k := k, fmt := fmt, dir := dir, mismatch := false, offered := 0, nans := 0, entries := [] }

/-! ### Baselines (R319–R321) -/

/-- NOSAMPLE of a format. -/
def noSample (f : Nat) : Nat := 2 ^ (fmtWidth f - 1)
/-- A sample clamped to [−2⁴⁷, 2⁴⁷ − 1]. -/
def clamp47 (x : Int) : Int := max (-(2 ^ 47)) (min (2 ^ 47 - 1) x)

/-- EWMA of one state (R320). -/
def ewmaStep (st : List Byte) (x s f : Nat) : List Byte :=
  let mean := toInt 64 (leAt st 0 8)
  let dev : Int := (leAt st 8 8 : Nat)
  let n := leAt st 16 4
  if x = noSample f then
    st.take 20 ++ leBytes 4 2 ++ leBytes 4 (sat 0xFFFFFFFF (leAt st 24 4 + 1)) ++ (st.drop 28).take 4
  else
    let xi := elemInt f x
    let c := clamp47 xi
    let q := c * 2 ^ 16
    let d := q - mean
    let mean' := if n = 0 then q else mean + floorDiv d (2 ^ s)
    let dev' := if n = 0 then 0 else dev + floorDiv ((d.natAbs : Int) - dev) (2 ^ s)
    leBytes 8 (ofInt 64 mean') ++ leBytes 8 (ofInt 64 dev') ++ leBytes 4 (sat 0xFFFFFFFF (n + 1)) ++
      leBytes 4 (b2n (decide (c ≠ xi))) ++ leBytes 4 0 ++ (st.drop 28).take 4

/-- CUSUM of one state: the state and its alarm bit (R321). -/
def cusumStep (st p : List Byte) (x f : Nat) : List Byte × Bool :=
  if x = noSample f then (st.take 24 ++ leBytes 4 8 ++ (st.drop 28).take 4, false)
  else
    let cap : Int := 2 ^ 63 - 1
    let xi := elemInt f x
    let c := clamp47 xi
    let q := c * 2 ^ 16
    let target := toInt 64 (leAt p 0 8)
    let slack : Int := min cap (leAt p 8 8 : Nat)
    let limit : Int := min cap (leAt p 16 8 : Nat)
    let hi : Int := (leAt st 0 8 : Nat) + (q - target) - slack
    let lo : Int := (leAt st 8 8 : Nat) + (target - q) - slack
    let sat' := decide (hi > cap) || decide (lo > cap)
    let shi := min cap (max 0 hi)
    let slo := min cap (max 0 lo)
    let ahi := decide (shi > limit)
    let alo := decide (slo > limit)
    let al := ahi || alo
    let rst := al && bit (leAt p 24 4) 0
    let cfl := b2n ahi + 2 * b2n alo + 4 * b2n (decide (c ≠ xi)) + 16 * b2n sat'
    (leBytes 8 (if rst && ahi then 0 else shi.toNat) ++ leBytes 8 (if rst && alo then 0 else slo.toNat) ++
      leBytes 4 (sat 0xFFFFFFFF (leAt st 16 4 + 1)) ++ leBytes 4 (sat 0xFFFFFFFF (leAt st 20 4 + b2n al)) ++ leBytes 4 cfl ++
      (st.drop 28).take 4, al)

/-! ### Fabric merges (Table 9.1) -/

/-- Bytes of an element of an operator. -/
def opcBytes (opc : Nat) : Nat :=
  match opc with
  | 1 => histBytes | 2 => topkBytes | 3 => 16 | 4 => 8 | 5 => 8 | _ => 8

/-- The identity element (Table 9.1). -/
def opcIdent (opc fmt : Nat) (scale : Int) (k : Nat) (dir : Bool) : List Byte :=
  match opc with
  | 1 => histZero scale
  | 2 => (TkList.empty k fmt dir).bytes
  | 3 => leBytes 16 0
  | 4 => leBytes 8 (if !fmtInt fmt then canonNan fmt else if fmtSigned fmt then 2 ^ (fmtWidth fmt - 1) - 1 else 2 ^ fmtWidth fmt - 1)
  | 5 => leBytes 8 (if !fmtInt fmt then canonNan fmt else if fmtSigned fmt then 2 ^ (fmtWidth fmt - 1) else 0)
  | _ => leBytes 8 0

/-- One element of an operator merged with another. -/
def opcMerge (opc fmt : Nat) (a b : List Byte) : List Byte :=
  match opc with
  | 1 => histJoin a b
  | 2 => ((TkList.ofBytes a).merge (TkList.ofBytes b)).bytes
  | 3 => leBytes 16 ((leAt a 0 16 + leAt b 0 16) % 2 ^ 128)
  | 4 => leBytes 8 (elemMinMax fmt false (leAt a 0 8 % 2 ^ fmtWidth fmt) (leAt b 0 8 % 2 ^ fmtWidth fmt)).1
  | 5 => leBytes 8 (elemMinMax fmt true (leAt a 0 8 % 2 ^ fmtWidth fmt) (leAt b 0 8 % 2 ^ fmtWidth fmt)).1
  | _ => leBytes 8 (leAt a 0 8 ||| leAt b 0 8)

/-- A payload of `n` elements merged with another, element by element. -/
def payloadMerge (opc fmt n : Nat) (a b : List Byte) : List Byte :=
  let w := opcBytes opc
  (List.range n).flatMap fun i => opcMerge opc fmt ((a.drop (w * i)).take w) ((b.drop (w * i)).take w)

end Sys2Proof.Machine
end

