-- ==== Sys2Proof/Machine/BrutuCore.lean ====
section
/-! DEFINITION. A Brutu core: instruction words and their checks (R251–R257), registers, issue (R262–R266), traps and
halts (R267–R269), counting (R270–R272). -/
namespace Sys2Proof.Machine
open Sys2Proof

/-! ### Instruction words (Tables 7.9, 7.10) -/

def wOp (w : Nat) : Nat := bits w 63 56
def wD (w : Nat) : Nat := bits w 55 51
def wA (w : Nat) : Nat := bits w 50 46
def wB (w : Nat) : Nat := bits w 45 41
def wFmt (w : Nat) : Nat := bits w 40 37
def wC (w : Nat) : Nat := bits w 36 32
def wRm (w : Nat) : Nat := bits w 27 25
def wSub (w : Nat) : Nat := bits w 24 21
def wPart (w : Nat) : Nat := bits w 20 18
def wImm (w : Nat) : Int := toInt 37 w
def wOfs (w : Nat) : Int := toInt 22 w
/-- PRED and ZM of form R, and of form M. -/
def wPredR (w : Nat) : Nat := bits w 31 29
def wZmR (w : Nat) : Bool := bit w 28
def wPredM (w : Nat) : Nat := bits w 36 34
def wZmM (w : Nat) : Bool := bit w 33

/-- Extension forms. -/
inductive Form where
  | r
  | i
  | m
  | b
  | s
deriving DecidableEq, Repr

/-- What a register field names. -/
inductive Names where
  | unused
  | g
  | v
  | p
  | s
  | cond
deriving DecidableEq, Repr

/-- What an instruction's word may hold: its form, the formats it accepts, what D, A, B and C name, whether PRED and ZM
are used, and its operation class for INT and for other formats. -/
structure OpSpec where
  form : Form
  fmts : Nat → Bool
  d : Names
  a : Names
  b : Names
  c : Names
  pred : Bool
  zm : Bool
  cls : Nat × Nat

/-- Sets of formats as Table 7.11 names them. -/
def fNone (f : Nat) : Bool := decide (f = 0)
def fInt (f : Nat) : Bool := fmtInt f
def fFp (f : Nat) : Bool := fmtFp f
def fFpLq (f : Nat) : Bool := fmtFp f || fmtLq f
def fAll (f : Nat) : Bool := decide (f ≤ 9)
def fIntFp (f : Nat) : Bool := decide (f ≤ 8)
def fI64 (f : Nat) : Bool := decide (f = 1)
def fWide (f : Nat) : Bool := decide (f ≤ 1)
def fSigned (f : Nat) : Bool := fmtSigned f || fFpLq f

/-- Operation classes (Table 7.16). -/
def cInt : Nat × Nat := (0, 0)
def cBoth (i f : Nat) : Nat × Nat := (i, f)
def cOne (c : Nat) : Nat × Nat := (c, c)

/-- Shapes that many instructions share. -/
def spR3 (f : Nat → Bool) (c : Nat × Nat) : OpSpec := ⟨.r, f, .g, .g, .g, .unused, false, false, c⟩
def spR2 (f : Nat → Bool) (c : Nat × Nat) : OpSpec := ⟨.r, f, .g, .g, .unused, .unused, false, false, c⟩
def spImm (f : Nat → Bool) : OpSpec := ⟨.i, f, .g, .g, .unused, .unused, false, false, cInt⟩
def spV3 (f : Nat → Bool) (c : Nat × Nat) : OpSpec := ⟨.r, f, .v, .v, .v, .unused, true, true, c⟩
def spV2 (f : Nat → Bool) (c : Nat × Nat) : OpSpec := ⟨.r, f, .v, .v, .unused, .unused, true, true, c⟩
def spP3 : OpSpec := ⟨.r, fNone, .p, .p, .p, .unused, false, false, cOne 11⟩
def spBr (f : Nat → Bool) (a b : Names) : OpSpec := ⟨.b, f, .unused, a, b, .unused, false, false, cOne 10⟩
def spEng (f : Nat → Bool) : OpSpec := ⟨.m, f, .unused, .g, .unused, .unused, false, false, cOne 13⟩
def spHub (d a b : Names) : OpSpec := ⟨.i, fNone, d, a, b, .unused, false, false, cOne 14⟩

/-- The opcode map (Tables 7.11 and 8.1); an opcode without an entry is unassigned. -/
def opSpec (op : Nat) : Option OpSpec :=
  match op with
  | 0x01 => some ⟨.i, fNone, .unused, .unused, .unused, .unused, false, false, cOne 15⟩
  | 0x02 => some (spR3 fInt cInt) | 0x03 => some (spR3 fInt cInt)
  | 0x04 => some (spR3 fInt cInt) | 0x05 => some (spR3 fInt cInt) | 0x06 => some (spR3 fInt cInt)
  | 0x07 => some (spR3 fInt cInt) | 0x08 => some (spR3 fInt cInt) | 0x09 => some (spR3 fInt cInt)
  | 0x0A => some (spR3 fInt cInt) | 0x0B => some (spR3 fInt cInt) | 0x0C => some (spR3 fInt cInt)
  | 0x0E => some (spR3 fInt (cOne 1)) | 0x0F => some (spR3 fInt (cOne 1))
  | 0x10 => some (spR3 fInt (cOne 2)) | 0x11 => some (spR3 fInt (cOne 2))
  | 0x17 => some (spImm fI64)
  | 0x18 => some (spImm fInt) | 0x19 => some (spImm fInt) | 0x1A => some (spImm fInt) | 0x1B => some (spImm fInt)
  | 0x1C => some (spImm fInt) | 0x1D => some (spImm fInt) | 0x1E => some (spImm fInt)
  | 0x1F => some ⟨.i, fI64, .g, .unused, .unused, .unused, false, false, cInt⟩
  | 0x20 => some (spR3 fFp (cOne 3)) | 0x21 => some (spR3 fFp (cOne 3))
  | 0x22 => some (spR3 fFpLq (cOne 4)) | 0x23 => some (spR3 fFpLq (cOne 6))
  | 0x24 => some (spR2 fFp (cOne 6))
  | 0x25 => some ⟨.r, fFp, .g, .g, .g, .g, false, false, cOne 5⟩
  | 0x26 => some (spR3 fFpLq (cOne 3)) | 0x27 => some (spR3 fFpLq (cOne 3)) | 0x28 => some (spR3 fFpLq (cOne 3))
  | 0x29 => some (spR2 fAll (cOne 7))
  | 0x2A => some (spR2 fFpLq (cOne 3)) | 0x2B => some (spR2 fFpLq (cOne 3))
  | 0x40 => some (spV3 fIntFp (cBoth 0 3)) | 0x41 => some (spV3 fIntFp (cBoth 0 3))
  | 0x42 => some (spV3 fAll (cBoth 1 4))
  | 0x43 => some ⟨.r, fFp, .v, .v, .v, .v, true, true, cOne 5⟩
  | 0x44 => some (spV3 fFpLq (cOne 6))
  | 0x45 => some (spV2 fFp (cOne 6))
  | 0x46 => some (spV3 fAll (cBoth 0 3)) | 0x47 => some (spV3 fAll (cBoth 0 3))
  | 0x48 => some (spV3 fInt cInt) | 0x49 => some (spV3 fInt cInt) | 0x4A => some (spV3 fInt cInt)
  | 0x4B => some (spV3 fInt cInt) | 0x4C => some (spV3 fInt cInt) | 0x4D => some (spV3 fInt cInt)
  | 0x4E => some ⟨.r, fAll, .p, .v, .v, .unused, true, false, cBoth 0 3⟩
  | 0x4F => some (spV2 fAll (cOne 7))
  | 0x50 => some ⟨.r, fAll, .v, .g, .unused, .unused, true, true, cOne 15⟩
  | 0x51 => some ⟨.i, fAll, .g, .v, .unused, .unused, false, false, cOne 15⟩
  | 0x52 => some ⟨.i, fAll, .v, .g, .unused, .unused, false, false, cOne 15⟩
  | 0x53 => some ⟨.r, fAll, .g, .v, .unused, .unused, true, false, cBoth 0 3⟩
  | 0x54 => some ⟨.r, fAll, .v, .v, .v, .unused, true, false, cOne 15⟩
  | 0x55 => some (spV2 fSigned (cBoth 0 3)) | 0x56 => some (spV2 fSigned (cBoth 0 3))
  | 0x58 => some spP3 | 0x59 => some spP3 | 0x5A => some spP3
  | 0x5B => some ⟨.r, fNone, .p, .p, .unused, .unused, false, false, cOne 11⟩
  | 0x5C => some ⟨.r, fNone, .p, .g, .unused, .unused, false, false, cOne 11⟩
  | 0x5D => some ⟨.r, fNone, .g, .p, .unused, .unused, false, false, cOne 11⟩
  | 0x60 => some ⟨.m, fAll, .g, .g, .unused, .unused, false, false, cOne 8⟩
  | 0x61 => some ⟨.m, fAll, .unused, .g, .g, .unused, false, false, cOne 9⟩
  | 0x62 => some ⟨.m, fAll, .v, .g, .unused, .unused, true, true, cOne 8⟩
  | 0x63 => some ⟨.m, fAll, .unused, .g, .v, .unused, true, false, cOne 9⟩
  | 0x70 => some (spBr fWide .g .g) | 0x71 => some (spBr fWide .g .g)
  | 0x72 => some (spBr fWide .g .g) | 0x73 => some (spBr fWide .g .g)
  | 0x74 => some (spBr fAll .p .cond)
  | 0x75 => some ⟨.i, fNone, .g, .unused, .unused, .unused, false, false, cOne 10⟩
  | 0x76 => some ⟨.i, fNone, .g, .g, .unused, .unused, false, false, cOne 10⟩
  | 0x77 => some ⟨.s, fNone, .unused, .unused, .unused, .unused, false, false, cOne 15⟩
  | 0x78 => some ⟨.i, fNone, .unused, .unused, .unused, .unused, false, false, cOne 15⟩
  | 0x79 => some ⟨.i, fNone, .unused, .unused, .unused, .unused, false, false, cOne 15⟩
  | 0x7A => some ⟨.s, fNone, .g, .unused, .unused, .unused, false, false, cOne 15⟩
  | 0x7B => some ⟨.s, fNone, .unused, .g, .unused, .unused, false, false, cOne 15⟩
  | 0x80 => some ⟨.m, fNone, .s, .g, .unused, .unused, false, false, cOne 12⟩
  | 0x81 => some ⟨.m, fNone, .unused, .g, .s, .unused, false, false, cOne 12⟩
  | 0x82 => some ⟨.r, fNone, .unused, .s, .unused, .unused, false, false, cOne 12⟩
  | 0x83 => some ⟨.r, fNone, .unused, .s, .unused, .unused, false, false, cOne 12⟩
  | 0x84 => some ⟨.r, fNone, .g, .s, .unused, .unused, false, false, cOne 12⟩
  | 0x90 => some (spEng fAll) | 0x91 => some (spEng fNone) | 0x92 => some (spEng fAll) | 0x93 => some (spEng fAll)
  | 0x94 => some (spEng fInt) | 0x95 => some (spEng fInt)
  | 0x96 => some ⟨.m, fNone, .g, .g, .unused, .unused, false, false, cOne 13⟩
  | 0x97 => some ⟨.r, fNone, .g, .g, .unused, .unused, false, false, cOne 13⟩
  | 0x98 => some (spEng fNone) | 0x99 => some (spEng fNone)
  | 0xA0 => some (spHub .unused .g .g) | 0xA1 => some (spHub .unused .g .g)
  | 0xA2 => some (spHub .g .g .unused) | 0xA3 => some (spHub .unused .g .g)
  | 0xA4 => some (spHub .unused .g .unused) | 0xA5 => some (spHub .unused .g .unused)
  | 0xA6 => some (spHub .unused .g .unused) | 0xA7 => some (spHub .g .g .unused)
  | 0xB0 => some (spHub .unused .unused .unused) | 0xB1 => some (spHub .unused .unused .unused)
  | 0xB2 => some (spHub .unused .g .unused) | 0xB3 => some (spHub .unused .unused .unused)
  | 0xC0 => some ⟨.m, fNone, .g, .g, .g, .unused, false, false, cOne 14⟩
  | 0xC1 => some ⟨.m, fNone, .g, .g, .g, .unused, false, false, cOne 14⟩
  | 0xC4 => some ⟨.m, fNone, .unused, .g, .unused, .unused, false, false, cOne 12⟩
  | 0xD0 => some ⟨.r, fNone, .g, .g, .unused, .unused, false, false, cOne 15⟩
  | 0xD1 => some ⟨.r, fNone, .g, .unused, .unused, .unused, false, false, cOne 15⟩
  | 0xD2 => some ⟨.r, fNone, .g, .g, .unused, .unused, false, false, cOne 14⟩
  | _ => none

/-- Whether a register field of five bits is as `Names` asks (R251, R252, R273).
Log: entry 32 (DEDUCED). -/
def fieldOk (k : Names) (f : Nat) : Bool :=
  match k with
  | .unused => decide (f = 0)
  | .g => true
  | .v => true
  | .p => decide (f < 8)
  | .s => decide (f < 16)
  | .cond => decide (f ≤ 2)

/-- Whether RM may be other than 0: the instruction rounds a floating-point result in this format (R246); conversions
to LQ16 ignore RM (R243). -/
def rmUsed (op f sub : Nat) : Bool :=
  if op = 0x29 ∨ op = 0x4F then !(fmtInt f && fmtInt sub)
  else if op = 0x53 then fmtFp f && decide (sub = 0)
  else fmtFp f && ([0x20, 0x21, 0x22, 0x23, 0x24, 0x25, 0x40, 0x41, 0x42, 0x43, 0x44, 0x45].contains op)

/-- Lanes of a format in a v register (Table 7.4). -/
def nLanes (f : Nat) : Nat := 512 / fmtWidth f

/-- Whether SUB is as the instruction asks: a condition, a destination format, a reduction, a time base, or 0. -/
def subOk (op f sub : Nat) : Bool :=
  if op = 0x0C then decide (sub ≤ 5)
  else if op = 0x28 then decide (sub ≤ 6)
  else if op = 0x4E then decide (sub ≤ 6) && !(fmtInt f && decide (sub = 6))
  else if op = 0x29 ∨ op = 0x4F then decide (sub ≤ 9)
  else if op = 0x53 then decide (sub ≤ 2) && !(fmtLq f && decide (sub = 0))
  else if op = 0xD0 then decide (sub ≤ 2)
  else decide (sub = 0)

/-- Whether PART is as VCVT asks (R255). -/
def partOk (op f sub part : Nat) : Bool :=
  if op = 0x4F then decide (part < max (nLanes f) (nLanes sub) / min (nLanes f) (nLanes sub)) else decide (part = 0)

/-- Whether an immediate is as the instruction asks (Table 7.11, R255). -/
def immOk (op f w : Nat) : Bool :=
  if op = 0x01 then decide (bits w 36 0 = 0)
  else if op = 0x17 then decide (bits w 36 27 = 0)
  else if op = 0x1C ∨ op = 0x1D ∨ op = 0x1E then decide (bits w 36 6 = 0)
  else if op = 0x51 ∨ op = 0x52 then decide (bits w 36 0 < nLanes f)
  else true

/-- Special registers that MFS may name and that MTS may write (R237).
Log: entry 32 (DEDUCED). -/
def mfsOk (n : Nat) : Bool := decide (n ≤ 9) || (decide (0x100 ≤ n) && decide (n < 0x200))
/-- Log: entry 32 (DEDUCED). -/
def mtsOk (n : Nat) : Bool := decide (1 ≤ n) && decide (n ≤ 3)

/-- The checks of R252 on a word, beyond its opcode.
Log: entry 32 (DEDUCED). -/
def formOk (sp : OpSpec) (op w : Nat) : Bool :=
  match sp.form with
  | .r =>
    fieldOk sp.c (wC w) && (sp.pred || decide (wPredR w = 0)) && (sp.zm || !wZmR w) &&
      (if rmUsed op (wFmt w) (wSub w) then decide (wRm w ≤ 4) else decide (wRm w = 0)) &&
      subOk op (wFmt w) (wSub w) && partOk op (wFmt w) (wSub w) (wPart w) && decide (bits w 17 0 = 0) &&
      (decide (op ≠ 0xD0) || decide (wSub w = 2) || decide (wA w = 0))
  | .i => immOk op (wFmt w) w
  | .m => (sp.pred || decide (wPredM w = 0)) && (sp.zm || !wZmM w) && decide (bits w 32 22 = 0)
  | .b => true
  | .s => decide (bits w 36 12 = 0) && (decide (op ≠ 0x7A) || mfsOk (bits w 11 0)) &&
      (decide (op ≠ 0x7B) || mtsOk (bits w 11 0))

/-- Whether a word is an instruction (R252); any other traps ILLEGAL.
Log: entry 32 (DEDUCED). -/
def wordOk (w : Nat) : Bool :=
  match opSpec (wOp w) with
  | some sp => sp.fmts (wFmt w) && fieldOk sp.d (wD w) && fieldOk sp.a (wA w) && fieldOk sp.b (wB w) && formOk sp (wOp w) w
  | none => false

/-- The counter that an instruction advances (R270). -/
def opcSlot (w : Nat) : Nat :=
  match opSpec (wOp w) with
  | some sp =>
    16 * (if fmtInt (wFmt w) then sp.cls.1 else sp.cls.2) + (if sp.fmts 0 && !sp.fmts 1 then 15 else wFmt w)
  | none => 255

/-! ### Registers (Table 7.1) -/

/-- A logical core on which no kit runs.
Log: entry 1 (DESIGN CHOICE). -/
def BCore.idle : BCore :=
  { run := false, frozen := false, g := [], v := [], p := [], s := [], pc := 0, badPc := none, inTrap := false, fflags := 0, tvec := 0
    epc := 0, cause := 0, halt := 0, tval := 0, cycle := 0, retired := 0, codeBase := 0, codeSize := 0, opc := []
    grants := { kit := 0, mid := 0, windows := [], ens := [], ftFirst := 0, ftRows := 0 }, vq := [], vcycle := 0, vlog := [], vmemAt := 0, vdone := 0
    gReady := [], vReady := [], pReady := [], sReady := [], divFree := 0, vdivFree := 0, streams := [], seq := 0, firstSeq := 0, ticket := 0
    results := [], trd := 0, mseq := 0, wait := none }

/-- The logical core `n` = 32·CT + slot. -/
def Gremon.core (g : Gremon) (n : Nat) : BCore := Tbl.get BCore.idle g.cores n
def Gremon.setCore (g : Gremon) (n : Nat) (c : BCore) : Gremon := { g with cores := Tbl.set BCore.idle g.cores n c }

/-- g registers: g0 reads 0 and discards writes. -/
def BCore.rg (c : BCore) (i : Nat) : Nat := if i = 0 then 0 else (Tbl.get 0 c.g i).toNat
def BCore.wg (c : BCore) (i v : Nat) : BCore := if i = 0 then c else { c with g := Tbl.set 0 c.g i (BitVec.ofNat 64 v) }
/-- v registers. -/
def BCore.rv (c : BCore) (i : Nat) : Nat := (Tbl.get 0 c.v i).toNat
def BCore.wv (c : BCore) (i v : Nat) : BCore := { c with v := Tbl.set 0 c.v i (BitVec.ofNat 512 v) }
/-- p registers: p0 reads all ones and discards writes. -/
def BCore.rp (c : BCore) (i : Nat) : Nat := if i = 0 then 2 ^ 64 - 1 else (Tbl.get 0 c.p i).toNat
def BCore.wp (c : BCore) (i v : Nat) : BCore := if i = 0 then c else { c with p := Tbl.set 0 c.p i (BitVec.ofNat 64 v) }
/-- A stream descriptor: 64 bytes. -/
def BCore.rs (c : BCore) (i : Nat) : List Byte := padTo 64 (Tbl.get [] c.s i)
def BCore.ws (c : BCore) (i : Nat) (d : List Byte) : BCore := { c with s := Tbl.set [] c.s i d }
/-- OR flags into FFLAGS (R247). -/
def BCore.flag (c : BCore) (f : Nat) : BCore := { c with fflags := c.fflags ||| BitVec.ofNat 5 f }

/-- A result of format `f` as a g register holds it (R254). -/
def extend (f v : Nat) : Nat := if f = 3 then ofInt 64 (toInt 32 v) else v % 2 ^ fmtWidth f

/-- Lane `i` of a v register in format `f`, and a register of lanes. -/
def elemLane (f v i : Nat) : Nat := (v >>> (fmtWidth f * i)) % 2 ^ fmtWidth f
def ofLanes (f : Nat) : List Nat → Nat
  | [] => 0
  | x :: xs => x % 2 ^ fmtWidth f + 2 ^ fmtWidth f * ofLanes f xs

/-! ### The code window and control -/

/-- Whether an address lies in the code window (R260). -/
def BCore.inCode (c : BCore) (a : Nat) : Bool :=
  decide (c.codeBase.toNat ≤ a) && decide (a < c.codeBase.toNat + c.codeSize.toNat)

/-- How an instruction ends: control passes to the next one or to `t`; it traps; the core halts; or it cannot issue
and nothing happens. -/
inductive Ctl where
  | seq
  | jump (t : Nat)
  | trap (code tval : Nat)
  | halt (reason : Nat)
  | stall
deriving DecidableEq, Repr

/-! ### Instruction trace of a core (R659–R661) -/

/-- Whether a core's execution is traced: the collector runs, its source is enabled, and confidential mode is off. -/
def Gremon.coreTraced (g : Gremon) (n : Nat) : Bool :=
  decide (g.sys.trc.state = 1 ∨ g.sys.trc.state = 2) && bit (g.reg (0x2000040 + 4 * (n / 32))) (n % 32) && !g.conf

/-- Change the trace source of core `n` where it is traced: its buffer holds 4 KiB (R663), its SYNC carries the PC and
the kit's handle, LSLOT and CT. -/
def Gremon.traceCore (g : Gremon) (n : Nat) (f : TrcSrc → TrcEnv → TrcSrc) : Gremon :=
  if !g.coreTraced n then g
  else
    let c := g.core n
    let e : TrcEnv := { room := 4096, st := g.stampOn (n / 32), at' := g.clk, pc := c.pc.toNat
                        ctx := c.grants.kit % 65536 + 65536 * (n % 32) + 2 ^ 24 * (n / 32) }
    let t := g.sys.trc
    { g with sys := { g.sys with
        trc := { t with srcs := Tbl.set TrcSrc.reset t.srcs n (f (Tbl.get TrcSrc.reset t.srcs n) e) } } }

/-- A conditional branch retires; an indirect transfer; a trap enters its handler; a wait ends after `k` CORE cycles. -/
def Gremon.traceBranch (g : Gremon) (n : Nat) (taken : Bool) : Gremon := g.traceCore n fun s e => s.branch e taken
def Gremon.traceTarget (g : Gremon) (n t : Nat) : Gremon := g.traceCore n fun s e => s.target e false t
/-- Log: entry 50 (DEDUCED). -/
def Gremon.traceTrap (g : Gremon) (n t : Nat) : Gremon := g.traceCore n fun s e => s.target e true t
def Gremon.traceWait (g : Gremon) (n k : Nat) : Gremon := g.traceCore n fun s e => (s.ready e).packet e (pktWait k)

/-- The core halts (R269): HALT records the reason and EPC the instruction.
Log: entry 32 (DEDUCED). -/
def Gremon.haltCore (g : Gremon) (n : Nat) (c : BCore) (pc : BitVec 22) (reason : Nat) : Gremon :=
  let g := if reason = 4 then g.poisonAt (n / 32) else g
  let streams := c.streams.map fun t => { t with after := 0 }
  { g.setCore n { c with run := false, badPc := none, epc := pc, halt := BitVec.ofNat 4 reason, vq := [], streams := streams } with
    halted := g.halted ++ [n] }

/-- A trap taken at cycle `cy` (R268, R269, R265).
Log: entry 32 (DEDUCED). -/
def Gremon.trapCore (g : Gremon) (n : Nat) (c : BCore) (cy code tval : Nat) : Gremon :=
  let c' := { c with badPc := none, epc := c.pc, cause := BitVec.ofNat 8 code, tval := BitVec.ofNat 64 tval
                     cycle := max cy c.vdone + 3 }
  if c.inTrap then g.haltCore n c' c.pc 2
  else if c.tvec = 0 then g.haltCore n c' c.pc 3
  else (g.setCore n { c' with inTrap := true, pc := c.tvec }).traceTrap n c.tvec.toNat

/-- A waiting instruction traps in the cycle in which its wait ends (R275), by how much later is not fixed (R232).
Log: entry 34 (DESIGN CHOICE; DEDUCED). -/
def Gremon.trapWait (g : Gremon) (n cy code tval : Nat) : Gremon :=
  let d := g.draw
  let g := d.2.traceWait n d.1
  g.trapCore n (g.core n) (cy + d.1) code tval

/-- Take a FETCH trap that has been waiting for the vector queue (R260, R266).
Log: entry 32 (DEDUCED). -/
def Gremon.fetchTrap (g : Gremon) (n : Nat) : Gremon :=
  let c := g.core n
  match c.badPc with
  | some t => if c.vq.isEmpty && c.run then g.trapCore n c c.cycle 4 t.toNat else g
  | none => g

/-- Control passes to `t`; outside the code window nothing is fetched and FETCH is raised (R260). -/
def Gremon.passTo (g : Gremon) (n : Nat) (c : BCore) (t : Nat) : Gremon :=
  if c.inCode t then g.setCore n { c with pc := BitVec.ofNat 22 t }
  else (g.setCore n { c with badPc := some (BitVec.ofNat 64 t) }).fetchTrap n

/-- An instruction retires: RETIRED and its operation counter advance (R270, R271). -/
def BCore.retire (c : BCore) (w : Nat) : BCore :=
  { c with retired := c.retired + 1, opc := Tbl.upd 0 c.opc (opcSlot w) (· + 1) }

/-- End an instruction issued at `cy` that occupies the scalar unit for `occ` cycles. One that a POISON halt ends does not retire.
Log: entry 32 (DEDUCED). -/
def Gremon.endInstr (g : Gremon) (n w cy occ : Nat) : Ctl → Gremon
  | .seq =>
    let c := (g.core n).retire w
    g.passTo n { c with cycle := cy + occ } (c.pc.toNat + 8)
  | .jump t =>
    let c := (g.core n).retire w
    g.passTo n { c with cycle := cy + 3 } t
  | .trap code tval =>
    let c := g.core n
    if c.vq.isEmpty then g.trapCore n c cy code tval else g
  | .halt r =>
    let c := g.core n
    let d := { c with cycle := cy + 1 }
    g.haltCore n (if r = 1 then d.retire w else d) c.pc r
  | .stall => g

/-! ### Issue (R262–R266) -/

/-- Vector instructions: those of 0x40–0x5D, VLD and VST. -/
def isVector (op : Nat) : Bool := (decide (0x40 ≤ op) && decide (op ≤ 0x5D)) || decide (op = 0x62) || decide (op = 0x63)

/-- Whether an opcode is marked "Waits" (Table 8.1). -/
def isWait (op : Nat) : Bool :=
  [0x83, 0x97, 0xA0, 0xA1, 0xA2, 0xA3, 0xA4, 0xA5, 0xA6, 0xA7, 0xB0, 0xB1, 0xB2, 0xB3, 0xC0, 0xC1, 0xD2].contains op

/-- Whether an opcode touches the scratchpad through the core port from the scalar pipeline (R266, R274). -/
def isPort (op : Nat) : Bool :=
  [0x60, 0x61, 0x80, 0x81, 0xC0, 0xC1, 0xC4].contains op || (decide (0x90 ≤ op) && decide (op ≤ 0x99) && decide (op ≠ 0x97))

/-- Whether an instruction reads the scratchpad from the scalar pipeline at issue: a port access, or an SGO of a GATHER, whose
index list an earlier VST may have written (R277, R298). -/
def BCore.readsPort (c : BCore) (w : Nat) : Bool :=
  isPort (wOp w) || (decide (wOp w = 0x82) && decide (bits (leAt (c.rs (wA w)) 40 4) 1 0 = 2))

/-- Whether an instruction waits for every earlier vector instruction to complete (R266, R274). -/
def isDrain (w : Nat) : Bool :=
  isWait (wOp w) || decide (wOp w = 0x77) || decide (wOp w = 0x78) || decide (wOp w = 0x79) ||
    ((decide (wOp w = 0x7A) || decide (wOp w = 0x7B)) && decide (bits w 11 0 = 1))

/-- The g register a queued vector instruction will write. -/
def vqWrites (e : VqEntry) (i : Nat) : Bool :=
  let w := e.word.toNat
  [0x51, 0x53, 0x5D].contains (wOp w) && decide (wD w = i) && decide (i ≠ 0)
/-- The p register a queued vector instruction will write. -/
def vqWritesP (e : VqEntry) (i : Nat) : Bool :=
  let w := e.word.toNat
  [0x4E, 0x58, 0x59, 0x5A, 0x5B, 0x5C].contains (wOp w) && decide (wD w = i) && decide (i ≠ 0)
/-- Whether a queued instruction is VLD or VST. -/
def vqMem (e : VqEntry) : Bool := decide (wOp e.word.toNat = 0x62) || decide (wOp e.word.toNat = 0x63)

/-- The cycle from which a field's register is ready, `none` while a queued vector instruction still has to write it.
Vector registers of vector instructions are the vector unit's affair (R263). -/
def BCore.fieldReady (c : BCore) (k : Names) (i : Nat) : Option Nat :=
  match k with
  | .g => if c.vq.any (fun e => vqWrites e i) then none else some (Tbl.get 0 c.gReady i)
  | .s => some (Tbl.get 0 c.sReady i)
  | _ => some 0

/-- The later of two cycles, where both are known. -/
def later (a b : Option Nat) : Option Nat :=
  match a, b with
  | some x, some y => some (max x y)
  | _, _ => none

/-- The cycle in which the instruction `w` at the head issues, `none` where it has to wait for the vector unit. -/
def BCore.issueAt (c : BCore) (w : Nat) : Option Nat :=
  match opSpec (wOp w) with
  | none => if c.vq.isEmpty then some c.cycle else none
  | some sp =>
    let op := wOp w
    let r := later (c.fieldReady sp.d (wD w)) (later (c.fieldReady sp.a (wA w)) (later (c.fieldReady sp.b (wB w))
      (if sp.form = .r then c.fieldReady sp.c (wC w) else some 0)))
    let bp := if op = 0x74 then
        (if c.vq.any (fun e => vqWritesP e (wA w)) then none else some (Tbl.get 0 c.pReady (wA w)))
      else some 0
    let dv := if op = 0x10 ∨ op = 0x11 ∨ ((op = 0x23 ∨ op = 0x24) ∧ fmtLq (wFmt w) = false) then some c.divFree else some 0
    let vq := if isVector op then
        (if c.vq.length ≥ 16 then none
        else if c.vlog.length + c.vq.length < 16 then some 0
        else some (c.vlog.getD (c.vlog.length + c.vq.length - 16) 0 + 1))
      else some 0
    let mem := if c.readsPort w then (if c.vq.any vqMem then none else some c.vmemAt) else some 0
    let dr := if isDrain w then (if c.vq.isEmpty then some c.vdone else none) else some 0
    (later r (later bp (later dv (later vq (later mem dr))))).map (max c.cycle)

/-- Latency of a scalar instruction (Tables 7.13 and 8.1). -/
def scalarLat (op f sub : Nat) : Nat :=
  let div32 := decide (fmtWidth f = 32)
  match op with
  | 0x0E => 4 | 0x0F => 4
  | 0x10 => if div32 then 20 else 36 | 0x11 => if div32 then 20 else 36
  | 0x20 => 4 | 0x21 => 4
  | 0x22 => if fmtLq f then 2 else 4
  | 0x23 => if fmtLq f then 2 else if f = 4 then 24 else if f = 5 then 14 else 10
  | 0x24 => if f = 4 then 24 else if f = 5 then 14 else 10
  | 0x25 => 5
  | 0x26 => if fmtLq f then 2 else 4 | 0x27 => if fmtLq f then 2 else 4 | 0x28 => if fmtLq f then 2 else 4
  | 0x29 => if fmtLq f || fmtLq sub then 4 else 3
  | 0x60 => 3 | 0x7A => 2
  | 0x80 => 4 | 0x84 => 3 | 0x96 => 4 | 0xD0 => 6 | 0xD1 => 2
  | _ => 1

/-- Latency of a vector instruction (Table 7.13). -/
def vectorLat (op f sub : Nat) : Nat :=
  match op with
  | 0x40 => if fmtFp f then 4 else 2 | 0x41 => if fmtFp f then 4 else 2
  | 0x42 => if fmtLq f then 2 else 4
  | 0x43 => 5
  | 0x44 => if fmtLq f then 2 else if f = 4 then 16 else if f = 5 then 12 else 8
  | 0x45 => if f = 4 then 16 else if f = 5 then 12 else 8
  | 0x46 => if fmtFp f then 4 else 2 | 0x47 => if fmtFp f then 4 else 2
  | 0x4E => if fmtFp f then 4 else 2
  | 0x4F => if fmtLq f || fmtLq sub then 4 else 3
  | 0x51 => 3 | 0x5D => 3
  | 0x53 => (if fmtFp f then 4 else 2) * Nat.log2 (nLanes f) + 2
  | 0x58 => 1 | 0x59 => 1 | 0x5A => 1 | 0x5B => 1 | 0x5C => 1
  | 0x62 => 4
  | 0x63 => 1
  | _ => 2

/-- Whether this core can take an instruction: its kit's program runs, it is not halted by a cut, it waits for nothing.
Log: entry 5 (DESIGN CHOICE). -/
def BCore.canIssue (c : BCore) : Bool := c.run && !c.frozen && c.wait.isNone && c.badPc.isNone

/-- The word at the core's PC. -/
def Gremon.fetchWord (g : Gremon) (n : Nat) : Nat := g.rd (spadCna n (g.core n).pc.toNat) 8

/-- Run the instruction at the head of core `n` if it is of opcode `op`, well formed, and can issue: `f` answers the
state with its effect, how it ends, and for how many cycles it occupies the scalar unit. A fetch from a line with an
uncorrectable error halts the core with POISON (R269).
Log: entry 5 (DESIGN CHOICE), entry 33 (DEDUCED; DESIGN CHOICE), entry 34 (DESIGN CHOICE; DEDUCED). -/
def Gremon.instr (g : Gremon) (n op : Nat) (f : BCore → (w cy : Nat) → Gremon × Ctl × Nat) : Gremon :=
  let c := g.core n
  if !c.canIssue then g
  else if g.linePoison (spadCna n c.pc.toNat) 8 then g.haltCore n c c.pc 4
  else
    let w := g.fetchWord n
    if wOp w = op ∧ wordOk w = true then
      match c.issueAt w with
      | some cy =>
        let r := f c w cy
        match isWait op, r.2.1 with
        | true, .trap code tval => r.1.trapWait n cy code tval
        | _, _ => r.1.endInstr n w cy r.2.2 r.2.1
      | none => g
    else g

/-- An unassigned or malformed word traps ILLEGAL (R252).
Log: entry 5 (DESIGN CHOICE). -/
def Gremon.illegalOpcode (g : Gremon) (n : Nat) : Gremon :=
  let c := g.core n
  if !c.canIssue then g
  else if g.linePoison (spadCna n c.pc.toNat) 8 then g.haltCore n c c.pc 4
  else
    let w := g.fetchWord n
    if wordOk w then g
    else if c.vq.isEmpty then g.trapCore n c c.cycle 1 w else g

/-- Write g[D] with a latency: its new value and the cycle from which it is ready. -/
def BCore.wgAt (c : BCore) (d v ready : Nat) : BCore :=
  let c := c.wg d v
  if d = 0 then c else { c with gReady := Tbl.set 0 c.gReady d ready }

end Sys2Proof.Machine
end

