-- ==== Sys2Proof/Machine/Races.lean ====
section
/-! DEFINITION. Stream descriptors and command blocks as they name memory (Tables 8.2–8.6), and the bytes whose value no
order fixes while streams and commands run (R224, R225, R298, R299, R348). -/
namespace Sys2Proof.Machine
open Sys2Proof

/-! ### Ends (Table 8.3) -/

/-- The CNA that an end names for core `n` (Table 8.3). -/
def endCna (n e : Nat) : Nat := if e.testBit 48 then spadCna n (e % 2 ^ 22) else e % 2 ^ 48

/-- Whether an end is well formed (Table 8.3). -/
def endOk (e : Nat) : Bool :=
  decide (bits e 63 49 = 0) && (!e.testBit 48 || decide (bits e 47 22 = 0))

/-- Whether the SYNC field is well formed (Table 8.2). -/
def syncFieldOk (s : Nat) : Bool := decide (bits s 31 15 = 0)

/-! ### Descriptors (Tables 8.2–8.4) -/

def sdSrc (d : List Byte) : Nat := leAt d 0 8
def sdDst (d : List Byte) : Nat := leAt d 8 8
def sdRowlen (d : List Byte) : Nat := leAt d 16 4
def sdRows (d : List Byte) : Nat := leAt d 20 4
def sdSstride (d : List Byte) : Int := toInt 64 (leAt d 24 8)
def sdDstride (d : List Byte) : Int := toInt 64 (leAt d 32 8)
def sdMode (d : List Byte) : Nat := bits (leAt d 40 4) 1 0
def sdSync (d : List Byte) : Nat := leAt d 44 4
def sdIdx (d : List Byte) : Nat := leAt d 48 4
def sdStatus (d : List Byte) : Nat := leAt d 56 8
/-- A descriptor with its STATUS replaced. -/
def sdSetStatus (d : List Byte) (v : Nat) : List Byte := d.take 56 ++ leBytes 8 v

/-- A row's address: an end, moved by `k` strides, modulo 2⁴⁸ (R277). -/
def rowAddr (n e : Nat) (stride k : Int) : Nat := ((endCna n e : Int) + k * stride).emod (2 ^ 48) |>.toNat

/-- The source and destination of row `r`. -/
def sdSrcRow (n : Nat) (d : List Byte) (idx : List Nat) (r : Nat) : Nat :=
  rowAddr n (sdSrc d) (sdSstride d) (if sdMode d = 2 then (idx.getD r 0 : Int) else r)
def sdDstRow (n : Nat) (d : List Byte) (r : Nat) : Nat := rowAddr n (sdDst d) (sdDstride d) r

/-! ### Command blocks (Table 8.5) -/

def cbIn (b : List Byte) : Nat := leAt b 0 8
def cbOut (b : List Byte) : Nat := leAt b 8 8
def cbAux (b : List Byte) : Nat := leAt b 16 8
def cbN (b : List Byte) : Nat := leAt b 24 4
def cbP0 (b : List Byte) : Nat := leAt b 28 4
def cbP1 (b : List Byte) : Nat := leAt b 32 8
def cbP2 (b : List Byte) : Nat := leAt b 40 4
def cbSync (b : List Byte) : Nat := leAt b 44 4

/-- A byte range a command reads or writes: its end, its bytes, and whether it is written. -/
structure EngRange where
  e     : Nat
  len   : Nat
  write : Bool
deriving DecidableEq, Repr

/-- The operands a command may have (Table 8.6), none where a field is out of range. -/
def engRanges (op f : Nat) (b : List Byte) : Option (List EngRange) :=
  let n := cbN b
  let w := fmtWidth f / 8
  let p0 := cbP0 b
  let p1 := cbP1 b
  let al := fun (e : Nat) => decide (e % 64 = 0)
  let ok := fun (c : Bool) (l : List EngRange) => if c && decide (cbP2 b = 0) then some l else none
  match op with
  | 0x90 => ok (decide (n ≤ 65536) && decide (1 ≤ p0) && decide (p0 ≤ 65536) && decide (p1 = 0) && al (cbOut b) &&
        (decide (cbAux b ≠ 0) || decide (n ≤ p0)))
      ([⟨cbIn b, n * w, false⟩, ⟨cbOut b, p0 * histBytes, true⟩] ++ (if cbAux b = 0 then [] else [⟨cbAux b, 4 * n, false⟩]))
  | 0x91 => ok (decide (n ≤ 4096) && decide (p0 = 0) && decide (p1 = 0) && decide (cbAux b = 0) && al (cbIn b) && al (cbOut b))
      [⟨cbIn b, n * histBytes, false⟩, ⟨cbOut b, n * histBytes, true⟩]
  | 0x92 => ok (decide (n ≤ 65536) && decide (1 ≤ p0) && decide (p0 ≤ 64) && decide (p1 ≤ 1) && al (cbOut b))
      [⟨cbIn b, n * w, false⟩, ⟨cbOut b, topkBytes, true⟩, ⟨cbAux b, 4 * n, false⟩]
  | 0x93 => ok (decide (n ≤ 1024) && decide (1 ≤ p0) && decide (p0 ≤ 64) && decide (p1 ≤ 1) && decide (cbAux b = 0) &&
        al (cbIn b) && al (cbOut b))
      [⟨cbIn b, n * topkBytes, false⟩, ⟨cbOut b, topkBytes, true⟩]
  | 0x94 => ok (decide (n ≤ 65536) && decide (1 ≤ p0) && decide (p0 ≤ 16) && decide (p1 = 0) && decide (cbAux b = 0))
      [⟨cbIn b, n * w, false⟩, ⟨cbOut b, 32 * n, true⟩]
  | 0x95 => ok (decide (n ≤ 65536) && decide (p0 = 0) && endOk p1)
      [⟨cbIn b, n * w, false⟩, ⟨cbOut b, 32 * n, true⟩, ⟨cbAux b, 32 * n, false⟩, ⟨p1, 8 * ((n + 63) / 64), true⟩]
  | 0x96 => ok (decide (n ≤ 4096) && decide (p1 = 0) && decide (cbAux b = 0))
      [⟨cbIn b, 4 * n, false⟩, ⟨cbOut b, 8 * n, true⟩]
  | 0x98 => ok (decide (1 ≤ n) && decide (n ≤ 512) && decide (p0 < 8))
      [⟨cbIn b, 8 * n, false⟩, ⟨cbOut b, p1, true⟩, ⟨cbAux b, 64 + (if p0 % 4 = 2 then 16 * n else 0), false⟩]
  | _ => ok (decide (1 ≤ n) && decide (n ≤ 512) && decide (p0 < 8))
      [⟨cbIn b, p1, false⟩, ⟨cbOut b, 8 * n, true⟩, ⟨cbAux b, 64 + (if p0 % 4 = 2 then 16 * n else 0), false⟩]

/-! ### Values that no order fixes -/

/-- Whether address `x` lies in the `n` bytes from `a`. -/
def within (x a n : Nat) : Bool := decide (a ≤ x) && decide (x < a + n)

/-- Whether a stream of core `n`, and whether a command, writes byte `x` before it ends. -/
def Stream.writes (t : Stream) (n x : Nat) : Bool :=
  (List.range (sdRows t.desc)).any fun r => within x (sdDstRow n t.desc r) (sdRowlen t.desc)
def EngCmd.writes (e : EngCmd) (x : Nat) : Bool :=
  match engRanges e.op e.fmt e.block with
  | some rs => rs.any fun r => r.write && within x (endCna e.core r.e) r.len
  | none => false

/-- Whether a stream or command that has not ended writes byte `x`; `skip` names one, by core and place in its program
order, that is left out. -/
def Gremon.writing (g : Gremon) (skip : Option (Nat × Nat)) (x : Nat) : Bool :=
  (g.cores.any fun c => c.2.streams.any fun t => decide (skip ≠ some (c.1, t.seq)) && t.writes c.1 x) ||
    (g.eng.any fun e => decide (skip ≠ some (e.core, e.seq)) && e.writes x)

/-- Whether the value of byte `x` is open to a stream or command that began when memory was `mem`: it has changed since, or
another that has not ended writes it (R299).
Log: entry 35 (DEDUCED; DESIGN CHOICE). -/
def Gremon.openByte (g : Gremon) (mem : Tbl Byte) (skip : Option (Nat × Nat)) (x : Nat) : Bool :=
  decide (g.byte x ≠ Tbl.get 0 mem x) || g.writing skip x

/-- Bytes read from `a` on, with a free value for each that `loose` names.
Log: entry 35 (DEDUCED; DESIGN CHOICE). -/
def Gremon.blur (g : Gremon) (loose : Nat → Bool) (a : Nat) (bs : List Byte) : List Byte × Gremon :=
  if (List.range bs.length).any fun i => loose ((a + i) % 2 ^ 48) then
    let f := g.drawBytes bs.length
    ((bs.zip f.1).mapIdx fun i p => if loose ((a + i) % 2 ^ 48) then p.2 else p.1, f.2)
  else (bs, g)

/-- `n` bytes that a core reads through its port: those that an unfinished stream or command writes are open.
Log: entry 35 (DEDUCED; DESIGN CHOICE). -/
def Gremon.portRead (g : Gremon) (a n : Nat) : List Byte × Gremon := g.blur (g.writing none) a (g.rdBytes a n)

end Sys2Proof.Machine
end

