-- ==== Sys2Proof/Machine/BrutuScalar.lean ====
section
/-! DEFINITION. Scalar Brutu instructions (Table 7.11): arithmetic, immediates, floating point, loads and stores,
branches, traps and special registers. -/
namespace Sys2Proof.Machine
open Sys2Proof

/-- The low bits of g[A] and g[B] in an instruction's format (R254). -/
def BCore.opA (c : BCore) (w : Nat) : Nat := c.rg (wA w) % 2 ^ fmtWidth (wFmt w)
def BCore.opB (c : BCore) (w : Nat) : Nat := c.rg (wB w) % 2 ^ fmtWidth (wFmt w)
def BCore.opC (c : BCore) (w : Nat) : Nat := c.rg (wC w) % 2 ^ fmtWidth (wFmt w)

/-- An instruction that writes g[D] in format `f` from a result and its flags. -/
def Gremon.result (g : Gremon) (n : Nat) (c : BCore) (w cy f : Nat) (r : Nat × Nat) : Gremon × Ctl × Nat :=
  (g.setCore n ((c.wgAt (wD w) (extend f r.1) (cy + scalarLat (wOp w) (wFmt w) (wSub w))).flag r.2), .seq, 1)

/-- A scalar instruction on g[A] and g[B] with its result in the format. -/
def Gremon.alu (g : Gremon) (n op : Nat) (sem : (w a b : Nat) → Nat × Nat) : Gremon :=
  g.instr n op fun c w cy => g.result n c w cy (wFmt w) (sem w (c.opA w) (c.opB w))

/-- A scalar instruction that holds the divider for its latency (Table 7.13), unless in LQ16. -/
def Gremon.aluDiv (g : Gremon) (n op : Nat) (sem : (w a b : Nat) → Nat × Nat) : Gremon :=
  g.instr n op fun c w cy =>
    let lat := scalarLat op (wFmt w) 0
    let c' := if fmtLq (wFmt w) then c else { c with divFree := cy + lat }
    g.result n c' w cy (wFmt w) (sem w (c.opA w) (c.opB w))

/-- A comparison writes 1 or 0 to all of g[D]. -/
def Gremon.aluCmp (g : Gremon) (n op : Nat) : Gremon :=
  g.instr n op fun c w cy =>
    let r := elemCmp (wFmt w) (wSub w) (c.opA w) (c.opB w)
    g.result n c w cy 0 (b2n r.1, r.2)

/-- An immediate operation: g[A] in the format and the sign-extended immediate. -/
def Gremon.aluImm (g : Gremon) (n op : Nat) (sem : (f a imm : Nat) → Nat) : Gremon :=
  g.instr n op fun c w cy => g.result n c w cy (wFmt w) (sem (wFmt w) (c.opA w) (ofInt 64 (wImm w)), 0)

/-! ### One definition per instruction -/

def Gremon.iNop (g : Gremon) (n : Nat) : Gremon := g.instr n 0x01 fun _ _ _ => (g, .seq, 1)
def Gremon.iAdd (g : Gremon) (n : Nat) : Gremon := g.alu n 0x02 fun w a b => elemAdd (wFmt w) 0 a b
def Gremon.iSub (g : Gremon) (n : Nat) : Gremon := g.alu n 0x03 fun w a b => elemSub (wFmt w) 0 a b
def Gremon.iAnd (g : Gremon) (n : Nat) : Gremon := g.alu n 0x04 fun _ a b => (a &&& b, 0)
def Gremon.iOr (g : Gremon) (n : Nat) : Gremon := g.alu n 0x05 fun _ a b => (a ||| b, 0)
def Gremon.iXor (g : Gremon) (n : Nat) : Gremon := g.alu n 0x06 fun _ a b => (a ^^^ b, 0)
def Gremon.iSll (g : Gremon) (n : Nat) : Gremon := g.alu n 0x07 fun w a b => (elemSll (wFmt w) a b, 0)
def Gremon.iSrl (g : Gremon) (n : Nat) : Gremon := g.alu n 0x08 fun w a b => (elemSrl (wFmt w) a b, 0)
def Gremon.iSra (g : Gremon) (n : Nat) : Gremon := g.alu n 0x09 fun w a b => (elemSra (wFmt w) a b, 0)
def Gremon.iMin (g : Gremon) (n : Nat) : Gremon := g.alu n 0x0A fun w a b => elemMinMax (wFmt w) false a b
def Gremon.iMax (g : Gremon) (n : Nat) : Gremon := g.alu n 0x0B fun w a b => elemMinMax (wFmt w) true a b
def Gremon.iCmp (g : Gremon) (n : Nat) : Gremon := g.aluCmp n 0x0C
def Gremon.iMul (g : Gremon) (n : Nat) : Gremon := g.alu n 0x0E fun w a b => elemMul (wFmt w) 0 a b
def Gremon.iMulh (g : Gremon) (n : Nat) : Gremon := g.alu n 0x0F fun w a b => (elemMulh (wFmt w) a b, 0)
def Gremon.iDiv (g : Gremon) (n : Nat) : Gremon := g.aluDiv n 0x10 fun w a b => intDiv (wFmt w) a b
def Gremon.iRem (g : Gremon) (n : Nat) : Gremon := g.aluDiv n 0x11 fun w a b => intRem (wFmt w) a b
def Gremon.iLih (g : Gremon) (n : Nat) : Gremon :=
  g.instr n 0x17 fun c w cy => g.result n c w cy 1 (c.rg (wA w) % 2 ^ 37 + bits w 26 0 * 2 ^ 37, 0)
def Gremon.iAddi (g : Gremon) (n : Nat) : Gremon := g.aluImm n 0x18 fun _ a i => a + i
def Gremon.iAndi (g : Gremon) (n : Nat) : Gremon := g.aluImm n 0x19 fun _ a i => a &&& i
def Gremon.iOri (g : Gremon) (n : Nat) : Gremon := g.aluImm n 0x1A fun _ a i => a ||| i
def Gremon.iXori (g : Gremon) (n : Nat) : Gremon := g.aluImm n 0x1B fun _ a i => a ^^^ i
def Gremon.iSlli (g : Gremon) (n : Nat) : Gremon := g.aluImm n 0x1C fun _ a i => a <<< (i % 64)
def Gremon.iSrli (g : Gremon) (n : Nat) : Gremon := g.aluImm n 0x1D fun _ a i => a >>> (i % 64)
def Gremon.iSrai (g : Gremon) (n : Nat) : Gremon :=
  g.aluImm n 0x1E fun f a i => ofInt 64 (floorDiv (toInt (fmtWidth f) a) ((2 ^ (i % 64) : Nat) : Int))
def Gremon.iLi (g : Gremon) (n : Nat) : Gremon := g.aluImm n 0x1F fun _ _ i => i
def Gremon.iFadd (g : Gremon) (n : Nat) : Gremon := g.alu n 0x20 fun w a b => elemAdd (wFmt w) (wRm w) a b
def Gremon.iFsub (g : Gremon) (n : Nat) : Gremon := g.alu n 0x21 fun w a b => elemSub (wFmt w) (wRm w) a b
def Gremon.iFmul (g : Gremon) (n : Nat) : Gremon := g.alu n 0x22 fun w a b => elemMul (wFmt w) (wRm w) a b
def Gremon.iFdiv (g : Gremon) (n : Nat) : Gremon := g.aluDiv n 0x23 fun w a b => elemDiv (wFmt w) (wRm w) a b
def Gremon.iFsqrt (g : Gremon) (n : Nat) : Gremon :=
  g.aluDiv n 0x24 fun w a _ => fpSqrt (wFmt w) (wRm w) (fpDecode (wFmt w) a)
def Gremon.iFma (g : Gremon) (n : Nat) : Gremon :=
  g.instr n 0x25 fun c w cy =>
    let f := wFmt w
    g.result n c w cy f (fpFma f (wRm w) (fpDecode f (c.opA w)) (fpDecode f (c.opB w)) (fpDecode f (c.opC w)))
def Gremon.iFmin (g : Gremon) (n : Nat) : Gremon := g.alu n 0x26 fun w a b => elemMinMax (wFmt w) false a b
def Gremon.iFmax (g : Gremon) (n : Nat) : Gremon := g.alu n 0x27 fun w a b => elemMinMax (wFmt w) true a b
def Gremon.iFcmp (g : Gremon) (n : Nat) : Gremon := g.aluCmp n 0x28
def Gremon.iCvt (g : Gremon) (n : Nat) : Gremon :=
  g.instr n 0x29 fun c w cy => g.result n c w cy (wSub w) (elemCvt (wFmt w) (wSub w) (wRm w) (c.opA w))
def Gremon.iFabs (g : Gremon) (n : Nat) : Gremon := g.alu n 0x2A fun w a _ => (elemAbs (wFmt w) a, 0)
def Gremon.iFneg (g : Gremon) (n : Nat) : Gremon := g.alu n 0x2B fun w a _ => (elemNeg (wFmt w) a, 0)

/-! ### Loads and stores (R258–R260) -/

/-- The address of a load or store: g[A] + OFS modulo 2⁶⁴. -/
def BCore.addrM (c : BCore) (w : Nat) : Nat := ofInt 64 ((c.rg (wA w) : Int) + wOfs w)

/-- The trap an access of `n` bytes aligned to `n` raises, if any: ALIGN, ACCESS, STORE_CODE. -/
def BCore.portTrap (c : BCore) (a n : Nat) (store : Bool) : Option (Nat × Nat) :=
  if a % n ≠ 0 then some (2, a)
  else if a ≥ 0x200000 then some (3, a)
  else if store && c.inCode a then some (5, a)
  else none

/-- LD and ST move the bytes of their format.
Log: entry 32 (DEDUCED), entry 35 (DEDUCED; DESIGN CHOICE). -/
def Gremon.iLd (g : Gremon) (n : Nat) : Gremon :=
  g.instr n 0x60 fun c w cy =>
    let a := c.addrM w
    let k := fmtWidth (wFmt w) / 8
    match c.portTrap a k false with
    | some t => (g, .trap t.1 t.2, 1)
    | none =>
      if g.linePoison (spadCna n a) k then (g, .halt 4, 1)
      else
        let r := g.portRead (spadCna n a) k
        r.2.result n c w cy (wFmt w) (ofLe r.1, 0)
/-- Log: entry 32 (DEDUCED). -/
def Gremon.iSt (g : Gremon) (n : Nat) : Gremon :=
  g.instr n 0x61 fun c w _ =>
    let a := c.addrM w
    let k := fmtWidth (wFmt w) / 8
    match c.portTrap a k true with
    | some t => (g, .trap t.1 t.2, 1)
    | none => (g.wr (spadCna n a) k (c.rg (wB w)), .seq, 1)

/-! ### Branches and jumps (R257) -/

/-- PC + 8 × IMM. -/
def BCore.target (c : BCore) (w : Nat) : Nat := ofInt 64 ((c.pc.toNat : Int) + 8 * wImm w)

/-- A conditional branch.
Log: entry 32 (DEDUCED). -/
def Gremon.branch (g : Gremon) (n op : Nat) (cond : BCore → Nat → Bool) : Gremon :=
  g.instr n op fun c w _ => (g.traceBranch n (cond c w), if cond c w then .jump (c.target w) else .seq, 1)
def Gremon.iBeq (g : Gremon) (n : Nat) : Gremon := g.branch n 0x70 fun c w => (elemCmp (wFmt w) 0 (c.opA w) (c.opB w)).1
def Gremon.iBne (g : Gremon) (n : Nat) : Gremon := g.branch n 0x71 fun c w => (elemCmp (wFmt w) 1 (c.opA w) (c.opB w)).1
def Gremon.iBlt (g : Gremon) (n : Nat) : Gremon := g.branch n 0x72 fun c w => (elemCmp (wFmt w) 2 (c.opA w) (c.opB w)).1
def Gremon.iBge (g : Gremon) (n : Nat) : Gremon := g.branch n 0x73 fun c w => (elemCmp (wFmt w) 5 (c.opA w) (c.opB w)).1
def Gremon.iBp (g : Gremon) (n : Nat) : Gremon :=
  g.branch n 0x74 fun c w =>
    let m := 2 ^ nLanes (wFmt w)
    let p := c.rp (wA w) % m
    match wB w with
    | 0 => decide (p ≠ 0)
    | 1 => decide (p = 0)
    | _ => decide (p = m - 1)
def Gremon.iJal (g : Gremon) (n : Nat) : Gremon :=
  g.instr n 0x75 fun c w cy => (g.setCore n (c.wgAt (wD w) (c.pc.toNat + 8) (cy + 1)), .jump (c.target w), 1)
def Gremon.iJalr (g : Gremon) (n : Nat) : Gremon :=
  g.instr n 0x76 fun c w cy =>
    let t := ofInt 64 ((c.rg (wA w) : Int) + wImm w)
    if t % 8 ≠ 0 then (g, .trap 2 t, 1)
    else ((g.setCore n (c.wgAt (wD w) (c.pc.toNat + 8) (cy + 1))).traceTarget n t, .jump t, 1)

/-! ### Traps, halts, special registers (R237, R267–R269) -/

def Gremon.iTrap (g : Gremon) (n : Nat) : Gremon := g.instr n 0x77 fun _ w _ => (g, .trap 6 (bits w 11 0), 1)
/-- Log: entry 32 (DEDUCED). -/
def Gremon.iRett (g : Gremon) (n : Nat) : Gremon :=
  g.instr n 0x78 fun c _ _ =>
    if c.epc.toNat % 8 ≠ 0 then (g, .trap 2 c.epc.toNat, 1)
    else ((g.setCore n { c with inTrap := false }).traceTarget n c.epc.toNat, .jump c.epc.toNat, 1)
/-- Log: entry 32 (DEDUCED). -/
def Gremon.iHalt (g : Gremon) (n : Nat) : Gremon := g.instr n 0x79 fun _ _ _ => (g, .halt 1, 1)

/-- A special register's value at cycle `cy` (Table 7.2). -/
def Gremon.special (g : Gremon) (n : Nat) (c : BCore) (cy k : Nat) : Nat :=
  match k with
  | 0 => n % 32 + 32 * (n / 32) + 2 ^ 16 * g.gid
  | 1 => c.fflags.toNat
  | 2 => c.tvec.toNat
  | 3 => c.epc.toNat
  | 4 => c.cause.toNat + 256 * c.halt.toNat
  | 5 => c.tval.toNat
  | 6 => cy
  | 7 => c.retired.toNat
  | 8 => c.codeBase.toNat
  | 9 => c.codeSize.toNat
  | _ => (Tbl.get 0 c.opc (k - 0x100)).toNat
/-- Log: entry 32 (DEDUCED). -/
def Gremon.iMfs (g : Gremon) (n : Nat) : Gremon :=
  g.instr n 0x7A fun c w cy => g.result n c w cy 0 (g.special n c cy (bits w 11 0), 0)
/-- Log: entry 32 (DEDUCED). -/
def Gremon.iMts (g : Gremon) (n : Nat) : Gremon :=
  g.instr n 0x7B fun c w _ =>
    let v := c.rg (wA w)
    match bits w 11 0 with
    | 1 => (g.setCore n { c with fflags := BitVec.ofNat 5 v }, .seq, 1)
    | 2 =>
      if v = 0 ∨ (v % 8 = 0 ∧ c.inCode v = true) then (g.setCore n { c with tvec := BitVec.ofNat 22 v }, .seq, 1)
      else (g, .trap 3 v, 1)
    | _ => (g.setCore n { c with epc := BitVec.ofNat 22 v }, .seq, 1)

end Sys2Proof.Machine
end

