-- ==== Sys2Proof/Machine/BrutuVector.lean ====
section
/-! DEFINITION. Vector and predicate instructions: entry into the vector queue at scalar issue (R263), and their effect
at vector issue (R255, R256, R259). -/
namespace Sys2Proof.Machine
open Sys2Proof

/-! ### Entry into the vector queue -/

/-- A vector instruction enters the queue with its g operand; VLD and VST have their address checked (R263, R267).
Log: entry 33 (DEDUCED; DESIGN CHOICE). -/
def Gremon.enqueue (g : Gremon) (n op : Nat) : Gremon :=
  g.instr n op fun c w cy =>
    let mem := decide (op = 0x62) || decide (op = 0x63)
    let a := if mem then c.addrM w else 0
    match (if mem then c.portTrap a 64 (op = 0x63) else none) with
    | some t => (g, .trap t.1 t.2, 1)
    | none =>
      let e : VqEntry := { word := BitVec.ofNat 64 w, pc := c.pc, gval := BitVec.ofNat 64 (c.rg (wA w)), addr := a, cycle := cy }
      (g.setCore n { c with vq := c.vq ++ [e] }, .seq, 1)

def Gremon.iVadd (g : Gremon) (n : Nat) : Gremon := g.enqueue n 0x40
def Gremon.iVsub (g : Gremon) (n : Nat) : Gremon := g.enqueue n 0x41
def Gremon.iVmul (g : Gremon) (n : Nat) : Gremon := g.enqueue n 0x42
def Gremon.iVfma (g : Gremon) (n : Nat) : Gremon := g.enqueue n 0x43
def Gremon.iVdiv (g : Gremon) (n : Nat) : Gremon := g.enqueue n 0x44
def Gremon.iVsqrt (g : Gremon) (n : Nat) : Gremon := g.enqueue n 0x45
def Gremon.iVmin (g : Gremon) (n : Nat) : Gremon := g.enqueue n 0x46
def Gremon.iVmax (g : Gremon) (n : Nat) : Gremon := g.enqueue n 0x47
def Gremon.iVand (g : Gremon) (n : Nat) : Gremon := g.enqueue n 0x48
def Gremon.iVor (g : Gremon) (n : Nat) : Gremon := g.enqueue n 0x49
def Gremon.iVxor (g : Gremon) (n : Nat) : Gremon := g.enqueue n 0x4A
def Gremon.iVsll (g : Gremon) (n : Nat) : Gremon := g.enqueue n 0x4B
def Gremon.iVsrl (g : Gremon) (n : Nat) : Gremon := g.enqueue n 0x4C
def Gremon.iVsra (g : Gremon) (n : Nat) : Gremon := g.enqueue n 0x4D
def Gremon.iVcmp (g : Gremon) (n : Nat) : Gremon := g.enqueue n 0x4E
def Gremon.iVcvt (g : Gremon) (n : Nat) : Gremon := g.enqueue n 0x4F
def Gremon.iVbcast (g : Gremon) (n : Nat) : Gremon := g.enqueue n 0x50
def Gremon.iVext (g : Gremon) (n : Nat) : Gremon := g.enqueue n 0x51
def Gremon.iVins (g : Gremon) (n : Nat) : Gremon := g.enqueue n 0x52
def Gremon.iVred (g : Gremon) (n : Nat) : Gremon := g.enqueue n 0x53
def Gremon.iVsel (g : Gremon) (n : Nat) : Gremon := g.enqueue n 0x54
def Gremon.iVabs (g : Gremon) (n : Nat) : Gremon := g.enqueue n 0x55
def Gremon.iVneg (g : Gremon) (n : Nat) : Gremon := g.enqueue n 0x56
def Gremon.iPand (g : Gremon) (n : Nat) : Gremon := g.enqueue n 0x58
def Gremon.iPor (g : Gremon) (n : Nat) : Gremon := g.enqueue n 0x59
def Gremon.iPxor (g : Gremon) (n : Nat) : Gremon := g.enqueue n 0x5A
def Gremon.iPnot (g : Gremon) (n : Nat) : Gremon := g.enqueue n 0x5B
def Gremon.iPfromg (g : Gremon) (n : Nat) : Gremon := g.enqueue n 0x5C
def Gremon.iPtog (g : Gremon) (n : Nat) : Gremon := g.enqueue n 0x5D
/-- Log: entry 33 (DEDUCED; DESIGN CHOICE). -/
def Gremon.iVld (g : Gremon) (n : Nat) : Gremon := g.enqueue n 0x62
def Gremon.iVst (g : Gremon) (n : Nat) : Gremon := g.enqueue n 0x63

/-! ### Effects -/

/-- Lanes of format `f` written from `new` where the predicate is 1; elsewhere the old lane stays, or 0 with ZM. -/
def mergeLanes (f pred : Nat) (zm : Bool) (old : Nat) (new : Nat → Nat) : Nat :=
  ofLanes f ((List.range (nLanes f)).map fun i =>
    if pred.testBit i then new i else if zm then 0 else elemLane f old i)

/-- A per-lane operation: the register, and the OR of the flags of the active nLanes (R247). -/
def perLane (f pred : Nat) (zm : Bool) (old : Nat) (op : Nat → Nat × Nat) : Nat × Nat :=
  (mergeLanes f pred zm old fun i => (op i).1,
   (List.range (nLanes f)).foldl (fun fl i => if pred.testBit i then fl ||| (op i).2 else fl) 0)

/-- The result of one lane of a three-register vector operation. -/
def laneOp (op f rm a b c : Nat) : Nat × Nat :=
  match op with
  | 0x40 => elemAdd f rm a b
  | 0x41 => elemSub f rm a b
  | 0x42 => elemMul f rm a b
  | 0x43 => fpFma f rm (fpDecode f a) (fpDecode f b) (fpDecode f c)
  | 0x44 => elemDiv f rm a b
  | 0x45 => fpSqrt f rm (fpDecode f a)
  | 0x46 => elemMinMax f false a b
  | 0x47 => elemMinMax f true a b
  | 0x48 => (a &&& b, 0)
  | 0x49 => (a ||| b, 0)
  | 0x4A => (a ^^^ b, 0)
  | 0x4B => (elemSll f a b, 0)
  | 0x4C => (elemSrl f a b, 0)
  | 0x4D => (elemSra f a b, 0)
  | 0x55 => (elemAbs f a, 0)
  | _ => (elemNeg f a, 0)

/-- VCMP: bit i of the active lanes, 0 elsewhere. -/
def vcmpBits (f cond pred a b : Nat) : Nat × Nat :=
  (List.range (nLanes f)).foldl (fun (r : Nat × Nat) i =>
    if pred.testBit i then
      let x := elemCmp f cond (elemLane f a i) (elemLane f b i)
      (r.1 + b2n x.1 * 2 ^ i, r.2 ||| x.2)
    else r) (0, 0)

/-- VCVT (R255): elements of the format with fewer lanes, PART choosing the lanes of the other. -/
def vcvtReg (f t rm part pred : Nat) (zm : Bool) (a old : Nat) : Nat × Nat :=
  let nw := min (nLanes f) (nLanes t)
  let src := fun i => elemLane f a (if nLanes f > nLanes t then part * nw + i else i)
  let base := if nLanes t > nLanes f then part * nw else 0
  let v := ofLanes t ((List.range (nLanes t)).map fun j =>
    if base ≤ j ∧ j < base + nw then
      if pred.testBit (j - base) then (elemCvt f t rm (src (j - base))).1 else if zm then 0 else elemLane t old j
    else elemLane t old j)
  (v, (List.range nw).foldl (fun fl i => if pred.testBit i then fl ||| (elemCvt f t rm (src i)).2 else fl) 0)

/-- The identity of a reduction for an inactive lane (R256). -/
def redIdent (f op : Nat) : Nat :=
  if op = 0 then 0
  else if !fmtInt f then canonNan f
  else
    let w := fmtWidth f
    if fmtSigned f then (if op = 1 then 2 ^ (w - 1) - 1 else 2 ^ (w - 1)) else (if op = 1 then 2 ^ w - 1 else 0)

/-- One step of a reduction. -/
def redStep (f rm op a b : Nat) : Nat × Nat :=
  match op with
  | 0 => elemAdd f rm a b
  | 1 => elemMinMax f false a b
  | _ => elemMinMax f true a b

/-- The neighbours of a list, joined pairwise. -/
def redPairs (f rm op : Nat) : List Nat → List Nat × Nat
  | a :: b :: l =>
    let r := redStep f rm op a b
    let t := redPairs f rm op l
    (r.1 :: t.1, r.2 ||| t.2)
  | _ => ([], 0)

/-- The fixed pairwise order of R256. -/
def vredFold (f rm op : Nat) : Nat → List Nat × Nat → Nat × Nat
  | 0, l => (l.1.headD 0, l.2)
  | n + 1, l =>
    if l.1.length ≤ 1 then (l.1.headD 0, l.2)
    else
      let r := redPairs f rm op l.1
      vredFold f rm op n (r.1, l.2 ||| r.2)

/-- VRED of a register under a predicate. -/
def vredReg (f rm op pred a : Nat) : Nat × Nat :=
  vredFold f rm op 6 ((List.range (nLanes f)).map fun i => if pred.testBit i then elemLane f a i else redIdent f op, 0)

/-- What a vector instruction writes. -/
inductive VOut where
  | v (r val flags : Nat)
  | p (r val flags : Nat)
  | g (r val flags : Nat)
  | store (bytes : List (Nat × List Byte))
deriving DecidableEq, Repr

/-- The effect of a queued vector instruction; `line` is the 64 bytes at its address. -/
def vectorOut (c : BCore) (e : VqEntry) (line : List Byte) : VOut :=
  let w := e.word.toNat
  let op := wOp w
  let f := wFmt w
  let d := wD w
  let a := c.rv (wA w)
  let b := c.rv (wB w)
  let pr := c.rp (wPredR w)
  let zm := wZmR w
  match op with
  | 0x4E => let r := vcmpBits f (wSub w) pr a b; .p d r.1 r.2
  | 0x4F => let r := vcvtReg f (wSub w) (wRm w) (wPart w) pr zm a (c.rv d); .v d r.1 r.2
  | 0x50 => .v d (mergeLanes f pr zm (c.rv d) fun _ => e.gval.toNat % 2 ^ fmtWidth f) 0
  | 0x51 => .g d (extend f (elemLane f a (bits w 36 0))) 0
  | 0x52 => .v d (mergeLanes f (2 ^ bits w 36 0) false (c.rv d) fun _ => e.gval.toNat % 2 ^ fmtWidth f) 0
  | 0x53 => let r := vredReg f (wRm w) (wSub w) pr a; .g d (extend f r.1) r.2
  | 0x54 => .v d (mergeLanes f pr false b fun i => elemLane f a i) 0
  | 0x58 => .p d (c.rp (wA w) &&& c.rp (wB w)) 0
  | 0x59 => .p d (c.rp (wA w) ||| c.rp (wB w)) 0
  | 0x5A => .p d (c.rp (wA w) ^^^ c.rp (wB w)) 0
  | 0x5B => .p d (2 ^ 64 - 1 - c.rp (wA w)) 0
  | 0x5C => .p d e.gval.toNat 0
  | 0x5D => .g d (c.rp (wA w)) 0
  | 0x62 => .v d (mergeLanes f (c.rp (wPredM w)) (wZmM w) (c.rv d) fun i => elemLane f (ofLe line) i) 0
  | 0x63 =>
    let p := c.rp (wPredM w) % 2 ^ nLanes f
    let k := fmtWidth f / 8
    if p = 2 ^ nLanes f - 1 then .store [(0, leBytes 64 b)]
    else .store (((List.range (nLanes f)).filter fun i => p.testBit i).map fun i => (k * i, leBytes k (elemLane f b i)))
  | _ => let r := perLane f pr zm (c.rv d) fun i => laneOp op f (wRm w) (elemLane f a i) (elemLane f b i) (elemLane f (c.rv (wC w)) i)
         .v d r.1 r.2

/-- The cycle from which the v and p registers of a word are ready. -/
def BCore.vecReady (c : BCore) (w : Nat) : Nat :=
  match opSpec (wOp w) with
  | none => 0
  | some sp =>
    let rdy := fun (k : Names) i => match k with
      | .v => Tbl.get 0 c.vReady i
      | .p => Tbl.get 0 c.pReady i
      | _ => 0
    let pr := match sp.form with
      | .r => wPredR w
      | .m => wPredM w
      | _ => 0
    max (max (rdy sp.d (wD w)) (rdy sp.a (wA w))) (max (rdy sp.b (wB w)) (max (if sp.form = .r then rdy sp.c (wC w) else 0)
      (if sp.pred then Tbl.get 0 c.pReady pr else 0)))

/-- Whether a vector instruction holds the vector divider (Table 7.13). -/
def vecDiv (w : Nat) : Bool := (decide (wOp w = 0x44) || decide (wOp w = 0x45)) && !fmtLq (wFmt w)

/-- A vector instruction has issued: streams that waited for it wait for one less, and `put` makes its store part of the memory
they begin from (R298). -/
def BCore.vectorDone (c : BCore) (put : Tbl Byte → Tbl Byte) : BCore :=
  { c with streams := c.streams.map fun t => if t.after > 0 then { t with after := t.after - 1, mem := put t.mem } else t }

/-- The vector unit issues the head of the queue (R263), unless the core's clock is stopped.
Log: entry 33 (DEDUCED; DESIGN CHOICE), entry 35 (DEDUCED; DESIGN CHOICE). -/
def Gremon.vectorIssue (g : Gremon) (n : Nat) : Gremon :=
  let c := g.core n
  match c.vq with
  | [] => g
  | e :: rest =>
    if c.frozen || !c.run then g
    else
      let w := e.word.toNat
      let cy := max (max c.vcycle (e.cycle + 1)) (max (c.vecReady w) (if vecDiv w then c.vdivFree else 0))
      let lat := vectorLat (wOp w) (wFmt w) (wSub w)
      let mem := vqMem e
      let c1 : BCore := { c with
        vq := rest, vcycle := cy + 1, vlog := (c.vlog ++ [cy]).drop (c.vlog.length + 1 - 16)
        vmemAt := if mem then cy + 1 else c.vmemAt, vdone := max c.vdone (cy + lat)
        vdivFree := if vecDiv w then cy + lat else c.vdivFree }
      if wOp w = 0x62 ∧ g.linePoison (spadCna n e.addr) 64 = true then g.haltCore n c1 e.pc 4
      else
        let r := if wOp w = 0x62 then g.portRead (spadCna n e.addr) 64 else ([], g)
        let c2 := c1.vectorDone fun m => m
        let g := r.2
        let g := match vectorOut c e r.1 with
          | .v r v fl => g.setCore n { (c2.wv r v).flag fl with vReady := Tbl.set 0 c2.vReady r (cy + lat) }
          | .p r v fl => g.setCore n { (c2.wp r v).flag fl with pReady := if r = 0 then c2.pReady else Tbl.set 0 c2.pReady r (cy + lat) }
          | .g r v fl => g.setCore n ((c2.wgAt r v (cy + lat)).flag fl)
          | .store bs =>
            let put := fun (m : Tbl Byte) => bs.foldl (fun m (x : Nat × List Byte) => memPut m (spadCna n (e.addr + x.1)) x.2) m
            (bs.foldl (fun (g : Gremon) (x : Nat × List Byte) => g.wrBytes (spadCna n (e.addr + x.1)) x.2) g).setCore n (c1.vectorDone put)
        g.fetchTrap n

end Sys2Proof.Machine
end

