-- ==== Sys2Proof/Machine/Hub.lean ====
section
/-! DEFINITION. The Sync Hub: objects, waiters and signals (R290–R295), and the instructions that reach it (Table
8.10), with the fences that wait for a core's own work (R296). -/
namespace Sys2Proof.Machine
open Sys2Proof

/-! ### Objects -/

/-- An object that belongs to nobody. -/
def SyncObj.free : SyncObj := { kind := 0, kit := 0, state := 0, waiters := [] }

def Gremon.obj (g : Gremon) (o : Nat) : SyncObj := Tbl.get SyncObj.free g.sync o
def Gremon.setObj (g : Gremon) (o : Nat) (s : SyncObj) : Gremon := { g with sync := Tbl.set SyncObj.free g.sync o s }

/-- Fields of an object's state (Table 8.9). -/
def SyncObj.count (s : SyncObj) : Nat := bits s.state.toNat 47 0
def SyncObj.arrived (s : SyncObj) : Nat := bits s.state.toNat 15 0
def SyncObj.parties (s : SyncObj) : Nat := bits s.state.toNat 31 16
def SyncObj.gen (s : SyncObj) : Nat := bits s.state.toNat 63 32
/-- A barrier's state. -/
def barState (arrived parties gen : Nat) : W64 :=
  BitVec.ofNat 64 (arrived % 2 ^ 16 + 2 ^ 16 * (parties % 2 ^ 16) + 2 ^ 32 * (gen % 2 ^ 32))
/-- One arrival at a barrier: at the last party the generation advances. -/
def SyncObj.arrive (s : SyncObj) : SyncObj :=
  if s.arrived + 1 ≥ s.parties then { s with state := barState 0 s.parties (s.gen + 1) }
  else { s with state := barState (s.arrived + 1) s.parties s.gen }

/-! ### Ends of waits -/

/-- An instruction that has waited ends: its wait lasted a time that the spec does not fix (R232), it writes g[D] where
`d` gives a value, and retires. On a core halted by a cut it stays in progress (R469).
Log: entry 34 (DESIGN CHOICE; DEDUCED). -/
def Gremon.endWait (g : Gremon) (n : Nat) (d : Option Nat) : Gremon :=
  let c := g.core n
  if c.frozen then g.setCore n { c with wait := some (.done d) } else
  let w := g.fetchWord n
  let (f, g) := g.draw
  let g := g.traceWait n f
  let cy := max c.cycle c.vdone + f
  let c := { c with wait := none }
  let c := match d with
    | some v => c.wgAt (wD w) v (cy + 1)
    | none => c
  (g.setCore n c).endInstr n w cy 1 .seq

/-- Take one waiter that the object's state satisfies off the object; waiters on a semaphore leave in order (R292).
Log: entry 34 (DESIGN CHOICE; DEDUCED). -/
def Gremon.wakeOne (g : Gremon) (o : Nat) : Option Gremon :=
  let s := g.obj o
  match s.kind with
  | 1 =>
    match s.waiters with
    | [] => none
    | n :: rest =>
      match (g.core n).wait with
      | some (.sem _ k) =>
        if k ≤ s.count then
          some ((g.setObj o { s with waiters := rest, state := s.state - BitVec.ofNat 64 k }).endWait n none)
        else none
      | _ => some (g.setObj o { s with waiters := rest })
  | 2 =>
    match takeFirst (fun n => match (g.core n).wait with
        | some (.bar _ k) => decide (k % 2 ^ 32 ≠ s.gen)
        | _ => true) s.waiters with
    | some (n, rest) =>
      let g := g.setObj o { s with waiters := rest }
      some (match (g.core n).wait with
        | some (.bar _ _) => g.endWait n none
        | _ => g)
    | none => none
  | _ =>
    match s.waiters with
    | [] => none
    | n :: rest =>
      if s.kind = 3 ∧ s.state.getLsbD 0 = false then none
      else
        let g := g.setObj o { s with waiters := rest }
        some (match (g.core n).wait with
          | some (.event _) => g.endWait n none
          | _ => g)

/-- Release every waiter that the object satisfies before its next operation (R292).
Log: entry 34 (DESIGN CHOICE; DEDUCED). -/
def Gremon.wakeAll (o : Nat) : Nat → Gremon → Gremon
  | 0, g => g
  | k + 1, g =>
    match g.wakeOne o with
    | some g' => Gremon.wakeAll o k g'
    | none => g

/-- Apply a change to an object and release whoever it satisfies.
Log: entry 34 (DESIGN CHOICE; DEDUCED). -/
def Gremon.hubApply (g : Gremon) (o : Nat) (f : SyncObj → SyncObj) : Gremon :=
  let g := g.setObj o (f (g.obj o))
  Gremon.wakeAll o (g.obj o).waiters.length g

/-- A signal by a stream, command or message (R294). -/
def Gremon.signalObj (g : Gremon) (o : Nat) : Gremon :=
  let s := g.obj o
  match s.kind with
  | 1 =>
    if s.count + 1 ≥ 2 ^ 48 then g.raise .syncOvf []
    else g.hubApply o fun s => { s with state := s.state + 1 }
  | 2 => g.hubApply o SyncObj.arrive
  | 3 => g.hubApply o fun s => { s with state := 1 }
  | _ => g

/-- The SYNC field of a descriptor or block: signal OBJ if SIG (Table 8.2). -/
def Gremon.signalSync (g : Gremon) (sync : Nat) : Gremon := if sync.testBit 14 then g.signalObj (bits sync 13 0) else g

/-! ### Instructions -/

/-- The object of a Sync Hub instruction: g[A] + IMM. -/
def BCore.hubObj (c : BCore) (w : Nat) : Nat := ofInt 64 ((c.rg (wA w) : Int) + wImm w)

/-- The SYNC trap of a Sync Hub instruction on an object, by kind, where there is one (R293). -/
def Gremon.hubTrap (g : Gremon) (c : BCore) (o : Nat) (kind : Nat) : Option Nat :=
  if o > 16383 then some 1
  else if (g.obj o).kind = 0 ∨ (g.obj o).kit ≠ c.grants.kit then some 2
  else if kind ≠ 0 ∧ (g.obj o).kind ≠ kind then some 3
  else none

/-- TVAL of a SYNC trap: SCODE + 2¹⁶ × object. -/
def syncTval (scode o : Nat) : Nat := (scode + 2 ^ 16 * o) % 2 ^ 64

/-- A Sync Hub instruction: traps of R293, else `f` on the object. -/
def Gremon.hubInstr (g : Gremon) (n op kind : Nat) (f : BCore → (w o : Nat) → Gremon × Ctl) : Gremon :=
  g.instr n op fun c w _ =>
    let o := c.hubObj w
    match g.hubTrap c o kind with
    | some sc => (g, .trap 8 (syncTval sc o), 1)
    | none =>
      let r := f c w o
      (r.1, r.2, 1)

/-- The core begins to wait at an object, behind those already there. -/
def Gremon.enqueueWait (g : Gremon) (n o : Nat) (wt : CoreWait) : Gremon :=
  let g := g.setCore n { (g.core n) with wait := some wt }
  g.hubApply o fun s => { s with waiters := s.waiters ++ [n] }

/-- SEMP: wait until COUNT covers g[B], then take it. -/
def Gremon.iSemp (g : Gremon) (n : Nat) : Gremon :=
  g.hubInstr n 0xA0 1 fun c w o =>
    let k := c.rg (wB w)
    if k = 0 ∨ k ≥ 2 ^ 48 then (g, .trap 8 (syncTval 5 o)) else (g.enqueueWait n o (.sem o k), .stall)

/-- An answer of the Sync Hub ends the instruction: the core's wait for it is a wait of no fixed length. -/
def Gremon.answered (g : Gremon) (n : Nat) (d : Option Nat) : Gremon × Ctl := (g.endWait n d, .stall)

/-- SEMV: give g[B] to the semaphore. -/
def Gremon.iSemv (g : Gremon) (n : Nat) : Gremon :=
  g.hubInstr n 0xA1 1 fun c w o =>
    let k := c.rg (wB w)
    if k = 0 ∨ k ≥ 2 ^ 48 then (g, .trap 8 (syncTval 5 o))
    else if (g.obj o).count + k ≥ 2 ^ 48 then (g, .trap 8 (syncTval 4 o))
    else Gremon.answered (g.hubApply o fun s => { s with state := s.state + BitVec.ofNat 64 k }) n none

/-- EVSET, EVCLR. -/
def Gremon.iEvset (g : Gremon) (n : Nat) : Gremon :=
  g.hubInstr n 0xA4 3 fun _ _ o => Gremon.answered (g.hubApply o fun s => { s with state := 1 }) n none
def Gremon.iEvclr (g : Gremon) (n : Nat) : Gremon :=
  g.hubInstr n 0xA5 3 fun _ _ o => Gremon.answered (g.hubApply o fun s => { s with state := 0 }) n none

/-- EVW: wait until the flag is set. -/
def Gremon.iEvw (g : Gremon) (n : Nat) : Gremon :=
  g.hubInstr n 0xA6 3 fun _ _ o => (g.enqueueWait n o (.event o), .stall)

/-- BARW: wait until GEN differs from g[B] modulo 2³². -/
def Gremon.iBarw (g : Gremon) (n : Nat) : Gremon :=
  g.hubInstr n 0xA3 2 fun c w o => (g.enqueueWait n o (.bar o (c.rg (wB w) % 2 ^ 32)), .stall)

/-- SYRD: read the object's state. -/
def Gremon.iSyrd (g : Gremon) (n : Nat) : Gremon :=
  g.hubInstr n 0xA7 0 fun _ _ o => Gremon.answered g n (some (g.obj o).state.toNat)

/-! ### Fences (R296) -/

/-- Whether an end of a stream or command lies in the core's own scratchpad. -/
def ownSpad (n a : Nat) : Bool := decide (spadCna n 0 ≤ a) && decide (a < spadCna n 0x200000)

/-- A core's streams and commands that have not ended. -/
def Gremon.busyStreams (g : Gremon) (n : Nat) : List Stream := (g.core n).streams
def Gremon.busyCmds (g : Gremon) (n : Nat) : List EngCmd := g.eng.filter fun e => decide (e.core = n)

/-- Whether a stream writes the core's own scratchpad: some row's destination lies in it (R277). -/
def streamToOwn (n : Nat) (s : Stream) : Bool :=
  (List.range (leAt s.desc 20 4)).any fun r =>
    ownSpad n (((endCna n (leAt s.desc 8 8) : Int) + r * toInt 64 (leAt s.desc 32 8)).emod (2 ^ 48)).toNat
/-- Whether a command's output is the core's own scratchpad: OUT, or the alarm bitmap of a CUSUM (Table 8.6). -/
def cmdToOwn (n : Nat) (e : EngCmd) : Bool :=
  ownSpad n (endCna n (leAt e.block 8 8)) || (decide (e.op = 0x95) && ownSpad n (endCna n (leAt e.block 32 8)))

/-- Whether FENCE.L, and FENCE.C, may end. -/
def Gremon.fenceLDone (g : Gremon) (n : Nat) : Bool :=
  !((g.busyStreams n).any (streamToOwn n)) && !((g.busyCmds n).any (cmdToOwn n))
def Gremon.fenceCDone (g : Gremon) (n : Nat) : Bool := (g.busyStreams n).isEmpty && (g.busyCmds n).isEmpty

/-- FENCE.L and FENCE.C end once what they wait for has ended; until then the core waits.
Log: entry 34 (DESIGN CHOICE; DEDUCED). -/
def Gremon.iFenceL (g : Gremon) (n : Nat) : Gremon :=
  g.instr n 0xB0 fun _ _ _ => if g.fenceLDone n then (g.endWait n none, .stall, 1) else (g, .stall, 1)
/-- Log: entry 34 (DESIGN CHOICE; DEDUCED). -/
def Gremon.iFenceC (g : Gremon) (n : Nat) : Gremon :=
  g.instr n 0xB1 fun _ _ _ => if g.fenceCDone n then (g.endWait n none, .stall, 1) else (g, .stall, 1)

/-- BARA: FENCE.C, then one arrival; g[D] = the generation arrived in. -/
def Gremon.iBara (g : Gremon) (n : Nat) : Gremon :=
  g.hubInstr n 0xA2 2 fun _ _ o =>
    if g.fenceCDone n then Gremon.answered (g.hubApply o SyncObj.arrive) n (some (g.obj o).gen) else (g, .stall)

end Sys2Proof.Machine
end

