-- ==== Sys2Proof/Machine/Streams.lean ====
section
/-! DEFINITION. Streams (R276–R283): descriptors, the checks of SGO, the copy, its end; and the windows a kit holds. -/
namespace Sys2Proof.Machine
open Sys2Proof

/-! ### Windows (R278) -/

/-- Whether every byte of `[lo, hi)` lies in some window: the windows are walked from `lo` up. -/
def coveredBy (ws : List Window) (hi : Nat) : Nat → Nat → Bool
  | 0, lo => decide (lo ≥ hi)
  | k + 1, lo =>
    if lo ≥ hi then true
    else match ws.find? fun w => decide (w.lo ≤ lo) && decide (lo < w.hi) with
      | some w => coveredBy ws hi k w.hi
      | none => false

/-- The windows of core `n`: its own scratchpad and its kit's grants; a read-only one is no destination. -/
def BCore.windows (c : BCore) (n : Nat) (write : Bool) : List Window :=
  { lo := spadCna n 0, hi := spadCna n 0x200000, ro := false } :: c.grants.windows.filter fun w => !(write && w.ro)

/-- Whether `len` bytes at CNA `a` lie in the kit's windows. -/
def BCore.granted (c : BCore) (n a len : Nat) (write : Bool) : Bool :=
  let ws := c.windows n write
  decide (len = 0) || coveredBy ws (a + len) (ws.length + 1) a

/-- Whether `len` bytes at CNA `a` touch the core's code window. -/
def BCore.touchesCode (c : BCore) (n a len : Nat) : Bool :=
  let lo := spadCna n c.codeBase.toNat
  decide (0 < len) && decide (a < lo + c.codeSize.toNat) && decide (lo < a + len)

/-- Whether the SYNC field names an object the kit may signal (R278, R285). -/
def Gremon.syncOwned (g : Gremon) (c : BCore) (s : Nat) : Bool :=
  !s.testBit 14 || (decide ((g.obj (bits s 13 0)).kind ≠ 0) && decide ((g.obj (bits s 13 0)).kit = c.grants.kit))

/-- TVAL of a STREAM trap (R289). -/
def streamTval (fcode s bytes : Nat) : Nat := fcode + 256 * s + 2 ^ 32 * (bytes % 2 ^ 32)

/-- Whether s register `s` of a core is ACTIVE. -/
def BCore.active (c : BCore) (s : Nat) : Bool := c.streams.any fun t => decide (t.s = s)

/-- The fields of a descriptor against R276 and R277; SRC is a pattern for FILL, and IDX is used by GATHER alone.
Log: entry 33 (DEDUCED; DESIGN CHOICE). -/
def sdFieldsOk (d : List Byte) : Bool :=
  let mode := leAt d 40 4
  let rl := sdRowlen d
  let rows := sdRows d
  decide (mode ≤ 2) && endOk (sdDst d) && decide (sdDst d % 8 = 0) && decide (leAt d 32 8 % 8 = 0) &&
  decide (8 ≤ rl) && decide (rl ≤ 16777216) && decide (rl % 8 = 0) && decide (1 ≤ rows) && decide (rows ≤ 65536) &&
  decide (rl * rows ≤ 2 ^ 31) && syncFieldOk (sdSync d) && decide (leAt d 24 8 % 8 = 0) && decide (sdIdx d < 2 ^ 22) &&
  (decide (mode = 1) || (endOk (sdSrc d) && decide (sdSrc d % 8 = 0))) && (decide (mode ≠ 2) || decide (sdIdx d % 4 = 0))

/-- The first check of R278 that a descriptor fails, as an FCODE.
Log: entry 33 (DEDUCED; DESIGN CHOICE). -/
def Gremon.sgoCheck (g : Gremon) (n : Nat) (c : BCore) (s : Nat) (d : List Byte) (idx : List Nat) : Option Nat :=
  if c.active s then some 1
  else if !sdFieldsOk d then some 2
  else
    let rows := List.range (sdRows d)
    let rl := sdRowlen d
    let srcOk := decide (sdMode d = 1) || rows.all fun r => c.granted n (sdSrcRow n d idx r) rl false
    let idxOk := decide (sdMode d ≠ 2) || decide (sdIdx d + 4 * sdRows d ≤ 0x200000)
    if !(srcOk && idxOk && (rows.all fun r => c.granted n (sdDstRow n d r) rl true) && g.syncOwned c (sdSync d)) then some 3
    else if rows.any fun r => c.touchesCode n (sdDstRow n d r) rl then some 4
    else none

/-- The index list of a GATHER, read when SGO issues.
Log: entry 35 (DEDUCED; DESIGN CHOICE). -/
def Gremon.sgoIndex (g : Gremon) (n : Nat) (d : List Byte) : List Nat × Gremon :=
  if sdMode d = 2 then
    let k := min (sdRows d) 65536
    let r := g.portRead (spadCna n (sdIdx d)) (4 * k)
    ((List.range k).map fun i => leAt r.1 (4 * i) 4, r.2)
  else ([], g)

/-! ### Instructions -/

/-- The check of a 64-byte access by the core port: traps of R258–R260, and POISON. -/
def Gremon.portLine (g : Gremon) (n : Nat) (c : BCore) (a : Nat) (store : Bool) : Option Ctl :=
  match c.portTrap a 64 store with
  | some t => some (.trap t.1 t.2)
  | none => if !store && g.linePoison (spadCna n a) 64 then some (.halt 4) else none

/-- SLD: 56 bytes into s[D], STATUS 0; an ACTIVE descriptor traps BUSY (R276, R279).
Log: entry 33 (DEDUCED; DESIGN CHOICE), entry 35 (DEDUCED; DESIGN CHOICE). -/
def Gremon.iSld (g : Gremon) (n : Nat) : Gremon :=
  g.instr n 0x80 fun c w cy =>
    let a := c.addrM w
    let s := wD w
    match g.portLine n c a false with
    | some t => (g, t, 1)
    | none =>
      if c.active s then (g, .trap 7 (streamTval 1 s 0), 1)
      else
        let r := g.portRead (spadCna n a) 56
        let c := c.ws s (r.1 ++ leBytes 8 0)
        (r.2.setCore n { c with sReady := Tbl.set 0 c.sReady s (cy + 4) }, .seq, 1)

/-- SST: all 64 bytes of s[B]; an ACTIVE descriptor shows STATE = ACTIVE.
Log: entry 33 (DEDUCED; DESIGN CHOICE). -/
def Gremon.iSst (g : Gremon) (n : Nat) : Gremon :=
  g.instr n 0x81 fun c w _ =>
    let a := c.addrM w
    match g.portLine n c a true with
    | some t => (g, t, 1)
    | none => (g.wrBytes (spadCna n a) (c.rs (wB w)), .seq, 1)

/-- SGO: check the descriptor and start the stream (R278, R279); an index list that reads POISON halts the core. What the
stream reads, it reads after the vector instructions now queued (R298).
Log: entry 33 (DEDUCED; DESIGN CHOICE). -/
def Gremon.iSgo (g : Gremon) (n : Nat) : Gremon :=
  g.instr n 0x82 fun c w _ =>
    let s := wA w
    let d := c.rs s
    let (idx, g) := g.sgoIndex n d
    match g.sgoCheck n c s d idx with
    | some f => (g, .trap 7 (streamTval f s 0), 1)
    | none =>
      if sdMode d = 2 ∧ g.linePoison (spadCna n (sdIdx d)) (4 * sdRows d) = true then (g, .halt 4, 1)
      else
      let c := c.ws s (sdSetStatus d 1)
      let st : Stream := { s := s, desc := d, idx := idx, seq := c.seq, after := c.vq.length, mem := g.mem }
      (g.setCore n { c with streams := c.streams ++ [st], seq := c.seq + 1 }, .seq, 1)

/-- SWAIT: wait until s[A] leaves ACTIVE; a stream that ended FAULT traps (R280). -/
def Gremon.iSwait (g : Gremon) (n : Nat) : Gremon :=
  g.instr n 0x83 fun c w _ =>
    let s := wA w
    if c.active s then (g, .stall, 1)
    else
      let st := sdStatus (c.rs s)
      if bits st 1 0 = 3 then (g, .trap 7 (streamTval (bits st 15 8) s (st / 2 ^ 32)), 1)
      else (g.endWait n none, .stall, 1)

/-- STEST: g[D] = STATUS of s[A]. -/
def Gremon.iStest (g : Gremon) (n : Nat) : Gremon :=
  g.instr n 0x84 fun c w cy => g.result n c w cy 0 (sdStatus (c.rs (wA w)), 0)

/-! ### The copy and its end (R280–R282) -/

/-- Whether the source and destination ranges of a stream overlap: its destination values are then open (R282).
Log: entry 35 (DEDUCED; DESIGN CHOICE). -/
def sdOverlap (n : Nat) (t : Stream) : Bool :=
  let d := t.desc
  let rows := List.range (sdRows d)
  let rl := sdRowlen d
  decide (sdMode d ≠ 1) && rows.any fun r => rows.any fun q =>
    decide (sdSrcRow n d t.idx r < sdDstRow n d q + rl) && decide (sdDstRow n d q < sdSrcRow n d t.idx r + rl)

/-- The fault of row `r`, if its access completes POISON or ACCESS: its source reads POISON, or its destination is lost.
Log: entry 33 (DEDUCED; DESIGN CHOICE). -/
def Gremon.rowFault (g : Gremon) (n : Nat) (t : Stream) (r : Nat) : Option Nat :=
  let rl := sdRowlen t.desc
  let src := sdSrcRow n t.desc t.idx r
  let dst := sdDstRow n t.desc r
  let fill := decide (sdMode t.desc = 1)
  if !cnaReachRange (n / 32) dst rl || (!fill && !cnaReachRange (n / 32) src rl) then some 17
  else if (!fill && g.flowPoison (n / 32) src rl) || g.lost (n / 32) dst rl then some 16
  else none

/-- What a stream carries from one row: the pattern of a FILL, or its source. -/
def Gremon.rowBytes (g : Gremon) (n : Nat) (t : Stream) (r : Nat) : List Byte :=
  if sdMode t.desc = 1 then (List.replicate (sdRowlen t.desc / 8) (leBytes 8 (sdSrc t.desc))).flatten
  else g.rdBytes (sdSrcRow n t.desc t.idx r) (sdRowlen t.desc)

/-- Rows `r` … of a stream, until one faults: the state, the rows written and the fault. `loose` names the bytes whose value is
open, in the source or the destination; `bad` is the row a flit in error belongs to.
Log: entry 35 (DEDUCED; DESIGN CHOICE), entry 52 (DEDUCED; DESIGN CHOICE). -/
def Gremon.moveRows (n : Nat) (t : Stream) (loose : Nat → Bool) (bad : Option Nat) : (k r : Nat) → Gremon → Gremon × Nat × Option Nat
  | 0, r, g => (g, r, none)
  | k + 1, r, g =>
    match if bad = some r then some 16 else g.rowFault n t r with
    | some f => (g, r, some f)
    | none =>
      let dst := sdDstRow n t.desc r
      let s := if sdMode t.desc = 1 then (g.rowBytes n t r, g) else g.blur loose (sdSrcRow n t.desc t.idx r) (g.rowBytes n t r)
      let d := s.2.blur loose dst s.1
      Gremon.moveRows n t loose bad k (r + 1) (d.2.wrBytes dst d.1)

/-- STREAM_FAULT: kit, logical core, s register, FCODE (R280, R644).
Log: entry 33 (DEDUCED; DESIGN CHOICE). -/
def Gremon.streamFault (g : Gremon) (n s fcode : Nat) : Gremon :=
  g.raise .streamFault (leBytes 2 (g.core n).grants.kit ++ leBytes 2 n ++ leBytes 1 s ++ leBytes 1 fcode)

/-- The row of a stream that a flit in error on its way to the CT belongs to, where its source lies across the mesh (R213); the
flit is then used up.
Log: entry 52 (DEDUCED; DESIGN CHOICE). -/
def Gremon.takeFlit (g : Gremon) (n : Nat) (t : Stream) : Option Nat × Gremon :=
  if g.flits.contains (n / 32) && decide (sdMode t.desc ≠ 1) && acrossMesh (n / 32) (sdSrcRow n t.desc t.idx 0) then
    let d := g.draw
    (some (d.1 % max 1 (sdRows t.desc)), { d.2 with flits := d.2.flits.erase (n / 32) })
  else (none, g)

/-- STREAM_END: the stream in s register `s` of core `n` ends (R280, R281). Before the VSTs ahead of it have written it cannot
end (R298).
Log: entry 35 (DEDUCED; DESIGN CHOICE). -/
def Gremon.streamEnd (g : Gremon) (n s : Nat) : Gremon :=
  let c := g.core n
  match c.streams.find? fun t => decide (t.s = s) with
  | none => g
  | some t =>
    if t.after > 0 then g
    else
    let loose := fun x => sdOverlap n t || g.openByte t.mem (some (n, t.seq)) x
    let (bad, g) := g.takeFlit n t
    let (g, rows, f) := Gremon.moveRows n t loose bad (sdRows t.desc) 0 g
    let bytes := rows * sdRowlen t.desc
    let status := match f with
      | some fc => 3 + 256 * fc + 2 ^ 32 * bytes
      | none => 2 + 2 ^ 32 * bytes
    let c := g.core n
    let c := { (c.ws s (sdSetStatus (c.rs s) status)) with streams := c.streams.filter fun t => decide (t.s ≠ s) }
    let g := g.setCore n c
    match f with
    | some fc => (if fc = 16 then g.poisonAt (n / 32) else g).streamFault n s fc
    | none => g.signalSync (sdSync t.desc)

end Sys2Proof.Machine
end

