-- ==== Sys2Proof/Machine/Tse.lean ====
section
/-! DEFINITION. Tree-ensemble scoring (10): images and their checks, gather, comparison, score, and the budget. -/
namespace Sys2Proof.Machine
open Sys2Proof

/-! ### Images (Tables 10.1–10.3) -/

def roundUp64 (n : Nat) : Nat := (n + 63) / 64 * 64

def ensTrees (im : List Byte) : Nat := leAt im 4 2
def ensDepth (im : List Byte) : Nat := leAt im 6 1
def ensFeats (im : List Byte) : Nat := leAt im 8 2
def ensBias (im : List Byte) : Int := toInt 64 (leAt im 16 8)
def ensLeafOfs (t d : Nat) : Nat := roundUp64 (1088 + 8 * t * (2 ^ d - 1))
def ensTotal (t d : Nat) : Nat := roundUp64 (ensLeafOfs t d + 4 * t * 2 ^ d)
def ensFfmt (im : List Byte) (f : Nat) : Nat := leAt im (64 + f / 2) 1 / (if f % 2 = 0 then 1 else 16) % 16
def ensNode (im : List Byte) (t i : Nat) : Nat := leAt im (1088 + 8 * (t * (2 ^ ensDepth im - 1) + i)) 8
def ensLeaf (im : List Byte) (t l : Nat) : Int :=
  toInt 32 (leAt im (ensLeafOfs (ensTrees im) (ensDepth im) + 4 * (t * 2 ^ ensDepth im + l)) 4)

/-- Fields of a node entry (Table 10.2). -/
def ndThresh (n : Nat) : Nat := bits n 31 0
def ndFeat (n : Nat) : Nat := bits n 42 32
def ndDl (n : Nat) : Bool := bit n 43
def ndPad (n : Nat) : Bool := bit n 44

/-- Whether all of a range of bytes is zero. -/
def zeros (bs : List Byte) (o n : Nat) : Bool := ((bs.drop o).take n).all fun b => decide (b = 0)

/-- Whether a node passes check 4 of Table 10.4. -/
def nodeOk (nfeat n : Nat) : Bool :=
  decide (n < 2 ^ 45) && (if ndPad n then decide (n = 2 ^ 44) else decide (ndFeat n < nfeat) && !(fpDecode 5 (ndThresh n)).isNan)

/-- Checks 1–4 of Table 10.4 on an image. -/
def ensOk (im : List Byte) : Bool :=
  let t := ensTrees im
  let d := ensDepth im
  let nf := ensFeats im
  let total := leAt im 32 4
  let bias := ensBias im
  let crcIm := im.take 36 ++ leBytes 4 0 ++ im.drop 40
  decide (im.length = total) && decide (crc32c crcIm = leAt im 36 4) && decide (leAt im 24 4 = 1088) &&
  decide (leAt im 28 4 = ensLeafOfs t d) && decide (total = ensTotal t d) &&
  decide (1 ≤ t) && decide (t ≤ 8192) && decide (1 ≤ d) && decide (d ≤ 8) && decide (1 ≤ nf) && decide (nf ≤ 2048) &&
  decide (bias ≤ 2 ^ 62) && decide (-(2 ^ 62) ≤ bias) && zeros im 7 1 && zeros im 10 6 && zeros im 40 24 &&
  ((List.range 2048).all fun f => if f < nf then decide (ensFfmt im f ≤ 9) else decide (ensFfmt im f = 0)) &&
  (let e := 1088 + 8 * t * (2 ^ d - 1); zeros im e (ensLeafOfs t d - e)) &&
  (let e := ensLeafOfs t d + 4 * t * 2 ^ d; zeros im e (total - e)) &&
  ((List.range (t * (2 ^ d - 1))).all fun i => nodeOk nf (leAt im (1088 + 8 * i) 8))

/-! ### Scoring (R349–R352) -/

/-- A slot converted to FP32 (R349): rounding to nearest, a NaN canonical, out of range infinite. -/
def toFp32 (slot f : Nat) : Nat := (fpEncode 5 0 (elemVal f (slot % 2 ^ fmtWidth f))).1

/-- Whether a node sends a row left (R350). -/
def goLeft (n : Nat) (x : List Nat) : Bool :=
  if ndPad n then true
  else
    let v := fpDecode 5 (x.getD (ndFeat n) 0)
    if v.isNan then ndDl n else Val.lt v (fpDecode 5 (ndThresh n))

/-- The leaf of a tree: the lowest that no right-turning node clears (R351). -/
def treeLeaf (im : List Byte) (t : Nat) (x : List Nat) : Nat :=
  let d := ensDepth im
  let cleared := (List.range (2 ^ d - 1)).filter fun i => !goLeft (ensNode im t i) x
  ((List.range (2 ^ d)).find? fun leaf => cleared.all fun i =>
    let l := Nat.log2 (i + 1)
    let p := i + 1 - 2 ^ l
    let w := 2 ^ (d - l - 1)
    !(decide (p * 2 * w ≤ leaf) && decide (leaf < p * 2 * w + w))).getD 0

/-- A row's features converted (R349). -/
def ensFeatures (im : List Byte) (row : List Nat) : List Nat := (List.range (ensFeats im)).map fun f => toFp32 (row.getD f 0) (ensFfmt im f)

/-- The score of a row of slots, in tree order (R352). -/
def ensScore (im : List Byte) (row : List Nat) : Int :=
  let x := ensFeatures im row
  (List.range (ensTrees im)).foldl (fun s t => s + ensLeaf im t (treeLeaf im t x)) (ensBias im)

/-! ### The planes (R342, R352) -/

/-- Tree `t` lies on plane `t mod P` as local tree `t div P`; `planeTrees` are the trees of a plane. -/
def planeOf (p t : Nat) : Nat := t % p
def localTree (p t : Nat) : Nat := t / p
def planeTrees (im : List Byte) (p k : Nat) : List Nat := (List.range (ensTrees im)).filter fun t => decide (planeOf p t = k)

/-- Where node `i` of tree `t` lies: its plane, its comparator, and its node-store entry counted from the ensemble's first. -/
def nodePlace (im : List Byte) (p t i : Nat) : Nat × Nat × Nat :=
  let flat := localTree p t * (2 ^ ensDepth im - 1) + i
  (planeOf p t, flat % 2048, flat / 2048)

/-- The partial sum of plane `k`, and a score as the planes give it: BIAS and the P partial sums. -/
def planeSum (im : List Byte) (p : Nat) (x : List Nat) (k : Nat) : Int :=
  (planeTrees im p k).foldl (fun s t => s + ensLeaf im t (treeLeaf im t x)) 0
def planeScore (im : List Byte) (p : Nat) (row : List Nat) : Int :=
  (List.range p).foldl (fun s k => s + planeSum im p (ensFeatures im row) k) (ensBias im)

/-! ### Budget (R343, R358) -/

/-- Compare and gather cycles, and store use, of an ensemble at P planes. -/
def ensKcmp (im : List Byte) (p : Nat) : Nat :=
  let per := (ensTrees im + p - 1) / p
  (per * (2 ^ ensDepth im - 1) + 2047) / 2048
def ensKgat (im : List Byte) : Nat := ((ensFeats im + 7) / 8 * 8 + 127) / 128
def ensLeafUse (im : List Byte) (p : Nat) : Nat := (ensTrees im + p - 1) / p * 2 ^ ensDepth im
/-- The charge of a declared rate. -/
def ensCharge (im : List Byte) (p rows : Nat) : Nat := rows * (2048 * p * max (ensKcmp im p) (ensKgat im))
/-- The charge limit of a CT: 0.9 × 2,048 × P × 2.0 × 10⁹. -/
def tseLimit (p : Nat) : Nat := 2048 * p * 1800000000

/-! ### The TSE of a CT (R356, R360) -/

/-- A TSE before self-test. -/
def TseCt.off : TseCt := { planes := 0, spare := false, failedAt := none, transient := 0, poisoned := 0, retry := false }
def Gremon.tseOf (g : Gremon) (ct : Nat) : TseCt := Tbl.get TseCt.off g.tse ct
def Gremon.setTse (g : Gremon) (ct : Nat) (t : TseCt) : Gremon := { g with tse := Tbl.set TseCt.off g.tse ct t }
/-- The ensembles loaded on a CT. -/
def Gremon.ensOn (g : Gremon) (ct : Nat) : List Ensemble := g.ens.filter fun e => e.ctmask.testBit ct

/-- Store and charge in use on a CT. -/
def Gremon.tseNodes (g : Gremon) (ct : Nat) : Nat :=
  (g.ensOn ct).foldl (fun n e => n + ensKcmp e.image (max 1 (g.tseOf ct).planes)) 0
def Gremon.tseLeaves (g : Gremon) (ct : Nat) : Nat :=
  (g.ensOn ct).foldl (fun n e => n + ensLeafUse e.image (max 1 (g.tseOf ct).planes)) 0
def Gremon.tseCharge (g : Gremon) (ct : Nat) : Nat :=
  (g.ensOn ct).foldl (fun n e => n + ensCharge e.image (g.tseOf ct).planes e.rows) 0

/-- GR_TSE_STAT, USE, LOAD and ERR of a CT as they read (Tables 10.10–10.13); a figure beyond its field reads its greatest value.
Log: entry 52 (DEDUCED; DESIGN CHOICE). -/
def Gremon.tseStat (g : Gremon) (ct : Nat) : Nat :=
  let t := g.tseOf ct
  t.planes + 16 * b2n t.spare + 32 * b2n t.failedAt.isSome + 256 * sat 255 (g.ensOn ct).length
def Gremon.tseUse (g : Gremon) (ct : Nat) : Nat := sat 2047 (g.tseNodes ct) + 2 ^ 16 * sat 1023 ((g.tseLeaves ct + 1023) / 1024)
def Gremon.tseLoad (g : Gremon) (ct : Nat) : Nat :=
  sat 0xFFFF ((g.tseCharge ct + 999999999) / 1000000000) + 2 ^ 16 * sat 0xFFFF (tseLimit (g.tseOf ct).planes / 1000000000)
def Gremon.tseErr (g : Gremon) (ct : Nat) : Nat := sat 0xFFFF (g.tseOf ct).transient + 2 ^ 16 * sat 0xFFFF (g.tseOf ct).poisoned

/-- A plane of a CT fails (R355, R356). -/
def Gremon.planeFail (g : Gremon) (ct : Nat) : Gremon :=
  let t := g.tseOf ct
  (g.setTse ct { t with failedAt := some g.clk }).raise .tsePlaneFail []

/-- PLANE_SUBSTITUTION: at a frame boundary at least 16 µs after the failure the spare, or a reassignment over the
remaining planes, takes effect (R356). -/
def Gremon.planeSwitch (g : Gremon) (ct : Nat) : Gremon :=
  let t := g.tseOf ct
  match t.failedAt with
  | some f =>
    if g.clk ≥ f + 16000 then
      g.setTse ct (if t.spare then { t with spare := false, failedAt := none } else { t with planes := t.planes - 1, failedAt := none })
    else g
  | none => g
def Gremon.planeSwitches (g : Gremon) : Gremon := (List.range 16).foldl (fun g c => g.planeSwitch c) g

/-! ### A scoring job (R347, R354, R355) -/

/-- The HPA of a Feature Table row. -/
def ftRow (r : Nat) : Nat := hpaFeature + 16384 * r

/-- Whether the gather of a row delivers POISON (R349). -/
def Gremon.rowPoison (g : Gremon) (ct : Nat) (im : List Byte) (r : Nat) : Bool :=
  g.flowPoison ct (hbmCna (ftRow r)) (8 * ((ensFeats im + 7) / 8 * 8))

/-- Score rows `i` … of a job: the scores, and the RESULT with the row at which it ended. `fail` names the row whose
path check fails twice. -/
def Gremon.scoreRows (g : Gremon) (ct : Nat) (im : List Byte) (lo cnt out : Nat) (fail : Option Nat) :
    List Nat → Nat → List Nat × Nat × Nat
  | [], i => ([], 0, i)
  | r :: rs, i =>
    if r < lo ∨ r ≥ lo + cnt then ([], 5, i)
    else
      let a := hbmCna (ftRow r)
      if g.rowPoison ct im r = true ∨ fail = some i ∨ g.lost ct (out + 8 * i) 8 = true then ([], 4, i)
      else
        let row := (List.range (ensFeats im)).map fun f => g.rd (a + 8 * f) 8
        let rest := g.scoreRows ct im lo cnt out fail rs (i + 1)
        (ofInt 64 (planeScore im (max 1 (g.tseOf ct).planes) row) :: rest.1, rest.2)

end Sys2Proof.Machine
end

