-- ==== Sys2Proof/Machine/EngCmds.lean ====
section
/-! DEFINITION. Engine commands (R284–R288): the checks at issue, and each command's completion by its engine. -/
namespace Sys2Proof.Machine
open Sys2Proof

/-- Engine of an opcode. -/
def opEngine (op : Nat) : Engine :=
  match op with
  | 0x90 => .sketch | 0x91 => .sketch | 0x92 => .topk | 0x93 => .topk | 0x94 => .baseline | 0x95 => .baseline
  | 0x96 => .tse | _ => .coder

/-- Whether the fields of a block that all commands share are well formed. -/
def cbCommonOk (b : List Byte) : Bool :=
  endOk (cbIn b) && endOk (cbOut b) && endOk (cbAux b) && syncFieldOk (cbSync b) && decide (leAt b 48 8 = 0)

/-- The first check of R285 that a command fails, as an FCODE.
Log: entry 33 (DEDUCED; DESIGN CHOICE). -/
def Gremon.engCheck (g : Gremon) (n : Nat) (c : BCore) (op f a : Nat) (b : List Byte) : Option Nat :=
  match engRanges op f b with
  | none => some 2
  | some rs =>
    if !cbCommonOk b then some 2
    else if (rs.any fun r => !c.granted n (endCna n r.e) r.len r.write) || !g.syncOwned c (cbSync b) then some 3
    else if (rs.any fun r => r.write && c.touchesCode n (endCna n r.e) r.len) || c.touchesCode n (spadCna n (a + 56)) 8 then some 4
    else if op = 0x96 ∧ ¬(c.grants.ens.contains (cbP0 b) = true ∧ ((g.ensOn (n / 32)).any fun e => decide (e.handle = cbP0 b)) = true) then some 6
    else if (g.eng.filter fun e => decide (e.core = n) && decide (e.engine = opEngine op)).length ≥ 8 then some 5
    else none

/-- Issue an engine command: the block is read, checked and handed to the engine.
Log: entry 35 (DEDUCED; DESIGN CHOICE). -/
def Gremon.engIssue (g : Gremon) (n op : Nat) : Gremon :=
  g.instr n op fun c w cy =>
    let a := c.addrM w
    let f := wFmt w
    match g.portLine n c a false with
    | some t => (g, t, 2)
    | none =>
      let (b, g) := g.portRead (spadCna n a) 56
      match g.engCheck n c op f a b with
      | some fc => (g, .trap 7 (streamTval fc 0xFF 0), 2)
      | none =>
        let tk := if op = 0x96 then (c.ticket + 1) % 2 ^ 32 else 0
        let e : EngCmd :=
          { core := n, engine := opEngine op, op := op, fmt := f, block := b, addr := a, ticket := tk, seq := c.seq, mem := g.mem }
        let c := { c with seq := c.seq + 1 }
        let c := if op = 0x96 then { c with ticket := c.ticket + 1, results := Tbl.erase c.results tk }.wgAt (wD w) tk (cy + 4) else c
        ({ g.setCore n c with eng := g.eng ++ [e] }, .seq, 2)

def Gremon.iHins (g : Gremon) (n : Nat) : Gremon := g.engIssue n 0x90
def Gremon.iHmrg (g : Gremon) (n : Nat) : Gremon := g.engIssue n 0x91
def Gremon.iTkin (g : Gremon) (n : Nat) : Gremon := g.engIssue n 0x92
def Gremon.iTkmrg (g : Gremon) (n : Nat) : Gremon := g.engIssue n 0x93
def Gremon.iEwma (g : Gremon) (n : Nat) : Gremon := g.engIssue n 0x94
def Gremon.iCusum (g : Gremon) (n : Nat) : Gremon := g.engIssue n 0x95
def Gremon.iTsub (g : Gremon) (n : Nat) : Gremon := g.engIssue n 0x96
def Gremon.iCenc (g : Gremon) (n : Nat) : Gremon := g.engIssue n 0x98
def Gremon.iCdec (g : Gremon) (n : Nat) : Gremon := g.engIssue n 0x99

/-- Whether the ticket `t` has been issued since kit start: it is one of the 2³¹ values up to the latest (R287). -/
def BCore.ticketOk (c : BCore) (t : Nat) : Bool :=
  let back := (c.ticket + 2 ^ 32 - t % 2 ^ 32) % 2 ^ 32
  decide (t < 2 ^ 32) && decide (back < 2 ^ 31) && decide (back < c.ticket)

/-- TWAIT: wait for the job of ticket g[A]; its RESULT to g[D] (R287).
Log: entry 33 (DEDUCED; DESIGN CHOICE). -/
def Gremon.iTwait (g : Gremon) (n : Nat) : Gremon :=
  g.instr n 0x97 fun c w _ =>
    let t := c.rg (wA w)
    if !c.ticketOk t then (g, .trap 8 (syncTval 6 0), 1)
    else match Tbl.find c.results t with
      | some r => (g.endWait n (some r.toNat), .stall, 1)
      | none => (g, .stall, 1)

/-! ### Completion (R286) -/

/-- A scoring job ends: its RESULT is kept for TWAIT unless the kit has started again since (R287), and a POISON one is counted
(Table 10.13). -/
def Gremon.jobDone (g : Gremon) (e : EngCmd) (result : Nat) : Gremon :=
  let c := g.core e.core
  let ct := e.core / 32
  let t := g.tseOf ct
  let g := if result = 4 then g.setTse ct { t with poisoned := sat 0xFFFF (t.poisoned + 1) } else g
  if e.seq ≥ c.firstSeq then g.setCore e.core { c with results := Tbl.put c.results e.ticket (BitVec.ofNat 8 result) } else g

/-- A command of core `n` completes with a RESULT and a COUNT: STATUS is written, then its object signalled. -/
def Gremon.engDone (g : Gremon) (e : EngCmd) (result count : Nat) : Gremon :=
  let g : Gremon := { g with eng := g.eng.filter fun x => decide (¬(x.core = e.core ∧ x.engine = e.engine ∧ x.seq = e.seq)) }
  let g := if e.op = 0x96 then g.jobDone e result else g
  let g := g.wr (spadCna e.core (e.addr + 56)) 8 (result + 256 + 2 ^ 32 * (count % 2 ^ 32))
  (if result = 4 then g.poisonAt (e.core / 32) else g).signalSync (cbSync e.block)

/-! ### What an engine reads and writes -/

/-- The byte ranges of memory a command touches: its operands, and for a TSUB the rows it names (R347, R348). -/
def Gremon.engSpan (g : Gremon) (e : EngCmd) : List (Nat × Nat) :=
  ((engRanges e.op e.fmt e.block).getD []).map (fun r => (endCna e.core r.e, r.len)) ++
    (if e.op = 0x96 then (List.range (cbN e.block)).map fun i => (hbmCna (ftRow (g.rd (endCna e.core (cbIn e.block) + 4 * i) 4)), 16384) else [])

/-- The bytes of a command whose value is open to it (R299, R348).
Log: entry 35 (DEDUCED; DESIGN CHOICE). -/
def Gremon.engOpen (g : Gremon) (e : EngCmd) : List Nat :=
  if e.mem = g.mem ∧ g.eng.length ≤ 1 ∧ (g.cores.all fun c => c.2.streams.isEmpty) = true then []
  else ((g.engSpan e).flatMap fun r => (List.range r.2).map (r.1 + ·)).filter (g.openByte e.mem (some (e.core, e.seq)))

/-- Memory in which the bytes `xs` hold free values; and with the values `was` has at `xs`.
Log: entry 35 (DEDUCED; DESIGN CHOICE). -/
def Gremon.freed (g : Gremon) (xs : List Nat) : Gremon :=
  let f := g.drawBytes xs.length
  { f.2 with mem := (xs.zip f.1).foldl (fun m p => memPut m p.1 [p.2]) g.mem }
def Gremon.putBack (g was : Gremon) (xs : List Nat) : Gremon := { g with mem := xs.foldl (fun m x => memPut m x [was.byte x]) g.mem }

/-- Whether a flit in error on its way to a command's CT belongs to the command: it reads or writes across the mesh (R213). -/
def Gremon.engFlit (g : Gremon) (e : EngCmd) : Bool :=
  g.flits.contains (e.core / 32) && (g.engSpan e).any fun r => acrossMesh (e.core / 32) r.1

/-- A command's block with a smaller N: how far it comes. -/
def EngCmd.upTo (e : EngCmd) (k : Nat) : EngCmd := { e with block := e.block.take 24 ++ leBytes 4 k ++ e.block.drop 28 }

/-- The engine works off a command, `f` giving the state, the RESULT and COUNT: it sees free values in the bytes open to it, and
what it only reads is as before. A flit in error ends it POISON: one that works element by element at an element that is not
fixed, any other before it writes.
Log: entry 35 (DEDUCED; DESIGN CHOICE), entry 52 (DEDUCED; DESIGN CHOICE). -/
def Gremon.engRun (g : Gremon) (e : EngCmd) (f : EngCmd → Gremon → Gremon × Nat × Nat) : Gremon :=
  if g.engFlit e then
    let g : Gremon := { g with flits := g.flits.erase (e.core / 32) }
    if [0x90, 0x91, 0x96].contains e.op then
      let d := g.draw
      let k := d.1 % max 1 (cbN e.block)
      let r := f (e.upTo k) d.2
      if r.2.1 ≥ 4 then r.1.engDone e r.2.1 r.2.2 else r.1.engDone e 4 (if e.op = 0x96 then k else 0)
    else g.engDone e 4 0
  else
    let xs := g.engOpen e
    let r := f e (g.freed xs)
    (r.1.putBack g (xs.filter fun x => !e.writes x)).engDone e r.2.1 r.2.2

/-- The oldest command of an engine of a CT, where it is of opcode `op`. -/
def Gremon.engHead (g : Gremon) (ct op : Nat) : Option EngCmd :=
  match g.eng.find? fun e => decide (e.core / 32 = ct) && decide (e.engine = opEngine op) with
  | some e => if e.op = op then some e else none
  | none => none

/-- Element `i` of a command's input. -/
def Gremon.engElem (g : Gremon) (e : EngCmd) (i : Nat) : Nat :=
  let w := fmtWidth e.fmt / 8
  g.rd (endCna e.core (cbIn e.block) + w * i) w

/-- Add 1 to a count of a histogram, with SAT. -/
def Gremon.histBump (g : Gremon) (h o : Nat) : Gremon :=
  let r := cntAdd (g.rd (h + o) 8) 1
  let g := g.wr (h + o) 8 r.1
  if r.2 then g.wr (h + 2) 1 (g.rd (h + 2) 1 ||| 1) else g

/-- HINS from value `i` (R309–R312): the state, the RESULT, COUNT, and the histograms written. -/
def Gremon.hinsRun (e : EngCmd) : (k i : Nat) → List Nat → Gremon → Gremon × Nat × Nat
  | 0, _, hs, g =>
    let sat := hs.any fun h => (g.rd (h + 2) 1).testBit 0
    (g, if sat then 1 else 0, 0)
  | k + 1, i, hs, g =>
    let ct := e.core / 32
    let w := fmtWidth e.fmt / 8
    let aux := cbAux e.block
    let ia := endCna e.core (cbIn e.block) + w * i
    let xa := endCna e.core aux + 4 * i
    if g.flowPoison ct ia w || (decide (aux ≠ 0) && g.flowPoison ct xa 4) then (g, 4, 0)
    else
      let j := if aux = 0 then i else g.rd xa 4
      if j ≥ cbP0 e.block then (g, 5, i)
      else
        let h := endCna e.core (cbOut e.block) + histBytes * j
        if g.flowPoison ct h histBytes then (g, 4, 0)
        else if !hs.contains h && !histOk (g.rdBytes h 64) then (g, 5, i)
        else
          let x := g.rd ia w
          let g := g.histBump h 8
          let g := g.histBump h (binOfs (hbin e.fmt x (toInt 16 (g.rd h 2))))
          let g := if hNegative e.fmt x then g.histBump h 40 else g
          Gremon.hinsRun e k (i + 1) (if hs.contains h then hs else h :: hs) g

/-- HMRG from pair `i` (R309, R313). -/
def Gremon.hmrgRun (e : EngCmd) : (k i : Nat) → Bool → Gremon → Gremon × Nat × Nat
  | 0, _, sat, g => (g, if sat then 1 else 0, 0)
  | k + 1, i, sat, g =>
    let ct := e.core / 32
    let s := endCna e.core (cbIn e.block) + histBytes * i
    let d := endCna e.core (cbOut e.block) + histBytes * i
    if g.flowPoison ct s histBytes || g.flowPoison ct d histBytes then (g, 4, 0)
    else
      let sb := g.rdBytes s histBytes
      let db := g.rdBytes d histBytes
      if !histOk sb || !histOk db then (g, 5, i)
      else
        let r := histMerge db sb
        Gremon.hmrgRun e k (i + 1) (sat || (leAt r 2 1).testBit 0) (g.wrBytes d r)

/-- HINS_DONE, HMRG_DONE on a CT.
Log: entry 35 (DEDUCED; DESIGN CHOICE). -/
def Gremon.hinsDone (g : Gremon) (ct : Nat) : Gremon :=
  match g.engHead ct 0x90 with
  | some e => g.engRun e fun e g => Gremon.hinsRun e (cbN e.block) 0 [] g
  | none => g
/-- Log: entry 35 (DEDUCED; DESIGN CHOICE). -/
def Gremon.hmrgDone (g : Gremon) (ct : Nat) : Gremon :=
  match g.engHead ct 0x91 with
  | some e => g.engRun e fun e g => Gremon.hmrgRun e (cbN e.block) 0 false g
  | none => g

/-- The ranges of a command that it only writes: a coder's output, and the alarm bitmap of a CUSUM (Table 8.6). -/
def onlyWritten (op : Nat) (b : List Byte) (r : EngRange) : Bool :=
  r.write && ([0x96, 0x98, 0x99].contains op || (decide (op = 0x95) && decide (r.e = cbP1 b)))

/-- Whether an access of a command completes POISON: a read of bytes that are, or a way that is lost.
Log: entry 33 (DEDUCED; DESIGN CHOICE). -/
def Gremon.engPoison (g : Gremon) (e : EngCmd) : Bool :=
  ((engRanges e.op e.fmt e.block).getD []).any fun r =>
    let a := endCna e.core r.e
    if onlyWritten e.op e.block r then g.lost (e.core / 32) a r.len else g.flowPoison (e.core / 32) a r.len

/-- A command that writes nothing before all its accesses are known to be sound: RESULT POISON, or `f`'s.
Log: entry 33 (DEDUCED; DESIGN CHOICE), entry 35 (DEDUCED; DESIGN CHOICE). -/
def Gremon.engWhole (g : Gremon) (ct op : Nat) (f : EngCmd → Gremon → Gremon × Nat × Nat) : Gremon :=
  match g.engHead ct op with
  | some e => g.engRun e fun e g => if g.engPoison e then (g, 4, 0) else f e g
  | none => g

/-- TKIN_DONE (R317).
Log: entry 35 (DEDUCED; DESIGN CHOICE). -/
def Gremon.tkinDone (g : Gremon) (ct : Nat) : Gremon :=
  g.engWhole ct 0x92 fun e g =>
    let out := endCna e.core (cbOut e.block)
    let old := TkList.ofBytes (g.rdBytes out topkBytes)
    let k := cbP0 e.block
    let dir := (cbP1 e.block).testBit 0
    if old.entries.length > 0 ∧ (old.k ≠ k ∨ old.fmt ≠ e.fmt ∨ old.dir ≠ dir) then (g, 5, 0)
    else
      let base : TkList := { old with k := k, fmt := e.fmt, dir := dir }
      let aux := endCna e.core (cbAux e.block)
      let t := (List.range (cbN e.block)).foldl (fun (t : TkList) i => t.offer (g.engElem e i) (g.rd (aux + 4 * i) 4)) base
      (g.wrBytes out t.bytes, 0, 0)

/-- TKMRG_DONE (R318).
Log: entry 35 (DEDUCED; DESIGN CHOICE). -/
def Gremon.tkmrgDone (g : Gremon) (ct : Nat) : Gremon :=
  g.engWhole ct 0x93 fun e g =>
    let out := endCna e.core (cbOut e.block)
    let old := TkList.ofBytes (g.rdBytes out topkBytes)
    let old : TkList := if old.entries.length = 0 then { old with fmt := e.fmt, dir := (cbP1 e.block).testBit 0 } else old
    let inp := endCna e.core (cbIn e.block)
    let t := (List.range (cbN e.block)).foldl
      (fun (t : TkList) i => t.merge (TkList.ofBytes (g.rdBytes (inp + topkBytes * i) topkBytes))) { old with k := cbP0 e.block }
    (g.wrBytes out { t with entries := t.entries.take (cbP0 e.block) }.bytes, 0, 0)

/-- EWMA_DONE (R320).
Log: entry 35 (DEDUCED; DESIGN CHOICE). -/
def Gremon.ewmaDone (g : Gremon) (ct : Nat) : Gremon :=
  g.engWhole ct 0x94 fun e g =>
    let out := endCna e.core (cbOut e.block)
    ((List.range (cbN e.block)).foldl (fun (g : Gremon) i =>
      g.wrBytes (out + 32 * i) (ewmaStep (g.rdBytes (out + 32 * i) 32) (g.engElem e i) (cbP0 e.block) e.fmt)) g, 0, 0)

/-- CUSUM_DONE (R321): states, then the alarm bitmap.
Log: entry 35 (DEDUCED; DESIGN CHOICE). -/
def Gremon.cusumDone (g : Gremon) (ct : Nat) : Gremon :=
  g.engWhole ct 0x95 fun e g =>
    let out := endCna e.core (cbOut e.block)
    let par := endCna e.core (cbAux e.block)
    let n := cbN e.block
    let r := (List.range n).foldl (fun (s : Gremon × Nat × Nat) i =>
      let u := cusumStep (s.1.rdBytes (out + 32 * i) 32) (s.1.rdBytes (par + 32 * i) 32) (s.1.engElem e i) e.fmt
      (s.1.wrBytes (out + 32 * i) u.1, s.2.1 + b2n u.2 * 2 ^ i, s.2.2 + b2n u.2)) (g, 0, 0)
    (r.1.wr (endCna e.core (cbP1 e.block)) (8 * ((n + 63) / 64)) r.2.1, 0, r.2.2)

/-- CENC_DONE (R368).
Log: entry 35 (DEDUCED; DESIGN CHOICE), entry 36 (DEDUCED; DESIGN CHOICE). -/
def Gremon.cencDone (g : Gremon) (ct : Nat) : Gremon :=
  match g.engHead ct 0x98 with
  | none => g
  | some e =>
    if cbP0 e.block % 4 = 3 then g.engDone e 5 0
    else g.engWhole ct 0x98 fun e g =>
      let n := cbN e.block
      let xs := (List.range n).map fun i => g.rd (endCna e.core (cbIn e.block) + 8 * i) 8
      let ctx := ctxOfBytes (g.rdBytes (endCna e.core (cbAux e.block)) (64 + 16 * n)) n (cbP0 e.block % 4)
      let b := encodeBlock xs ctx ((cbP0 e.block).testBit 2)
      if b.length > cbP1 e.block then (g, 3, 0) else (g.wrBytes (endCna e.core (cbOut e.block)) b, 0, b.length)

/-- CODER_BADBLOCK: the CT, the block's Canopy address and the failing check (R369).
Log: entry 36 (DEDUCED; DESIGN CHOICE). -/
def Gremon.badBlock (g : Gremon) (ct cna check : Nat) : Gremon :=
  g.raise .coderBadblock (leBytes 1 ct ++ leBytes 4 cna ++ leBytes 1 check)

/-- CDEC_DONE (R369).
Log: entry 35 (DEDUCED; DESIGN CHOICE), entry 36 (DEDUCED; DESIGN CHOICE). -/
def Gremon.cdecDone (g : Gremon) (ct : Nat) : Gremon :=
  g.engWhole ct 0x99 fun e g =>
    let n := cbN e.block
    let inp := endCna e.core (cbIn e.block)
    match decodeBlock (g.rdBytes inp (cbP1 e.block)) n ((cbP0 e.block).testBit 2)
        (ctxAll (g.rdBytes (endCna e.core (cbAux e.block)) (64 + 16 * n)) n) with
    | .ok xs => (g.wrBytes (endCna e.core (cbOut e.block)) (xs.flatMap (leBytes 8)), 0, n)
    | .error chk => (g.badBlock ct inp chk, 2, 0)

/-! ### Scoring jobs (R354–R357) -/

/-- TSE_TRANSIENT: a row was scored again and passed (R355). -/
def Gremon.tseTransient (g : Gremon) (ct : Nat) : Gremon :=
  let t := g.tseOf ct
  (g.setTse ct { t with transient := sat 0xFFFF (t.transient + 1) }).raise .tseTransient []

/-- A check fails while a CT scores: the row under way is scored again (R355). -/
def Gremon.tseRetry (g : Gremon) (ct : Nat) : Gremon :=
  if g.eng.any fun e => decide (e.core / 32 = ct) && decide (e.engine = .tse) then g.setTse ct { g.tseOf ct with retry := true } else g

/-- The image a TSUB names. -/
def Gremon.jobImage (g : Gremon) (e : EngCmd) : List Byte := ((g.ens.find? fun x => decide (x.handle = cbP0 e.block)).map (·.image)).getD []

/-- Score the rows of a job and write the scores before the one at which it ends (R354). While a plane's change is awaited the
first row ends it (R356). -/
def Gremon.tsubRun (e : EngCmd) (transients : List Nat) (fail : Option Nat) (g : Gremon) : Gremon × Nat × Nat :=
  let ct := e.core / 32
  let inp := endCna e.core (cbIn e.block)
  let rows := (List.range (cbN e.block)).map fun i => g.rd (inp + 4 * i) 4
  let im := g.jobImage e
  let gr := (g.core e.core).grants
  let t := g.tseOf ct
  let out := endCna e.core (cbOut e.block)
  if (t.failedAt.isSome && decide (rows ≠ [])) || g.flowPoison ct inp (4 * cbN e.block) then (g, 4, 0)
  else
    let r := g.scoreRows ct im gr.ftFirst gr.ftRows out fail rows 0
    let g := g.wrBytes out (r.1.flatMap (leBytes 8))
    let seen := ((if t.retry && decide (r.1 ≠ []) then [0] else []) ++ transients).eraseDups.filter fun i => decide (i < r.1.length)
    let g := seen.foldl (fun (g : Gremon) _ => g.tseTransient ct) g
    let g := if r.1 = [] then g else g.setTse ct { g.tseOf ct with retry := false }
    let sound := match rows[r.2.2]? with
      | some x => !g.rowPoison ct im x
      | none => false
    let g := if fail = some r.2.2 ∧ r.2.1 = 4 ∧ sound = true then g.planeFail ct else g
    (g, r.2.1, r.2.2)

/-- TSUB_DONE of core `n`'s oldest job (R354, R355): rows in `transients` were rescored; `fail` names a row whose check
failed twice. In DROWSE and HOLD no job runs (R357).
Log: entry 33 (DEDUCED; DESIGN CHOICE), entry 35 (DEDUCED; DESIGN CHOICE). -/
def Gremon.tsubDone (g : Gremon) (n : Nat) (transients : List Nat) (fail : Option Nat) : Gremon :=
  if g.sys.pwr.pstate ≥ 2 then g
  else
  match g.eng.find? fun e => decide (e.core = n) && decide (e.engine = .tse) with
  | none => g
  | some e =>
    g.engRun e fun e' g => Gremon.tsubRun e' transients fail g

end Sys2Proof.Machine
end

