-- ==== Sys2Proof/Machine/BrutuTime.lean ====
section
/-! DEFINITION. Time instructions: TRD, TRDX, WAITPT and its end (R302, R303). -/
namespace Sys2Proof.Machine
open Sys2Proof

/-- TRD: NS of the base in SUB; the quality word is kept for TRDX. A JT operand with bits above the job number traps
ILLEGAL (R302). -/
def Gremon.iTrd (g : Gremon) (n : Nat) : Gremon :=
  g.instr n 0xD0 fun c w cy =>
    let a := c.rg (wA w)
    let base := wSub w
    if base = 2 ∧ a ≥ 2 ^ 16 then (g, .trap 1 w, 1)
    else
      let st := match base with
        | 0 => g.stampOn (n / 32)
        | 1 => g.lmStamp (n / 32)
        | _ => g.jtStampOn (n / 32) (a % 2 ^ 16)
      g.result n { c with trd := BitVec.ofNat 64 (leAt st.bytes 8 4) } w cy 0 (st.ns.toNat, 0)

/-- TRDX: bytes 8–11 of the last TRD stamp. -/
def Gremon.iTrdx (g : Gremon) (n : Nat) : Gremon :=
  g.instr n 0xD1 fun c w cy => g.result n c w cy 0 (c.trd.toNat, 0)

/-- PT as the core's die reads it, none while PT is UNSET. -/
def Gremon.corePt (g : Gremon) (n : Nat) : Option Nat :=
  if g.clock.own = .unset then none else some (g.replicaPt (n / 32) / tickUnit)

/-- WAITPT: ends at once where PT has reached g[A], else the core waits (R303). -/
def Gremon.iWaitpt (g : Gremon) (n : Nat) : Gremon :=
  g.instr n 0xD2 fun c w _ =>
    let t := c.rg (wA w)
    match g.corePt n with
    | some p => if p ≥ t then (g.endWait n (some p), .stall, 1) else (g.setCore n { c with wait := some (.pt t (wD w)) }, .stall, 1)
    | none => (g.setCore n { c with wait := some (.pt t (wD w)) }, .stall, 1)

/-- WAITPT_RELEASE: PT reaches the target of core `n`'s WAITPT. While PT is UNSET it does not end.
Log: entry 34 (DESIGN CHOICE; DEDUCED). -/
def Gremon.waitptRelease (g : Gremon) (n : Nat) : Gremon :=
  match (g.core n).wait with
  | some (.pt t _) =>
    if g.clock.own = .unset ∨ (g.core n).frozen = true then g
    else
      let g := match g.corePt n with
        | some p => if p ≥ t then g else g.moveTo t
        | none => g
      g.endWait n (some (max t ((g.corePt n).getD 0)))
  | _ => g

end Sys2Proof.Machine
end

