-- ==== Sys2Proof/Machine/Host.lean ====
section
/-! DEFINITION. Gremon's host side (16): DMA, interrupts, completions, result queues, queue pairs, the checks of a
command before it starts, management messages and mailboxes. -/
namespace Sys2Proof.Machine
open Sys2Proof

/-! ### DMA and interrupts -/

/-- Change the host side. -/
def Gremon.onHost (g : Gremon) (f : HostSide → HostSide) : Gremon := { g with host := f g.host }

/-- Write bytes into host memory (R530).
Log: entry 37 (DEDUCED; DESIGN CHOICE). -/
def Gremon.dmaWrite (g : Gremon) (addr : Nat) (bs : List Byte) : Gremon :=
  if bs.isEmpty then g else g.onHost fun h => { h with dma := h.dma ++ [(addr, bs)] }

/-- The doubleword at `off` of the endpoint's configuration header, as far as the spec gives it: the identifiers at 0, the
class code in [31:8] at 8 (R2, Table 16.1).
Log: entry 60 (DESIGN CHOICE; DEDUCED; PRESUMED). -/
def Gremon.pciConfig (g : Gremon) (off : Nat) : Option Nat :=
  if off = 0 then some (g.host.pci.vendor.toNat + 65536 * g.host.pci.device.toNat)
  else if off = 8 then some (256 * g.host.pci.cls.toNat)
  else none

/-- A vector that has sent nothing. -/
def Vector.none : Vector := { last := .none, held := false }

/-- Signal a vector: at most one message in any 2 µs, later ones held (R543). -/
def Gremon.signalVec (g : Gremon) (v : Nat) : Gremon :=
  let s := Tbl.get Vector.none g.host.vecs v
  let free := match s.last with
    | some t => decide (g.clk ≥ t + 2000)
    | none => true
  if free then
    g.onHost fun h => { h with msix := h.msix ++ [v], vecs := Tbl.put h.vecs v { last := some g.clk, held := false } }
  else g.onHost fun h => { h with vecs := Tbl.put h.vecs v { s with held := true } }

/-- MSIX_COALESCE (R543): a held vector fires when its 2 µs are over. -/
def Gremon.coalesce (g : Gremon) (v : Nat) : Gremon :=
  let s := Tbl.get Vector.none g.host.vecs v
  match s.held, s.last with
  | true, some t =>
    let g := g.moveTo (t + 2000)
    g.onHost fun h => { h with msix := h.msix ++ [v], vecs := Tbl.put h.vecs v { last := some g.clk, held := false } }
  | _, _ => g

/-- A payload sealed for a MID in confidential mode (R554, R555): its SEQ and LEN in the clear, then ciphertext and tag,
which are open here since the session's keys are.
Log: entry 10 (DESIGN CHOICE). -/
def Gremon.sealFor (g : Gremon) (mid : Nat) (bs : List Byte) : List Byte × Gremon :=
  let n := Tbl.get 0 g.host.sealOut mid
  let (x, g) := g.drawBytes (bs.length + 16)
  (leBytes 8 n ++ leBytes 4 bs.length ++ leBytes 4 0 ++ x, g.onHost fun h => { h with sealOut := Tbl.set 0 h.sealOut mid (n + 1) })

/-! ### Result queues (R541, R542, R685) -/

/-- A result queue at EN. -/
def RQueue.reset : RQueue := { head := 0, tail := 0, seq := 0, drop := 0, loss := false }

/-- Register keys of result queue `r` and queue pair `q`. -/
def kRq (r o : Nat) : Nat := 0x108000 + 0x40 * r + o
def kHq (q o : Nat) : Nat := 0x100000 + 0x40 * q + o

/-- The 64-bit value of a LO/HI pair of Gremon registers. -/
def Gremon.reg64 (g : Gremon) (k : Nat) : Nat := g.reg k + 2 ^ 32 * g.reg (k + 4)

/-- Result queue `r`. -/
def Gremon.rq (g : Gremon) (r : Nat) : RQueue := Tbl.get RQueue.reset g.host.rqs r
/-- Gremon with it replaced. -/
def Gremon.setRq (g : Gremon) (r : Nat) (q : RQueue) : Gremon :=
  g.onHost fun h => { h with rqs := Tbl.set RQueue.reset h.rqs r q }

/-- Slots of a ring of `n` that are free (R685). -/
def RQueue.free (q : RQueue) (n : Nat) : Nat := (q.head + 2 * n - q.tail - 1) % n

/-- Write bytes into a ring of `n` 64-byte slots from slot `i`, wrapping. -/
def Gremon.ringWrite (g : Gremon) (base n i : Nat) (bs : List Byte) : Gremon :=
  let room := 64 * (n - i)
  (g.dmaWrite (base + 64 * i) (bs.take room)).dmaWrite base (bs.drop room)

/-- Whether queue `r` takes a record (R542, R557). -/
def Gremon.rqTakes (g : Gremon) (r : Nat) (o : OutRec) : Bool :=
  bit (g.reg (kRq r 8)) 5 && bit (g.reg (kRq r 0xC)) o.kind &&
  (decide (g.fld (kRq r 8) 31 16 = 0) || decide (g.fld (kRq r 8) 31 16 = o.job)) &&
  (!o.prov || bit (g.reg (kRq r 8)) 7) &&
  (decide (o.job = 0) || decide (g.ownerOf o.job = some (g.reg (kRq r 0x1C))))

/-- Whether any register of a queue has a parity fault (Table 17.3). -/
def Gremon.blockBad (g : Gremon) (base n : Nat) : Bool := g.regs.force.any fun k => decide (base ≤ k) && decide (k < base + n)

/-- Deliver a record to queue `r` (R541, R542): body first, header last; dropped and counted where it does not fit. -/
def Gremon.deliverTo (g : Gremon) (r : Nat) (o : OutRec) : Gremon :=
  let q := g.rq r
  let n := 2 ^ g.fld (kRq r 8) 4 0
  let mid := g.reg (kRq r 0x1C)
  let sealed := g.conf && (List.range 64).any fun p => bit (g.reg (kHq p 0x20)) 12 && decide (g.fld (kHq p 0x20) 11 0 = mid)
  let slots := (16 + o.body.length + (if sealed then 32 else 0) + 63) / 64
  if q.free n < slots ∨ g.blockBad (kRq r 0) 0x40 then
    g.setRq r { q with drop := sat 0xFFFFFFFF (q.drop + 1), loss := true }
  else
    let hdr := leBytes 1 o.kind ++ leBytes 1 (b2n o.prov + 2 * b2n q.loss + 4 * b2n sealed) ++ leBytes 2 slots ++
      leBytes 2 o.job ++ leBytes 2 0 ++ leBytes 8 q.seq
    let base := g.reg64 (kRq r 0)
    let (body, g) := if sealed then g.sealFor mid o.body else (o.body, g)
    let g := g.ringWrite base n q.tail (hdr ++ padTo (64 * slots - 16) body)
    let g := g.setRq r { q with tail := (q.tail + slots) % n, seq := q.seq + 1, loss := false }
    if bit (g.reg (kRq r 8)) 6 then g.signalVec (g.fld (kRq r 8) 14 8) else g

/-- Deliver a record to every enabled queue that takes it. -/
def Gremon.deliver (g : Gremon) (kind : Nat) (prov : Bool) (job : Nat) (body : List Byte) : Gremon :=
  let o : OutRec := { kind := kind, prov := prov, job := job, body := body }
  (List.range 16).foldl (fun g r => if g.rqTakes r o then g.deliverTo r o else g) g

/-- A HEAD write (R685). -/
def Gremon.rqHead (g : Gremon) (r v : Nat) : Gremon :=
  let q := g.rq r
  let n := 2 ^ g.fld (kRq r 8) 4 0
  let v := v % 2 ^ 20
  if v ≥ n ∨ (v + n - q.head) % n > (q.tail + n - q.head) % n then g.raise .hqError (leBytes 1 r)
  else g.setRq r { q with head := v }

/-- A write of GR_RQ_CFG: both indices and SEQ are 0 when EN is set; DROP goes on.
Log: entry 37 (DEDUCED; DESIGN CHOICE). -/
def Gremon.rqCfg (g : Gremon) (r v : Nat) : Gremon :=
  let was := bit (g.reg (kRq r 8)) 5
  let g := g.setReg (kRq r 8) (v &&& (mask 14 0 ||| mask 31 16))
  if bit v 5 && !was then g.setRq r { RQueue.reset with drop := (g.rq r).drop } else g

/-! ### Completions (R532, Table 16.4) -/

/-- A queue pair before use. -/
def QPair.reset : QPair := { sqHead := 0, tail := 0, cqTail := 0, cqHead := 0, phase := true, busy := 0, err := 0 }

/-- Queue pair `q`. -/
def Gremon.qp (g : Gremon) (q : Nat) : QPair := Tbl.get QPair.reset g.host.qps q
/-- Gremon with it replaced. -/
def Gremon.setQp (g : Gremon) (q : Nat) (p : QPair) : Gremon :=
  g.onHost fun h => { h with qps := Tbl.set QPair.reset h.qps q p }

/-- Fields of a descriptor (Table 16.3). -/
def HostCmd.opc (c : HostCmd) : Nat := leAt c.desc 0 1
def HostCmd.tag (c : HostCmd) : Nat := leAt c.desc 2 2
def HostCmd.job (c : HostCmd) : Nat := leAt c.desc 4 2
def HostCmd.param (c : HostCmd) (o n : Nat) : Nat := leAt c.desc (40 + o) n
/-- Reply capacity: RLEN, or the parts of the list. -/
def HostCmd.cap (c : HostCmd) : Nat := c.segs.foldl (fun n s => n + s.2) 0

/-- Write a reply over the parts of its buffer. -/
def Gremon.writeReply (g : Gremon) : List (Nat × Nat) → List Byte → Gremon
  | [], _ => g
  | (a, n) :: t, bs => (g.dmaWrite a (bs.take n)).writeReply t (bs.drop n)

/-- A completion entry: P is filled in by the queue pair. -/
def cqEntry (tag status p sqHead rbytes detail : Nat) (result : List Byte) : List Byte :=
  leBytes 2 tag ++ leBytes 1 status ++ leBytes 1 p ++ leBytes 2 sqHead ++ leBytes 2 0 ++ leBytes 4 rbytes ++
    leBytes 4 detail ++ padTo 16 result

/-- Complete a command whose reply, of `rb` bytes, is already in its place: the entry, then the interrupt (R532, R543,
R545, Table 16.7). A reply that is not to host memory goes with the entry.
Log: entry 37 (DEDUCED; DESIGN CHOICE). -/
def Gremon.post (g : Gremon) (c : HostCmd) (status detail rb : Nat) (result reply : List Byte) : Gremon :=
  match c.src with
  | .qp q =>
    let p := g.qp q
    let n := 2 ^ g.fld (kHq q 0x10) 9 5
    let e := cqEntry c.tag status (b2n p.phase) p.sqHead rb detail result
    let g := g.dmaWrite (g.reg64 (kHq q 8) + 32 * p.cqTail) e
    let last := decide (p.cqTail + 1 ≥ n)
    let g := g.setQp q { p with cqTail := if last then 0 else p.cqTail + 1, phase := if last then !p.phase else p.phase
                                busy := p.busy - 1 }
    if bit (g.reg (kHq q 0x10)) 11 && !bit (leAt c.desc 1 1) 0 then g.signalVec (g.fld (kHq q 0x10) 18 12) else g
  | .mgmt s m =>
    let e := cqEntry c.tag status 0 0 rb detail result
    g.onHost fun h => { h with mgmtOut := h.mgmtOut ++ [(s, m, e ++ reply)] }
  | .hcmd o q =>
    let e := cqEntry c.tag status 0 0 rb detail result
    if reply.length > 4194248 then g
    else g.rlTo o vcBulk 0x27 0 (leBytes 2 o ++ leBytes 1 q ++ leBytes 1 0 ++ leBytes 2 c.tag ++ leBytes 2 0 ++ e ++ reply)

/-- Whether a command's replies go to host memory. -/
def HostCmd.isQp (c : HostCmd) : Bool := match c.src with | .qp _ => true | _ => false

/-- Complete a command: its reply, then its entry, then its interrupt; OVERFLOW where the reply exceeds the capacity, which
for a forwarded command its own Gremon judges.
Log: entry 37 (DEDUCED; DESIGN CHOICE). -/
def Gremon.complete (g : Gremon) (c : HostCmd) (status detail : Nat) (result reply : List Byte) : Gremon :=
  match c.src with
  | .qp q =>
    let sealed := g.conf && bit (g.reg (kHq q 0x20)) 12 && !reply.isEmpty
    let rb := reply.length + (if sealed then 32 else 0)
    if rb > c.cap then g.post c 5 0 rb [] []
    else
      let (out, g) := if sealed then g.sealFor c.mid reply else (reply, g)
      (g.writeReply c.segs out).post c status detail rb result reply
  | .mgmt _ _ =>
    if reply.length > leAt c.desc 32 4 then g.post c 5 0 reply.length [] [] else g.post c status detail reply.length result reply
  | .hcmd _ _ => g.post c status detail reply.length result reply

/-- Complete with a status alone. -/
def Gremon.finish (g : Gremon) (c : HostCmd) (status detail : Nat) : Gremon := g.complete c status detail [] []

/-! ### Checks before a command starts -/

/-- PARAM bytes used by each opcode, none for an unknown one (Table 16.6). -/
def opcParam (o : Nat) : Option Nat :=
  match o with
  | 0x01 => some 0 | 0x02 => some 2 | 0x03 => some 0 | 0x04 => some 2 | 0x05 => some 0 | 0x06 => some 16
  | 0x07 => some 1 | 0x08 => some 1 | 0x10 => some 10 | 0x11 => some 8 | 0x12 => some 2 | 0x13 => some 0
  | 0x14 => some 20 | 0x15 => some 0 | 0x16 => some 8
  | _ => none

/-- Whether an opcode is executed by the root. -/
def opcRoot (o : Nat) : Bool := decide (0x10 ≤ o)

/-- The permission bit of an opcode (Table 19.8). -/
def opcPerm (o : Nat) : Nat :=
  match o with
  | 0x01 => 0 | 0x02 => 0 | 0x03 => 1 | 0x04 => 1 | 0x05 => 2 | 0x06 => 3 | 0x07 => 4 | 0x08 => 4 | 0x10 => 5 | 0x11 => 5
  | 0x12 => 6 | 0x13 => 7 | _ => 8

/-- The permission word of a MID (Table 19.8).
Log: entry 37 (DEDUCED; DESIGN CHOICE). -/
def Gremon.perm (g : Gremon) (mid : Nat) : Nat := g.reg (ind 0x200000 + 4 * (mid % 4096))

/-- Whether a MID may act on a job (R622). -/
def Gremon.ownsJob (g : Gremon) (mid job : Nat) : Bool :=
  decide (job = 0) || decide (mid = 0) || bit (g.perm mid) 9 || decide (g.ownerOf job = some mid)

/-- Whether a descriptor that came in a message names no host memory (R545, Table 16.7) and, from MGMT, gives the length of
the data after it; one from a queue pair may name any. -/
def HostCmd.framed (c : HostCmd) : Bool :=
  let bare := decide (leAt c.desc 8 8 = 0) && decide (leAt c.desc 24 8 = 0)
  match c.src with
  | .qp _ => true
  | .hcmd _ _ => bare
  | .mgmt _ _ => bare && decide (leAt c.desc 16 4 = c.data.length)

/-- Whether a descriptor is well formed (Table 16.3, Table 16.6): 2 BAD_DESC is answered where it is not.
Log: entry 37 (DEDUCED; DESIGN CHOICE). -/
def descOk (c : HostCmd) : Bool :=
  match opcParam c.opc with
  | none => false
  | some n =>
    decide (leAt c.desc 1 1 < 8) && decide (leAt c.desc 6 2 = 0) && decide (leAt c.desc 20 4 = 0) &&
    decide (leAt c.desc 36 4 = 0) && decide (leAt c.desc (40 + n) (24 - n) = 0) && decide (c.desc.length = 64) && c.framed &&
    (match c.opc with
      | 0x05 => decide (c.data.length = 32)
      | 0x07 => decide (c.data.length = 64)
      | 0x10 => decide (c.data.length ≥ 64) && decide (c.data.length = 64 + 4 * leAt c.data 12 4)
      | _ => true)

/-- Whether the MID may run the command (R621, R622, R624). JOBEPOCH needs only the BCAST bit: a new job has no owner, and of
one that exists the answer is JOB_EXISTS. -/
def Gremon.permitted (g : Gremon) (c : HostCmd) : Bool :=
  let p := g.perm c.mid
  if c.mid = 0 then true
  else
    bit p (opcPerm c.opc) &&
    (match c.opc with
      | 0x06 => !g.conf
      | 0x12 =>
        let k := c.param 0 2
        (decide (k ≠ 1 ∧ k ≠ 5) || bit p 11) &&
        (decide (k = 4 ∧ (c.job = 0 ∨ c.job = leAt c.data 0 2)) || g.ownsJob c.mid c.job)
      | _ => g.ownsJob c.mid c.job)

/-- The due time of a forwarded command (R535): 100 ms after its deadline, or 1 s from now. -/
def Gremon.hcmdDue (g : Gremon) (c : HostCmd) : Nat :=
  match c.opc with
  | 0x10 => c.param 0 8 + 100000000
  | 0x14 => c.param 8 8 + 100000000
  | 0x16 => c.param 0 8 + 100000000
  | _ => g.clk + 1000000000

/-- A command starts (R532, R535, R536, R621): FAILED, BAD_DESC and NOT_PERMITTED end it at once; a root command of a
Gremon that is not the root goes to the root; any other waits for its execution. -/
def Gremon.start (g : Gremon) (c : HostCmd) : Gremon :=
  if g.failed then g.finish c 8 0
  else if !descOk c then g.finish c 2 0
  else if !g.permitted c then g.finish c 3 0
  else if opcRoot c.opc && !g.root then
    match g.tree.parent, c.src with
    | some _, .qp q =>
      let body := leBytes 2 g.gid ++ leBytes 1 q ++ leBytes 1 0 ++ leBytes 2 c.tag ++ leBytes 2 c.mid ++
        (c.desc.take 8 ++ leBytes 8 0 ++ (c.desc.drop 16).take 8 ++ leBytes 8 0 ++ c.desc.drop 32) ++ c.data
      let g := g.rlTo g.tree.root vcControl 0x26 0 body
      g.onHost fun h => { h with fwd := h.fwd ++ [{ c with due := g.hcmdDue c }] }
    | some _, _ =>
      let body := leBytes 2 g.gid ++ leBytes 1 0xFF ++ leBytes 1 0 ++ leBytes 2 c.tag ++ leBytes 2 c.mid ++
        (c.desc.take 8 ++ leBytes 8 0 ++ (c.desc.drop 16).take 8 ++ leBytes 8 0 ++ c.desc.drop 32) ++ c.data
      let g := g.rlTo g.tree.root vcControl 0x26 0 body
      g.onHost fun h => { h with fwd := h.fwd ++ [{ c with due := g.hcmdDue c }] }
    | none, _ => g.finish c 7 0
  else g.onHost fun h => { h with cmds := h.cmds ++ [c] }

/-! ### Queue pairs (R531–R533) -/

/-- An error of a queue pair (R533).
Log: entry 37 (DEDUCED; DESIGN CHOICE). -/
def Gremon.qpError (g : Gremon) (q code : Nat) : Gremon :=
  (g.setQp q { g.qp q with err := code }).raise .hqError []

/-- The parts of a fetched command's reply buffer: those of its list, or the one that RPTR and RLEN name (Table 16.3). -/
def replyParts (f : Fetched) : List (Nat × Nat) :=
  if bit (leAt f.desc 1 1) 2 then f.segs else if leAt f.desc 32 4 = 0 then [] else [(leAt f.desc 24 8, leAt f.desc 32 4)]

/-- Every buffer and list of a fetched command (R553): what DPTR and RPTR name, and the parts that lists name. -/
def hostBuffers (f : Fetched) : List (Nat × Nat) :=
  (if leAt f.desc 16 4 = 0 then [] else [(leAt f.desc 8 8, leAt f.desc 16 4)]) ++ (if bit (leAt f.desc 1 1) 1 then f.parts else []) ++
    (if leAt f.desc 32 4 = 0 then [] else [(leAt f.desc 24 8, leAt f.desc 32 4)]) ++ replyParts f

/-- The rings of the result queues of a MID (R553). -/
def Gremon.ringsOf (g : Gremon) (mid : Nat) : List (Nat × Nat) :=
  ((List.range 16).filter fun r => bit (g.reg (kRq r 8)) 5 && decide (g.fld (kRq r 0x1C) 11 0 = mid)).map fun r =>
    (g.reg64 (kRq r 0), 64 * 2 ^ g.fld (kRq r 8) 4 0)

/-- Whether parts of host memory lie inside the queue pair's bounce region (R553).
Log: entry 10 (DESIGN CHOICE). -/
def Gremon.inBounce (g : Gremon) (q : Nat) (parts : List (Nat × Nat)) : Bool :=
  let lo := g.reg64 (kHq q 0x24)
  let hi := lo + 4096 * g.fld (kHq q 0x2C) 23 0
  parts.all fun p => decide (lo ≤ p.1) && decide (p.1 + p.2 ≤ hi)

/-- The secured sessions that live: those heard from within two heartbeat periods of 60 s (R627).
Log: entry 48 (DEDUCED; DESIGN CHOICE; PRESUMED). -/
def Gremon.sessionsUp (g : Gremon) : List Session := g.sys.prot.sessions.filter fun s => decide (g.clk ≤ s.beat + 120000000000)

/-- One descriptor is fetched and its command starts. In confidential mode a pair with CONF takes payloads only in its
bounce region, and only records with the next SEQ whose tags verify under the session of its MID (R553–R556).
Log: entry 10 (DESIGN CHOICE), entry 37 (DEDUCED; DESIGN CHOICE). -/
def Gremon.fetchOne (g : Gremon) (q : Nat) (f : Fetched) : Gremon :=
  let p := g.qp q
  let n := 2 ^ g.fld (kHq q 0x10) 4 0
  let g := g.setQp q { p with sqHead := (p.sqHead + 1) % n, busy := p.busy + 1 }
  let mid := g.fld (kHq q 0x20) 11 0
  let c : HostCmd := { src := .qp q, mid := mid, desc := f.desc, data := f.data, segs := replyParts f, due := 0 }
  let bounce := g.conf && bit (g.reg (kHq q 0x20)) 12
  let din := leAt f.desc 16 4
  if f.fault then (g.raise .hostDmaErr []).finish c 4 0
  else if bounce && !g.inBounce q (hostBuffers f ++ g.ringsOf mid) then g.finish c 2 0
  else if bounce && decide (din ≠ 0) then
    if f.seq = Tbl.get 0 g.host.sealIn mid ∧ f.tagOk = true ∧ (g.sessionsUp.any fun s => s.doe && decide (s.mid = some mid)) = true then
      (g.onHost fun h => { h with sealIn := Tbl.set 0 h.sealIn mid (f.seq + 1) }).start c
    else (g.raise .bounceBad []).finish c 9 0
  else g.start c

/-- Fetch from SQHEAD up to TAIL (R532): at most 2^CQ_LOG2 − 1 commands fetched and not yet consumed, nothing while ERR
is set or EN is 0.
Log: entry 37 (DEDUCED; DESIGN CHOICE). -/
def Gremon.fetch (g : Gremon) (q : Nat) : List Fetched → Gremon
  | [] => g
  | f :: t =>
    let p := g.qp q
    let cn := 2 ^ g.fld (kHq q 0x10) 9 5
    let unread := (p.cqTail + cn - p.cqHead) % cn
    if p.sqHead = p.tail ∨ p.err ≠ 0 ∨ bit (g.reg (kHq q 0x10)) 10 = false ∨ p.busy + unread + 1 ≥ cn then g
    else if g.blockBad (kHq q 0) 0x40 then g.qpError q 3
    else (g.fetchOne q f).fetch q t

/-- SQ_TAIL_DOORBELL (R532, R533).
Log: entry 37 (DEDUCED; DESIGN CHOICE). -/
def Gremon.sqTail (g : Gremon) (q v : Nat) (fs : List Fetched) : Gremon :=
  let v := v % 2 ^ 16
  if bit (g.reg (kHq q 0x10)) 10 = false then g
  else if v ≥ 2 ^ g.fld (kHq q 0x10) 4 0 then g.qpError q 1
  else (g.setQp q { g.qp q with tail := v }).fetch q fs

/-- CQ_HEAD_DOORBELL (R532, R533): a HEAD past the last entry written is BAD_HEAD.
Log: entry 37 (DEDUCED; DESIGN CHOICE). -/
def Gremon.cqHead (g : Gremon) (q v : Nat) (fs : List Fetched) : Gremon :=
  let p := g.qp q
  let n := 2 ^ g.fld (kHq q 0x10) 9 5
  let v := v % 2 ^ 16
  if bit (g.reg (kHq q 0x10)) 10 = false then g
  else if v ≥ n ∨ (v + n - p.cqHead) % n > (p.cqTail + n - p.cqHead) % n then g.qpError q 2
  else (g.setQp q { p with cqHead := v }).fetch q fs

/-- HQ_CFG_WRITE (R531, R533): setting EN with an invalid size or MID sets ERR with CONFIG; clearing EN clears ERR and
stops fetching and closes its feeds (R540).
Log: entry 37 (DEDUCED; DESIGN CHOICE). -/
def Gremon.hqCfg (g : Gremon) (q v : Nat) : Gremon :=
  let was := bit (g.reg (kHq q 0x10)) 10
  let g := g.setReg (kHq q 0x10) (v % 2 ^ 19)
  let mid := g.fld (kHq q 0x20) 11 0
  let size := fun n => decide (4 ≤ n) && decide (n ≤ 16)
  if bit v 10 && !was then
    let g := g.setQp q { QPair.reset with busy := (g.qp q).busy }
    if size (bits v 4 0) && size (bits v 9 5) && decide (1 ≤ mid) && decide (mid ≤ 0x3FF) then g else g.qpError q 3
  else if bit v 10 then g
  else { (g.setQp q { g.qp q with err := 0 }) with feeds := g.feeds.filter fun f => decide (f.src ≠ some q) }

/-- GR_HQ_STAT. -/
def Gremon.hqStat (g : Gremon) (q : Nat) : Nat :=
  let p := g.qp q
  p.sqHead + 65536 * b2n (decide (p.busy = 0)) + 131072 * b2n (decide (p.err ≠ 0)) + 262144 * p.err

/-- The command at the head of those waiting with opcode `o` is taken and `f` runs it; one of a failed module ends FAILED
(R536).
Log: entry 11 (DESIGN CHOICE). -/
def Gremon.onHostCmd (g : Gremon) (o : Nat) (f : Gremon → HostCmd → Gremon) : Gremon :=
  match takeFirst (fun c => decide (c.opc = o)) g.host.cmds with
  | some (c, r) =>
    let g := g.onHost fun h => { h with cmds := r }
    if g.failed then g.finish c 8 0 else f g c
  | none => g

/-! ### Forwarded commands (R535) -/

/-- HCMD_RX at the root: the command of another Gremon starts here. -/
def Gremon.hcmdRx (g : Gremon) (m : List Byte) : Gremon :=
  if !g.root then g
  else
    g.start { src := .hcmd (leAt m 16 2) (leAt m 18 1), mid := leAt m 22 2, desc := (m.drop 24).take 64,
              data := m.drop 88, segs := [], due := 0 }

/-- HRSP_RX: the root's completion ends the waiting command; one that comes after its time is discarded. -/
def Gremon.hrspRx (g : Gremon) (m : List Byte) : Gremon :=
  let tag := leAt m 20 2
  let q := leAt m 18 1
  let mine := fun (c : HostCmd) => decide (c.tag = tag) && decide (g.clk ≤ c.due) && (match c.src with
    | .qp n => decide (n = q)
    | _ => decide (q = 0xFF))
  match takeFirst mine g.host.fwd with
  | some (c, r) =>
    (g.onHost fun h => { h with fwd := r }).complete c (leAt m 26 1) (leAt m 36 4) ((m.drop 40).take 16) (m.drop 56)
  | none => g

/-- HCMD_UNREACH: the first forwarded command whose time is over ends UNREACH. -/
def Gremon.hcmdUnreach (g : Gremon) : Gremon :=
  match g.host.fwd with
  | [] => g
  | c :: t =>
    let first := t.foldl (fun (b : HostCmd) x => if x.due < b.due then x else b) c
    let g := g.moveTo first.due
    match takeFirst (fun x => decide (x = first)) g.host.fwd with
    | some (x, r) => (g.onHost fun h => { h with fwd := r }).finish x 7 0
    | none => g

/-! ### MGMT and SVC (R544, R545) -/

/-- Bytes of a message from its parts, if all have come. -/
def MgmtPart.whole (p : MgmtPart) : Option (List Byte) :=
  let sorted := p.parts.foldl (fun t e => Tbl.put t e.1 e.2) ([] : Tbl (List Byte))
  let bs := sorted.foldl (fun (b : List Byte) e => if e.1 = b.length then b ++ e.2 else b) []
  if bs.length ≥ p.len then some (bs.take p.len) else none

/-- A fragment is added to its message: the message's bytes when it is now whole (R545). -/
def Gremon.mgmtFragment (g : Gremon) (svc : Bool) (session mseq ofs len : Nat) (bs : List Byte) :
    Gremon × Option (List Byte) :=
  let same := fun (p : MgmtPart) => decide (p.svc = svc ∧ p.session = session ∧ p.mseq = mseq ∧ p.len = len)
  if bs.length > 8000 then (g, none)
  else
    let p := match g.host.mgmt.find? same with
      | some p => { p with parts := p.parts ++ [(ofs, bs)] }
      | none => { svc := svc, session := session, mseq := mseq, len := len, parts := [(ofs, bs)], first := g.clk }
    let rest := g.host.mgmt.filter fun p => !same p
    match p.whole with
    | some m => (g.onHost fun h => { h with mgmt := rest }, some m)
    | none => (g.onHost fun h => { h with mgmt := rest ++ [p] }, none)

/-- A command message on MGMT inside secured session `s` (R544, R545). -/
def Gremon.mgmtCommand (g : Gremon) (s mseq : Nat) (m : List Byte) : Gremon :=
  g.start { src := .mgmt s mseq, mid := 0xF00 + s, desc := m.take 64, data := m.drop 64, segs := [], due := 0 }

/-- A message not received within 1 s is discarded (R545). -/
def Gremon.mgmtTimeout (g : Gremon) : Gremon :=
  match g.host.mgmt with
  | [] => g
  | p :: t =>
    let first := t.foldl (fun n x => min n x.first) p.first
    let g := g.moveTo (first + 1000000000)
    g.onHost fun h => { h with mgmt := h.mgmt.filter fun x => decide (g.clk < x.first + 1000000000) }

end Sys2Proof.Machine
end

