-- ==== Sys2Proof/Machine/Ridgeline.lean ====
section
/-! DEFINITION. A Ridgeline port (13 R410–R425): flits, sequence and retry, credits, shaping and the choice at a flit
slot, reassembly and cut-through forwarding, training and lanes. -/
namespace Sys2Proof.Machine
open Sys2Proof

/-! ### Flits (Tables 13.3–13.5) -/

/-- A flit: header, payload and CRC. -/
def rlFlit (hdr : Nat) (payload : List Byte) : List Byte :=
  let b := leBytes 8 hdr ++ padTo 244 payload
  b ++ leBytes 4 (crc32c b)

/-- The fields of a received flit. -/
def flKind (f : List Byte) : Nat := leAt f 0 8 % 8
def flVc (f : List Byte) : Nat := bits (leAt f 0 8) 4 3
def flSom (f : List Byte) : Bool := bit (leAt f 0 8) 5
def flEom (f : List Byte) : Bool := bit (leAt f 0 8) 6
def flLen (f : List Byte) : Nat := bits (leAt f 0 8) 14 7
def flTag (f : List Byte) : Nat := bits (leAt f 0 8) 22 15
def flSeq (f : List Byte) : BitVec 12 := BitVec.ofNat 12 (bits (leAt f 0 8) 34 23)
def flAck (f : List Byte) : BitVec 12 := BitVec.ofNat 12 (bits (leAt f 0 8) 46 35)
def flAckv (f : List Byte) : Bool := bit (leAt f 0 8) 47
def flAbort (f : List Byte) : Bool := bit (leAt f 0 8) 48

/-- Whether the CRC of a flit passes, and whether its KIND and reserved bits are accepted (R416). The DATA-only fields
of another KIND are 0. -/
def flCrcOk (f : List Byte) : Bool := decide (f.length = 256) && decide (crc32c (f.take 252) = leAt f 252 4)
def flHdrOk (f : List Byte) : Bool :=
  let h := leAt f 0 8
  decide (h % 8 ≤ 3) && decide (bits h 63 49 = 0) &&
    (decide (h % 8 = 1) || (decide (bits h 34 3 = 0) && decide (bits h 48 48 = 0)))

/-- The ACK bits every flit carries (R418). -/
def RlPort.ackBits (x : RlPort) : Nat := x.ack.toNat * 2 ^ 35 + b2n x.ackv * 2 ^ 47

/-- A DATA flit as sent now. -/
def RlPort.dataFlit (x : RlPort) (f : RlFlit) : List Byte :=
  rlFlit (1 + 8 * f.vc + 32 * b2n f.som + 64 * b2n f.eom + 2 ^ 7 * (f.data.length - 1) + 2 ^ 15 * f.tag + 2 ^ 23 * f.seq.toNat +
    2 ^ 48 * b2n f.abort + x.ackBits) f.data

/-- CTL and INIT payloads (Table 13.5), the flit's KIND in front. -/
def rlCredit (x : RlPort) : List Byte :=
  leBytes 1 2 ++ leBytes 1 1 ++ leBytes 7 0 ++ x.freed.flatMap fun v => leBytes 4 v.toNat
def rlNak (expect : BitVec 12) : List Byte := leBytes 1 2 ++ leBytes 1 2 ++ leBytes 1 0 ++ leBytes 2 expect.toNat
def rlLane (lane : Nat) (notice : Bool) (frame : Nat) : List Byte :=
  leBytes 1 2 ++ leBytes 1 3 ++ leBytes 1 (lane % 8 + 128 * b2n notice) ++ leBytes 22 0 ++ leBytes 8 frame
def rlInit (resume : Bool) (next : BitVec 12) (epoch : Word) (gid : Nat) : List Byte :=
  leBytes 1 3 ++ leBytes 1 (b2n resume) ++ leBytes 1 0 ++ leBytes 2 next.toNat ++ leBytes 4 epoch.toNat ++
    rlGrants.flatMap (leBytes 4) ++ leBytes 8 gid

/-! ### Acknowledgement, go-back -/

/-- How many flits in flight `ack` retires. -/
def rlAckCount (ack : BitVec 12) : List RlFlit → Option Nat
  | [] => none
  | f :: t => if f.seq = ack then some 1 else (rlAckCount ack t).map (· + 1)

/-- An ACK arrives. -/
def RlPort.takeAck (x : RlPort) (ackv : Bool) (ack : BitVec 12) : RlPort :=
  if !ackv then x
  else match rlAckCount ack x.replay with
    | none => x
    | some n =>
      let at' := match x.replayAt with
        | some i => if i - n < (x.replay.drop n).length then some (i - n) else none
        | none => none
      { x with replay := x.replay.drop n, replayAt := at', goBacks := 0 }

/-- One go-back (R418): true where it is the sixteenth and the port goes DOWN. -/
def RlPort.goBack (x : RlPort) : RlPort × Bool :=
  if x.replay.isEmpty then (x, false)
  else
    let x := { x with replayAt := some 0, goBacks := x.goBacks + 1, goBackCnt := x.goBackCnt + 1 }
    (x, decide (x.goBacks ≥ 16))

/-! ### Messages: types and checks (R454, R455) -/

/-- The VC of a class, and the class of a message type (Tables 13.6, 13.14). MSG takes the class of its VC. -/
def vcOf (cls : Nat) : Nat := if cls ≤ 1 then cls else cls - 1
def rlTypeClass (ty vc : Nat) : Option Nat :=
  match ty with
  | 0x10 => some vcTime | 0x11 => some vcTime
  | 0x01 => some vcControl | 0x02 => some vcControl | 0x03 => some vcControl | 0x20 => some vcControl
  | 0x21 => some vcControl | 0x23 => some vcControl | 0x40 => some vcControl | 0x45 => some vcControl
  | 0x26 => some vcControl | 0x28 => some vcControl
  | 0x22 => some vcLantern
  | 0x30 => some vcReduce
  | 0x41 => some vcBulk | 0x42 => some vcBulk | 0x43 => some vcBulk | 0x27 => some vcBulk | 0x29 => some vcBulk
  | 0x44 => if vc = 2 then some vcReduce else if vc = 3 then some vcBulk else none
  | _ => none

/-- Whether a header can be routed: a known type on its VC, reserved fields 0. -/
def rlHdrOk (vc : Nat) (m : List Byte) : Bool :=
  let ty := leAt m 0 1
  (match rlTypeClass ty vc with
    | some c => decide (vcOf c = vc)
    | none => false) &&
  decide (leAt m 1 1 < 4) && zeroAt m 3 1 && decide (leAt m 8 2 < 1024) && decide (leAt m 10 2 < 1024) &&
  (decide (ty = 0x44) || zeroAt m 12 2) && decide (m.length ≥ 16)

/-- Length and reserved fields of each type. -/
def rlBodyOk (m : List Byte) : Bool :=
  let n := m.length
  match leAt m 0 1 with
  | 0x01 => decide (n = 80) && zeroAt m 72 8
  | 0x02 => decide (n = 40 + 4 * leAt m 20 2) && decide (leAt m 18 1 ≤ 2) && zeroAt m 19 1 && zeroAt m 22 2 && zeroAt m 32 8 &&
      (List.range (leAt m 20 2)).all fun i => zeroAt m (43 + 4 * i) 1
  | 0x03 => decide (n = 24) && zeroAt m 18 2
  | 0x10 => decide (n = 24) && zeroAt m 18 6
  | 0x11 => decide (n = 48) && zeroAt m 19 1 && zeroAt m 44 4
  | 0x20 => decide (n = 48 + leAt m 36 4) && zeroAt m 34 2 && zeroAt m 44 4
  | 0x21 => decide (n = 288) && zeroAt m 26 6
  | 0x22 => decide (n = 64)
  | 0x23 => decide (n = 40) && zeroAt m 33 1 && zeroAt m 36 4
  | 0x26 => decide (n ≥ 88) && zeroAt m 19 1
  | 0x27 => decide (n ≥ 56) && zeroAt m 19 1 && zeroAt m 22 2
  | 0x28 => decide (n = 24) && zeroAt m 18 6
  | 0x29 => decide (n = 40 + leAt m 32 4) && zeroAt m 26 6 && zeroAt m 36 4
  | 0x30 => decide (n ≥ 80)
  | 0x40 => decide (n = 64 + leAt m 36 4) && zeroAt m 40 24
  | 0x41 => decide (n = 64 + leAt m 32 4) && zeroAt m 29 3 && zeroAt m 36 4
  | 0x42 => decide (n = 64 + leAt m 36 4) && zeroAt m 35 1
  | 0x44 => decide (n ≥ 33)
  | 0x45 => decide (n = 32) && zeroAt m 25 7
  | _ => true

/-- Whether a whole message is taken. -/
def rlMsgOk (vc : Nat) (m : List Byte) : Bool := rlHdrOk vc m && decide (leAt m 4 4 = m.length) && rlBodyOk m

/-! ### The flit slot (R421, R422) -/

/-- CIR, PIR, CBS and PBS of a class as its function uses them: reset values while a parity fault holds (Table 17.3). -/
def Gremon.shape (g : Gremon) (p c : Nat) : Nat × Nat × Nat × Nat :=
  let v := fun k => if g.parityBad k then rstWord .gremon k else g.reg k
  let s := v (kShape p c)
  let b := v (kBurst p c)
  (bits s 11 0, bits s 27 16, bits b 11 0, bits b 27 16)

/-- The unit of a token: CIR and PIR in 0.1 Gb/s fill a bucket by as many units in each ns. -/
def tokenUnit : Nat := 20480

/-- The buckets filled up to PT `t`.
Log: entry 17 (DEDUCED; DESIGN CHOICE). -/
def Gremon.fillBuckets (g : Gremon) (p t : Nat) : Gremon :=
  let x := g.port p
  let dt := t - x.filled
  let ks := x.classes.mapIdx fun c k =>
    let (cir, pir, cbs, pbs) := g.shape p c
    { k with commit := min (cbs * tokenUnit) (k.commit + cir * dt), peak := min (pbs * tokenUnit) (k.peak + pir * dt) }
  g.setPort p { x with classes := ks, filled := max t x.filled }

/-- Both buckets full: the port reaches UP (R421). -/
def Gremon.bucketsFull (g : Gremon) (p : Nat) : Gremon :=
  let x := g.port p
  let ks := x.classes.mapIdx fun c k =>
    let (_, _, cbs, pbs) := g.shape p c
    { k with commit := cbs * tokenUnit, peak := pbs * tokenUnit }
  g.setPort p { x with classes := ks, filled := g.clk }

/-- TAGs open on a VC: of messages begun and not ended.
Log: entry 17 (DEDUCED; DESIGN CHOICE). -/
def RlPort.openTags (x : RlPort) (vc : Nat) : List Nat :=
  (x.classes.mapIdx fun c k => if vcOf c = vc then k.q.filterMap (·.tag) else []).flatten

/-- The message of a class that sends next: the oldest with a flit to send that has a TAG or can take one (R417). -/
def RlPort.nextOut (x : RlPort) (c : Nat) : Option Nat :=
  let k := x.classes.getD c RlClass.reset
  let room := decide ((x.openTags (vcOf c)).length < 256)
  k.q.findIdx? fun m => m.avail && (m.tag.isSome || room)

/-- Whether a class may send: backlog, a token, a credit, and room in the replay buffer. -/
def RlPort.ready (x : RlPort) (c : Nat) : Bool :=
  (x.nextOut c).isSome && decide ((x.classes.getD c RlClass.reset).peak ≥ tokenUnit) &&
    decide (nth 0 x.credits (vcOf c) > 0) && decide (x.replay.length < 1024)

/-- The class of R422's pick.
Log: entry 17 (DEDUCED; DESIGN CHOICE). -/
def RlPort.pick (x : RlPort) : Option Nat :=
  if x.ready vcTime then some vcTime
  else
    let elig := [vcControl, vcLantern, vcReduce, vcBulk].filter x.ready
    let green := elig.filter fun c => decide ((x.classes.getD c RlClass.reset).commit ≥ tokenUnit)
    let pool := if green.isEmpty then elig else green
    let tagOf := fun c => (x.classes.getD c RlClass.reset).start
    pool.foldl (fun (b : Option Nat) c => match b with
      | none => some c
      | some d => if fracLe (tagOf d) (tagOf c) then b else some c) none

/-- Append to a transmit-stamp queue (R157): a full queue drops and counts. -/
def TsQueue.reset : TsQueue := { q := [], head := Stamp.zero, lost := 0 }
def Gremon.txStamp (g : Gremon) (q id : Nat) (st : Stamp) : Gremon :=
  let t := Tbl.get TsQueue.reset g.sys.tsq q
  let t := if t.q.length ≥ 64 then { t with lost := sat 0xFFFF (t.lost + 1) } else { t with q := t.q ++ [(id, st)] }
  { g with sys := { g.sys with tsq := Tbl.set TsQueue.reset g.sys.tsq q t } }

/-- What leaves with a first flit: T3, QUAL and U of a TIME_RSP are written as it passes the stamp point. -/
def Gremon.rlPatch (g : Gremon) (p : Nat) (m : List Byte) : List Byte :=
  if leAt m 0 1 = 0x11 then m.take 32 ++ (g.stampOn (rdOf p)).bytes ++ m.drop 44 else m

/-- Send a flit of class `c` (R422's on_send). With CIR 0 the finish tag advances by a free amount.
Log: entry 17 (DEDUCED; DESIGN CHOICE). -/
def Gremon.rlSendFlit (g : Gremon) (p c : Nat) : Gremon :=
  let x := g.port p
  let k := x.classes.getD c RlClass.reset
  match x.nextOut c with
  | none => g
  | some i => match k.q[i]? with
    | none => g
    | some m =>
      let vc := vcOf c
      let first := m.tag.isNone
      let tag := m.tag.getD (((List.range 256).find? fun t => !(x.openTags vc).contains t).getD 0)
      let bytes := if first then g.rlPatch p m.bytes else m.bytes
      let rest := bytes.drop 244
      let eom := m.whole && rest.isEmpty
      let f : RlFlit := { vc := vc, som := first, eom := eom, abort := eom && m.abort, tag := tag, seq := x.nextSeq,
                          data := if bytes.isEmpty then [0] else bytes.take 244 }
      let q := if eom then k.q.eraseIdx i else k.q.set i { m with bytes := rest, tag := some tag, at' := g.clk }
      let cir := (g.shape p c).1
      let (w, g) := if cir = 0 then
          let r := g.draw
          ((r.1, 1), r.2)
        else ((256, cir), g)
      let fin := fracAdd k.start w
      let k := { k with q := q, peak := k.peak - tokenUnit, commit := if k.commit ≥ tokenUnit then k.commit - tokenUnit else k.commit
                        finish := fin }
      let k := if k.backlog then { k with start := fin } else k
      let x := { x with
        classes := putClass x.classes c k, virt := (x.classes.getD c RlClass.reset).start
        nextSeq := x.nextSeq + 1, credits := setNth x.credits vc (nth 0 x.credits vc - 1), replay := x.replay ++ [f]
        wire := x.dataFlit f, txMsgs := if first then setNth x.txMsgs vc ((nth 0 x.txMsgs vc + 1) % 2 ^ 32) else x.txMsgs }
      let g := g.setPort p x
      let req := first && decide (leAt bytes 0 1 = 0x10)
      let g := if req then { g with clock := { g.clock with t1 := (g.linkStamp (rdOf p)).sixteenths, waiting := true } } else g
      match first, m.tsid with
      | true, some id => g.txStamp (p + 1) id (g.stampOn (rdOf p))
      | _, _ => g

/-- The INIT that is due again: every 1 µs until each side has received one (Table 13.2).
Log: entry 18 (DEDUCED). -/
def RlPort.initDue (x : RlPort) (gid clk : Nat) : Option (List Byte) :=
  match x.initSent with
  | some (r, n, e) => if (x.st = .init ∨ x.farOpen = false) ∧ x.initAt + 1000 ≤ clk then some (rlInit r n e gid) else none
  | none => none

/-- RL_TX_SLOT (R422): a replay, a CTL flit, an INIT that is due, the class picked, or NULL.
Log: entry 17 (DEDUCED; DESIGN CHOICE). -/
def Gremon.rlSlot (g : Gremon) (p ns : Nat) : Gremon :=
  let g := (g.moveTo ns)
  let g := g.fillBuckets p g.clk
  let x := g.port p
  let null := g.setPort p { x with wire := rlFlit x.ackBits [] }
  let ctl := fun (f : List Byte) (r : List (List Byte)) =>
    g.setPort p { x with ctl := r, wire := rlFlit (leAt f 0 1 + x.ackBits) (f.drop 1)
                         initAt := if leAt f 0 1 = 3 then g.clk else x.initAt }
  if x.st = .init then
    match x.ctl with
    | f :: r => ctl f r
    | [] => match x.initDue g.gid g.clk with
      | some f => ctl f []
      | none => null
  else if !x.st.isOpen then g
  else match x.replayAt with
    | some i => match x.replay[i]? with
      | some f =>
        g.setPort p { x with replayAt := if i + 1 < x.replay.length then some (i + 1) else none, wire := x.dataFlit f }
      | none => null
    | none => match x.ctl with
      | f :: r => ctl f r
      | [] => match x.initDue g.gid g.clk with
        | some f => ctl f []
        | none => match x.pick with
          | some c => g.rlSendFlit p c
          | none => null

/-! ### A port goes DOWN (R415, R418, R419) -/

/-- The messages that were being forwarded from port `p` end with an ABORT flit on their outgoing ports. -/
def Gremon.abortForwards (g : Gremon) (p : Nat) : Gremon :=
  (List.range 6).foldl (fun g o => (List.range 5).foldl (fun g c => g.rlQueue o c fun q => q.map fun m =>
    match m.fwd with
    | some (i, _, _) => if i = p ∧ m.whole = false then { m with whole := true, abort := true } else m
    | none => m) g) g

/-- A port goes DOWN: what was open on it ends, and it may train again. -/
def Gremon.portDown (g : Gremon) (p : Nat) (st : RlState) : Gremon :=
  let g := g.abortForwards p
  let x := g.port p
  g.setPort p { x with st := st, initSeen := false, goBacks := 0, laneMove := none, active := [], spare := none, txActive := []
                       txSpare := none, rx := [], dropRun := [], helloAt := none }

/-! ### Reception -/

/-- RL_BAD_MSG on a port (R417, R454). -/
def Gremon.rlBad (g : Gremon) (p : Nat) : Gremon :=
  let x := g.port p
  (g.setPort p { x with badMsg := sat 255 (x.badMsg + 1) }).raise .rlBadMsg []

/-- Bytes of an accepted flit added to a forwarded message. -/
def Gremon.forwardMore (g : Gremon) (out p key : Nat) (bs : List Byte) (eom abort : Bool) : Gremon :=
  (List.range 5).foldl (fun g c => g.rlQueue out c fun q => q.map fun m =>
    if m.fwd = some (p, key / 256, key % 256) ∧ m.whole = false then
      { m with bytes := m.bytes ++ bs, whole := eom, abort := abort, at' := if m.bytes.isEmpty then g.clk else m.at' }
    else m) g

/-- Where the first flit of a message sends it (R428): none for this Gremon itself, else the outgoing port, or 8 where it
is discarded. -/
def Gremon.rlRoute (g : Gremon) (m : List Byte) : Option Nat :=
  let dst := leAt m 10 2
  if bit (leAt m 1 1) 0 ∨ dst = g.gid ∨ leAt m 0 1 = 0x02 then none
  else match g.routeTo dst with
    | some o => some o
    | none => some 8

/-- The bytes of a DATA flit accepted in sequence on port `p` (R417, R419, R428). -/
def Gremon.rlAbsorb (g : Gremon) (p : Nat) (st : Stamp) (f : List Byte) : Gremon :=
  let vc := flVc f
  let key := 256 * vc + flTag f
  let bs := (f.drop 8).take (min 244 (flLen f + 1))
  let x := g.port p
  let x := { x with freed := setNth x.freed vc (nth 0 x.freed vc + 1) }
  let g := g.setPort p x
  let endIn := fun (g : Gremon) =>
    let x := g.port p
    g.setPort p { x with rx := Tbl.erase x.rx key }
  let keep := fun (g : Gremon) (o : RlIn) =>
    let x := g.port p
    g.setPort p { x with rx := Tbl.put x.rx key o }
  let go := fun (g : Gremon) (o : RlIn) =>
    if flEom f then
      let g := endIn g
      if flAbort f then g
      else if rlMsgOk vc o.bytes then { g with rlIn := g.rlIn ++ [{ port := p, bytes := o.bytes, stamp := o.stamp }] }
      else g.rlBad p
    else keep g o
  let dropped := fun (g : Gremon) =>
    let x := g.port p
    if flEom f then g else g.setPort p { x with dropRun := key :: x.dropRun.filter (· ≠ key) }
  if flSom f then
    let g := match Tbl.find x.rx key with
      | some o =>
        let g := match o.fwd with
          | some out => g.forwardMore out p key [] true true
          | none => g
        (endIn g).rlBad p
      | none => g
    let y := g.port p
    let g := g.setPort p { y with dropRun := y.dropRun.filter (· ≠ key)
                                  rxMsgs := setNth y.rxMsgs vc ((nth 0 y.rxMsgs vc + 1) % 2 ^ 32) }
    if !rlHdrOk vc bs then dropped (g.rlBad p)
    else match g.rlRoute bs with
      | none => go g { bytes := bs, stamp := st, fwd := none }
      | some out =>
        let hops := leAt bs 2 1 + 1
        if hops ≥ 32 then dropped (g.raise .rlHops [])
        else if out ≥ 6 then dropped (g.raise .rlUnreach [])
        else
          let m := bs.take 2 ++ leBytes 1 hops ++ bs.drop 3
          let cls := (rlTypeClass (leAt bs 0 1) vc).getD vcBulk
          let g := if flEom f then g else keep g { bytes := [], stamp := st, fwd := some out }
          g.rlQueue out cls fun q =>
            q ++ [{ bytes := m, whole := flEom f, abort := flAbort f, tag := none, at' := g.clk
                    tsid := if bit (leAt bs 1 1) 1 then some (leAt bs 14 2) else none, fwd := some (p, key / 256, key % 256) }]
  else match Tbl.find x.rx key with
    | some o => match o.fwd with
      | some out =>
        let g := g.forwardMore out p key bs (flEom f) (flAbort f)
        if flEom f then endIn g else g
      | none => go g { o with bytes := o.bytes ++ bs }
    | none =>
      if x.dropRun.contains key then
        (if flEom f then g.setPort p { x with dropRun := x.dropRun.filter (· ≠ key) } else g)
      else dropped (g.rlBad p)

/-- The front of every reception at PT `ns`: a flit of kind `kind` that passes (R416), its ACK taken. -/
def Gremon.onFlit (g : Gremon) (p ns kind : Nat) (f : List Byte) (k : Gremon → Gremon) : Gremon :=
  let g := g.moveTo ns
  let x := g.port p
  if x.st = .down ∨ x.st = .failed ∨ x.st = .training then g
  else if !flCrcOk f then g.setPort p { x with crcErr := x.crcErr + 1 }
  else if !flHdrOk f ∨ flKind f ≠ kind then g
  else k (if x.st.isOpen then g.setPort p (x.takeAck (flAckv f) (flAck f)) else g)

/-- RL_DATA_FLIT_RX (R418). -/
def Gremon.rlData (g : Gremon) (p : Nat) (f : List Byte) (ns : Nat) : Gremon :=
  g.onFlit p ns 1 f fun g =>
    let x := g.port p
    if !x.st.isOpen then g
    else
      let x := { x with farOpen := true }
      if flSeq f = x.expect then
        (g.setPort p { x with expect := x.expect + 1, ack := flSeq f, ackv := true, nakOpen := false }).rlAbsorb p (g.linkStamp (rdOf p)) f
      else g.setPort p (if x.nakOpen then x else { x with nakOpen := true, ctl := x.ctl ++ [rlNak x.expect] })

/-- RL_NULL_FLIT_RX. -/
def Gremon.rlNull (g : Gremon) (p : Nat) (f : List Byte) (ns : Nat) : Gremon := g.onFlit p ns 0 f id

/-- The front of a CTL reception. -/
def Gremon.onRlCtl (g : Gremon) (p ns ty : Nat) (f : List Byte) (k : Gremon → Gremon) : Gremon :=
  g.onFlit p ns 2 f fun g =>
    let x := g.port p
    if x.st.isOpen ∧ leAt f 8 1 = ty then k (g.setPort p { x with farOpen := true }) else g

/-- RL_CTL_CREDIT (R419). -/
def Gremon.rlCreditRx (g : Gremon) (p : Nat) (f : List Byte) (ns : Nat) : Gremon :=
  g.onRlCtl p ns 1 f fun g =>
    let x := g.port p
    let new := (List.range 4).map fun c => BitVec.ofNat 32 (leAt f (16 + 4 * c) 4)
    let cr := (List.range 4).map fun c => nth 0 x.credits c + (nth 0 new c - nth 0 x.freedSeen c).toNat
    g.setPort p { x with credits := cr, freedSeen := new }

/-- One go-back of a port. -/
def Gremon.rlGoBack (g : Gremon) (p : Nat) : Gremon :=
  let r := (g.port p).goBack
  let g := g.setPort p r.1
  if r.2 then g.portDown p .down else g

/-- RL_CTL_NAK (R418). -/
def Gremon.rlNakRx (g : Gremon) (p : Nat) (f : List Byte) (ns : Nat) : Gremon :=
  g.onRlCtl p ns 2 f fun g => g.rlGoBack p

/-- The first frame boundary at least `d` ns after now. -/
def Gremon.boundaryAfter (g : Gremon) (d : Nat) : Nat :=
  let f := g.frameNs
  if f = 0 then g.now + d else (g.now + d + f - 1) / f * f

/-- After a lane change or a retrain of the link to the parent the first four exchanges measure D only (R148, R415). -/
def Gremon.relinked (g : Gremon) (p : Nat) : Gremon :=
  if g.tree.parent = some p then { g with clock := { g.clock with measure := 4, hist := [] } } else g

/-- RL_CTL_LANE (R414): a request starts the move of the named lane to the spare; a notice completes it here.
Log: entry 18 (DEDUCED). -/
def Gremon.rlLaneRx (g : Gremon) (p : Nat) (f : List Byte) (ns : Nat) : Gremon :=
  g.onRlCtl p ns 3 f fun g =>
    let x := g.port p
    let b := leAt f 9 1
    let lane := b % 8
    if bits b 6 3 ≠ 0 then g
    else if b < 128 then
      if x.txActive.contains lane ∧ x.txSpare.isSome ∧ x.laneMove.isNone then
        g.setPort p { x with laneMove := some (lane, g.boundaryAfter 5000) }
      else g
    else match x.spare with
      | some s =>
        if x.active.contains lane then
          (g.setPort p { x with active := s :: x.active.filter (· ≠ lane), spare := none, st := .up
                                lost := lane :: x.lost.filter (· ≠ lane) }).relinked p
        else g
      | none => g

/-- RL_LANE_SWITCH (R414): at the named boundary the transmitter moves the lane's traffic and sends the notice.
Log: entry 18 (DEDUCED). -/
def Gremon.laneSwitch (g : Gremon) (p t : Nat) : Gremon :=
  let x := g.port p
  match x.laneMove, x.txSpare with
  | some (lane, at'), some s =>
    if t ≥ at' ∧ g.frameNs ≠ 0 then
      (g.setPort p { x with laneMove := none, txActive := s :: x.txActive.filter (· ≠ lane), txSpare := none
                            ctl := x.ctl ++ [rlLane lane true (at' / g.frameNs)] }).relinked p
    else g
  | _, _ => g

/-- Begin the INIT exchange (Table 13.2 step 5). -/
def Gremon.rlStartInit (g : Gremon) (p : Nat) : Gremon :=
  let x := g.port p
  let ep := if x.keeps then x.epoch else x.epoch + 1
  g.setPort p { x with st := .init, initSeen := false, farOpen := false, initSent := some (x.keeps, x.expect, ep), epoch := ep
                       ctl := [rlInit x.keeps x.expect ep g.gid] }

/-- A fresh start of a port (R419, R181). -/
def RlPort.fresh (x : RlPort) (grants : List Nat) : RlPort :=
  { x with st := .up, nextSeq := 0, expect := 0, ack := 0, ackv := false, nakOpen := false, replay := [], replayAt := none
           credits := grants, freedSeen := [0, 0, 0, 0], freed := [0, 0, 0, 0], freedSent := [0, 0, 0, 0], rx := [], dropRun := []
           classes := x.classes.map fun k => { k with q := k.q.filter fun m => m.tag.isNone }
           goBacks := 0, initSeen := true, keeps := true, farOpen := false, rxMsgs := [0, 0, 0, 0], txMsgs := [0, 0, 0, 0] }

/-- A fresh start after the INIT `f`, under a new epoch where the one of the INIT sent was kept (R180), which writes LINK_FRESH
(R181).
Log: entry 18 (DEDUCED). -/
def Gremon.rlGoFresh (g : Gremon) (p : Nat) (f : List Byte) : Gremon :=
  let g := g.abortForwards p
  let x := g.port p
  let offered : Bool := match x.initSent with
    | some (r, _, _) => r
    | none => false
  let ep := if offered then x.epoch + 1 else x.epoch
  let x := { x with epoch := ep, initSent := some (false, 0, ep), ctl := [rlInit false 0 ep g.gid], neighbour := some (leAt f 32 8) }
  (((g.setPort p { (x.fresh ((List.range 4).map fun c => leAt f (16 + 4 * c) 4)) with
      farEpoch := BitVec.ofNat 32 (leAt f 12 4) }).bucketsFull p).relinked p).raise .linkFresh []

/-- RL_INIT_RX (R419): resume where both sides kept their state, otherwise a fresh start. The port is UP. An INIT that comes again
shows that the far side still needs one; one that no longer resumes starts a port afresh that had resumed.
Log: entry 18 (DEDUCED). -/
def Gremon.rlInitRx (g : Gremon) (p : Nat) (f : List Byte) (ns : Nat) : Gremon :=
  g.onFlit p ns 3 f fun g =>
    if leAt f 9 1 ≠ 0 ∨ leAt f 32 8 ≥ 1024 then g
    else
      let x := g.port p
      let g := if x.st = .init ∨ x.initSeen = true then g else g.rlStartInit p
      let x := g.port p
      let ep := BitVec.ofNat 32 (leAt f 12 4)
      let resumes := decide (leAt f 8 1 = 1)
      let mine : Bool := match x.initSent with
        | some (r, _, _) => r
        | none => false
      if x.initSeen then
        (if mine && !resumes then g.rlGoFresh p f
         else g.setPort p { x with farOpen := false, farEpoch := if resumes then x.farEpoch else ep })
      else if mine && resumes && decide (ep = x.farEpoch) then
        let x := { x with neighbour := some (leAt f 32 8) }
        let x := x.takeAck true (BitVec.ofNat 12 (leAt f 10 2) - 1)
        ((g.setPort p { x with
            st := .up, initSeen := true, replayAt := if x.replay.isEmpty then none else some 0 }).bucketsFull p).relinked p
      else g.rlGoFresh p f

/-! ### Timers -/

def Gremon.rlReplayTimeout (g : Gremon) (p : Nat) : Gremon := if g.portUp p then g.rlGoBack p else g
def Gremon.rlNakRepeat (g : Gremon) (p : Nat) : Gremon :=
  let x := g.port p
  if x.st.isOpen && x.nakOpen then g.setPort p { x with ctl := x.ctl ++ [rlNak x.expect] } else g
def Gremon.rlCreditTimer (g : Gremon) (p : Nat) : Gremon :=
  let x := g.port p
  if x.st.isOpen && decide (x.freed ≠ x.freedSent) then g.setPort p { x with ctl := x.ctl ++ [rlCredit x], freedSent := x.freed }
  else g

/-! ### Training and lanes (R413–R415) -/

/-- RL_TRAIN_START: from cold, or with saved equaliser settings; a failed RD has taken its three ports with it (Table 6.9). -/
def Gremon.rlTrainStart (g : Gremon) (p : Nat) : Gremon :=
  let x := g.port p
  if g.fld (kDieStat (rdOf p)) 1 0 = 3 then g
  else if x.st = .down ∨ x.st = .failed then g.setPort p { x with st := .training, initSeen := false } else g

/-- RL_ALIGNMENT_LOCK: the lanes that reached lock. The four lowest become active and a fifth the spare; fewer than four
leave the port FAILED. -/
def Gremon.rlAlign (g : Gremon) (p : Nat) (lanes : List Nat) : Gremon :=
  let x := g.port p
  let good := (List.range 5).filter lanes.contains
  if x.st ≠ .training then g
  else if good.length < 4 then (g.setPort p { x with st := .failed }).raise .rlPortFail []
  else
    (g.setPort p { x with active := good.take 4, spare := good[4]?, txActive := good.take 4, txSpare := good[4]?
                          lost := (List.range 5).filter fun l => !good.contains l, eqSaved := true }).rlStartInit p

/-- The receiver asks for a lane to be left (R414, R415).
Log: entry 18 (DEDUCED). -/
def Gremon.rlAskLane (g : Gremon) (p lane : Nat) : Gremon :=
  let x := g.port p
  g.setPort p { x with st := .laneWait, lost := lane :: x.lost.filter (· ≠ lane), ctl := x.ctl ++ [rlLane lane false 0] }

/-- FEC_WINDOW_END (R414): the counts of the last second; the lowest active lane above 100,000 is degraded.
Log: entry 18 (DEDUCED). -/
def Gremon.fecWindow (g : Gremon) (p : Nat) (corr uncorr : List Nat) : Gremon :=
  let x := g.port p
  let x := { x with corr := (List.range 5).map fun l => sat 0xFFFFFF (corr.getD l 0)
                    uncorr := (List.range 5).map fun l => sat 255 (x.uncorr.getD l 0 + uncorr.getD l 0) }
  let g := (g.setPort p x).count (296 + p) (corr.foldl (· + ·) 0)
  match (List.range 5).find? fun l => x.active.contains l && decide (corr.getD l 0 > 100000) with
  | some l => if x.st = .up ∧ x.spare.isSome then g.rlAskLane p l else g
  | none => g

/-- RL_LANE_LOCK_LOSS (R415): to the spare; with none left the port goes DOWN and, fewer than four lanes being good, is
FAILED with RL_PORT_FAIL until a retrain finds four. The loss of the spare itself leaves none, and while a change waits the spare
is taken already.
Log: entry 18 (DEDUCED). -/
def Gremon.rlLaneLoss (g : Gremon) (p lane : Nat) : Gremon :=
  let x := g.port p
  let y := { x with lost := lane :: x.lost.filter (· ≠ lane) }
  let fail := ((g.setPort p y).portDown p .failed).raise .rlPortFail []
  if x.st = .laneWait then (if (x.active.contains lane || decide (x.spare = some lane)) && !x.lost.contains lane then fail else g)
  else if x.spare = some lane then g.setPort p { y with spare := none }
  else if !x.active.contains lane || !x.st.isOpen then g
  else if x.spare.isSome then g.rlAskLane p lane
  else fail

/-! ### Latency observation (R424) -/

/-- The delay threshold of a class, ns. -/
def rlThreshold (c : Nat) : Nat := if c = vcTime then 2000 else 10000

/-- The window just ended goes to the registers of a class. -/
def Gremon.publishLat (g : Gremon) (p c : Nat) (k : RlClass) : Gremon :=
  let b := 0x3000300 + 0x1000 * p + 8 * c
  let mean := if k.samples = 0 then 0 else k.delaySum / k.samples
  (g.setReg b (sat 0xFFFF (k.delayMax / 10) + 65536 * sat 0xFFFF (mean / 10))).setReg (b + 4)
    (sat 0xFFFF k.depthMax + 65536 * sat 0xFFFF k.beyond)

/-- RL_LATENCY_SAMPLE. -/
def Gremon.rlSample (g : Gremon) (p : Nat) : Gremon :=
  let x := g.port p
  let w := g.clk / 1000000
  let cs := [vcTime, vcControl, vcLantern]
  let g := if w = x.sampleAt then g else
    let g := cs.foldl (fun g c => g.publishLat p c (x.classes.getD c RlClass.reset)) g
    g.setPort p { x with sampleAt := w, classes := x.classes.mapIdx fun c k =>
      if c > vcLantern then k else { k with samples := 0, delaySum := 0, delayMax := 0, depthMax := 0, beyond := 0 } }
  let x := g.port p
  let ks := x.classes.mapIdx fun c k =>
    if c > vcLantern then k
    else
      let d := match k.q.find? RlOut.avail with
        | some m => g.clk - m.at'
        | none => 0
      { k with samples := k.samples + 1, delaySum := k.delaySum + d, delayMax := max k.delayMax d, depthMax := max k.depthMax k.depth
               beyond := k.beyond + b2n (decide (d > rlThreshold c)) }
  g.setPort p { x with classes := ks }

/-! ### Checks of a staged shaping set (R423) -/

/-- Whether the set that `v` reads is admitted on port `p`. -/
def shapeOk (p : Nat) (v : Nat → Nat) : Bool :=
  let cs := List.range 5
  decide (cs.foldl (fun n c => n + bits (v (kShape p c)) 11 0) 0 ≤ 3900) &&
  cs.all fun c =>
    decide (bits (v (kShape p c)) 11 0 ≤ bits (v (kShape p c)) 27 16) && decide (1 ≤ bits (v (kBurst p c)) 11 0) &&
      decide (1 ≤ bits (v (kBurst p c)) 27 16)

end Sys2Proof.Machine
end

