-- ==== Sys2Proof/Machine/Mailbox.lean ====
section
/-! DEFINITION. Mailbox channels (R546–R552) as hosts, kits and dies use them; the instructions that reach mailboxes and
other Gremons: MBS, MBR, MSND, FENCE.T, FENCE.X (R296–R301), and the end of an MSND (R446). -/
namespace Sys2Proof.Machine
open Sys2Proof

/-! ### Channels -/

/-- GR_MB_BIND_n. -/
def kBind (n : Nat) : Nat := 0x200000 + 8 * n
def Gremon.chan (g : Gremon) (n : Nat) : MbChan := Tbl.get { full := false, msg := [], msgs := 0, sent := false } g.host.chans n
def Gremon.setChan (g : Gremon) (n : Nat) (c : MbChan) : Gremon :=
  g.onHost fun h => { h with chans := Tbl.set { full := false, msg := [], msgs := 0, sent := false } h.chans n c }

/-- The two ends of a channel, none while it is not bound or its register has a parity fault (Table 17.3). -/
def Gremon.binding (g : Gremon) (n : Nat) : Option (Nat × Nat) :=
  if bit (g.reg (kBind n)) 24 && !g.parityBad (kBind n) && decide (n < 256) then
    some (g.fld (kBind n) 11 0, g.fld (kBind n) 23 12)
  else none

/-- The kit slot of a kit MID. -/
def kitMid (n : Nat) : Nat := 0x400 + n

/-- A kit slot that holds nothing. -/
def KitSlot.empty : KitSlot :=
  { handle := 0, state := 0, prev := 0, boot := false, cause := 0, restarts := 0, overruns := 0, faults := 0, lagging := 0, pkg := []
    cores := [], bufs := [], hbm := (0, 0), ft := (0, 0), obj0 := 0, nobj := 0, ens := [], lanes := [], waiting := []
    committed := 0, appliedAt := 0, start := 0, phases := [], haltNow := false, unload := false, restartAt := none }
def Gremon.kit (g : Gremon) (n : Nat) : KitSlot := Tbl.get KitSlot.empty g.kits n
def Gremon.setKit (g : Gremon) (n : Nat) (k : KitSlot) : Gremon := { g with kits := Tbl.set KitSlot.empty g.kits n k }

/-- Whether a MID's domain is powered down (R550). -/
def Gremon.midDown (g : Gremon) (mid : Nat) : Bool :=
  if 1 ≤ mid ∧ mid ≤ 0x3FF then !(g.host.linkUp && g.host.d0)
  else if 0x400 ≤ mid ∧ mid ≤ 0x43F then decide ((g.kit (mid - 0x400)).state = 7) || decide (g.sys.pwr.pstate = 3)
  else if 0x800 ≤ mid ∧ mid ≤ 0x9FF then !(g.lane (mid - 0x800)).carries
  else if 0xF00 ≤ mid ∧ mid ≤ 0xF0F then !(g.sessionsUp.any fun s => !s.doe && decide (s.num = mid - 0xF00))
  else false

/-- Whether a MID is reserved (Table 16.12). -/
def midReserved (mid : Nat) : Bool :=
  !(decide (mid ≤ 0x43F) || (decide (0x800 ≤ mid) && decide (mid ≤ 0x9FF)) || (decide (0xF00 ≤ mid) && decide (mid ≤ 0xF0F)))

/-- The bindings that boot code has written are checked (R547): one that names a reserved MID, or the same MID twice, is left
invalid, and BAD_BIND is written.
Log: entry 38 (DEDUCED). -/
def Gremon.checkBinds (g : Gremon) : Gremon :=
  (List.range 256).foldl (fun (g : Gremon) n =>
    let t := g.fld (kBind n) 11 0
    let r := g.fld (kBind n) 23 12
    if bit (g.reg (kBind n)) 24 && (midReserved t || midReserved r || decide (t = r)) then
      (g.setFld (kBind n) 24 24 0).raise .badBind []
    else g) g

/-- GR_MB_STAT_n. -/
def Gremon.mbStat (g : Gremon) (n : Nat) : Nat :=
  let c := g.chan n
  match g.binding n with
  | some (t, r) => b2n c.full + 2 * b2n (g.midDown t) + 4 * b2n (g.midDown r) + 65536 * c.msgs
  | none => b2n c.full + 65536 * c.msgs

/-- The MBOX message of a channel (Table 5.14). -/
def mboxMsg (n : Nat) (msg : List Byte) : List Byte := glMsg 0x20 (leBytes 1 n ++ leBytes 3 0 ++ padTo 64 msg)

/-- Forward the next FULL channel to the die on a lane, one at a time in ascending order (R549). -/
def Gremon.mbForward (g : Gremon) (lane : Nat) : Gremon :=
  let d := g.die lane
  if !(g.lane lane).carries || !d.accepted || decide (d.resend > 0) then g
  else match d.mbFwd with
    | some n =>
      if d.mbAgain then (g.setDie lane { d with mbAgain := false }).glSend lane clsCtrl (mboxMsg n (g.chan n).msg) else g
    | none =>
      match (List.range 256).find? fun n => (g.chan n).full && decide ((g.binding n).map (·.2) = some (0x800 + lane)) with
      | some n =>
        let g := g.setChan n { g.chan n with sent := true }
        (g.setDie lane { d with mbFwd := some n }).glSend lane clsCtrl (mboxMsg n (g.chan n).msg)
      | none => g

/-- An MBOX record to the result queues of a host MID (R548). -/
def Gremon.mbRecord (g : Gremon) (mid n : Nat) : Gremon :=
  let o : OutRec := { kind := 9, prov := false, job := 0, body := leBytes 1 n ++ leBytes 7 0 }
  (List.range 16).foldl (fun g r => if g.rqTakes r o && decide (g.reg (kRq r 0x1C) = mid) then g.deliverTo r o else g) g

/-- A send on channel `n` from `mid` (R548): the status, 0 OK, 1 FULL, 2 NOT_BOUND, 3 ERR_PWRDN.
Log: entry 38 (DEDUCED). -/
def Gremon.mbSendFrom (g : Gremon) (mid n : Nat) (msg : List Byte) : Gremon × Nat :=
  match g.binding n with
  | none => (g, 2)
  | some (t, r) =>
    if t ≠ mid then (g, 2)
    else if g.midDown r then (g, 3)
    else if (g.chan n).full then (g, 1)
    else
      let g := g.setChan n { g.chan n with full := true, msg := padTo 64 msg, sent := false }
      let g := if 1 ≤ r ∧ r ≤ 0x3FF then g.mbRecord r n else g
      (if 0x800 ≤ r ∧ r ≤ 0x9FF then g.mbForward (r - 0x800) else g, 0)

/-- A channel's message is read: FULL clears. -/
def Gremon.mbRead (g : Gremon) (n : Nat) : Gremon :=
  let c := g.chan n
  g.setChan n { full := false, msg := [], msgs := sat 0xFFFF (c.msgs + 1), sent := false }

/-- A receive on channel `n` by `mid` (R548): the status and the message.
Log: entry 38 (DEDUCED). -/
def Gremon.mbRecvBy (g : Gremon) (mid n : Nat) : Gremon × Nat × List Byte :=
  match g.binding n with
  | none => (g, 2, [])
  | some (t, r) =>
    if r ≠ mid then (g, 2, [])
    else if g.midDown t then (g, 3, [])
    else if !(g.chan n).full then (g, 1, [])
    else (g.mbRead n, 0, (g.chan n).msg)

/-- MB_READ from the die on a lane: the read of channel `n` (R549, R552). -/
def Gremon.mbReadEvent (g : Gremon) (lane n : Nat) : Gremon :=
  let d := g.die lane
  if d.mbFwd = some n ∧ (g.chan n).full = true then
    ((g.mbRead n).setDie lane { d with mbFwd := none, mbAgain := false }).mbForward lane
  else g

/-- MBOX_RX at Gremon (R548, R552): a die's message is applied as a send from its MID, and the status goes back as a
command write of RESULT.
Log: entry 38 (DEDUCED). -/
def Gremon.mboxRx (g : Gremon) (lane : Nat) : Gremon :=
  let l := g.lane lane
  match takeFirst (fun m => decide (leAt m.bytes 0 1 = 0x20)) l.inbox with
  | none => g
  | some (m, r) =>
    let g := g.setLane lane { l with inbox := r }
    let s := g.mbSendFrom (0x800 + lane) (leAt m.bytes 4 1) ((m.bytes.drop 8).take 64)
    s.1.cmdWord lane 0x5044 (2 * s.2)

/-- MB_SEND and MB_RECV (R548, Table 16.6): the command ends OK with the mailbox status in its result.
Log: entry 38 (DEDUCED). -/
def Gremon.cmdMbSend (g : Gremon) : Gremon :=
  g.onHostCmd 0x07 fun g c =>
    let s := g.mbSendFrom c.mid (c.param 0 1) c.data
    s.1.complete c 0 0 (leBytes 1 s.2) []
/-- Log: entry 38 (DEDUCED). -/
def Gremon.cmdMbRecv (g : Gremon) : Gremon :=
  g.onHostCmd 0x08 fun g c =>
    let s := g.mbRecvBy c.mid (c.param 0 1)
    s.1.complete c 0 0 (leBytes 1 s.2.1) s.2.2

/-! ### MBS and MBR (R300) -/

/-- Log: entry 35 (DEDUCED; DESIGN CHOICE), entry 38 (DEDUCED). -/
def Gremon.iMbs (g : Gremon) (n : Nat) : Gremon :=
  g.instr n 0xC0 fun c w _ =>
    let a := c.addrM w
    let b := c.rg (wB w)
    if b ≥ 256 then (g, .trap 1 w, 1)
    else match g.portLine n c a false with
      | some t => (g, t, 1)
      | none =>
        let r := g.portRead (spadCna n a) 64
        let s := r.2.mbSendFrom c.grants.mid b r.1
        (s.1.endWait n (some s.2), .stall, 1)

/-- Log: entry 38 (DEDUCED). -/
def Gremon.iMbr (g : Gremon) (n : Nat) : Gremon :=
  g.instr n 0xC1 fun c w _ =>
    let a := c.addrM w
    let b := c.rg (wB w)
    if b ≥ 256 then (g, .trap 1 w, 1)
    else match g.portLine n c a true with
      | some t => (g, t, 1)
      | none =>
        let s := g.mbRecvBy c.grants.mid b
        let g := if s.2.1 = 0 then s.1.wrBytes (spadCna n a) (padTo 64 s.2.2) else s.1
        (g.endWait n (some s.2.1), .stall, 1)

/-! ### FENCE.T and FENCE.X (R296, R297) -/

/-- The arrival stamps, in ns, of the messages not yet written to their destinations. -/
def Gremon.unfiled (g : Gremon) : List Nat :=
  (g.lanes.flatMap fun e => e.2.inbox.map (fun m => m.stamp.ns.toNat) ++ e.2.rx.filterMap fun o => o.map fun r => r.stamp.ns.toNat) ++
    g.rlIn.map (fun m => m.stamp.ns.toNat) ++
    g.ports.flatMap fun e => (e.2.rx.filter fun r => r.2.fwd.isNone).map fun r => r.2.stamp.ns.toNat

/-- The ingest watermark, none while PT is UNSET: just below the earliest message not yet written, else PT. -/
def Gremon.watermark (g : Gremon) : Option Nat :=
  if g.clock.own = .unset then none
  else some (g.unfiled.foldl (fun (w : Nat) t => min w (t - 1)) g.now)

/-- Whether FENCE.T to `t`, and FENCE.X, may end. -/
def Gremon.fenceTDone (g : Gremon) (n t : Nat) : Bool :=
  g.fenceCDone n && (match g.watermark with
    | some w => decide (w ≥ t)
    | none => false)
def Gremon.fenceXDone (g : Gremon) (n : Nat) : Bool :=
  g.fenceCDone n && !(g.msnd.any fun m => decide (m.core = n))

/-- FENCE.T and FENCE.X. -/
def Gremon.iFenceT (g : Gremon) (n : Nat) : Gremon :=
  g.instr n 0xB2 fun c w _ => if g.fenceTDone n (c.rg (wA w)) then (g.endWait n none, .stall, 1) else (g, .stall, 1)
def Gremon.iFenceX (g : Gremon) (n : Nat) : Gremon :=
  g.instr n 0xB3 fun _ _ _ => if g.fenceXDone n then (g.endWait n none, .stall, 1) else (g, .stall, 1)

/-! ### MSND (R301, Table 8.16) -/

/-- Fields of the block. -/
def msDest (b : List Byte) : Nat := leAt b 0 4
def msRing (b : List Byte) : Nat := leAt b 4 2
def msLen (b : List Byte) : Nat := leAt b 16 4
def msSync (b : List Byte) : Nat := leAt b 44 4

/-- Whether the block's fields are in range. -/
def msOk (b : List Byte) : Bool :=
  decide (msDest b < 2 ^ 13) && decide (2 ≤ bits (msDest b) 12 11) && decide (msRing b ≤ 63) && endOk (leAt b 8 8) &&
    decide (1 ≤ msLen b) && decide (msLen b ≤ 65536) && decide (leAt b 20 4 ≤ 1) && zeroAt b 24 20 && syncFieldOk (msSync b) &&
    zeroAt b 48 8

/-- The first check that the block fails, as an FCODE (Table 8.8). -/
def Gremon.msCheck (g : Gremon) (n : Nat) (c : BCore) (a : Nat) (b : List Byte) : Option Nat :=
  if !msOk b then some 2
  else if !c.granted n (endCna n (leAt b 8 8)) (msLen b) false || !g.syncOwned c (msSync b) then some 3
  else if c.touchesCode n (spadCna n (a + 56)) 8 then some 4
  else none

/-- The kit whose handle a core serves. -/
def Gremon.kitOf (g : Gremon) (handle : Nat) : Option (Nat × KitSlot) :=
  g.kits.find? fun e => decide (e.2.handle = handle) && decide (handle ≠ 0)

/-- An MSND ends: STATUS, then its signal (R301). -/
def Gremon.msDone (g : Gremon) (m : MsndOut) (result : Nat) : Gremon :=
  let g := { g with msnd := g.msnd.filter fun x => decide (¬(x.core = m.core ∧ x.mseq = m.mseq)) }
  let g := g.wr (spadCna m.core (m.addr + 56)) 8 (result + 256)
  g.signalSync (msSync m.block)

/-- MSEQ of a core's k-th message (Table 13.14). -/
def Gremon.mseqOf (g : Gremon) (n k : Nat) : Nat := g.gid % 1024 + 2 ^ 10 * (n / 32 % 32) + 2 ^ 15 * (n % 32) + 2 ^ 20 * k

/-- Send a core's message: POISON and ACCESS of the payload, and no path, end it at once.
Log: entry 35 (DEDUCED; DESIGN CHOICE). -/
def Gremon.msSend (g : Gremon) (n : Nat) (m : MsndOut) : Gremon :=
  let src := endCna n (leAt m.block 8 8)
  let len := msLen m.block
  if !cnaReachRange (n / 32) src len then g.msDone m 5
  else if g.flowPoison (n / 32) src len then (g.poisonAt (n / 32)).msDone m 4
  else
    let ids := match g.kitOf (g.core n).grants.kit with
      | some (_, k) => (k.pkg.drop 8).take 8
      | none => leBytes 8 0
    let cls := if bits (msDest m.block) 12 11 = 2 then vcReduce else vcBulk
    let ts := bit (leAt m.block 20 1) 0
    let (data, g) := g.portRead src len
    let body := ids ++ leBytes 8 m.mseq ++ data
    let msg := g.rlMsg 0x44 (if ts then 2 else 0) m.dest (msRing m.block) (leAt m.block 6 2) body
    if m.dest = g.gid then
      { g with rlIn := g.rlIn ++ [{ port := 7, bytes := msg, stamp := g.stamp }] }
    else match g.routeTo m.dest with
      | some p => g.rlSendTs p cls msg (if ts then some (leAt m.block 6 2) else none)
      | none => g.msDone m 6

/-- Log: entry 35 (DEDUCED; DESIGN CHOICE). -/
def Gremon.iMsnd (g : Gremon) (n : Nat) : Gremon :=
  g.instr n 0xC4 fun c w _ =>
    let a := c.addrM w
    match g.portLine n c a false with
    | some t => (g, t, 1)
    | none =>
      let (b, g) := g.portRead (spadCna n a) 56
      match g.msCheck n c a b with
      | some fc => (g, .trap 7 (streamTval fc 0xFE 0), 1)
      | none =>
        let up := g.tree.parent.bind fun p => g.neighbour p
        let dest := if bit (msDest b) 10 then up else some (msDest b % 1024)
        let m : MsndOut := { core := n, block := b, addr := a, mseq := g.mseqOf n c.mseq, dest := dest.getD 0, at' := g.clk, seq := c.seq }
        let g := { g.setCore n { c with mseq := c.mseq + 1, seq := c.seq + 1 } with msnd := g.msnd ++ [m] }
        (if dest.isNone then g.msDone m 6 else g.msSend n m, .seq, 1)

/-- The oldest received message of type `ty` is taken and `f` runs on it.
Log: entry 11 (DESIGN CHOICE). -/
def Gremon.onRl (g : Gremon) (ty : Nat) (f : Gremon → RlMsgIn → Gremon) : Gremon :=
  match takeFirst (fun m => decide (leAt m.bytes 0 1 = ty)) g.rlIn with
  | some (m, r) => f { g with rlIn := r } m
  | none => g

/-- MACK_RX (R446): the acknowledged message's MSND ends with its RESULT. -/
def Gremon.mackRx (g : Gremon) : Gremon :=
  g.onRl 0x45 fun g m =>
    match g.msnd.find? fun x => decide (x.mseq = leAt m.bytes 16 8) with
    | some x => g.msDone x (leAt m.bytes 24 1)
    | none => g

/-- MSND_UNREACH (R446): the oldest MSND not acknowledged within 10 ms ends UNREACH. -/
def Gremon.msndUnreach (g : Gremon) : Gremon :=
  match g.msnd with
  | m :: _ => (g.moveTo (m.at' + 10000000)).msDone m 6
  | [] => g

/-- RL_MSG_RX (R445, R446): the message goes into the named ring of the matching kit and is acknowledged, or refused
NORING. -/
def Gremon.ringFor (g : Gremon) (m : List Byte) : Option (KitSlot × Nat) :=
  match g.kits.find? fun e => decide (e.2.handle ≠ 0) && decide ((e.2.pkg.drop 8).take 8 = (m.drop 16).take 8) with
  | some (_, k) => if k.hbm.2 = 0 then none else some (k, hbmCna k.hbm.1 + 32 * (leAt m 12 2 % 64))
  | none => none

/-- Write one entry into the ring whose descriptor stands at `d` (Table 13.11): whether it took it. -/
def Gremon.ringPut (g : Gremon) (k : KitSlot) (d srcg mseq : Nat) (st : Stamp) (payload : List Byte) : Gremon × Bool :=
  let ctl := g.rd d 4
  let obj := g.rd (d + 4) 2
  let base := g.rd (d + 8) 8
  let esize := g.rd (d + 16) 4
  let count := g.rd (d + 20) 4
  if !bit ctl 0 then (g, false)
  else
    let wr := g.rd base 8
    let rd := g.rd (base + 8) 8
    if 32 + payload.length > esize ∨ (wr + 2 ^ 64 - rd) % 2 ^ 64 ≥ count then (g.wr (base + 16) 8 (g.rd (base + 16) 8 + 1), false)
    else
      let e := base + 64 + (wr % max 1 count) * esize
      let g := g.wrBytes e (leBytes 2 srcg ++ leBytes 2 0 ++ leBytes 4 payload.length ++ leBytes 8 mseq ++ st.bytes ++ leBytes 4 0 ++ payload)
      let g := g.wr base 8 (wr + 1)
      (if bit ctl 1 && decide (obj < k.nobj) then g.signalObj (k.obj0 + obj) else g, true)

def Gremon.msgRx (g : Gremon) : Gremon :=
  g.onRl 0x44 fun g m =>
    let b := m.bytes
    let r := match g.ringFor b with
      | some (k, d) => g.ringPut k d (leAt b 8 2) (leAt b 24 8) m.stamp (b.drop 32)
      | none => (g, false)
    r.1.rlTo (leAt b 8 2) vcControl 0x45 0 (leBytes 8 (leAt b 24 8) ++ leBytes 1 (if r.2 then 0 else 7) ++ leBytes 7 0)

end Sys2Proof.Machine
end

