-- ==== Sys2Proof/Machine/Pod.lean ====
section
/-! DEFINITION. The pod tree (13 R426–R440): HELLO, election, JOIN, re-homing, pruning. -/
namespace Sys2Proof.Machine
open Sys2Proof

/-! ### The tray manifest (R204) -/

/-- A message that Gremon's own services send one another: an MSG of KIT_ID and KIT_VER 0 with a kind and its fields, in BULK.
Log: entry 60 (DESIGN CHOICE; DEDUCED; PRESUMED). -/
def Gremon.ownMsg (g : Gremon) (dst kind : Nat) (body : List Byte) : Gremon :=
  g.rlTo dst vcBulk 0x44 0 (leBytes 16 0 ++ leBytes 1 kind ++ leBytes 3 0 ++ body)

/-- The kind of such a message, none for a kit's. -/
def ownKind (m : List Byte) : Option Nat := if zeroAt m 16 16 ∧ m.length ≥ 36 then some (leAt m 32 1) else none

/-- The dies that the root holds with the HDID of another: entries of members alone count.
Log: entry 60 (DESIGN CHOICE; DEDUCED; PRESUMED). -/
def Gremon.hdidClash (g : Gremon) (pda : Nat) : Bool :=
  let member := fun (p : Nat) => decide (p / 512 = g.gid) || g.tree.joinedAs.any fun m => decide (m.1 = p / 512)
  match Tbl.find g.svc.hdids pda with
  | some h => member pda && g.svc.hdids.any fun e => decide (e.1 ≠ pda) && decide (e.2 = h) && member e.1
  | none => false

/-- An entry of a tray manifest is taken, HDID 0 for a die that is gone, and passed on toward the root, where the second PDA
of an HDID raises DUP_HDID.
Log: entry 60 (DESIGN CHOICE; DEDUCED; PRESUMED). -/
def Gremon.trayNote (g : Gremon) (pda : Nat) (hdid : W64) : Gremon :=
  let new := decide (Tbl.find g.svc.hdids pda ≠ some hdid)
  let g := g.onSvc fun s => { s with hdids := if hdid = 0 then Tbl.erase s.hdids pda else Tbl.put s.hdids pda hdid }
  if g.root then (if new && g.hdidClash pda then g.raise .dupHdid (leBytes 4 pda ++ leBytes 8 hdid.toNat) else g)
  else match g.tree.parent.bind g.neighbour with
    | some up => if g.tree.joined then g.ownMsg up 1 (leBytes 4 pda ++ leBytes 8 hdid.toNat) else g
    | none => g

/-- The {HDID, PDA} of a lane's die. -/
def Gremon.traySend (g : Gremon) (lane : Nat) : Gremon :=
  g.trayNote (g.pda lane) (if (g.die lane).accepted then (g.die lane).hdid else 0)

/-- The tray manifests of this Gremon and of its subtree go to the root again. -/
def Gremon.trayAll (g : Gremon) : Gremon :=
  (g.svc.hdids.filter fun e => decide (e.1 / 512 = g.gid) || g.tree.subtree.any fun m => decide (m.gid = e.1 / 512)).foldl
    (fun (g : Gremon) e => g.trayNote e.1 e.2) g

/-- What a Gremon that joins anew was known by is let go: its dies, and its outputs of reductions (R684). -/
def Gremon.memberAnew (g : Gremon) (id : Nat) : Gremon :=
  let g := g.onSvc fun s => { s with hdids := s.hdids.filter fun e => decide (e.1 / 512 ≠ id) }
  { g with redKids := g.redKids.filter fun k => decide (k.gid ≠ id) }

/-- Members that leave the subtree: a child among them is no longer expected, unless it is declared failed (R439, R684). -/
def Gremon.membersGone (g : Gremon) (gone : List Member) : Gremon :=
  let behind := fun (p : Nat) => (gone.filter fun m => decide (m.port = p)).map (·.gid)
  { g with redKids := g.redKids.map fun k => match gone.find? fun m => decide (m.gid = k.gid) with
      | some m => { k with left := true, members := behind m.port }
      | none => k }

/-- NCH of this Gremon's plan goes to the root, which refuses an F too short for it (R114).
Log: entry 60 (DESIGN CHOICE; DEDUCED; PRESUMED). -/
def Gremon.planSend (g : Gremon) : Gremon :=
  if !g.root && g.tree.joined then g.ownMsg g.tree.root 4 (leBytes 2 g.gid ++ leBytes 4 g.svc.planNch) else g

/-- Whether some plan of the pod domain would exceed the Guyline limit at F = `fUs` µs. -/
def Gremon.planClash (g : Gremon) (fUs : Nat) : Bool :=
  planTooWide g.svc.planNch fUs || g.svc.plans.any fun e => (g.tree.joinedAs.any fun m => decide (m.1 = e.1)) && planTooWide e.2 fUs

/-! ### Own vector -/

/-- PRIO as its function uses it. -/
def Gremon.prio (g : Gremon) : Nat := if g.parityBad 0x3008008 then 128 else g.fld 0x3008008 7 0
/-- The module serial. -/
def Gremon.serial (g : Gremon) : W64 := BitVec.ofNat 64 (g.reg64 0x10)
/-- A root begins with itself as the one member it may hold (R433).
Log: entry 19 (DEDUCED; DESIGN CHOICE). -/
def Tree.asRoot (t : Tree) (gid : Nat) : Tree :=
  { t with joinedAs := t.joinedAs.filter fun m => decide (m.1 = gid), pruned := [], lostOnce := [] }

/-- Change the tree. A Gremon that becomes root keeps its PT and its rate and is LOCKED to itself (R143, R145); a change of
root closes every feed (R540). -/
def Gremon.onTree (g : Gremon) (f : Tree → Tree) : Gremon :=
  let was := g.root
  let from' := g.tree.root
  let g := { g with tree := f g.tree }
  let g : Gremon := { g with feeds := if g.tree.root = from' then g.feeds else [] }
  let g := { g with root := decide (g.tree.root = g.gid) && decide (g.tree.phase ≠ 3) && !g.tree.none }
  if g.root && !was && decide (g.clock.own ≠ .unset) then { g with clock := { g.clock with own := .locked } } else g

/-- The latest HELLOs on ports that are UP. -/
def Gremon.heard (g : Gremon) : Tbl Hello := g.tree.hellos.filter fun e => g.portUp e.1
/-- The path from the root to this Gremon. -/
def Gremon.path (g : Gremon) : List Nat :=
  match g.tree.parent with
  | some p => match Tbl.find g.tree.hellos p with
    | some h => h.path ++ [g.gid]
    | none => [g.gid]
  | none => [g.gid]

/-- Ports that lead to children (R434), and the role of a port (Table 13.15), which a FORMED Gremon alone has set.
Log: entry 19 (DEDUCED; DESIGN CHOICE). -/
def Gremon.childPorts (g : Gremon) : List Nat :=
  if g.tree.none then [] else (g.heard.filter fun e => decide (e.2.parent = g.gid) && decide (g.tree.parent ≠ some e.1)).map (·.1)
def Gremon.role (g : Gremon) (p : Nat) : Nat :=
  if !g.portUp p || g.tree.none || decide (g.tree.phase ≠ 2) then 0
  else if g.tree.parent = some p then 1
  else if g.tree.alt = some p then 2
  else match Tbl.find g.tree.hellos p with
    | some h => if h.parent = g.gid then 3 else if h.root = g.tree.root then 4 else 0
    | none => 0

/-! ### Election (R430, R432) -/

/-- A root vector: priority, root, depth, sender, port. -/
structure RVec where
  prio : Nat
  root : Nat
  depth : Nat
  sender : Nat
  port : Nat
deriving DecidableEq, Repr

/-- Tuples compare element by element, lowest first. -/
def lexLt : List Nat → List Nat → Bool
  | a :: x, b :: y => decide (a < b) || (decide (a = b) && lexLt x y)
  | _, _ => false
def RVec.key (v : RVec) : List Nat := [v.prio, v.root, v.depth, v.sender, v.port]

/-- The best vector, and whether a better root lies too deep.
Log: entry 19 (DEDUCED; DESIGN CHOICE). -/
def Gremon.elect (g : Gremon) : RVec × Bool :=
  let me : RVec := { prio := g.prio, root := g.gid, depth := 0, sender := g.gid, port := 7 }
  g.heard.foldl (fun (b : RVec × Bool) e =>
    let h := e.2
    if h.sender = g.gid ∨ (g.tree.stale.any fun s => decide (s.1 = h.root)) = true ∨ h.path.contains g.gid = true then b
    else
      let v : RVec := { prio := h.rootPrio, root := h.root, depth := h.depth + 1, sender := h.sender, port := e.1 }
      let less := lexLt v.key b.1.key
      if h.depth + 1 > 15 then (b.1, b.2 || less) else if less then (v, b.2) else b) (me, false)

/-- The precomputed ALT_PARENT (R432). -/
def Gremon.altParent (g : Gremon) : Option Nat :=
  match g.tree.parent with
  | none => none
  | some pp =>
    let pid := ((Tbl.find g.tree.hellos pp).map (·.sender)).getD 1024
    let cands := (g.heard.filter fun e =>
      decide (e.1 ≠ pp) && decide (e.2.root = g.tree.root) && !e.2.path.contains g.gid && decide (e.2.depth + 1 ≤ 15)).map fun e =>
        [b2n (e.2.path.contains pid), e.2.depth, e.2.sender, e.1]
    match cands with
    | [] => none
    | c :: t => some ((t.foldl (fun b x => if lexLt x b then x else b) c).getD 3 7)

/-- The master changes (Table 4.10): LOCKED becomes HOLDOVER; the first exchanges on the new link measure D (R148). -/
def Gremon.newMaster (g : Gremon) : Gremon :=
  let r := g.clock.hold g.uncert
  let g := { g with clock := { r.1 with measure := 4, hist := [], waiting := false } }
  if r.2.held then g.raise .holdover [] else g

/-- Follow the election: PARENT, root and depth, or REFUSED (R430). -/
def Gremon.follow (g : Gremon) : Gremon :=
  let r := g.elect
  let v := r.1
  let port := if v.port = 7 then none else some v.port
  let t := g.tree
  if r.2 ∧ v.root = g.gid then
    let g' := g.onTree fun t => { t with phase := 3, parent := none, alt := none, root := g.gid, rootPrio := g.prio, depth := 0 }
    if t.phase = 3 then g' else g'.raise .treeFull []
  else
    let changed := decide (t.root ≠ v.root ∨ t.parent ≠ port ∨ t.depth ≠ v.depth ∨ t.rootPrio ≠ v.prio ∨ t.phase = 3)
    let new := decide (v.root = g.gid) && !g.root
    let g := g.onTree fun t => { (if new then t.asRoot g.gid else t) with
      root := v.root, rootPrio := v.prio, depth := v.depth, parent := port, since := if changed then g.clk else t.since
      phase := if t.phase = 3 then 1 else t.phase, beatAt := if changed then g.clk else t.beatAt }
    let g := if port.isSome && decide (t.parent ≠ port ∨ t.root ≠ v.root) then g.newMaster else g
    g.onTree fun t => { t with alt := g.altParent }

/-- Back to FORMING, electing without the stale roots (R435); the node's own state changes only as the outcome of the
election says (Table 4.10). -/
def Gremon.reform (g : Gremon) : Gremon :=
  ({ g with tree := { g.tree with phase := 1, joined := false, since := g.clk } } : Gremon).follow

/-- A port reaches UP: FORMING from the first (R431). -/
def Gremon.treePortUp (g : Gremon) : Gremon :=
  if g.tree.phase = 0 then (g.onTree fun t => { t with phase := 1, joined := false, since := g.clk }).follow else g

/-- A Gremon that has heard no one is the root and the one member of its own tree (R430, Table 13.14: ALONE). -/
def Gremon.beAlone (g : Gremon) : Gremon :=
  g.onTree fun t => { t with
    phase := 0, root := g.gid, rootPrio := g.prio, depth := 0, parent := none, alt := none, joined := true
    joinedAs := [(g.gid, g.serial)] }

/-! ### HELLO (R429–R431) -/

/-- The body of this Gremon's HELLO (Table 13.14). -/
def Gremon.helloBody (g : Gremon) : List Byte :=
  let pid := match g.tree.parent with
    | some p => ((Tbl.find g.tree.hellos p).map (·.sender)).getD 0xFFFF
    | none => 0xFFFF
  leBytes 1 g.prio ++ leBytes 1 g.tree.rootPrio ++ leBytes 1 g.tree.depth ++ leBytes 1 g.tree.phase ++ leBytes 2 g.tree.root ++
    leBytes 2 pid ++ leBytes 4 g.tree.beat ++ leBytes 4 g.tree.epoch ++
    (g.path ++ List.replicate (16 - g.path.length) 0xFFFF).flatMap (leBytes 2) ++ leBytes 8 g.serial.toNat ++ leBytes 8 0

/-- HELLO_TIMER (R429): the root's BEAT advances, and every UP port sends a HELLO. -/
def Gremon.helloTimer (g : Gremon) : Gremon :=
  let g := if g.root then g.onTree fun t => { t with beat := (t.beat + 1) % 2 ^ 32 } else g
  (List.range 6).foldl (fun g p =>
    if g.portUp p then
      g.rlSend p vcControl (g.rlMsg 0x01 1 ((g.neighbour p).getD ((g.port p).neighbour.getD 0)) 0 0 g.helloBody)
    else g) g

/-- A HELLO as heard. -/
def Hello.ofMsg (m : List Byte) (now : Nat) : Hello :=
  { sender := leAt m 8 2, prio := leAt m 16 1, rootPrio := leAt m 17 1, depth := leAt m 18 1, phase := leAt m 19 1
    root := leAt m 20 2, parent := leAt m 22 2, beat := leAt m 24 4, epoch := leAt m 28 4
    path := ((List.range 16).map fun i => leAt m (32 + 2 * i) 2).filter fun x => decide (x < 1024)
    serial := BitVec.ofNat 64 (leAt m 64 8), at' := now }

/-- HELLO_RX (R430–R432, R435). A FORMED Gremon changes its parent only when the root changes.
Log: entry 19 (DEDUCED; DESIGN CHOICE). -/
def Gremon.helloRx (g : Gremon) : Gremon :=
  g.onRl 0x01 fun g m =>
    let h := Hello.ofMsg m.bytes g.clk
    if h.sender = g.gid then g.raise .dupGremonId []
    else if m.port ≥ 6 then g
    else
      let g := g.setPort m.port { g.port m.port with helloAt := some g.clk }
      let g := g.onTree fun t => { t with hellos := Tbl.put t.hellos m.port h }
      let g := if g.tree.parent = some m.port ∧ h.root = g.tree.root then
          g.onTree fun t => { t with
            beat := h.beat, beatAt := if h.beat ≠ t.beat then g.clk else t.beatAt, epoch := h.epoch
            depth := if t.phase = 2 then min 15 (h.depth + 1) else t.depth }
        else g
      if g.tree.phase = 2 then
        (if g.elect.1.root ≠ g.tree.root ∧ ¬(g.elect.2 = true ∧ g.elect.1.root = g.gid) then g.reform
         else g.onTree fun t => { t with alt := g.altParent })
      else if g.tree.phase = 0 then g
      else g.follow

/-! ### Joining (R431, R433) -/

/-- A JOIN, REHOME or PRUNE message listing members (Table 13.14). -/
def Gremon.joinBody (g : Gremon) (kind : Nat) (l : List (Nat × Nat)) : List Byte :=
  leBytes 2 g.gid ++ leBytes 1 kind ++ leBytes 1 0 ++ leBytes 2 l.length ++ leBytes 2 0 ++ leBytes 8 g.serial.toNat ++ leBytes 8 0 ++
    l.flatMap fun e => leBytes 2 e.1 ++ leBytes 1 e.2 ++ leBytes 1 0

/-- Send such a message to the PARENT, addressed to the root. -/
def Gremon.joinUp (g : Gremon) (kind : Nat) (l : List (Nat × Nat)) : Gremon :=
  match g.tree.parent with
  | some p => g.rlSend p vcControl (g.rlMsg 0x02 0 g.tree.root 0 0 (g.joinBody kind l))
  | none => g

/-- TREE_FORMED (R431, R433): 2 ms without a change. The root joins itself.
Log: entry 19 (DEDUCED; DESIGN CHOICE). -/
def Gremon.treeFormed (g : Gremon) : Gremon :=
  if g.tree.phase ≠ 1 then g
  else
    let g := g.moveTo (g.tree.since + 2000000)
    let g := g.onTree fun t => { t with phase := 2, lostOnce := [] }
    if g.root then
      g.onTree fun t => { t with joined := true, joinedAs := (g.gid, g.serial) :: t.joinedAs.filter fun m => decide (m.1 ≠ g.gid) }
    else g.joinUp 0 [(g.gid, g.tree.moves)]

/-- The members that a JOIN, REHOME or PRUNE lists, with their MOVES. -/
def joinList (m : List Byte) : List (Nat × Nat) := (List.range (leAt m 20 2)).map fun i => (leAt m (40 + 4 * i) 2, leAt m (42 + 4 * i) 1)

/-- Record members under a port (R428, R437). -/
def Tree.record (t : Tree) (port : Nat) (re : Bool) (l : List (Nat × Nat)) : Tree :=
  { t with subtree := l.foldl (fun s e =>
      { gid := e.1, port := port, moves := e.2, rehomed := re } :: s.filter fun m => decide (m.gid ≠ e.1)) t.subtree }

/-- Pass a message of a member on up, one hop further. -/
def Gremon.passUp (g : Gremon) (m : List Byte) : Gremon :=
  match g.tree.parent with
  | some p =>
    let hops := leAt m 2 1 + 1
    if hops ≥ 32 then g.raise .rlHops []
    else g.rlSend p vcControl (m.take 2 ++ leBytes 1 hops ++ m.drop 3)
  | none => g

/-- JOIN_ACK (Table 13.14), sent back the way the JOIN came, since a refused ID names another Gremon here. -/
def Gremon.joinAck (g : Gremon) (port gid verdict depth : Nat) : Gremon :=
  g.rlSend port vcControl (g.rlMsg 0x03 0 gid 0 0
    (leBytes 1 verdict ++ leBytes 1 depth ++ leBytes 2 0 ++ leBytes 4 g.tree.epoch))

/-- A received JOIN message of a kind is taken. -/
def Gremon.onJoin (g : Gremon) (kind : Nat) (f : Gremon → RlMsgIn → Gremon) : Gremon :=
  match takeFirst (fun m => decide (leAt m.bytes 0 1 = 0x02) && decide (leAt m.bytes 18 1 = kind)) g.rlIn with
  | some (m, r) => f { g with rlIn := r } m
  | none => g

/-- JOIN_RX (R433, R21): recorded and passed on; the root accepts or refuses.
Log: entry 19 (DEDUCED; DESIGN CHOICE). -/
def Gremon.joinRx (g : Gremon) : Gremon :=
  g.onJoin 0 fun g m =>
    let b := m.bytes
    let id := leAt b 16 2
    let ser := BitVec.ofNat 64 (leAt b 24 8)
    if g.root then
      let depth := leAt b 2 1 + 1
      let held := g.tree.joinedAs.any fun x => decide (x.1 = id) && decide (x.2 ≠ ser)
      if id = g.gid ∨ held then
        ((g.raise .dupGremonId []).onTree fun t => { t with epoch := (t.epoch + 1) % 2 ^ 32 }).joinAck m.port id 1 depth
      else
        let g := (g.memberAnew id).onTree fun t =>
          { (t.record m.port false (joinList b)) with
            epoch := (t.epoch + 1) % 2 ^ 32, joinedAs := (id, ser) :: t.joinedAs.filter (fun x => decide (x.1 ≠ id))
            pruned := t.pruned.filter fun x => decide (x.1 ≠ id) }
        g.joinAck m.port id 0 depth
    else ((g.memberAnew id).onTree fun t => t.record m.port false (joinList b)).passUp b

/-- JOIN_ACK_RX (R433, R21): a Gremon that learns that its ID is present raises the event too. -/
def Gremon.joinAckRx (g : Gremon) : Gremon :=
  g.onRl 0x03 fun g m =>
    let v := leAt m.bytes 16 1
    if v = 0 then (g.onTree fun t => { t with joined := true, none := false, epoch := leAt m.bytes 20 4 }).trayAll.planSend
    else
      let g := g.onTree fun t => { t with joined := false, none := true, parent := none, alt := none }
      if v = 1 then g.raise .dupGremonId [] else g

/-! ### Re-homing and pruning (R437, R438) -/

/-- The records a REHOME may bring: those not outdone by a record of higher MOVES. -/
def Tree.rehomeList (t : Tree) (l : List (Nat × Nat)) : List (Nat × Nat) :=
  l.filter fun e => !(t.subtree.any fun m => decide (m.gid = e.1) && decide (m.moves > e.2)) &&
    !(t.pruned.any fun x => decide (x.1 = e.1) && decide (x.2.1 > e.2))

/-- REHOME at a Gremon on the new path: the listed members stand under the arrival port; the root takes them back.
Log: entry 19 (DEDUCED; DESIGN CHOICE). -/
def Gremon.rehome (g : Gremon) (port : Nat) (b : List Byte) : Gremon :=
  let l := g.tree.rehomeList (joinList b)
  let g : Gremon := { g with redKids := g.redKids.filter fun k => !(l.any fun e => decide (e.1 = k.gid)) }
  let g := g.onTree fun t => { (t.record port true l) with pruned := t.pruned.filter fun x => !(l.any fun e => decide (e.1 = x.1)) }
  if g.root then g else g.passUp b

/-- PRUNE (R438): members whose record is not newer leave the tables; the root starts their 50 ms.
Log: entry 19 (DEDUCED; DESIGN CHOICE). -/
def Gremon.pruneMembers (g : Gremon) (l : List (Nat × Nat)) : Gremon :=
  let gone := g.tree.subtree.filter fun m =>
    l.any fun e => decide (e.1 = m.gid) && (decide (e.2 > m.moves) || (decide (e.2 = m.moves) && !m.rehomed))
  let g := (g.membersGone gone).onTree fun t => { t with subtree := t.subtree.filter fun m => !gone.contains m }
  if g.root then
    g.onTree fun t => { t with
      pruned := gone.foldl (fun p m => (m.gid, m.moves, g.clk) :: p.filter fun x => decide (x.1 ≠ m.gid)) t.pruned }
  else g

/-- PRUNE_RX. -/
def Gremon.pruneRx (g : Gremon) : Gremon :=
  g.onJoin 2 fun g m =>
    let g := g.pruneMembers (joinList m.bytes)
    if g.root then g else g.passUp m.bytes

/-- CHILD_PORT_DOWN (R438): a CHILD port that is DOWN loses its subtree, and its members are pruned above. -/
def Gremon.childDown (g : Gremon) (p : Nat) : Gremon :=
  let mine := g.tree.subtree.filter fun m => decide (m.port = p)
  if g.portUp p ∨ g.tree.parent = some p then g
  else
    let l := mine.map fun m => (m.gid, m.moves)
    let g := (g.membersGone mine).onTree fun t => { t with
      subtree := t.subtree.filter (fun m => decide (m.port ≠ p)), hellos := Tbl.erase t.hellos p
      alt := if t.alt = some p then none else t.alt }
    if l.isEmpty then g
    else if g.root then
      g.onTree fun t => { t with
        pruned := l.foldl (fun q m => (m.1, m.2, g.clk) :: q.filter fun x => decide (x.1 ≠ m.1)) t.pruned }
    else g.joinUp 2 l

/-- Whether the PARENT has failed (R437), once its 300 µs of silence are over. -/
def Gremon.parentDue (g : Gremon) : Option Nat :=
  match g.tree.parent with
  | some p => if !g.portUp p then some g.clk else some (((g.port p).helloAt.getD 0) + 300000)
  | none => none

/-- What a stale root had under way ends here (R435). -/
def Gremon.dropRoot (g : Gremon) (r : Nat) : Gremon :=
  { g with bcasts := (g.bcasts.filter fun b => decide (b.bid.toNat % 1024 ≠ r)),
           queries := (g.queries.filter fun q => decide (q.qid.toNat % 1024 ≠ r)),
           feeds := g.feeds.filter fun f => decide (f.fid.toNat % 1024 ≠ r) }

/-- PARENT_FAIL (R437): the ALT_PARENT becomes the PARENT and hears REHOME; with none, the old root is stale. -/
def Gremon.parentFail (g : Gremon) : Gremon :=
  match g.parentDue, g.tree.parent with
  | some due, some p =>
    let g := g.moveTo due
    let alt := if (g.tree.alt.map g.portUp).getD false then g.tree.alt else none
    match alt with
    | some a =>
      let d := ((Tbl.find g.tree.hellos a).map (·.depth)).getD 14 + 1
      let g := (g.onTree fun t => { t with
        parent := some a, hellos := Tbl.erase t.hellos p, depth := min 15 d, moves := (t.moves + 1) % 256, beatAt := g.clk }).newMaster
      let g := g.onTree fun t => { t with alt := g.altParent }
      (g.joinUp 1 ((g.gid, g.tree.moves) :: g.tree.subtree.map fun m => (m.gid, m.moves))).trayAll
    | none =>
      ((g.onTree fun t =>
        { t with
          hellos := Tbl.erase t.hellos p
          stale := (t.root, g.clk) :: t.stale.filter fun s => decide (s.1 ≠ t.root) }).dropRoot g.tree.root).reform
  | _, _ => g

/-- ROOT_STALE (R435): the BEAT has stood for 5 ms. -/
def Gremon.rootStale (g : Gremon) : Gremon :=
  if g.tree.parent.isNone then g
  else
    let g := g.moveTo (g.tree.beatAt + 5000000)
    let r := g.tree.root
    ((g.onTree fun t => { t with stale := (r, g.clk) :: t.stale.filter fun s => decide (s.1 ≠ r) }).dropRoot r).reform

/-- STALE_EXPIRY (R435): a root leaves the stale set after 100 ms. -/
def Gremon.staleExpiry (g : Gremon) : Gremon :=
  match g.tree.stale with
  | [] => g
  | s :: t =>
    let first := t.foldl (fun n x => min n x.2) s.2
    let g := g.moveTo (first + 100000000)
    g.onTree fun t => { t with stale := t.stale.filter fun x => decide (g.clk < x.2 + 100000000) }

end Sys2Proof.Machine
end

