-- ==== Sys2Proof/Machine/Records.lean ====
section
/-! DEFINITION. Gremon's black-box record, the host-write set and DEFAULTED records, and the trace collector
(18 R596–R600, 20 R653–R665). -/
namespace Sys2Proof.Machine
open Sys2Proof

/-! ### Black-box record (R653–R658) -/

/-- Change the black-box record. -/
def Gremon.onBb (g : Gremon) (f : BlackBox → BlackBox) : Gremon := { g with sys := { g.sys with bb := f g.sys.bb } }
/-- Change power, trace, thermal and telemetry state. -/
def Gremon.onPwr (g : Gremon) (f : Power → Power) : Gremon := { g with sys := { g.sys with pwr := f g.sys.pwr } }
def Gremon.onTrc (g : Gremon) (f : TraceCol → TraceCol) : Gremon := { g with sys := { g.sys with trc := f g.sys.trc } }
def Gremon.onTel (g : Gremon) (f : Telemetry → Telemetry) : Gremon := { g with sys := { g.sys with tel := f g.sys.tel } }

/-- BOOT_COUNT (Table 17.5). -/
def Gremon.bootCount (g : Gremon) : Nat := g.fld kModule 31 16

/-- A record as stored: header, body, CRC, padded to 64 bytes (R653). -/
def BbRec.bytes (r : BbRec) : List Byte :=
  let b := leBytes 2 r.ty ++ leBytes 2 (b2n r.pin) ++ leBytes 4 r.body.length ++ leBytes 8 r.bseq ++ leBytes 2 r.boot ++
    leBytes 2 0 ++ r.stamp.bytes ++ r.body
  let b := b ++ leBytes 4 (crc32c b)
  padTo ((b.length + 63) / 64 * 64) b

/-- Bytes that a record with a body of `n` bytes takes. -/
def bbSize (n : Nat) : Nat := (n + 99) / 64 * 64

/-- Extents that hold records, with the one being filled. -/
def BlackBox.used (b : BlackBox) : List Nat := (b.cur :: b.recs.map (·.ext)).eraseDups

/-- The free extent with the lowest write count, the lowest number first (R656). -/
def BlackBox.freeExtent (b : BlackBox) : Nat :=
  let us := b.used
  ((List.range 4096).foldl (fun (m : Option (Nat × Nat)) e =>
    if us.contains e then m
    else
      let w := Tbl.get 0 b.writes e
      match m with
      | some (_, v) => if w < v then some (e, w) else m
      | none => some (e, w)) none).elim b.cur (·.1)

/-- Room for a record of `n` bytes: in the extent being filled, or in a free one.
Log: entry 49 (DEDUCED; DESIGN CHOICE). -/
def BlackBox.place (b : BlackBox) (n : Nat) : BlackBox :=
  if b.fill + n ≤ 65536 then { b with fill := b.fill + n }
  else
    let e := b.freeExtent
    { b with cur := e, fill := n, writes := Tbl.upd 0 b.writes e (· + 1) }

/-- What is to be written: type, key, whether it is pinned, body. -/
structure BbNew where
  ty   : Nat
  key  : Nat := 0
  pin  : Bool := false
  body : List Byte
deriving DecidableEq, Repr

/-- One record written; a pinned record that does not fit the 1 MiB is written unpinned (R655).
Log: entry 49 (DEDUCED; DESIGN CHOICE). -/
def BlackBox.write (boot : Nat) (st : Stamp) (b : BlackBox) (r : BbNew) : BlackBox :=
  let n := bbSize r.body.length
  let fits := decide (b.pinned + n ≤ 1048576)
  let b := b.place n
  { b with
    recs := b.recs ++ [{ ty := r.ty, pin := r.pin && fits, bseq := b.next, boot := boot, stamp := st, body := r.body
                         key := r.key, ext := b.cur }]
    next := b.next + 1
    pinned := if r.pin && fits then b.pinned + n else b.pinned
    pinFull := b.pinFull || (r.pin && !fits) }

/-- BB_COMMIT (R654): the records as one group, closed with a COMMIT record.
Log: entry 49 (DEDUCED; DESIGN CHOICE). -/
def Gremon.bbCommit (g : Gremon) (rs : List BbNew) : Gremon :=
  if rs.isEmpty then g
  else
    g.onBb fun b =>
      let first := b.next
      let b := rs.foldl (BlackBox.write g.bootCount g.stamp) b
      let crc := crc32c ((b.recs.filter fun r => decide (r.bseq ≥ first)).flatMap BbRec.bytes)
      b.write g.bootCount g.stamp { ty := 2, body := leBytes 8 first ++ leBytes 4 rs.length ++ leBytes 4 crc }

/-- The PT, in ns, of the latest COMMIT (R145, R654). -/
def Gremon.lastCommit (g : Gremon) : Option Nat :=
  ((g.sys.bb.recs.filter fun r => decide (r.ty = 2)).getLast?).map fun r => r.stamp.ns.toNat

/-- The codes whose records become FAULT records (Table 20.5). -/
def bbFaultCodes : List Nat :=
  [Ev.code .canopyLinkFail, Ev.code .stackFail, Ev.code .reduceFail, Ev.code .tsePlaneFail, Ev.code .kitFault,
   Ev.code .residueErr]

/-- A FAULT record; the first of each code is pinned (R655). -/
def Gremon.bbFault (g : Gremon) (e : GEvent) : Gremon :=
  let c := e.code.toNat
  let first := !g.sys.bb.firsts.contains c
  let g := g.bbCommit [{ ty := 11, pin := first, body := e.bytes }]
  g.onBb fun b => { b with firsts := if first then c :: b.firsts else b.firsts }

/-- EVTAIL: the last 60 recorder records. -/
def Gremon.evTail (g : Gremon) : BbNew :=
  { ty := 13
    body := (List.range 60).flatMap fun i =>
      match (if g.log.wr + i ≥ 60 then Tbl.find g.log.slots ((g.log.wr + i - 60) % 16384) else none) with
      | some e => e.bytes
      | none => [] }

/-- The host-write set as HWSET records (Table 20.5), 253 entries a record.
Log: entry 41 (DEDUCED; DESIGN CHOICE). -/
def hwEntryBytes (e : HwEntry) : List Byte := leBytes 1 e.space ++ leBytes 3 0 ++ leBytes 4 e.addr ++ leBytes 4 e.pda ++ leBytes 4 e.value
/-- Log: entry 41 (DEDUCED; DESIGN CHOICE). -/
def hwRecs (es : List HwEntry) : List BbNew :=
  let cs := chunks 253 (es.length + 1) es
  ((List.range cs.length).zip cs).map fun p => { ty := 3, key := p.1, body := p.2.flatMap hwEntryBytes }

/-- A write of the persistent configuration store: while an activated image awaits its CONFIRM it goes to the new copy
only (R639, R641). -/
def Gremon.nvWrite (g : Gremon) (on : Bool) : Gremon :=
  if on && decide (g.fld 0x10210 2 0 = 4) then { g with sys := { g.sys with upd := { g.sys.upd with nvWrites := true } } } else g

/-- Commit the host-write set (R596).
Log: entry 41 (DEDUCED; DESIGN CHOICE). -/
def Gremon.hwCommit (g : Gremon) (more : List BbNew) : Gremon :=
  let es := g.sys.pwr.hwSet
  let rs := hwRecs es
  let g := g.nvWrite g.sys.pwr.hwDirty
  let g := g.bbCommit ((if rs.isEmpty then [{ ty := 3, body := [] }] else rs) ++ more)
  g.onPwr fun p => { p with hwDirty := false, hwCommitted := es }

/-- HWSET_COMMIT (R596): in a second in which the set has changed. -/
def Gremon.hwsetCommit (g : Gremon) : Gremon := if g.sys.pwr.hwDirty && g.sys.pwr.rails then g.hwCommit [] else g

/-- What the last applied Defaults Image set, as IMGLIST records in HWSET form (Table 20.5).
Log: entry 41 (DEDUCED; DESIGN CHOICE). -/
def imgRecs (es : List HwEntry) : List BbNew := (hwRecs es).map fun r => { r with ty := 4 }

/-- State types, and the records that a later one of the same type and key supersedes (R655). -/
def bbState (ty : Nat) : Bool := decide (ty = 3 ∨ ty = 4 ∨ ty = 7 ∨ ty = 9)
/-- Log: entry 49 (DEDUCED; DESIGN CHOICE). -/
def BlackBox.live (b : BlackBox) (r : BbRec) : Bool :=
  r.pin || (bbState r.ty &&
    (decide (r.ty = 7) || !(b.recs.any fun x => decide (x.ty = r.ty ∧ x.key = r.key ∧ x.bseq > r.bseq))))

/-- Committed groups, oldest first: each ends with its COMMIT.
Log: entry 49 (DEDUCED; DESIGN CHOICE). -/
def bbGroups : List BbRec → List BbRec → List (List BbRec)
  | acc, [] => if acc.isEmpty then [] else [acc]
  | acc, r :: t => if r.ty = 2 then (acc ++ [r]) :: bbGroups [] t else bbGroups (acc ++ [r]) t

/-- Extents that records take when laid out anew. -/
def bbExtents (rs : List BbRec) : Nat :=
  (rs.foldl (fun (s : Nat × Nat) r =>
    let n := bbSize r.body.length
    if s.2 + n ≤ 65536 then (s.1, s.2 + n) else (s.1 + 1, n)) (1, 0)).1

/-- Drop the oldest groups that hold nothing live until at least half of the extents would be free. -/
def bbDrop (keep : List BbRec → Bool) : List (List BbRec) → List (List BbRec)
  | [] => []
  | x :: t => if bbExtents ((x :: t).flatten) ≤ 2048 then x :: t else if keep x then x :: bbDrop keep t else bbDrop keep t

/-- Copy a record forward into the extent being filled or a free one. -/
def BlackBox.copyOn (b : BlackBox) (r : BbRec) : BlackBox :=
  let b := { b with recs := b.recs.filter fun x => decide (x.bseq ≠ r.bseq) }
  let b := b.place (bbSize r.body.length)
  { b with recs := (b.recs.takeWhile fun x => decide (x.bseq < r.bseq)) ++ { r with ext := b.cur } ::
      b.recs.dropWhile fun x => decide (x.bseq < r.bseq) }

/-- BB_COMPACTION (R656): with under a quarter of the extents free, live and newest records move forward; otherwise the
records of an extent with pinned records that trails the highest write count by more than 2¹⁶ move.
Log: entry 49 (DEDUCED; DESIGN CHOICE). -/
def Gremon.bbCompact (g : Gremon) : Gremon :=
  let b := g.sys.bb
  if g.sys.pwr.brace then g
  else if 4 * (4096 - b.used.length) < 4096 then
    let groups := bbGroups [] b.recs
    let kept := (bbDrop (fun x => x.any b.live) groups).flatten
    g.onBb fun b => kept.foldl BlackBox.copyOn { b with recs := kept, cur := b.freeExtent, fill := 0 }
  else
    let top := b.writes.foldl (fun n e => max n e.2) 0
    match (b.recs.find? fun r => r.pin && decide (Tbl.get 0 b.writes r.ext + 65536 < top)).map (·.ext) with
    | some x => g.onBb fun b => (b.recs.filter fun r => decide (r.ext = x)).foldl BlackBox.copyOn b
    | none => g

/-- BB_MIRROR_COPY (R657): every committed group is in the NOR mirror. -/
def Gremon.bbMirror (g : Gremon) : Gremon := if g.sys.pwr.brace then g else g.onBb fun b => { b with mirrored := b.next }

/-- The record that the window shows (R658), and GR_BB_STAT.
Log: entry 49 (DEDUCED; DESIGN CHOICE). -/
def Gremon.bbShown (g : Gremon) : Option BbRec :=
  let v := g.reg 0x1800004 + 2 ^ 32 * g.reg 0x1800008
  g.sys.bb.recs.find? fun r => decide (r.bseq ≥ v)
def Gremon.bbStat (g : Gremon) : Nat :=
  let b := g.sys.bb
  b.used.length * 100 / 4096 + 128 * b2n b.pinFull + 256 * b2n (decide (b.mirrored < b.next)) + 65536 * sat 0xFFFF b.lost
/-- Log: entry 49 (DEDUCED; DESIGN CHOICE). -/
def Gremon.bbWord (g : Gremon) (w : Nat) : Nat :=
  match g.bbShown with
  | some r => leAt r.bytes (4 * w) 4
  | none => 0

/-! ### DEFAULTED and the host-write set (R596–R600) -/

/-- A DEFAULTED record (R598).
Log: entry 41 (DEDUCED; DESIGN CHOICE). -/
def Gremon.defaulted (g : Gremon) (space addr pda before now reason : Nat) : Gremon :=
  let g := g.raise .defaulted (leBytes 1 space ++ leBytes 4 addr ++ (if space = 2 ∨ space = 3 then leBytes 4 pda else []) ++
    leBytes 4 before ++ leBytes 4 now ++ leBytes 1 reason)
  g.onPwr fun p => { p with defaulted := sat 0xFFFF (p.defaulted + 1) }

/-- SPACE and address of a Gremon register key. -/
def keySpace (k : Nat) : Nat := if k ≥ ind 0 then 1 else 0
def keyAddr (k : Nat) : Nat := if k ≥ ind 0 then k - ind 0 else k

/-- F and n as AL_FRAME_ACT holds them (Table 4.28). -/
def frameAct (f n : Nat) : Nat := f + 2 ^ 14 * n

/-- A write by host software, MGMT or CD firmware acting for them enters the host-write set; a setting back at the value
that boot applied leaves it.
Log: entry 40 (DEDUCED; DESIGN CHOICE), entry 41 (DEDUCED; DESIGN CHOICE). -/
def Gremon.hwNote (g : Gremon) (space addr pda before value : Nat) : Gremon :=
  let same := fun (e : HwEntry) => decide (e.space = space ∧ e.addr = addr ∧ e.pda = pda)
  let was := ((g.sys.pwr.hwSet.find? same).map (·.before)).getD before
  let rest := g.sys.pwr.hwSet.filter fun e => !same e
  let set := if value = was then rest else rest ++ [{ space := space, addr := addr, pda := pda, before := was, value := value }]
  if set = g.sys.pwr.hwSet then g else g.onPwr fun p => { p with hwSet := set, hwDirty := true }

/-! ### Trace collector (R659–R665) -/

/-- The priority of a source's group (Table 20.9).
Log: entry 50 (DEDUCED). -/
def Gremon.trcPrio (g : Gremon) (src : Nat) : Nat :=
  let grp := if src < 0x200 then src / 32 else if src < 0x1000 then 16 else 17
  if grp < 16 then g.fld 0x2000090 (2 * grp + 1) (2 * grp) else g.fld 0x2000094 (2 * (grp - 16) + 1) (2 * (grp - 16))

/-- Collection is on, and takes packets. -/
def Gremon.trcOn (g : Gremon) : Bool := decide (g.sys.trc.state = 1 ∨ g.sys.trc.state = 2) && !g.conf

/-- Bytes of the HBM trace reserve. -/
def trcReserve : Nat := hpaCow - hpaTrace

/-- Collection stops (R665). -/
def Gremon.trcStop (g : Gremon) : Gremon := (g.onTrc fun t => { t with state := 3 }).raise .traceStop []

/-- A chunk goes to the sink (R664).
Log: entry 50 (DEDUCED). -/
def Gremon.trcChunk (g : Gremon) (src : Nat) (pk : List Byte) : Gremon :=
  let t := g.sys.trc
  let n := Tbl.get 0 t.cseq src
  let bs := leBytes 2 src ++ leBytes 2 pk.length ++ leBytes 4 n ++ padTo ((pk.length + 7) / 8 * 8) pk
  let g := g.onTrc fun t => { t with cseq := Tbl.set 0 t.cseq src ((n + 1) % 2 ^ 32) }
  if !bit (g.reg 0x2000000) 1 then g.onTrc fun t => { t with port := t.port ++ bs }
  else if !bit (g.reg 0x2000000) 2 && decide (t.wp + bs.length > trcReserve) then g.trcStop
  else
    let room := trcReserve - t.wp % trcReserve
    let g := (g.wrFrom 31 (hbmCna (hpaTrace + t.wp % trcReserve)) (bs.take room)).wrFrom 31 (hbmCna hpaTrace) (bs.drop room)
    g.onTrc fun t => { t with wp := t.wp + bs.length }

/-- Sources with packets waiting, by SRCID. -/
def TraceCol.waiting (t : TraceCol) : List Nat :=
  (t.srcs.filter fun e => !e.2.buf.isEmpty).map (·.1) ++ t.dieQ.map (·.1)

/-- The next source: highest priority first, then round-robin in ascending SRCID (R663).
Log: entry 50 (DEDUCED). -/
def Gremon.trcNext (g : Gremon) : Option Nat :=
  let t := g.sys.trc
  let key := fun (s : Nat) => (3 - g.trcPrio s) * 2 ^ 32 + (s + 2 ^ 16 - t.turn - 1) % 2 ^ 16
  match t.waiting with
  | [] => none
  | s :: r => some (r.foldl (fun b x => if key x < key b then x else b) s)

/-- One chunk of the next source goes to the sink. -/
def Gremon.trcDrainOne (g : Gremon) : Gremon :=
  match g.trcNext with
  | none => g
  | some s =>
    let g := g.onTrc fun t => { t with turn := s }
    match takeFirst (fun (e : Nat × List Byte) => decide (e.1 = s)) g.sys.trc.dieQ with
    | some (e, r) => (g.onTrc fun t => { t with dieQ := r }).trcChunk s e.2
    | none =>
      let c := Tbl.get TrcSrc.reset g.sys.trc.srcs s
      let p := takePackets 4096 c.buf
      (g.onTrc fun t => { t with srcs := Tbl.set TrcSrc.reset t.srcs s { c with buf := p.2 } }).trcChunk s p.1.flatten

/-- TRACE_DRAIN (R663).
Log: entry 50 (DEDUCED). -/
def Gremon.traceDrain (g : Gremon) : Gremon := if g.trcOn then g.trcDrainOne else g

/-- The trigger (R665): one TRIG chunk and TRACE_TRIGGER; a second one before the stop has no effect. -/
def Gremon.traceFire (g : Gremon) : Gremon :=
  if g.sys.trc.state ≠ 1 ∨ g.conf = true then g
  else
    let g := g.trcChunk 0xFFFF pktTrig
    let g := if g.sys.trc.state = 1 then g.onTrc fun t => { t with state := 2, trigAt := g.clk } else g
    g.raise .traceTrigger []

/-- TRACE_TICK_TRIGGER. -/
def Gremon.traceTick (g : Gremon) : Gremon :=
  if bit (g.reg 0x2000000) 5 && decide (g.sys.trc.state = 1) && decide (g.clock.own ≠ .unset) then
    (g.moveTo (g.reg64 0x200000C)).traceFire
  else g

/-- TRACE_STOP (R665): DELAY µs after the trigger the buffers are flushed and collection stops. -/
def Gremon.traceStop (g : Gremon) : Gremon :=
  if g.sys.trc.state ≠ 2 then g
  else
    let g := g.moveTo (g.sys.trc.trigAt + 1000 * g.reg 0x2000008)
    let g := { g with sys := { g.sys with trc := { g.sys.trc with srcs := g.sys.trc.srcs.map fun e =>
      (e.1, e.2.flush { room := 4096, st := g.stamp, at' := g.clk, pc := 0, ctx := 0 }) } } }
    let n := g.sys.trc.srcs.foldl (fun n e => n + e.2.buf.length) g.sys.trc.dieQ.length
    let g := loop Gremon.trcDrainOne n g
    if g.sys.trc.state = 3 then g else g.trcStop

/-- The EN bit of GR_TRC_CTL starts and ends collection.
Log: entry 50 (DEDUCED). -/
def Gremon.trcEnable (g : Gremon) (on : Bool) : Gremon :=
  g.onTrc fun t =>
    if on then (if t.state = 0 then { t with state := 1, wp := 0, cseq := [], srcs := [], dieQ := [], dieLost := [] } else t)
    else { t with state := 0, srcs := [], dieQ := [], dieLost := [] }

/-- TRACE_BRANCH_FLUSH and TRACE_SYNC_TIMER at a core's source (R660, R661). -/
def Gremon.traceFlush (g : Gremon) (n : Nat) : Gremon :=
  let s := Tbl.get TrcSrc.reset g.sys.trc.srcs n
  if s.bits.isEmpty then g else (g.moveTo (s.bitAt + 1000)).traceCore n fun s e => s.flush e
def Gremon.traceSync (g : Gremon) (n : Nat) : Gremon :=
  let s := Tbl.get TrcSrc.reset g.sys.trc.srcs n
  if !s.started then g
  else (if s.bytes ≥ 4096 then g else g.moveTo (s.syncAt + 100000)).traceCore n fun s e => s.emitSync e

/-- A chunk of a die comes to its 4 KiB buffer in TD (R663): one that does not fit is discarded and counted, until 256 bytes
are free; then DROP goes before the next.
Log: entry 50 (DEDUCED). -/
def TraceCol.dieChunk (t : TraceCol) (src : Nat) (pk : List Byte) : TraceCol :=
  let held := t.dieQ.foldl (fun n e => if e.1 = src then n + e.2.length else n) 0
  let lost := Tbl.get 0 t.dieLost src
  if held + pk.length > 4096 ∨ (lost > 0 ∧ held > 3840) then { t with dieLost := Tbl.set 0 t.dieLost src (lost + pk.length) }
  else
    { t with dieQ := t.dieQ ++ (if lost > 0 then [(src, pktDrop lost)] else []) ++ [(src, pk)], dieLost := Tbl.set 0 t.dieLost src 0 }

/-- TRACE_RX (R663): a die's packets become a chunk for the collector. -/
def Gremon.traceRx (g : Gremon) (lane : Nat) : Gremon :=
  let l := g.lane lane
  match takeFirst (fun m => decide (leAt m.bytes 0 1 = 3)) l.inbox with
  | none => g
  | some (m, r) =>
    let g := g.setLane lane { l with inbox := r }
    if !g.trcOn || !bit (g.reg (0x2000040 + 4 * 17)) 0 || decide (g.sys.pwr.pstate = 3) then g
    else g.onTrc fun t => t.dieChunk (0x1000 + 8 * lane + leAt m.bytes 4 1 % 8) ((m.bytes.drop 8).take (leAt m.bytes 6 2))

end Sys2Proof.Machine
end

