-- ==== Sys2Proof/Machine/Spares.lean ====
section
/-! DEFINITION. Health of Gremon's physical analysis cores and the moves to spares (06 R229, R230; 15 R520–R526). -/
namespace Sys2Proof.Machine
open Sys2Proof

/-- GR_CT_MAP_c_p (Table 6.10) and GR_CORE_ERR_c_p (Table 15.13). -/
def kCtMap (ct p : Nat) : Nat := ind 0x40000 + 0x100 * ct + 4 * p
def kCoreErr (ct p : Nat) : Nat := ind 0xD1000 + 0x100 * ct + 4 * p

/-- A core about which nothing is noted. -/
def CoreHealth.ok : CoreHealth := { hour := 0, ce := 0, lastRes := none, testEnd := none, move := false, retire := false }
def Gremon.coreNote (g : Gremon) (ct p : Nat) : CoreHealth := Tbl.get CoreHealth.ok g.svc.scr.cores (64 * ct + p)
def Gremon.setCoreNote (g : Gremon) (ct p : Nat) (h : CoreHealth) : Gremon :=
  g.onSvc fun s => { s with scr := { s.scr with cores := Tbl.set CoreHealth.ok s.scr.cores (64 * ct + p) h } }

/-- The physical core that serves a slot of a CT. -/
def Gremon.servedBy (g : Gremon) (ct s : Nat) : Option Nat :=
  (List.range 34).find? fun p => decide (g.reg (kCtMap ct p) % 128 = 32 + s)

/-- The spare of a CT that may be switched in: neither active nor retired, and of good health. -/
def Gremon.spareOf (g : Gremon) (ct : Nat) : Option Nat :=
  (List.range 34).find? fun p => !bit (g.reg (kCtMap ct p)) 5 && !bit (g.reg (kCtMap ct p)) 6 && decide (g.fld (kCoreErr ct p) 1 0 = 0)

/-- A core is RETIRED (R523). -/
def Gremon.retireCore (g : Gremon) (ct p : Nat) : Gremon :=
  let g := (g.setReg (kCtMap ct p) 64).setFld (kCoreErr ct p) 1 0 3
  let g := g.setCoreNote ct p { g.coreNote ct p with testEnd := none, move := false, retire := false }
  (g.bbCommit [{ ty := 7, body := leBytes 1 ct ++ leBytes 1 p ++ g.stamp.bytes }]).raise .coreRetired []

/-- A SUSPECT core that is out of service is tested for 10 ms, or retired without a test (R523). -/
def Gremon.testCore (g : Gremon) (ct p : Nat) : Gremon :=
  let h := g.coreNote ct p
  if h.retire then g.retireCore ct p
  else (g.setFld (kCoreErr ct p) 1 0 2).setCoreNote ct p { h with move := false, testEnd := some (g.clk + 10000000) }

/-- CORE_TEST_END (R523). -/
def Gremon.coreTestEnd (g : Gremon) (ct p : Nat) (pass : Bool) : Gremon :=
  let h := g.coreNote ct p
  match h.testEnd with
  | none => g
  | some t =>
    let g := g.moveTo t
    if pass then (g.setFld (kCoreErr ct p) 1 0 0).setCoreNote ct p { h with testEnd := none } else g.retireCore ct p

/-- A core becomes SUSPECT (R521): its logical core will move at a boundary; a spare is tested at once.
Log: entry 28 (DEDUCED; DESIGN CHOICE). -/
def Gremon.suspectCore (g : Gremon) (ct p : Nat) : Gremon :=
  if g.fld (kCoreErr ct p) 1 0 ≠ 0 then g
  else
    let g := g.setFld (kCoreErr ct p) 1 0 1
    if bit (g.reg (kCtMap ct p)) 5 then g.setCoreNote ct p { g.coreNote ct p with move := true } else g.testCore ct p

/-- The logical core of `p` moves to a spare (R522): whether its slot is still served (R524). The spare begins within 200
cycles, which CYCLE counts.
Log: entry 28 (DEDUCED; DESIGN CHOICE). -/
def Gremon.moveCore (g : Gremon) (ct p : Nat) : Gremon × Bool :=
  let slot := g.reg (kCtMap ct p) % 32
  let spare := g.spareOf ct
  let g := g.setReg (kCtMap ct p) 0
  match spare with
  | none => (g.testCore ct p, false)
  | some q =>
    let g := g.setReg (kCtMap ct q) (32 + slot)
    let (f, g) := g.draw
    let n := 32 * ct + slot
    let c := Tbl.find g.cores n
    let g : Gremon := match c with
      | some c => if c.run then { g with cores := Tbl.put g.cores n { c with cycle := max c.cycle c.vdone + f % 201 } } else g
      | none => g
    ((g.testCore ct p).raise .coreMove [], true)

/-- A blame (R520). -/
def Gremon.blameCore (g : Gremon) (ct p : Nat) : Gremon :=
  (g.setFld (kCoreErr ct p) 23 16 (sat 255 (g.fld (kCoreErr ct p) 23 16 + 1))).suspectCore ct p

/-- A corrected error of a core's registers (R518, R521): counted by the hour, more than CE_MAX make it SUSPECT. -/
def Gremon.coreCe (g : Gremon) (ct p : Nat) : Gremon :=
  let h := g.coreNote ct p
  let hour := g.now / 3600000000000
  let n := (if h.hour = hour then h.ce else 0) + 1
  let g := (g.setFld (kCoreErr ct p) 31 24 (sat 255 n)).setCoreNote ct p { h with hour := hour, ce := n }
  if n > g.fld (ind 0xD0004) 23 8 then g.suspectCore ct p else g

/-- A residue mismatch of a core (R519, R521, R523): a second one within 24 h retires it. -/
def Gremon.coreResidue (g : Gremon) (ct p : Nat) : Gremon :=
  let h := g.coreNote ct p
  let again := match h.lastRes with
    | some t => decide (g.clk < t + 86400000000000)
    | none => false
  let g := g.setFld (kCoreErr ct p) 15 8 (sat 255 (g.fld (kCoreErr ct p) 15 8 + 1))
  (g.setCoreNote ct p { h with lastRes := some g.clk, retire := again }).suspectCore ct p

end Sys2Proof.Machine
end

