-- ==== Sys2Proof/Machine/KitCheck.lean ====
section
/-! DEFINITION. Kit packages and the loader's checks (12 R387–R398, Table 12.9). -/
namespace Sys2Proof.Machine
open Sys2Proof

/-! ### The package (Tables 12.1–12.8) -/

/-- A section: its type, body offset and length. -/
structure KSect where
  ty  : Nat
  ofs : Nat
  len : Nat
  crc : Nat
deriving DecidableEq, Repr

def pkSects (p : List Byte) : List KSect :=
  (List.range (leAt p 6 2)).map fun i =>
    { ty := leAt p (64 + 16 * i) 2, ofs := leAt p (68 + 16 * i) 4, len := leAt p (72 + 16 * i) 4, crc := leAt p (76 + 16 * i) 4 }
def sectBody (p : List Byte) (s : KSect) : List Byte := (p.drop s.ofs).take s.len
def pkOf (p : List Byte) (ty : Nat) : List KSect := (pkSects p).filter fun s => decide (s.ty = ty)
/-- The body of the first section of a type; empty where there is none. -/
def pkBody (p : List Byte) (ty : Nat) : List Byte := (((pkOf p ty).head?).map (sectBody p)).getD []

def pkJob (p : List Byte) : Nat := leAt p 16 2
def pkBoot (p : List Byte) : Bool := bit (leAt p 19 1) 0
def pkRes (p : List Byte) : List Byte := pkBody p 1
def resHbm (p : List Byte) : Nat := leAt (pkRes p) 0 8
def resFt (p : List Byte) : Nat := leAt (pkRes p) 8 4
def resNobj (p : List Byte) : Nat := leAt (pkRes p) 12 2
def resReduce (p : List Byte) : Nat := leAt (pkRes p) 16 8
def resBulk (p : List Byte) : Nat := leAt (pkRes p) 24 8
def resEnv (p : List Byte) : Nat := leAt (pkRes p) 32 4
def resHist (p : List Byte) : Bool := bit (leAt (pkRes p) 36 1) 0
/-- Fields of CT entry `c`: cores, CT-buffer bytes, engine rates. -/
def resCt (p : List Byte) (c o n : Nat) : Nat := leAt (pkRes p) (64 + 32 * c + o) n
def resCores (p : List Byte) (c : Nat) : Nat := resCt p c 0 1
/-- An engine rate of CT entry `c`; a CT without cores takes nothing (R390). -/
def resTake (p : List Byte) (c o : Nat) : Nat := if resCores p c = 0 then 0 else resCt p c o 4

/-- CODE sections: the logical core 32·CT + slot, load address, entry and code. -/
structure KCode where
  core  : Nat
  load  : Nat
  entry : Nat
  code  : List Byte
deriving DecidableEq, Repr

def pkCodes (p : List Byte) : List KCode :=
  (pkOf p 2).map fun s =>
    let b := sectBody p s
    { core := 32 * leAt b 0 1 + leAt b 1 1, load := leAt b 4 4, entry := leAt b 8 4, code := (b.drop 16).take (leAt b 12 4) }

/-- Channel map fields (Table 12.5). -/
def pkMap (p : List Byte) : List Byte := pkBody p 5
def mapCh0 (p : List Byte) : Nat := leAt (pkMap p) 0 2
def mapNchk (p : List Byte) : Nat := leAt (pkMap p) 2 2
def mapNbuf (p : List Byte) : Nat := leAt (pkMap p) 4 1
def mapEvlen (p : List Byte) : Nat := leAt (pkMap p) 8 4
def mapEvobj (p : List Byte) : Nat := leAt (pkMap p) 12 2
/-- The CT that takes a lane, 255 where none does: a CT without cores takes nothing (R390). -/
def mapCt (p : List Byte) (lane : Nat) : Nat :=
  let c := leAt (pkMap p) (32 + lane) 1
  if (pkMap p).isEmpty ∨ c ≥ 16 ∨ resCores p c = 0 then 255 else c
def mapPlan (p : List Byte) (i : Nat) : Nat := leAt (pkMap p) (544 + 8 * i) 4
def mapConf (p : List Byte) (i : Nat) : Nat := leAt (pkMap p) (548 + 8 * i) 4
/-- Lanes that the kit takes, and those of a CT, in ascending order. -/
def mapLanes (p : List Byte) : List Nat := (List.range 512).filter fun l => decide (mapCt p l < 16)
def mapLanesOf (p : List Byte) (c : Nat) : List Nat := (List.range 512).filter fun l => decide (mapCt p l = c)

/-- The register key of the source that a plan word names, none for NONE and UNMAPPED. -/
def planKey (w : Nat) : Option Nat :=
  let s := bits w 14 2
  match w % 4 with
  | 0 => if s < 4096 then some (ind 0x10000 + 4 * s) else none
  | 1 => some (0x2000 + 4 * s)
  | 2 => some (0x3000 + 4 * s)
  | _ => none

/-- A reduction declaration (Table 12.8). -/
structure RDecl where
  rid   : Nat
  job   : Nat
  opc   : Nat
  fmt   : Nat
  nelem : Nat
  param : Nat
  pkind : Nat
  pod   : Bool
  inobj : Nat
  p     : Nat
  hop   : Nat
  pers  : Nat
  unit  : Nat
deriving DecidableEq, Repr

def pkReduces (p : List Byte) : List RDecl :=
  let b := pkBody p 7
  (List.range (b.length / 32)).map fun i =>
    let f := fun o n => leAt b (32 * i + o) n
    { rid := f 0 4, job := f 4 2, opc := f 6 1, fmt := f 7 1, nelem := f 8 4, param := f 12 4, pkind := f 16 1
      pod := decide (f 17 1 = 1), inobj := f 18 2, p := f 20 4, hop := f 24 2, pers := f 26 2, unit := f 28 1 }

def RDecl.scale (d : RDecl) : Int := toInt 16 d.param
def RDecl.k (d : RDecl) : Nat := d.param % 256
def RDecl.dir (d : RDecl) : Bool := bit d.param 8
def RDecl.plen (d : RDecl) : Nat := d.nelem * opcBytes d.opc
def RDecl.identity (d : RDecl) : List Byte :=
  (List.replicate d.nelem (opcIdent d.opc d.fmt d.scale d.k d.dir)).flatten
/-- Two declarations of one reduction agree in all that every Gremon must hold alike. -/
def RDecl.same (a b : RDecl) : Bool := decide ({ a with inobj := 0 } = { b with inobj := 0 })

/-- CTs that a kit declares, in ascending order. -/
def pkCts (p : List Byte) : List Nat := (List.range 16).filter fun c => decide (resCores p c > 0)

/-- Schedule: RESTART, WEDGE_N and the phases CAD, BAR, START, DEADLINE (R401). -/
def pkSched (p : List Byte) : List Byte := pkBody p 6
def schedRestart (p : List Byte) : Nat := leAt (pkSched p) 0 1
def schedWedge (p : List Byte) : Nat := leAt (pkSched p) 1 1
def schedNph (p : List Byte) : Nat := leAt (pkSched p) 2 1
def phCad (p : List Byte) (i : Nat) : Nat := leAt (pkSched p) (16 + 16 * i) 1
def phBar (p : List Byte) (i : Nat) : Nat := leAt (pkSched p) (18 + 16 * i) 2
def phStart (p : List Byte) (i : Nat) : Nat := leAt (pkSched p) (20 + 16 * i) 4
def phDead (p : List Byte) (i : Nat) : Nat := leAt (pkSched p) (24 + 16 * i) 4

/-- Objects: KIND and initial word. -/
def syncKind (p : List Byte) (i : Nat) : Nat := leAt (pkBody p 9) (8 * i) 1
def syncInit (p : List Byte) (i : Nat) : Nat := leAt (pkBody p 9) (8 * i + 4) 4

/-- ENS sections: CTMASK without the CTs that have no cores (R390), ROWS and the image. -/
def pkEns (p : List Byte) : List (Nat × Nat × List Byte) :=
  (pkOf p 4).map fun s =>
    let b := sectBody p s
    ((pkCts p).foldl (fun n c => if bit (leAt b 0 2) c then n + 2 ^ c else n) 0, leAt b 4 8, b.drop 16)

/-! ### Areas of a CT-buffer grant (R393–R398) -/

/-- Bytes of the ingest area and of the event ring on CT `c`. -/
def ingestBytes (p : List Byte) (c : Nat) : Nat :=
  let d := (mapLanesOf p c).length
  8 * mapNchk p * mapNbuf p * d + 16 * mapNbuf p * d
def ringBytes (p : List Byte) (c : Nat) : Nat :=
  if mapEvlen p = 0 ∨ (mapLanesOf p c).isEmpty then 0 else 64 + 128 * mapEvlen p
/-- Offsets in the grant: the ingest area follows the declared bytes, then the event ring, then one input slot per
reduction in declaration order.
Log: entry 31 (DEDUCED; DESIGN CHOICE). -/
def areaOfs (p : List Byte) (c : Nat) : Nat := resCt p c 4 4
def ringOfs (p : List Byte) (c : Nat) : Nat := areaOfs p c + ingestBytes p c
def slotOfs (p : List Byte) (c r : Nat) : Nat :=
  ((pkReduces p).take r).foldl (fun n d => n + 64 + d.plen) (ringOfs p c + ringBytes p c)
/-- All that the kit takes of a CT buffer. -/
def bufBytes (p : List Byte) (c : Nat) : Nat :=
  if resCores p c = 0 then 0 else slotOfs p c (pkReduces p).length

/-! ### Integrity checks (codes 1–10) -/

def ascii3224 : Nat := 0x00343232332D5247

/-- Sections do not overlap, lie behind the table and inside the package, and everything outside them is 0. -/
def sectsLaid (p : List Byte) (ss : List KSect) : Bool :=
  let top := 64 + 16 * ss.length
  (ss.all fun s => decide (s.ofs % 64 = 0) && decide (top ≤ s.ofs) && decide (s.ofs + s.len ≤ p.length)) &&
  ((List.range ss.length).all fun i => (List.range i).all fun j =>
    let a := ss.getD i { ty := 0, ofs := 0, len := 0, crc := 0 }
    let b := ss.getD j { ty := 0, ofs := 0, len := 0, crc := 0 }
    decide (a.ofs + a.len ≤ b.ofs) || decide (b.ofs + b.len ≤ a.ofs)) &&
  ((List.range (p.length - top)).all fun i =>
    let o := top + i
    decide (leAt p o 1 = 0) || ss.any fun s => decide (s.ofs ≤ o) && decide (o < s.ofs + s.len))

/-- Type counts, with RES first and SIG last. -/
def countsOk (p : List Byte) (ss : List KSect) : Bool :=
  let n := fun t => (ss.filter fun s => decide (s.ty = t)).length
  decide ((ss.head?).map (·.ty) = some 1) && decide ((ss.getLast?).map (·.ty) = some 15) && decide (n 1 = 1) && decide (n 15 = 1) &&
    decide (n 4 ≤ 16) && decide (n 5 ≤ 1) && decide (n 6 = 1) && decide (n 7 ≤ 1) && decide (n 8 ≤ 1) && decide (n 9 = 1) &&
    (ss.all fun s => decide ((1 ≤ s.ty ∧ s.ty ≤ 9) ∨ s.ty = 15)) && decide ((pkBody p 15).length = 96)

/-- CODE and DATA sections lie inside what the kit declares. -/
def codesOk (p : List Byte) : Bool :=
  let cs := pkCodes p
  ((pkOf p 2).all fun s =>
    let b := sectBody p s
    decide (16 ≤ s.len) && decide (leAt b 0 1 < 16) && decide (leAt b 1 1 < 32) && zeros b 2 2 && decide (s.len = 16 + leAt b 12 4)) &&
  (cs.all fun c =>
    let top := c.load + roundUp64 c.code.length
    decide (c.load % 64 = 0) && decide (top ≤ 0x200000) && decide (c.load ≤ c.entry) && decide (c.entry < top)) &&
  decide ((cs.map (·.core)).eraseDups.length = cs.length) &&
  ((List.range 16).all fun c => decide ((cs.filter fun x => decide (x.core / 32 = c)).length = resCores p c))
def dataOk (p : List Byte) : Bool :=
  (pkOf p 3).all fun s =>
    let b := sectBody p s
    let t := leAt b 0 1
    let c := leAt b 1 1
    let o := leAt b 8 8
    let n := s.len - 16
    decide (16 ≤ s.len) && zeros b 3 5 &&
    (match t with
      | 0 => decide (leAt b 2 1 < 32) && (pkCodes p).any (fun k => decide (k.core = 32 * c + leAt b 2 1)) && decide (o + n ≤ 0x200000)
      | 1 => decide (c < 16) && decide (o + n ≤ bufBytes p c)
      | 2 => decide (o + n ≤ resHbm p)
      | _ => false)

/-- RES, SYNC, CHMAP, HIST and REDUCE bodies have their sizes and reserved zeros. -/
def bodiesOk (p : List Byte) : Bool :=
  let r := pkRes p
  let m := pkMap p
  let rd := pkBody p 7
  decide (r.length = 576) && decide (resHbm p % 1048576 = 0) && zeros r 14 2 && decide (leAt r 36 1 < 2) && zeros r 37 27 &&
  decide (resEnv p % 64 = 0) && decide (resEnv p + 256 ≤ 0x200000) &&
  ((List.range 16).all fun c => decide (resCores p c ≤ 32) && zeros r (64 + 32 * c + 1) 3 && zeros r (64 + 32 * c + 24) 8) &&
  decide ((pkBody p 9).length = 8 * resNobj p) &&
  ((List.range (resNobj p)).all fun i => decide (1 ≤ syncKind p i) && decide (syncKind p i ≤ 3) && zeros (pkBody p 9) (8 * i + 1) 3) &&
  (m.isEmpty ||
    (decide (m.length = 544 + 8 * mapNchk p) && decide (1 ≤ mapNchk p) && decide (mapNchk p ≤ 4096) && decide (2 ≤ mapNbuf p) &&
      decide (mapNbuf p ≤ 8) && zeros m 5 3 && zeros m 14 2 &&
      (decide (mapEvlen p = 0) || (decide (64 ≤ mapEvlen p) && decide (mapEvlen p ≤ 65536) && decide (2 ^ Nat.log2 (mapEvlen p) = mapEvlen p))) &&
      ((List.range 512).all fun l => decide (leAt m (32 + l) 1 < 16) || decide (leAt m (32 + l) 1 = 255)))) &&
  ((pkOf p 8).isEmpty ||
    (decide ((pkBody p 8).length = 4 * mapNchk p) && ((List.range (mapNchk p)).all fun i =>
      decide (leAt (pkBody p 8) (4 * i) 1 < 8) && decide (leAt (pkBody p 8) (4 * i + 1) 1 < 3) &&
        decide (leAt (pkBody p 8) (4 * i + 2) 1 < 2) && zeros (pkBody p 8) (4 * i + 3) 1))) &&
  decide (rd.length % 32 = 0) && decide (rd.length ≤ 1024) && ((List.range (rd.length / 32)).all fun i => zeros rd (32 * i + 29) 3) &&
  ((pkOf p 4).all fun s => decide (16 ≤ s.len) && zeros (sectBody p s) 2 2 && zeros (sectBody p s) 12 4)

/-- Check 1 of Table 12.9. -/
def pkFormatOk (p : List Byte) (boot : Bool) : Bool :=
  let ss := pkSects p
  decide (leAt p 0 4 = 0x54494B58) && decide (leAt p 4 2 = 1) && decide (4 ≤ leAt p 6 2) && decide (leAt p 6 2 ≤ 1024) &&
  decide (leAt p 18 1 < 16) && decide (leAt p 19 1 < 2) && decide (leAt p 20 4 = p.length) && decide (p.length % 64 = 0) && decide (leAt p 24 8 = ascii3224) &&
  zeros p 32 32 && (ss.all fun s => decide (leAt p (66 + 16 * (ss.idxOf s)) 2 = 0)) && sectsLaid p ss &&
  (ss.all fun s => decide (crc32c (sectBody p s) = s.crc)) && countsOk p ss && bodiesOk p && codesOk p && dataOk p &&
  (!boot || pkBoot p)

/-- Check 5: the schedule (R401), and relative objects of the right kind. -/
def Gremon.pkSchedOk (g : Gremon) (p : List Byte) : Bool :=
  let b := pkSched p
  let n := schedNph p
  let isObj := fun o k => decide (o < resNobj p) && decide (syncKind p o = k)
  decide (schedRestart p ≤ 15) && decide (1 ≤ schedWedge p) && decide (1 ≤ n) && decide (n ≤ 16) && decide (b.length = 16 + 16 * n) &&
  zeros b 3 13 &&
  ((List.range n).all fun i =>
    let len := if phCad p i = 0 then g.frameNs else g.scoreNs
    decide (leAt b (17 + 16 * i) 1 ≤ 4) && zeros b (28 + 16 * i) 4 &&
    (match phCad p i with
      | 2 => decide (phBar p i = 0xFFFF) && decide (phStart p i = 0) && decide (phDead p i = 0)
      | 0 | 1 => isObj (phBar p i) 2 && decide (phStart p i < phDead p i) && decide (phDead p i ≤ phStart p i + len)
      | _ => false)) &&
  (mapEvlen p = 0 || decide (mapEvobj p < resNobj p)) &&
  ((pkReduces p).all fun d => (List.range (pkCts p).length).all fun i => decide (d.inobj + i < resNobj p))

/-- Whether a declaration is in range (Table 12.8, Table 9.1). -/
def RDecl.ok (d : RDecl) : Bool :=
  decide (1 ≤ d.opc) && decide (d.opc ≤ 6) && decide (d.fmt ≤ 9) && decide (1 ≤ d.nelem) && decide (d.pkind ≤ 2) &&
  decide (d.unit ≤ 2) &&
  (match d.opc with
    | 1 => decide (d.param < 65536)
    | 2 => decide (1 ≤ d.k) && decide (d.k ≤ 64) && decide (d.param < 512)
    | _ => decide (d.param = 0)) &&
  (if d.pkind = 2 then decide (1 ≤ d.pers) && decide (d.pers ≤ 1000) else decide (d.pers = 0))

/-- Kits that hold resources: every slot that is not EMPTY. -/
def Gremon.resident (g : Gremon) : List (Nat × KitSlot) := g.kits.filter fun e => decide (e.2.state ≠ 0)
/-- Resident declarations. -/
def Gremon.decls (g : Gremon) : List RDecl := g.resident.flatMap fun e => pkReduces e.2.pkg

/-- Check 6: ranges, SCOPE, one declaration for each RID, and agreement with resident ones. -/
def Gremon.pkReduceOk (g : Gremon) (p : List Byte) : Bool :=
  let ds := pkReduces p
  (ds.all RDecl.ok) && decide ((ds.map (·.rid)).eraseDups.length = ds.length) &&
  ((List.range ds.length).all fun i => decide (leAt (pkBody p 7) (32 * i + 17) 1 ≤ 1)) &&
  (ds.all fun d => g.decls.all fun e => decide (e.rid ≠ d.rid) || e.same d)

/-- Whether an operator key slot verifies anything: one of the 16, neither empty nor revoked (R389). -/
def Gremon.opKeyOk (g : Gremon) (i : Nat) : Bool :=
  match g.sys.pwr.keys[i]? with
  | some k => decide (i < 16) && !k.key.isEmpty && !k.revoked
  | none => false

/-- Codes 1–9 in order, 0 where all pass; SECT and DETAIL of a bad ensemble. `sigOk`: the signature verifies.
Log: entry 10 (DESIGN CHOICE). -/
def Gremon.kitIntegrity (g : Gremon) (p : List Byte) (boot sigOk : Bool) : Nat × Nat × Nat :=
  let es := pkEns p
  let badE := (List.range es.length).find? fun i => !ensOk ((es.getD i (0, 0, [])).2.2)
  if !pkFormatOk p boot then (1, 255, 0)
  else if !g.opKeyOk (leAt p 18 1) then (2, 255, 0)
  else if !sigOk then (3, 255, 0)
  else match badE with
    | some i => (4, (pkSects p).idxOf ((pkOf p 4).getD i { ty := 0, ofs := 0, len := 0, crc := 0 }), i)
    | none =>
      if decide ((es.map fun e => leAt e.2.2 0 4).eraseDups.length ≠ es.length) then (4, 255, 0)
      else if !g.pkSchedOk p then (5, 255, 0)
      else if !g.pkReduceOk p then (6, 255, 0)
      else if (decide (pkJob p ≠ 0) && (g.jobInfo (pkJob p)).isNone) || (boot && decide (pkJob p ≠ 0)) then (7, 255, 0)
      else if g.sys.pwr.pstate ≥ 2 ∨ g.sys.pwr.brace = true then (8, 255, 0)
      else if g.resident.length ≥ 64 then (9, 255, 0)
      else (0, 255, 0)

/-! ### Resource checks (codes 16–28) -/

/-- Slots of CT `c` that a physical core serves (Table 6.10), and that no kit holds.
Log: entry 31 (DEDUCED; DESIGN CHOICE). -/
def Gremon.slotServed (g : Gremon) (c s : Nat) : Bool :=
  (g.servedBy c s).isSome
/-- Log: entry 31 (DEDUCED; DESIGN CHOICE). -/
def Gremon.slotFree (g : Gremon) (c s : Nat) : Bool :=
  g.slotServed c s && !(g.resident.any fun e => e.2.cores.contains (32 * c + s))
def Gremon.freeSlots (g : Gremon) (c : Nat) : List Nat := (List.range 32).filter (g.slotFree c)

/-- The lowest start, a multiple of `u`, at which `n` of `total` lie clear of the ranges taken.
Log: entry 31 (DEDUCED; DESIGN CHOICE). -/
def firstFit (taken : List (Nat × Nat)) (u n total : Nat) : Option Nat :=
  ((0 :: taken.map fun t => (t.1 + t.2 + u - 1) / u * u).foldl (fun (b : Option Nat) s =>
    if s + n ≤ total ∧ (taken.all fun t => decide (s + n ≤ t.1) || decide (t.1 + t.2 ≤ s)) = true then
      (match b with
        | some x => some (min x s)
        | none => some s)
    else b) none)

/-- Grants taken: CT-buffer units of 64 KiB, kit space, Feature Table rows, objects. -/
def Gremon.bufTaken (g : Gremon) (c : Nat) : List (Nat × Nat) :=
  g.resident.filterMap fun e => Tbl.find e.2.bufs c
def Gremon.hbmTaken (g : Gremon) : List (Nat × Nat) := (g.resident.map fun e => e.2.hbm).filter fun t => decide (t.2 > 0)
def Gremon.ftTaken (g : Gremon) : List (Nat × Nat) := (g.resident.map fun e => e.2.ft).filter fun t => decide (t.2 > 0)
def Gremon.objTaken (g : Gremon) : List (Nat × Nat) :=
  (g.resident.map fun e => (e.2.obj0, e.2.nobj)).filter fun t => decide (t.2 > 0)

/-- Bytes rounded up to 64 KiB units. -/
def bufUnits (n : Nat) : Nat := (n + 65535) / 65536 * 65536

/-- Operations per second that a kit's reductions charge to an engine of CT `c` (R398), numerators over F in ns. -/
def Gremon.redCharge (g : Gremon) (p : List Byte) (c : Nat) (sketch : Bool) : Nat :=
  (pkReduces p).foldl (fun n d =>
    let on := decide (c = d.rid % 16) || decide (c = (d.rid % 16) ^^^ 8)
    let e := if d.opc = 1 then 2053 else if d.opc = 2 then d.k else 1
    let per := if d.pkind = 0 then 1000000000 / max 1 g.frameNs else if d.pkind = 1 then 1000000000 / max 1 g.scoreNs else d.pers
    if on && (decide (d.opc = 1) == sketch) then n + ((pkCts p).length + 6) * d.nelem * e * per else n) 0

/-- Charges of a package on CT `c`: sketch in units of 1/32 value (a bucket addition), top-k, baseline, coder.
Log: entry 31 (DEDUCED; DESIGN CHOICE). -/
def Gremon.engCharges (g : Gremon) (p : List Byte) (c : Nat) : List Nat :=
  [32000000 * resTake p c 8 + g.redCharge p c true, 1000000 * resTake p c 12 + g.redCharge p c false,
   1000000 * resTake p c 16, 1000000 * resTake p c 20]
/-- 90 % of the rates of Table 8.7, in the same units. -/
def engLimits : List Nat := [115200000000, 1800000000, 18000000000, 57600000000]

/-- AL_CFGID's sensor channels, as the die on a lane gave them. -/
def cfgSnp (cfg : Nat) : Nat := bits cfg 22 16

/-- The plan check of a channel of a package on a die (PLAN_SRC of Table 3.11). -/
def planBad (p : List Byte) (snp i : Nat) : Bool :=
  let w := mapPlan p i
  let s := bits w 14 2
  match w % 4 with
  | 0 => decide (s > 4096)
  | 1 => decide (s ≥ 1024)
  | 2 => decide (s ≥ 64) || decide (s ≥ snp) || decide (bits (mapConf p i) 2 0 ≥ 6) || decide (bits (mapConf p i) 4 3 = 3)
  | _ => decide (s ≠ 0)

/-- Sources of a package's plan that one channel alone may own. -/
def planSources (p : List Byte) : List (Nat × Nat) :=
  ((List.range (mapNchk p)).map fun i => (mapPlan p i % 4, bits (mapPlan p i) 14 2)).filter fun s => decide (s.1 ≠ 3)

/-- NCH of the union plan of some packages (R392). -/
def unionNch (ps : List (List Byte)) : Nat :=
  ps.foldl (fun n p => if (pkMap p).isEmpty then n else max n (mapCh0 p + mapNchk p)) 0

/-- A failing resource check: its code, DETAIL, what was asked and what was free. -/
structure ResFail where
  code   : Nat
  detail : Nat
  asked  : Nat
  free   : Nat
deriving DecidableEq, Repr

/-- The first failing index of a check. -/
def firstBad (l : List Nat) (bad : Nat → Option (Nat × Nat)) (code : Nat) : List ResFail :=
  match l.findSome? fun i => (bad i).map fun r => (i, r) with
  | some (i, a, f) => [{ code := code, detail := i, asked := a, free := f }]
  | none => []

/-- The CTs that ensembles of a package name. -/
def ensCts (p : List Byte) : List Nat := (List.range 16).filter fun c => (pkEns p).any fun e => e.1.testBit c

/-- Every resource check (R397), in the order of their codes.
Log: entry 31 (DEDUCED; DESIGN CHOICE). -/
def Gremon.kitResources (g : Gremon) (p : List Byte) : List ResFail :=
  let cts := List.range 16
  let others := g.resident.map fun e => e.2.pkg
  let mine := fun c => (pkEns p).filter fun e => e.1.testBit c
  let lanes := (mapLanes p).filter fun l => (g.die l).accepted
  let cir := match g.tree.parent with
    | some q => fun cls => some (12500000 * g.fld (kShape q cls) 11 0)
    | none => fun _ => none
  let share := fun (f : List Byte → Nat) cls =>
    match cir cls with
    | some lim =>
      let used := others.foldl (fun n q => n + f q) 0
      if f p > 0 ∧ used + f p > lim then some (f p, lim - used) else none
    | none => none
  firstBad cts (fun c =>
    let free := g.freeSlots c
    let want := ((pkCodes p).filter fun k => decide (k.core / 32 = c)).map fun k => k.core % 32
    if want.all free.contains then none else some (resCores p c, free.length)) 16 ++
  firstBad cts (fun c =>
    let n := bufUnits (bufBytes p c)
    let used := (g.bufTaken c).foldl (fun n t => n + t.2) 0
    if n = 0 ∨ (firstFit (g.bufTaken c) 65536 n 0x4000000).isSome = true then none
    else some (bufBytes p c, 0x4000000 - used)) 17 ++
  firstBad [0] (fun _ =>
    if resHbm p = 0 ∨ (firstFit g.hbmTaken 1048576 (resHbm p) (hpaTrace - hpaKit)).isSome = true then none
    else some (resHbm p, hpaTrace - hpaKit - g.hbmTaken.foldl (fun n t => n + t.2) 0)) 18 ++
  firstBad [0] (fun _ =>
    if resFt p = 0 ∨ (firstFit g.ftTaken 1 (resFt p) 1048576).isSome = true then none
    else some (resFt p, 1048576 - g.ftTaken.foldl (fun n t => n + t.2) 0)) 19 ++
  firstBad [0] (fun _ =>
    if resNobj p = 0 ∨ (firstFit g.objTaken 1 (resNobj p) 16384).isSome = true then none
    else some (resNobj p, 16384 - g.objTaken.foldl (fun n t => n + t.2) 0)) 20 ++
  firstBad cts (fun c =>
    (List.range 4).findSome? fun i =>
      let want := (g.engCharges p c).getD i 0
      let used := others.foldl (fun n q => n + (g.engCharges q c).getD i 0) 0
      let lim := engLimits.getD i 0
      if want > 0 ∧ used + want > lim then some (want, lim - used) else none) 21 ++
  firstBad cts (fun c =>
    let pl := (g.tseOf c).planes
    let es := mine c
    let n := es.foldl (fun n e => n + ensKcmp e.2.2 (max 1 pl)) 0
    let lf := es.foldl (fun n e => n + ensLeafUse e.2.2 (max 1 pl)) 0
    if es.isEmpty ∨ (pl > 0 ∧ g.tseNodes c + n ≤ 1024 ∧ g.tseLeaves c + lf ≤ 524288) then none
    else some (n, 1024 - g.tseNodes c)) 22 ++
  firstBad cts (fun c =>
    let pl := (g.tseOf c).planes
    let es := mine c
    let n := es.foldl (fun n e => n + ensCharge e.2.2 pl e.2.1) 0
    if es.isEmpty ∨ g.tseCharge c + n ≤ tseLimit pl then none else some (n, tseLimit pl - g.tseCharge c)) 23 ++
  (if (pkMap p).isEmpty then []
   else
    firstBad [0] (fun _ => if mapCh0 p + mapNchk p > 4096 then some (mapNchk p, 4096 - mapCh0 p) else none) 24 ++
    firstBad lanes (fun l =>
      if (List.range (mapNchk p)).any (planBad p (cfgSnp (g.die l).cfgid.toNat)) then some (mapNchk p, 0) else none) 25 ++
    firstBad [mapCh0 p] (fun _ =>
      let src := planSources p
      let clash := others.any fun q => !(pkMap q).isEmpty &&
        ((decide (mapCh0 p < mapCh0 q + mapNchk q) && decide (mapCh0 q < mapCh0 p + mapNchk p)) ||
          (planSources q).any src.contains)
      if clash ∨ src.eraseDups.length ≠ src.length then some (mapNchk p, 0) else none) 26 ++
    firstBad ((mapLanes p).take 1) (fun _ =>
      let n := unionNch (p :: others)
      if planTooWide n g.frameUs then some (64 * n * 1000000 / max 1 g.frameUs, 20000000000) else none) 27) ++
  firstBad [0] (fun _ => match share resReduce vcReduce with
    | some r => some r
    | none => share resBulk vcBulk) 28

/-- The refusal record (Table 12.10). -/
def refusalRec (p : List Byte) (code sect detail rbits asked free handle : Nat) : List Byte :=
  leBytes 4 (leAt p 8 4) ++ leBytes 4 (leAt p 12 4) ++ leBytes 1 code ++ leBytes 1 sect ++ leBytes 2 detail ++ leBytes 4 rbits ++
    leBytes 8 asked ++ leBytes 8 free ++ leBytes 2 handle ++ leBytes 30 0

end Sys2Proof.Machine
end

