-- ==== Sys2Proof/Machine/Kit.lean ====
section
/-! DEFINITION. Placing, starting, scheduling, faulting, restarting and unloading kits; ingest and event rings
(12 R392–R407, R114, R204). -/
namespace Sys2Proof.Machine
open Sys2Proof

/-! ### The capture configuration of a die (R392, R204) -/

/-- The register key of an AILEN register of SPACE 2 or 3. -/
def alKey (space addr : Nat) : Nat := if space = 3 then ind addr else addr

/-- An image entry over a value. -/
def imgMerge (old v m : Nat) : Nat := merge (old % 2 ^ 32) m v

/-- A capture unit's word replaced; the unit lists what differs from reset. -/
def unitPut (u : Tbl Word) (k v : Nat) : Tbl Word :=
  if v % 2 ^ 32 = rstWord .ailen k then Tbl.erase u k else Tbl.put u k (BitVec.ofNat 32 v)

/-- The union of the packages' plans, with the Defaults Image's entries after them (R392, R610). -/
def Gremon.unionUnit (g : Gremon) (ps : List (List Byte)) : Tbl Word :=
  let nch := unionNch ps
  let none' := (List.range nch).foldl (fun u i => unitPut u (ind 0x20000 + 4 * i) 3) ([] : Tbl Word)
  let u := ps.foldl (fun u p =>
    (List.range (if (pkMap p).isEmpty then 0 else mapNchk p)).foldl (fun u i =>
      let w := mapPlan p i
      let u := unitPut u (ind 0x20000 + 4 * (mapCh0 p + i)) (w % 2 ^ 15)
      match planKey w with
      | some k => unitPut u k (mapConf p i)
      | none => u) u) none'
  let u := unitPut u 0x1000 (0x03E80000 + nch)
  g.sys.pwr.pushList.foldl (fun u e =>
    let k := alKey e.1 e.2.1
    if isCapKey k then unitPut u k (imgMerge (capWord u k) e.2.2.1 e.2.2.2) else u) u

/-- Words of a unit from key `k`. -/
def unitWords (u : Tbl Word) (k n : Nat) : List Nat := (List.range n).map fun i => capWord u (k + 4 * i)

/-- Push a capture unit to the die on a lane, commit it, and ask for its outcome. -/
def Gremon.capPush (g : Gremon) (lane : Nat) (u : Tbl Word) : Gremon :=
  let g := g.cmdWords lane 0 0x1000 (unitWords u 0x1000 1)
  let g := g.cmdWords lane 0 0x1020 (unitWords u 0x1020 8)
  let g := g.cmdWords lane 1 0x10000 (unitWords u (ind 0x10000) 4096)
  let g := g.cmdWords lane 0 0x2000 (unitWords u 0x2000 1024)
  let g := g.cmdWords lane 0 0x3000 (unitWords u 0x3000 64)
  let g := g.cmdWords lane 1 0x20000 (unitWords u (ind 0x20000) (capNch u))
  let g := g.cmdWord lane 0x1004 1
  g.command lane 1 0 0x1008 2 []

/-- The packages whose channels the union holds. -/
def Gremon.planPkgs (g : Gremon) : List (List Byte) := g.resident.map fun e => e.2.pkg

/-- Commit the union plan to the dies on some lanes. -/
def Gremon.commitPlan (g : Gremon) (lanes : List Nat) : Gremon :=
  let u := g.unionUnit g.planPkgs
  let g := (g.onSvc fun s => { s with planNch := capNch u }).planSend
  lanes.foldl (fun g l => g.capPush l u) g

/-! ### Placement (R396, R399) -/

/-- Zero a range of memory, for whole rows.
Log: entry 6 (DESIGN CHOICE). -/
def Gremon.memZero (g : Gremon) (a n : Nat) : Gremon :=
  { g with mem := (g.mem.filter fun e => !(decide (a ≤ e.1) && decide (e.1 < a + n))),
           poison := g.poison.filter fun l => !wholeLine a n l }

/-- Whether placing would meet POISON: a retired stack under a grant, or a failed link on the way from CD (R399). -/
def Gremon.placeBad (g : Gremon) (p : List Byte) (hbm ft : Nat × Nat) : Bool :=
  (decide (hbm.2 > 0) && g.lost 30 (hbmCna hbm.1) hbm.2) ||
    (decide (ft.2 > 0) && g.lost 30 (hbmCna (ftRow ft.1)) (16384 * ft.2)) || (pkCts p).any (g.flowDead 30)

/-- A kit's environment block on one core (R396). -/
def Gremon.envBlock (g : Gremon) (slot : Nat) (k : KitSlot) (core : Nat) : List Byte :=
  let p := k.pkg
  let c := core / 32
  let buf := Tbl.get (0, 0) k.bufs c
  let es := pkEns p
  let hs := (List.range 16).flatMap fun i =>
    leBytes 4 (if (es.getD i (0, 0, [])).1.testBit c then k.ens.getD i 0 else 0)
  let rs := (List.range 32).flatMap fun r => leBytes 4 (if r < (pkReduces p).length then slotOfs p c r else 0)
  leBytes 2 k.handle ++ leBytes 2 (kitMid slot) ++ leBytes 1 c ++ leBytes 1 (core % 32) ++ leBytes 2 (mapLanesOf p c).length ++
    leBytes 4 g.frameNs ++ leBytes 4 g.scoreNs ++ leBytes 8 k.start ++ leBytes 8 (bufCna c buf.1) ++ leBytes 8 k.hbm.1 ++
    leBytes 4 k.ft.1 ++ leBytes 2 k.obj0 ++ leBytes 2 k.nobj ++ leBytes 4 (areaOfs p c) ++ leBytes 4 (ringOfs p c) ++
    leBytes 8 0 ++ hs ++ rs

/-- Environment blocks on every declared core. -/
def Gremon.writeEnv (g : Gremon) (slot : Nat) : Gremon :=
  let k := g.kit slot
  k.cores.foldl (fun g n => g.wrBytes (spadCna n (resEnv k.pkg)) (g.envBlock slot k n)) g

/-- CODE and DATA bytes, environment blocks and object states of a slot's kit. -/
def Gremon.writeKit (g : Gremon) (slot : Nat) : Gremon :=
  let k := g.kit slot
  let p := k.pkg
  let g := (pkCodes p).foldl (fun g c => g.wrBytes (spadCna c.core c.load) c.code) g
  let g := (pkOf p 3).foldl (fun g s =>
    let b := sectBody p s
    let c := leAt b 1 1
    let o := leAt b 8 8
    let a := match leAt b 0 1 with
      | 0 => spadCna (32 * c + leAt b 2 1) o
      | 1 => bufCna c ((Tbl.get (0, 0) k.bufs c).1 + o)
      | _ => hbmCna (k.hbm.1 + o)
    g.wrBytes a (b.drop 16)) g
  let g := g.writeEnv slot
  (List.range k.nobj).foldl (fun g i =>
    let w := syncInit p i
    g.setObj (k.obj0 + i)
      { kind := syncKind p i, kit := k.handle, waiters := []
        state := match syncKind p i with
          | 2 => barState 0 (w % 65536) 0
          | 3 => BitVec.ofNat 64 (w % 2)
          | _ => BitVec.ofNat 64 w }) g

/-- The event rings of a kit are empty when it is placed. -/
def Gremon.clearRings (g : Gremon) (k : KitSlot) : Gremon :=
  (pkCts k.pkg).foldl (fun g c =>
    if ringBytes k.pkg c = 0 then g else g.memZero (bufCna c ((Tbl.get (0, 0) k.bufs c).1 + ringOfs k.pkg c)) 64) g

/-- The lowest EMPTY slot. -/
def Gremon.emptySlot (g : Gremon) : Option Nat := (List.range 64).find? fun n => decide ((g.kit n).state = 0)

/-- The next kit handle, 1–65,535. -/
def Gremon.newHandle (g : Gremon) : Nat × Gremon :=
  (g.kitNext, { g with kitNext := if g.kitNext ≥ 65535 then 1 else g.kitNext + 1 })

/-- The first scoring boundary at or after `t`. -/
def Gremon.scoreAfter (g : Gremon) (t : Nat) : Nat := (t + g.scoreNs - 1) / max 1 g.scoreNs * g.scoreNs

/-- Once every mapped die has applied the plan, or the time-out has come at `t`, the start boundary is known (R400). -/
def Gremon.setStart (g : Gremon) (slot t : Nat) : Gremon :=
  let k := g.kit slot
  (g.setKit slot { k with waiting := [], appliedAt := t, start := g.scoreAfter (t + 1000000) }).writeEnv slot

/-- Place an admitted package: the slot, or none where placement meets POISON or ACCESS. The operation counters of its cores start
from 0 (Table 7.2).
Log: entry 31 (DEDUCED; DESIGN CHOICE). -/
def Gremon.placeKit (g : Gremon) (p : List Byte) (boot : Bool) : Option (Nat × Gremon) :=
  match g.emptySlot with
  | none => none
  | some slot =>
    let hbm := if resHbm p = 0 then (hpaKit, 0) else
      (hpaKit + (firstFit (g.hbmTaken.map fun t => (t.1 - hpaKit, t.2)) 1048576 (resHbm p) (hpaTrace - hpaKit)).getD 0, resHbm p)
    let ft := if resFt p = 0 then (0, 0) else ((firstFit g.ftTaken 1 (resFt p) 1048576).getD 0, resFt p)
    let obj0 := if resNobj p = 0 then 0 else (firstFit g.objTaken 1 (resNobj p) 16384).getD 0
    let bufs := (List.range 16).foldl (fun t c =>
      let n := bufUnits (bufBytes p c)
      if n = 0 then t else Tbl.put t c ((firstFit (g.bufTaken c) 65536 n 0x4000000).getD 0, n)) ([] : Tbl (Nat × Nat))
    if g.placeBad p hbm ft then none
    else
      let (h, g) := g.newHandle
      let es := pkEns p
      let handles := (List.range es.length).map fun i => g.ensNext + i
      let g : Gremon := { g with
        ensNext := g.ensNext + es.length
        ens := g.ens ++ (handles.zip es).map fun (e : Nat × Nat × Nat × List Byte) =>
          ({ handle := e.1, kit := h, ctmask := e.2.1, rows := e.2.2.1, image := e.2.2.2 } : Ensemble) }
      let lanes := (mapLanes p).filter fun l => (g.die l).accepted
      let k : KitSlot :=
        { KitSlot.empty with
          handle := h, state := 2, boot := boot, restarts := schedRestart p, pkg := p, cores := (pkCodes p).map (·.core), bufs := bufs
          hbm := hbm, ft := ft, obj0 := obj0, nobj := resNobj p, ens := handles, lanes := lanes, waiting := lanes, committed := g.clk }
      let g := g.setKit slot k
      let g := if ft.2 = 0 then g else g.memZero (hbmCna (ftRow ft.1)) (16384 * ft.2)
      let g := k.cores.foldl (fun (g : Gremon) n => g.setCore n { g.core n with opc := [] }) g
      let g := (g.writeKit slot).clearRings k
      let g := g.commitPlan ((List.range 512).filter fun l => decide (mapCt p l < 16) && (g.die l).accepted)
      some (slot, if lanes.isEmpty && decide (g.clock.own ≠ .unset) then g.setStart slot g.now else g)

/-- Load a package (R397–R399): the refusal record, and the handle if it was admitted. -/
def Gremon.loadKit (g : Gremon) (p : List Byte) (boot sigOk : Bool) : Gremon × List Byte × Nat × Nat :=
  let i := g.kitIntegrity p boot sigOk
  if i.1 ≠ 0 then (g, refusalRec p i.1 i.2.1 i.2.2 0 0 0 0, i.1, 0)
  else
    let fails := g.kitResources p
    match fails with
    | f :: _ =>
      (g, refusalRec p f.code 255 f.detail (fails.foldl (fun b x => b ||| 2 ^ (x.code - 16)) 0) f.asked f.free 0, f.code, 0)
    | [] =>
      match g.placeKit p boot with
      | some (slot, g) => (g, refusalRec p 0 255 0 0 0 0 (g.kit slot).handle, 0, (g.kit slot).handle)
      | none => (g, refusalRec p 10 255 0 0 0 0 0, 10, 0)

/-- KIT_LOAD (R397, Table 16.6). -/
def Gremon.cmdKitLoad (g : Gremon) (sigOk : Bool) : Gremon :=
  g.onHostCmd 0x01 fun g c =>
    let (g, r, code, h) := g.loadKit c.data false sigOk
    g.complete c (if code = 0 then 0 else 1) code (leBytes 2 h) r

/-! ### Plan application (R400) -/

/-- A mapped die has reported APPLIED for the plan. -/
def Gremon.kitApplied (g : Gremon) (lane : Nat) : Gremon :=
  (List.range 64).foldl (fun g n =>
    let k := g.kit n
    if k.state = 2 ∧ k.waiting.contains lane = true then
      let k := { k with waiting := k.waiting.filter fun l => decide (l ≠ lane) }
      let g := g.setKit n k
      if k.waiting.isEmpty && decide (k.start = 0) then g.setStart n g.now else g
    else g) g

/-- PLAN_APPLY_TIMEOUT (R400): 10 ms after the commit the dies still awaited are named PLAN_LAGGING.
Log: entry 31 (DEDUCED; DESIGN CHOICE). -/
def Gremon.planTimeout (g : Gremon) (slot : Nat) : Gremon :=
  let k := g.kit slot
  if k.state ≠ 2 ∨ k.waiting.isEmpty = true then g
  else
    let t := k.committed + 10000000
    let g := g.moveTo t
    let g := k.waiting.foldl (fun g l => g.raise .planLagging (leBytes 4 (g.pda l))) g
    (g.setKit slot { k with lagging := sat 255 (k.lagging + k.waiting.length) }).setStart slot t

/-! ### Start (R235, R400) -/

/-- Grants of a slot's kit. -/
def Gremon.grantsOf (g : Gremon) (slot : Nat) : Grants :=
  let k := g.kit slot
  { kit := k.handle, mid := kitMid slot, ens := k.ens, ftFirst := k.ft.1, ftRows := k.ft.2
    windows := (k.bufs.map fun e => { lo := bufCna e.1 e.2.1, hi := bufCna e.1 (e.2.1 + e.2.2), ro := false }) ++
      (if k.hbm.2 = 0 then [] else [{ lo := hbmCna k.hbm.1, hi := hbmCna (k.hbm.1 + k.hbm.2), ro := false }]) ++
      (if k.ft.2 = 0 then [] else [{ lo := hbmCna (ftRow k.ft.1), hi := hbmCna (ftRow (k.ft.1 + k.ft.2)), ro := false }]) ++
      (if resHist k.pkg then [{ lo := hbmCna hpaHist, hi := hbmCna hpaEnd, ro := true }] else []) }

/-- The debug halts in whose scope a job's kits are (R469). -/
def Gremon.haltsOf (g : Gremon) (job : Nat) : List HaltRec := g.svc.vig.halts.filter fun h => decide (h.job = 0 ∨ h.job = job)

/-- Every declared core begins at its ENTRY in the state of R235; its stream descriptors, MSEQ, streams and commands in flight and
counters go on, and tickets start again at 1 (R287). Under a debug halt it issues nothing. -/
def Gremon.startCores (g : Gremon) (slot : Nat) : Gremon :=
  let gr := g.grantsOf slot
  let held := !(g.haltsOf (pkJob (g.kit slot).pkg)).isEmpty
  (pkCodes (g.kit slot).pkg).foldl (fun g c =>
    let old := g.core c.core
    g.setCore c.core
      { BCore.idle with
        run := true, frozen := held, pc := BitVec.ofNat 22 c.entry, codeBase := BitVec.ofNat 22 c.load
        codeSize := BitVec.ofNat 22 (roundUp64 c.code.length), grants := gr, opc := old.opc, mseq := old.mseq
        s := old.s, streams := old.streams, seq := old.seq, firstSeq := old.seq }) g

/-- The kit in a slot runs from its start boundary.
Log: entry 31 (DEDUCED; DESIGN CHOICE). -/
def Gremon.runKit (g : Gremon) (slot : Nat) : Gremon :=
  let k := g.kit slot
  let g := g.startCores slot
  let g := g.setKit slot { k with state := 3, phases := List.replicate (schedNph k.pkg) { next := 0, late := 0 }, haltNow := false }
  if k.boot && decide (k.faults = 0) then g.onPwr fun p => { p with kitsOk := min 15 (p.kitsOk + 1) } else g

/-- KIT_START. -/
def Gremon.kitStart (g : Gremon) (slot : Nat) : Gremon :=
  let k := g.kit slot
  if k.state ≠ 2 ∨ k.waiting ≠ [] ∨ g.clock.own = .unset ∨ g.sys.pwr.pstate ≥ 2 then g
  else
    let g := if k.start = 0 then g.setStart slot g.now else g
    (g.moveTo (g.kit slot).start).runKit slot

/-! ### Faults and deadlines (R402–R404) -/

/-- A kit becomes FAULTED: its cores halt at the next frame boundary, and a restart is due if any is left. -/
def Gremon.kitFault (g : Gremon) (slot cause : Nat) : Gremon :=
  let k := g.kit slot
  if k.state ≠ 3 then g
  else
    let g := g.setKit slot { k with
      state := 5, cause := cause, faults := sat 255 (k.faults + 1), haltNow := true
      restartAt := if k.restarts > 0 ∧ k.unload = false then some (g.clk + 1000000) else none }
    g.raise .kitFault []

/-- Deadline checks start again with the first whole period after `t` (R406, R471). -/
def Gremon.phasesFrom (g : Gremon) (slot t : Nat) : Gremon :=
  let k := g.kit slot
  g.setKit slot { k with phases := k.phases.mapIdx fun i ph =>
    let len := max 1 (if phCad k.pkg i = 0 then g.frameNs else g.scoreNs)
    ({ ph with next := max ph.next ((t - k.start + len - 1) / len) } : PhaseRun) }

/-- PHASE_DEADLINE (R402): the barrier is read at the deadline of the phase's next period; not while a cut halts the
kit (R470).
Log: entry 31 (DEDUCED; DESIGN CHOICE). -/
def Gremon.phaseDeadline (g : Gremon) (slot i : Nat) : Gremon :=
  let k := g.kit slot
  match k.phases[i]? with
  | none => g
  | some ph =>
    if k.state ≠ 3 ∨ phCad k.pkg i > 1 ∨ k.cores.any (fun n => (g.core n).frozen) = true then g
    else
      let len := if phCad k.pkg i = 0 then g.frameNs else g.scoreNs
      let g := g.moveTo (k.start + (ph.next + 1) * len + phDead k.pkg i)
      let gen := (g.obj (k.obj0 + phBar k.pkg i)).gen
      let met := decide ((gen + 2 ^ 32 - (ph.next + 1) % 2 ^ 32) % 2 ^ 32 < 2 ^ 31)
      let late := if met then 0 else if g.sys.pwr.brace then ph.late else ph.late + 1
      let k' := { k with phases := k.phases.set i { next := ph.next + 1, late := late }
                         overruns := if met then k.overruns else sat 0xFFFF (k.overruns + 1) }
      let g := g.setKit slot k'
      let g := if met then g else g.raise .kitOverrun []
      if late ≥ schedWedge k.pkg then g.kitFault slot 1 else g

/-- The cores of a kit that must halt do so at a frame boundary; their streams and commands go on (R403, R405). -/
def Gremon.kitHalts (g : Gremon) : Gremon :=
  (List.range 64).foldl (fun g n =>
    let k := g.kit n
    if !k.haltNow then g
    else
      let g := k.cores.foldl (fun g c => g.setCore c { g.core c with run := false, wait := none, vq := [] }) g
      g.setKit n { k with haltNow := false }) g

/-- KIT_RESTART (R404): at the first scoring boundary 1 ms after the fault, under a new handle, with the slots of suspect
cores on spares (Table 15.12); deferred while a cut halts
its job's kits (R472).
Log: entry 31 (DEDUCED; DESIGN CHOICE). -/
def Gremon.kitRestart (g : Gremon) (slot : Nat) : Gremon :=
  let k := g.kit slot
  match k.restartAt with
  | none => g
  | some t =>
    let held := g.haltsOf (pkJob k.pkg)
    if k.state ≠ 5 ∨ k.unload = true ∨ g.sys.pwr.pstate ≥ 2 ∨ held.isEmpty = false then g
    else
      let at' := g.scoreAfter t
      let g := (g.moveTo at').kitHalts
      let k := g.kit slot
      let k := { k with restarts := k.restarts - 1, restartAt := none }
      let g := k.cores.foldl (fun (g : Gremon) n =>
        match g.servedBy (n / 32) (n % 32) with
        | some p => if (g.coreNote (n / 32) p).move then (g.moveCore (n / 32) p).1 else g
        | none => g) g
      if g.placeBad k.pkg k.hbm k.ft || k.cores.any (fun n => !g.slotServed (n / 32) (n % 32)) then (g.setKit slot k).raise .kitRestartFail []
      else
        let (h, g) := g.newHandle
        let g := { g with ens := g.ens.map fun (e : Ensemble) => if e.kit = k.handle then { e with kit := h } else e }
        let g := g.setKit slot { k with handle := h, state := 2, start := at', cause := 0 }
        (g.writeKit slot).runKit slot

/-! ### Unloading (R405) -/

/-- KIT_UNLOAD: a kit that is resident stops at the next frame boundary. -/
def Gremon.cmdKitUnload (g : Gremon) : Gremon :=
  g.onHostCmd 0x02 fun g c =>
    match g.kitOf (c.param 0 2) with
    | some (n, k) =>
      (g.setKit n { k with state := 4, unload := true, haltNow := true, restartAt := none }).finish c 0 0
    | none => g.finish c 2 0

/-- KIT_UNLOAD_DONE: with its streams and commands complete, the plan is committed without the kit, its grants and
objects are freed and the slot is EMPTY. -/
def Gremon.kitUnloaded (g : Gremon) (slot : Nat) : Gremon :=
  let k := g.kit slot
  let busy := k.cores.any fun n =>
    !(g.core n).streams.isEmpty || (g.eng.any fun e => decide (e.core = n)) || (g.msnd.any fun m => decide (m.core = n))
  if k.state ≠ 4 ∨ k.haltNow = true ∨ busy = true then g
  else
    let g := g.setKit slot KitSlot.empty
    let g := k.cores.foldl (fun g n => g.setCore n { BCore.idle with opc := (g.core n).opc, mseq := (g.core n).mseq }) g
    let g := (List.range k.nobj).foldl (fun g i => g.setObj (k.obj0 + i) SyncObj.free) g
    let g := { g with ens := g.ens.filter fun e => decide (e.kit ≠ k.handle) }
    g.commitPlan ((mapLanes k.pkg).filter fun l => (g.die l).accepted)

/-! ### Event rings (R395) -/

/-- An event from the die on a lane goes to the ring of each kit that maps the lane and subscribes to its code, unless the way from
its PD to the CT has failed (R213). -/
def Gremon.eventRings (g : Gremon) (lane : Nat) (m : RxMsg) : Gremon :=
  let rec' := (m.bytes.drop 4).take 64
  let code := leAt rec' 4 2
  g.resident.foldl (fun g e =>
    let k := e.2
    let p := k.pkg
    let c := mapCt p lane
    let codes := (List.range 8).map fun i => leAt (pkMap p) (16 + 2 * i) 2
    let subs := codes.takeWhile fun x => decide (x ≠ 0)
    let pd := pdOf lane (g.lane lane).active
    if c ≥ 16 ∨ ringBytes p c = 0 ∨ (subs.contains code || subs.contains 0xFFFF) = false then g
    else if g.flowDead pd c then g.poisonAt pd
    else
      let r := bufCna c ((Tbl.get (0, 0) k.bufs c).1 + ringOfs p c)
      let wr := g.rd r 8
      let rd := g.rd (r + 8) 8
      if (wr + 2 ^ 64 - rd) % 2 ^ 64 ≥ mapEvlen p then g.wr (r + 16) 8 (g.rd (r + 16) 8 + 1)
      else
        let lda := match g.bindOf (g.pda lane) with
          | some b => eidLog b.lda
          | none => 0xFFFFFFFF
        let ent := leBytes 4 (eidPhys (g.pda lane)) ++ leBytes 4 lda ++ m.stamp.bytes ++ List.replicate 44 0 ++ padTo 64 rec'
        let g := g.wrBytes (r + 64 + 128 * (wr % mapEvlen p)) ent
        let g := g.wr r 8 (wr + 1)
        g.signalObj (k.obj0 + mapEvobj p)) g

end Sys2Proof.Machine
end

