-- ==== Sys2Proof/Machine/Ckpt.lean ====
section
/-! DEFINITION. The checkpoint trigger service (14 R479–R482). -/
namespace Sys2Proof.Machine
open Sys2Proof

/-- GR_CKT_CFG_n. -/
def kCkt (n : Nat) : Nat := ind 0xB0000 + 0x20 * n
/-- A slot that has not been enabled. -/
def CkptSlot.reset : CkptSlot :=
  { tc := 0, c := none, n := none, level := 0, pending := false, drained := false, cause := 0, fires := 0, lastFire := 0 }
def Gremon.ckpt (g : Gremon) (n : Nat) : CkptSlot := Tbl.get CkptSlot.reset g.svc.ckpt n
def Gremon.setCkpt (g : Gremon) (n : Nat) (s : CkptSlot) : Gremon :=
  g.onSvc fun v => { v with ckpt := Tbl.set CkptSlot.reset v.ckpt n s }
/-- Whether a slot is in service: EN, at the root, no parity fault (Table 17.3). -/
def Gremon.ckptOn (g : Gremon) (n : Nat) : Bool :=
  g.root && bit (g.reg (kCkt n)) 16 && !(g.regs.force.any fun k => decide (kCkt n ≤ k) && decide (k < kCkt n + 0x20))
/-- The slots in service. -/
def Gremon.ckptSlots (g : Gremon) : List Nat := (List.range 1024).filter g.ckptOn

/-- A write of GR_CKT_CFG_n: enabling sets T_C and leaves C unset (R479). -/
def Gremon.ckptCfg (g : Gremon) (n v : Nat) : Gremon :=
  let was := bit (g.reg (kCkt n)) 16
  let g := g.setReg (kCkt n) (v % 2 ^ 17)
  if bit v 16 && !was then g.setCkpt n { CkptSlot.reset with tc := g.now, fires := (g.ckpt n).fires } else g

/-- K_max and K_min as applied (Table 14.21). -/
def Gremon.kMax (g : Gremon) (n : Nat) : Nat := max 1 (g.fld (kCkt n + 8) 15 0)
def Gremon.kMin (g : Gremon) (n : Nat) : Nat := min (g.kMax n) (max 1 (g.fld (kCkt n + 8) 31 16))

/-- The entities that count for a job, with level and RISK: its bound dies, the trays and Gremons serving them, the pod
(R480). -/
def Gremon.ckptEnts (g : Gremon) (job : Nat) : List LanEnt :=
  let dies := (g.binds.filter fun b => decide (b.job = job) && decide (b.state = 1 ∨ b.state = 2)).map (·.pda)
  let gids := (dies.map (· / 512)).eraseDups
  let es := dies.map eidPhys ++ gids.map eidTray ++ gids.map eidGremon
  (es.map fun e => (g.svc.lan.root.find? fun x => decide (x.eid = e)).getD { eid := e, level := 0, risk := 0, job := 0, leid := 0xFFFFFFFF }) ++
    [{ eid := eidPod, level := g.svc.lan.podLevel, risk := g.svc.lan.podRisk, job := 0, leid := 0xFFFFFFFF }]

/-- The highest level among entities: L (R480). -/
def topLevel (es : List LanEnt) : Nat := es.foldl (fun m e => max m e.level) 0

/-- The entity that a CKPT_REQ names: highest RISK at level L, lowest EID among equals (R482). -/
def ckptNamed (l : Nat) (es : List LanEnt) : LanEnt :=
  es.foldl (fun (b : LanEnt) e =>
    if e.level = l ∧ (b.level ≠ l ∨ e.risk > b.risk ∨ (e.risk = b.risk ∧ e.eid < b.eid)) then e else b)
    { eid := 0, level := 4, risk := 0, job := 0, leid := 0 }

/-- A firing (R481, R482): the record is delivered and the slot is PENDING. STEP and LASTC that are unset are open.
Log: entry 26 (DEDUCED; DESIGN CHOICE). -/
def Gremon.ckptFire (g : Gremon) (n l keff cause : Nat) (rise : Bool) (es : List LanEnt) : Gremon :=
  let s := g.ckpt n
  let job := g.fld (kCkt n) 15 0
  let e := ckptNamed l es
  let (f1, g) := g.draw
  let (f2, g) := g.draw
  let body := leBytes 2 job ++ leBytes 1 cause ++ leBytes 1 l ++ leBytes 2 keff ++ leBytes 2 e.risk ++ leBytes 8 ((s.n.getD f1) % 2 ^ 48) ++
    leBytes 8 ((s.c.getD f2) % 2 ^ 48) ++ leBytes 4 e.eid ++ leBytes 4 0 ++ g.stamp.bytes ++ leBytes 4 0
  (g.setCkpt n { s with
    pending := true, drained := s.pending && (s.drained || rise), cause := cause, fires := sat 0xFFFF (s.fires + 1), lastFire := g.now
    level := l }).deliver 3 false job body

/-- One evaluation of a slot (R481).
Log: entry 26 (DEDUCED; DESIGN CHOICE). -/
def Gremon.ckptEval (g : Gremon) (n : Nat) : Gremon :=
  if !g.ckptOn n || decide (g.clock.own = .unset) then g
  else
    let s := g.ckpt n
    let es := g.ckptEnts (g.fld (kCkt n) 15 0)
    let l := topLevel es
    let kmax := g.kMax n
    let keff := match l with
      | 0 => kmax | 1 => max (g.kMin n) (kmax / 2) | 2 => g.kMin n | _ => 0
    let steps : Bool := match s.n, s.c with
      | some a, some c => decide (l < 3) && decide (a ≥ c + keff)
      | _, _ => false
    let timer := decide (g.now ≥ s.tc + 1000000000 * g.fld (kCkt n + 0xC) 15 0)
    let bits := (if steps then (if keff < kmax then 4 else 1) else 0) + 2 * b2n timer
    let rise := decide (l = 3) && decide (s.level < 3) && !(s.pending && s.drained)
    let retry := s.pending && decide (g.now ≥ s.lastFire + 1000000000 * g.fld (kCkt n + 0xC) 31 16)
    let g := g.setCkpt n { s with level := l }
    if s.pending then (if rise || retry then g.ckptFire n l keff (bits + 8 * b2n rise + 16 * b2n retry) rise es else g)
    else if bits ≠ 0 ∨ l = 3 then g.ckptFire n l keff (bits + 8 * b2n (decide (l = 3))) rise es
    else g

/-- CKPT_TRIGGER_EVAL: once per millisecond.
Log: entry 26 (DEDUCED; DESIGN CHOICE). -/
def Gremon.ckptTick (g : Gremon) (n : Nat) : Gremon := (g.moveTo ((g.now + 999999) / 1000000 * 1000000)).ckptEval n

/-- Every slot whose L has changed is evaluated. -/
def Gremon.ckptLevels (g : Gremon) : Gremon :=
  g.ckptSlots.foldl (fun g n => if topLevel (g.ckptEnts (g.fld (kCkt n) 15 0)) = (g.ckpt n).level then g else g.ckptEval n) g

/-- The straggler report of a step is published at the root (R339, R479, R481).
Log: entry 26 (DEDUCED; DESIGN CHOICE). -/
def Gremon.ckptReport (g : Gremon) (rid step : Nat) : Gremon :=
  g.ckptSlots.foldl (fun g n =>
    if g.reg (kCkt n + 4) = rid ∧ rid ≠ 0 then
      let s := g.ckpt n
      (g.setCkpt n { s with n := some step, c := some (s.c.getD step), pending := s.pending && s.c.isSome }).ckptEval n
    else g) g

/-- A complete OUT manifest of a job's step has been signed (R480). -/
def Gremon.ckptSealed (g : Gremon) (job step : Nat) : Gremon :=
  g.ckptSlots.foldl (fun g n =>
    let s := g.ckpt n
    let on := match s.c with
      | some c => decide (step > c)
      | none => true
    if g.fld (kCkt n) 15 0 = job ∧ on = true then g.setCkpt n { s with c := some step, tc := g.now, pending := false } else g) g

/-- GR_CKT_STAT_n. -/
def Gremon.ckptStat (g : Gremon) (n : Nat) : Nat :=
  let s := g.ckpt n
  s.level + 4 * b2n s.pending + 8 * s.cause + 65536 * s.fires

end Sys2Proof.Machine
end

