-- ==== Sys2Proof/Machine/Reduce.lean ====
section
/-! DEFINITION. The reduction service (09 R322–R335, R684): contributions, closing, attempts, verdicts, retention and
publication. -/
namespace Sys2Proof.Machine
open Sys2Proof

/-! ### Declarations held (R467, R616, R684) -/

/-- The system reductions: completion of Vigil cuts, and POD_READY. -/
def sysDecls : List RDecl :=
  [ { rid := 0xF0000001, job := 0, opc := 3, fmt := 1, nelem := 4, param := 0, pkind := 2, pod := true, inobj := 0, p := 2000, hop := 0
      pers := 1, unit := 2 },
    { rid := 0xF0000002, job := 0, opc := 3, fmt := 1, nelem := 2, param := 0, pkind := 2, pod := true, inobj := 0, p := 2000000, hop := 0
      pers := 1, unit := 2 } ]

/-- The declaration of a RID. -/
def Gremon.decl (g : Gremon) (rid : Nat) : Option RDecl := (sysDecls ++ g.decls).find? fun d => decide (d.rid = rid)

/-- Resident kits that declare a RID: slot, kit, declaration and its place. -/
def Gremon.declKits (g : Gremon) (rid : Nat) : List (Nat × KitSlot × RDecl × Nat) :=
  g.resident.filterMap fun e =>
    let ds := pkReduces e.2.pkg
    (ds.find? fun d => decide (d.rid = rid)).map fun d => (e.1, e.2, d, ds.idxOf d)

/-- Declared CTs of a RID, by slot and CT. -/
def Gremon.declCts (g : Gremon) (rid : Nat) : List (Nat × Nat) :=
  (g.declKits rid).flatMap fun e => (pkCts e.2.1.pkg).map fun c => (e.1, c)

/-- The period length of FRAME and SCORE. -/
def Gremon.redLen (g : Gremon) (d : RDecl) : Nat := if d.pkind = 0 then g.frameNs else g.scoreNs
/-- P or WIN in ns, and HOP_ALLOW in ns. -/
def RDecl.pNs (d : RDecl) : Nat := if d.p = 0 then (if d.pkind = 2 then 50000000 else 100000) else 1000 * d.p
def RDecl.hopNs (d : RDecl) : Nat := if d.hop = 0 then 2000 else 100 * d.hop

/-! ### Units (R46–R50) -/

/-- The dies that a CT's channel map gives a reduction: lane and unit. -/
def Gremon.ctLanes (g : Gremon) (d : RDecl) (slot c : Nat) : List (Nat × Nat) :=
  let lanes := mapLanesOf (g.kit slot).pkg c
  if d.unit ≠ 0 then []
  else if d.job = 0 then (lanes.filter fun l => (g.die l).accepted).map fun l => (l, eidPhys (g.pda l))
  else lanes.filterMap fun l => match g.bindOf (g.pda l) with
    | some b => if b.job = d.job then some (l, eidLog b.lda) else none
    | none => none

/-- The units that a CT's channel map gives a reduction. -/
def Gremon.ctUnits (g : Gremon) (d : RDecl) (slot c : Nat) : List Nat :=
  match d.unit with
  | 0 => (g.ctLanes d slot c).map (·.2)
  | u =>
    if (g.declCts d.rid).head? = some (slot, c) then [if u = 1 then eidTray g.gid else eidGremon g.gid] else []

/-- The coverage of an absent CT.
Log: entry 30 (DEDUCED; DESIGN CHOICE). -/
def Gremon.absentCt (g : Gremon) (d : RDecl) (e : Nat × Nat) : Coverage :=
  let us := g.ctUnits d e.1 e.2
  Coverage.of d.unit us.length us false 0

/-- The units behind some Gremons as far as they are known here: the Gremons' EIDs where the units are trays or Gremons,
and the job's dies, or those of the tray manifests, where they are dies.
Log: entry 30 (DEDUCED; DESIGN CHOICE). -/
def Gremon.unitsBehind (g : Gremon) (d : RDecl) (ms : List Nat) : List Nat :=
  match d.unit with
  | 0 =>
    if d.job = 0 then (g.svc.hdids.filter fun e => ms.contains (e.1 / 512)).map fun e => eidPhys e.1
    else (g.binds.filter fun b => decide (b.job = d.job) && decide (b.state = 1 ∨ b.state = 2) && ms.contains (b.pda / 512)).map fun b => eidLog b.lda
  | u => ms.map fun i => if u = 1 then eidTray i else eidGremon i

/-- The members behind an expected child: those of its port, or those that left with it. -/
def Gremon.kidMembers (g : Gremon) (k : RedKid) : List Nat :=
  if k.left then k.members
  else
    let port := (g.tree.subtree.find? fun m => decide (m.gid = k.gid)).map (·.port)
    (g.tree.subtree.filter fun m => decide (some m.port = port)).map (·.gid)

/-- The coverage of an absent child (R50, R439): of one that left and is declared failed, the units of it and of the members
behind it that are declared failed too. Where the units known here are not as many as its latest output expected, their hash
is not fixed.
Log: entry 30 (DEDUCED; DESIGN CHOICE). -/
def Gremon.absentKid (g : Gremon) (d : RDecl) (k : RedKid) : Coverage × List Nat × Gremon :=
  let all := g.unitsBehind d (g.kidMembers k)
  let known := decide (all.length = k.expected)
  let us := if k.left && known then g.unitsBehind d (k.members.filter g.tree.failed.contains) else all
  let n := if k.left && known then us.length else k.expected
  let failed := if g.tree.failed.contains k.gid then n else 0
  let cov := fun (h : Nat) => ({ expected := n, received := 0, hash := h, unit := d.unit, degraded := false, failed := failed } : Coverage)
  if known then (cov (missingHash us), us, g)
  else
    let (h, g) := g.draw
    (cov h, us, g)

/-- The coverages of some absent children, and the units noted missing. -/
def Gremon.absentAll (g : Gremon) (d : RDecl) (ks : List RedKid) : List (Nat × List Byte) × List Nat × Gremon :=
  ks.foldl (fun (s : List (Nat × List Byte) × List Nat × Gremon) k =>
    let a := s.2.2.absentKid d k
    (s.1 ++ [(k.gid, a.1.bytes)], s.2.1 ++ a.2.1, a.2.2)) ([], [], g)

/-- Whether a reduction is one of the system's. -/
def RDecl.isSys (d : RDecl) : Bool := decide (d.rid ≥ 0xF0000000)

/-! ### Records (Table 9.10) -/

def redRec (d : RDecl) (job period src : Nat) (cov : List Byte) (attempt st pcrc : Nat) (payload : List Byte) : List Byte :=
  leBytes 4 d.rid ++ leBytes 2 job ++ leBytes 1 d.opc ++ leBytes 1 d.fmt ++ leBytes 8 period ++ leBytes 4 src ++ leBytes 4 d.nelem ++
    padTo 24 cov ++ leBytes 4 payload.length ++ leBytes 1 attempt ++ leBytes 1 st ++ leBytes 1 d.pkind ++ leBytes 1 0 ++ leBytes 4 pcrc ++
    leBytes 4 0 ++ payload

def rrRid (r : List Byte) : Nat := leAt r 0 4
def rrPeriod (r : List Byte) : Nat := leAt r 8 8
def rrAttempt (r : List Byte) : Nat := leAt r 52 1
def rrState (r : List Byte) : Nat := leAt r 53 1
def rrPayload (r : List Byte) : List Byte := (r.drop 64).take (leAt r 48 4)
def rrCov (r : List Byte) : Coverage := Coverage.ofBytes r 24

/-- Whether each element of a payload carries the declared SCALE, or K, DIR and format. -/
def elemsOk (d : RDecl) (pl : List Byte) : Bool :=
  (List.range d.nelem).all fun i =>
    let e := (pl.drop (opcBytes d.opc * i)).take (opcBytes d.opc)
    match d.opc with
    | 1 => histOk e && decide (histScale e = d.scale)
    | 2 => decide (leAt e 0 1 = leAt d.identity 0 1) && decide (leAt e 2 1 = leAt d.identity 2 1) &&
        decide (leAt e 3 1 % 2 = leAt d.identity 3 1 % 2) && decide (leAt e 3 1 < 4) && zeros e 4 4 && zeros e 24 40 &&
        (List.range 64).all fun j => zeros e (64 + 16 * j + 12) 4
    | _ => true

/-- Whether a contribution agrees with the declaration (R325). -/
def RDecl.takes (d : RDecl) (r : List Byte) : Bool :=
  decide (leAt r 0 4 = d.rid) && decide (leAt r 6 1 = d.opc) && decide (leAt r 7 1 = d.fmt) && decide (leAt r 20 4 = d.nelem) &&
    decide (leAt r 54 1 = d.pkind) && decide (leAt r 40 1 = d.unit) && decide (leAt r 41 1 < 8) && zeros r 42 2 && zeros r 55 1 && zeros r 60 4 &&
    decide (rrState r < 4) && decide (leAt r 48 4 = d.plen) && elemsOk d (rrPayload r)

/-! ### Periods -/

def RedPeriod.fresh (rid period : Nat) : RedPeriod :=
  { rid := rid, period := period, firstAt := none, cts := [], inputs := [], early := [], closedAt := none, absentCts := [], absentKids := []
    attempt := 0, out := none, outAt := 0, wrong := false, verdict := false, fails := 0, tried := [], final := false, done := false, ended := false }

def Gremon.red (g : Gremon) (rid period : Nat) : Option RedPeriod := g.reds.find? fun r => decide (r.rid = rid ∧ r.period = period)
/-- Put a period's record back; a FRAME or SCORE period whose retention has ended and that is done is forgotten. -/
def Gremon.setRed (g : Gremon) (r : RedPeriod) : Gremon :=
  if g.reds.any fun x => decide (x.rid = r.rid ∧ x.period = r.period) then
    { g with reds := g.reds.map fun x => if x.rid = r.rid ∧ x.period = r.period then r else x }
  else { g with reds := g.reds ++ [r] }

/-- Children expected for a RID (R684), and those that left and have been declared failed (R439).
Log: entry 30 (DEDUCED; DESIGN CHOICE). -/
def Gremon.redKidsOf (g : Gremon) (rid : Nat) : List RedKid :=
  g.redKids.filter fun k => decide (k.rid = rid) &&
    (if k.left then g.tree.failed.contains k.gid else g.tree.subtree.any fun m => decide (m.gid = k.gid))

/-- The first contribution to a period (R327). -/
def RedPeriod.begun (r : RedPeriod) (t : Nat) : RedPeriod := { r with firstAt := some (r.firstAt.getD t) }

/-- The next FRAME or SCORE period to close; the first one is that in progress when it is first asked for. -/
def Gremon.redAt (g : Gremon) (d : RDecl) : Nat := (Tbl.find g.redNext d.rid).getD (g.now / max 1 (g.redLen d))

/-- The oldest period under an earlier F that a RID has still to close, and when it ended. -/
def Gremon.oldFirst (g : Gremon) (rid : Nat) : Option (Nat × Nat × Nat) := g.redOld.find? fun e => decide (e.1 = rid)
def Gremon.redOldest (g : Gremon) (rid : Nat) : Option Nat := (g.oldFirst rid).map (·.2.1)
def Gremon.dropOld (g : Gremon) (rid period : Nat) : Gremon :=
  { g with redOld := g.redOld.filter fun e => decide (¬(e.1 = rid ∧ e.2.1 = period)) }

/-- The next period of a RID to close becomes `n`. -/
def Gremon.putNext (g : Gremon) (rid n : Nat) : Gremon := { g with redNext := Tbl.put g.redNext rid n }

/-- Whether a period has been closed. -/
def Gremon.redClosed (g : Gremon) (d : RDecl) (period : Nat) : Bool :=
  (if d.pkind = 2 ∨ (g.redOld.any fun e => decide (e.1 = d.rid ∧ e.2.1 = period)) = true then false else decide (period < g.redAt d)) ||
    (match g.red d.rid period with
      | some r => r.closedAt.isSome
      | none => false)

/-- LATE_INPUT (R328).
Log: entry 30 (DEDUCED; DESIGN CHOICE). -/
def Gremon.lateInput (g : Gremon) (rid period src : Nat) : Gremon := g.raise .lateInput (leBytes 4 rid ++ leBytes 8 period ++ leBytes 4 src)

/-! ### Publication (R335) -/

/-- What was counted missing in a period is kept for its COVER query: the last 256 periods of each RID (R539). -/
def Gremon.noteMissed (g : Gremon) (rid period : Nat) (eids : List Nat) : Gremon :=
  g.onSvc fun s =>
    let mine := s.missed.filter fun m => decide (m.rid = rid)
    if mine.any fun m => decide (m.period = period) then
      let add := fun (m : MissedRec) => if m.rid = rid ∧ m.period = period then { m with eids := (m.eids ++ eids).eraseDups } else m
      { s with missed := s.missed.map add }
    else
      let old := ((mine.take (mine.length - 255)).map (·.period))
      { s with missed := (s.missed.filter fun m => !(decide (m.rid = rid) && old.contains m.period)) ++
          [{ rid := rid, period := period, eids := eids, hash := none }] }
def Gremon.noteHash (g : Gremon) (rid period hash : Nat) : Gremon :=
  g.onSvc fun s =>
    let set := fun (m : MissedRec) => if m.rid = rid ∧ m.period = period then { m with hash := some hash } else m
    { s with missed := s.missed.map set }

/-- A record published here goes to the result queues: opted-in consumers see every PROVISIONAL, CONFIRM and RETRACT. -/
def Gremon.redPublish (g : Gremon) (job : Nat) (prov : Bool) (r : List Byte) : Gremon := g.deliver 1 prov job r

/-- Send a record of this Gremon: to the PARENT, or, at the root or for SCOPE TRAY, to the consumers. -/
def Gremon.redOut (g : Gremon) (d : RDecl) (r : List Byte) : Gremon :=
  if d.pod ∧ g.root = false then
    match g.tree.parent with
    | some p => g.rlSend p vcReduce (g.rlMsg 0x30 0 ((g.neighbour p).getD 0x3FF) 0 0 r)
    | none => g
  else (g.redPublish (leAt r 4 2) true r).noteHash (rrRid r) (rrPeriod r) (rrCov r).hash

/-- A CONFIRM or RETRACT of this Gremon's current attempt (Table 9.11). -/
def Gremon.redSignal (g : Gremon) (d : RDecl) (r : RedPeriod) (st : Nat) : Gremon :=
  match r.out with
  | none => g
  | some o => g.redOut d (redRec d (leAt o 4 2) r.period (eidGremon g.gid) ((o.drop 24).take 24) r.attempt st (if st = 1 then crc32c (rrPayload o) else 0) [])

/-! ### Merging (R307, R328) -/

/-- This Gremon's own unit where its contribution to a system reduction is absent. -/
def Gremon.ownMissing (g : Gremon) (d : RDecl) (r : RedPeriod) : Coverage :=
  if d.isSys && !r.inputs.any (·.tray) then Coverage.of d.unit 1 [eidGremon g.gid] false 0 else Coverage.of d.unit 0 [] false 0

/-- Merge what was present at the close, as it is held now: payload and coverage. -/
def Gremon.redMerge (g : Gremon) (d : RDecl) (r : RedPeriod) : List Byte × Coverage :=
  let ins := (r.inputs.filter fun i => !i.gone && i.tray) ++
    (r.inputs.filter fun i => !i.gone && !i.tray).foldl (fun l i => l.takeWhile (fun x => decide (x.src < i.src)) ++ i ::
      l.dropWhile (fun x => decide (x.src < i.src))) []
  let pl := ins.foldl (fun a i => payloadMerge d.opc d.fmt d.nelem a (rrPayload i.record)) d.identity
  let cov := ins.foldl (fun c i => c.merge (rrCov i.record)) (Coverage.of d.unit 0 [] false 0)
  let cov := r.absentCts.foldl (fun c e => c.merge (g.absentCt d e)) cov
  let cov := r.absentKids.foldl (fun c e => c.merge (Coverage.ofBytes e.2 0)) cov
  (pl, cov.merge (g.ownMissing d r))

/-- The job of a period's records. -/
def RedPeriod.jobOf (r : RedPeriod) (d : RDecl) : Nat :=
  match r.inputs.find? fun i => decide (leAt i.record 4 2 ≠ 0) with
  | some i => leAt i.record 4 2
  | none => d.job

/-- All inputs that were merged have been confirmed; one has been retracted. -/
def RedPeriod.allConfirmed (r : RedPeriod) : Bool := r.inputs.all fun i => i.gone || decide (i.state = 1)
def RedPeriod.anyRetracted (r : RedPeriod) : Bool := r.inputs.any fun i => !i.gone && decide (i.state = 2)

/-- What the root does with a confirmed result: a straggler report completes a step (R479), and POD_READY (R616). -/
def Gremon.redSystem (g : Gremon) (d : RDecl) (r : List Byte) : Gremon :=
  if d.rid = 0xF0000002 ∧ g.root = true ∧ g.sys.pwr.podReady = false then
    let c := rrCov r
    let members := g.tree.joinedAs.length
    if c.received = c.expected ∧ leAt (rrPayload r) 0 16 = members then
      (g.onPwr fun p => { p with podReady := true, step := max p.step 8 }).raise .podReady []
    else g
  else if d.opc = 2 ∧ d.pkind = 2 ∧ d.unit = 0 ∧ d.pod = true ∧ g.root = true ∧ d.fmt = 1 ∧ leAt d.identity 0 1 = 64 ∧
      leAt d.identity 3 1 % 2 = 0 then
    g.ckptReport d.rid (rrPeriod r)
  else g

/-- CONFIRM, once the verdict matches and every input merged has been confirmed (R330); at the place of publication the
CONFIRMED record follows (R335). -/
def Gremon.redConfirm (g : Gremon) (d : RDecl) (r : RedPeriod) : Gremon :=
  match r.out with
  | some o =>
    if r.done ∨ r.verdict = false ∨ r.wrong = true ∨ (r.allConfirmed = false ∧ r.final = false) then g.setRed r
    else
      let g := g.redSignal d r 1
      let g := g.setRed { r with done := true }
      let ok := some (leAt o 56 4)
      let g := r.tried.foldl (fun (g : Gremon) t => if t.2.2 ≠ ok then g.blameCore t.1 t.2.1 else g) g
      if d.pod ∧ g.root = false then g
      else
        let c := o.take 53 ++ leBytes 1 3 ++ o.drop 54
        (g.redPublish (leAt o 4 2) false c).redSystem d c
  | none => g.setRed r

/-- The final output after the third own failure, or in place of an attempt numbered 255 (R332): the identity, with every
unit of the subtree missing, and its CONFIRM. -/
def Gremon.redFinal (g : Gremon) (d : RDecl) (r : RedPeriod) : Gremon :=
  let all := (g.declCts d.rid).foldl (fun c e => c.merge (g.absentCt d e)) (Coverage.of d.unit 0 [] false 0)
  let fresh := (g.redKidsOf d.rid).filter fun k => !(r.absentKids.any fun e => decide (e.1 = k.gid))
  let x := g.absentAll d fresh
  let g := x.2.2
  let kids := r.absentKids ++ x.1
  let own := if d.isSys then Coverage.of d.unit 1 [eidGremon g.gid] false 0 else Coverage.of d.unit 0 [] false 0
  let cov := (kids.foldl (fun c e => c.merge (Coverage.ofBytes e.2 0)) all).merge own
  let o := redRec d (r.jobOf d) r.period (eidGremon g.gid) cov.bytes r.attempt 0 (crc32c d.identity) d.identity
  let g := g.noteMissed d.rid r.period ((g.declCts d.rid).flatMap (fun e => g.ctUnits d e.1 e.2) ++ x.2.1 ++
    if d.isSys then [eidGremon g.gid] else [])
  let g := (g.redOut d o).raise .reduceFail []
  let g := (r.tried.take 2).foldl (fun (g : Gremon) t => g.blameCore t.1 t.2.1) g
  g.redConfirm d { r with tried := [], out := some o, outAt := g.clk, wrong := false, verdict := true, final := true }

/-- An attempt ends in RETRACT (R331, R332): `own` counts toward the three own failures. One that has been confirmed stays
so (R335). -/
def Gremon.redRetract (g : Gremon) (d : RDecl) (r : RedPeriod) (own : Bool) : Gremon :=
  if r.out.isNone ∨ r.final = true ∨ r.done = true then g.setRed r
  else
    let g := g.redSignal d r 2
    let r := { r with out := none, wrong := false, verdict := false, done := false, attempt := r.attempt + 1
                      fails := if own then r.fails + 1 else r.fails }
    if r.fails ≥ 3 ∨ r.attempt ≥ 255 then g.redFinal d r else g.setRed r

/-! ### Closing (R326–R328) -/

/-- The record in a CT's input slot. -/
def Gremon.slotRecord (g : Gremon) (d : RDecl) (slot c : Nat) : List Byte :=
  let k := g.kit slot
  let i := ((pkReduces k.pkg).map (·.rid)).idxOf d.rid
  g.rdBytes (bufCna c ((Tbl.get (0, 0) k.bufs c).1 + slotOfs k.pkg c i)) (64 + d.plen)

/-- The units that a CT partial counts missing, as far as the service can name them: those of the CT's dies that sent no
frame, or no marker, of the period, where their number and hash agree with the partial's.
Log: entry 30 (DEDUCED; DESIGN CHOICE). -/
def Gremon.partialMissing (g : Gremon) (d : RDecl) (slot c period : Nat) (cov : Coverage) : List Nat :=
  if cov.received ≥ cov.expected then []
  else
    let sent := fun (l : Nat) =>
      let h := Tbl.get HistDie.none g.svc.hist.dies l
      match d.pkind with
      | 0 => h.seen.contains period
      | 1 => h.seen.any fun f => decide (f / max 1 g.frameN = period)
      | _ => h.steps.contains period
    let us := (g.ctLanes d slot c).filterMap fun e => if sent e.1 then none else some e.2
    if us.length = cov.expected - cov.received ∧ missingHash us = cov.hash then us else []

/-- Close a period: CT partials that were signalled are read and checked, absent contributors are noted.
Log: entry 30 (DEDUCED; DESIGN CHOICE). -/
def Gremon.redClose (g : Gremon) (d : RDecl) (period : Nat) : Gremon :=
  let r := (g.red d.rid period).getD (RedPeriod.fresh d.rid period)
  let cts := g.declCts d.rid
  let here := cts.filter r.cts.contains
  let recs := here.map fun e => (e, g.slotRecord d e.1 e.2)
  let good := recs.filter fun x => d.takes x.2
  let bad := (recs.filter fun x => !d.takes x.2).map (·.1)
  let g := bad.foldl (fun g _ => g.raise .reduceRefused []) g
  let tray := good.map fun x => ({ tray := true, src := 64 * x.1.1 + x.1.2, attempt := 0, state := 1, record := x.2, gone := false } : RedIn)
  let kids := g.absentAll d ((g.redKidsOf d.rid).filter fun k => !(r.inputs.any fun i => !i.tray && decide (i.src = k.gid)))
  let g := kids.2.2
  let r := { r with closedAt := some g.clk, inputs := tray ++ r.inputs, absentKids := kids.1
                    absentCts := (cts.filter fun e => !r.cts.contains e) ++ bad }
  let own := if d.isSys && !r.inputs.any (·.tray) then [eidGremon g.gid] else []
  let g := (g.setRed r).noteMissed d.rid period (r.absentCts.flatMap (fun e => g.ctUnits d e.1 e.2) ++
    good.flatMap (fun x => g.partialMissing d x.1.1 x.1.2 period (rrCov x.2)) ++ kids.2.1 ++ own)
  if d.pkind = 2 ∨ g.redOldest d.rid = some period then g.dropOld d.rid period else g.putNext d.rid (period + 1)

/-- Whether every expected contribution is present (R684). -/
def Gremon.redComplete (g : Gremon) (d : RDecl) (r : RedPeriod) : Bool :=
  ((g.declCts d.rid).all r.cts.contains) && (!d.isSys || r.inputs.any (·.tray)) &&
    (g.redKidsOf d.rid).all fun k => r.inputs.any fun i => !i.tray && decide (i.src = k.gid)

/-- The PT at which a FRAME or SCORE period ends. -/
def Gremon.redEnd (g : Gremon) (d : RDecl) (period : Nat) : Nat :=
  match g.redOld.find? fun e => decide (e.1 = d.rid ∧ e.2.1 = period) with
  | some e => e.2.2
  | none => (period + 1) * g.redLen d

/-- Close early where nothing more is expected: a FRAME or SCORE period not before it has ended, each in its turn.
Log: entry 30 (DEDUCED; DESIGN CHOICE). -/
def Gremon.redTryClose (g : Gremon) (d : RDecl) (period : Nat) : Gremon :=
  match g.red d.rid period with
  | some r =>
    let turn := decide (period = (g.redOldest d.rid).getD (g.redAt d)) && decide (g.now ≥ g.redEnd d period)
    if r.closedAt.isNone && (decide (d.pkind = 2) || turn) && g.redComplete d r then g.redClose d period else g
  | none => g

/-- At a boundary: what has ended and is complete closes (R326). -/
def Gremon.redEnded (g : Gremon) : Gremon :=
  g.redNext.foldl (fun (g : Gremon) e =>
    match g.decl e.1 with
    | some d => g.redTryClose d ((g.redOldest d.rid).getD (g.redAt d))
    | none => g) g

/-- PERIOD_CLOSE_DEADLINE (R326): the next FRAME or SCORE period closes at t + P − d × HOP_ALLOW. -/
def Gremon.periodClose (g : Gremon) (rid : Nat) : Gremon :=
  match g.decl rid with
  | some d =>
    if d.pkind = 2 ∨ g.clock.own = .unset then g
    else
      let g := g.putNext rid (g.redAt d)
      let n := (g.redOldest rid).getD (g.redAt d)
      (g.moveTo (g.redEnd d n + d.pNs - g.tree.depth * d.hopNs)).redClose d n
  | none => g

/-- STEP_CLOSE_WINDOW (R327). -/
def Gremon.stepClose (g : Gremon) (rid step : Nat) : Gremon :=
  match g.decl rid, g.red rid step with
  | some d, some r =>
    match r.firstAt with
    | some t => if d.pkind ≠ 2 ∨ r.closedAt.isSome = true then g else (g.moveTo (t + d.pNs)).redClose d step
    | none => g
  | _, _ => g

/-! ### CT partials (R324) -/

/-- Whether an input object has been signalled; taking the signal returns it to rest.
Log: entry 30 (DEDUCED; DESIGN CHOICE). -/
def SyncObj.signalled (o : SyncObj) : Bool := if o.kind = 1 then decide (o.count > 0) else if o.kind = 3 then o.state.getLsbD 0 else false

/-- CT `c` of a kit in a slot has signalled object `o` for a reduction: the CT counts for the period that its slot names,
and comes late where that has closed (R328).
Log: entry 30 (DEDUCED; DESIGN CHOICE). -/
def Gremon.redSignal1 (g : Gremon) (slot c o : Nat) (d : RDecl) : Gremon :=
  let g := g.setObj o { g.obj o with state := 0 }
  let period := rrPeriod (g.slotRecord d slot c)
  if g.redClosed d period then g.lateInput d.rid period (eidTray g.gid)
  else
    let r := ((g.red d.rid period).getD (RedPeriod.fresh d.rid period)).begun g.clk
    let g := if d.pkind = 2 then g else g.putNext d.rid (g.redAt d)
    (g.setRed { r with cts := if r.cts.contains (slot, c) then r.cts else (slot, c) :: r.cts }).redTryClose d period

/-- Signals of input objects are taken.
Log: entry 30 (DEDUCED; DESIGN CHOICE). -/
def Gremon.redSignals (g : Gremon) : Gremon :=
  g.resident.foldl (fun g e =>
    (pkReduces e.2.pkg).foldl (fun g d =>
      (List.range (pkCts e.2.pkg).length).foldl (fun g i =>
        let o := e.2.obj0 + d.inobj + i
        if (g.obj o).signalled then g.redSignal1 e.1 ((pkCts e.2.pkg).getD i 0) o d else g) g) g) g

/-- This Gremon's own contribution to a system reduction. -/
def Gremon.redOwn (g : Gremon) (rid job period : Nat) (vals : List Nat) : Gremon :=
  match g.decl rid with
  | some d =>
    let cov := Coverage.of 2 1 [] false 0
    let pl := vals.flatMap (leBytes 16)
    let rec' := redRec d job period (eidTray g.gid) cov.bytes 0 0 (crc32c pl) pl
    if g.redClosed d period then g
    else
      let r := ((g.red rid period).getD (RedPeriod.fresh rid period)).begun g.clk
      if r.inputs.any (·.tray) then g
      else (g.setRed { r with inputs := { tray := true, src := 0, attempt := 0, state := 1, record := rec', gone := false } :: r.inputs }).redTryClose d period
  | none => g

/-! ### Attempts and verdicts (R329–R332) -/

/-- REDUCE_PRIMARY_DONE (R329): the output leaves as PROVISIONAL. `wrong`: the primary erred, and the payload and the
coverage record may then be anything (R331). Nothing leaves while an input stands retracted (R333).
Log: entry 30 (DEDUCED; DESIGN CHOICE). -/
def Gremon.primaryDone (g : Gremon) (rid period : Nat) (wrong : Bool) : Gremon :=
  match g.decl rid, g.red rid period with
  | some d, some r =>
    if r.closedAt.isNone ∨ r.out.isSome = true ∨ r.anyRetracted = true ∨ r.done = true then g
    else
      let m := g.redMerge d r
      let x := g.drawBytes (d.plen + 24)
      let pl := if wrong then x.1.take d.plen else m.1
      let cov := if wrong then x.1.drop d.plen else m.2.bytes
      let g := if wrong then x.2 else g
      let o := redRec d (r.jobOf d) period (eidGremon g.gid) cov r.attempt 0 (crc32c pl) pl
      let g := g.redOut d o
      g.setRed { r with out := some o, outAt := g.clk, wrong := wrong, verdict := false }
  | _, _ => g

/-- REDUCE_VERDICT (R330, R331): a match may CONFIRM; a mismatch, certain where one of the two erred, RETRACTs. The merges
ran on physical cores `p` and `q` of the primary's and the shadow's CT; `bad`: the shadow erred.
Log: entry 30 (DEDUCED; DESIGN CHOICE). -/
def Gremon.redVerdict (g : Gremon) (rid period : Nat) (bad : Bool) (p q : Nat) : Gremon :=
  match g.decl rid, g.red rid period with
  | some d, some r =>
    if r.out.isNone ∨ r.verdict = true ∨ r.final = true then g
    else if !bad && !r.wrong then g.redConfirm d { r with verdict := true }
    else
      let c := rid % 16
      let pr := match r.attempt % 3 with
        | 0 => (c, c ^^^ 8) | 1 => (c ^^^ 4, c ^^^ 12) | _ => (c ^^^ 2, c ^^^ 10)
      let right := some (crc32c (g.redMerge d r).1)
      let tried := r.tried ++ [(pr.1, p, if r.wrong then none else right), (pr.2, q, if bad then none else right)]
      (g.raise .reduceMismatch (leBytes 1 pr.1 ++ leBytes 1 pr.2)).redRetract d { r with tried := tried } true
  | _, _ => g

/-- VERDICT_TIMEOUT (R331): no verdict 2 µs after the PROVISIONAL. -/
def Gremon.verdictTimeout (g : Gremon) (rid period : Nat) : Gremon :=
  match g.decl rid, g.red rid period with
  | some d, some r =>
    if r.out.isNone ∨ r.verdict = true ∨ r.final = true then g else (g.moveTo (r.outAt + 2000)).redRetract d r true
  | _, _ => g

/-! ### Records received (R333) -/

/-- Apply a CONFIRM (1) or RETRACT (2) to the held contribution of child `src`. -/
def Gremon.redMark (g : Gremon) (d : RDecl) (r : RedPeriod) (src attempt st : Nat) : Gremon :=
  let r' := { r with inputs := r.inputs.map fun (i : RedIn) => if !i.tray && decide (i.src = src) && decide (i.attempt = attempt) then { i with state := st } else i }
  if st = 1 then (if r'.closedAt.isSome then g.redConfirm d r' else g.setRed r')
  else if r.out.isSome then g.redRetract d r' false else g.setRed r'

/-- RL_REDUCE_RX (R325, R328, R333, R684).
Log: entry 30 (DEDUCED; DESIGN CHOICE). -/
def Gremon.reduceRx (g : Gremon) : Gremon :=
  g.onRl 0x30 fun g m =>
    let b := m.bytes.drop 16
    let rid := rrRid b
    let src := leAt m.bytes 8 2
    let att := rrAttempt b
    let st := rrState b
    let period := rrPeriod b
    match g.decl rid with
    | none => g.raise .reduceRefused []
    | some d =>
      let g := if st = 0 ∨ st = 3 then
          let rest := g.redKids.filter fun k => decide (¬(k.rid = rid ∧ k.gid = src))
          { g with redKids := { rid := rid, gid := src, expected := (rrCov b).expected, left := false, members := [] } :: rest }
        else g
      let known := g.red rid period
      let ended := match known with
        | some r => r.ended
        | none => g.redClosed d period
      if ended then g.lateInput rid period (leAt b 16 4)
      else
        let r := known.getD (RedPeriod.fresh rid period)
        let held := r.inputs.find? fun i => !i.tray && decide (i.src = src)
        if st = 1 ∨ st = 2 then
          match held with
          | some i =>
            if att < i.attempt then g
            else if att = i.attempt then g.redMark d r src att st
            else g.setRed { r with early := r.early ++ [(src, att, st)] }
          | none => if r.closedAt.isSome then g else g.setRed { r with early := r.early ++ [(src, att, st)] }
        else if !d.takes b then g.raise .reduceRefused []
        else
          let fresh : RedIn := { tray := false, src := src, attempt := att, state := 0, record := b, gone := false }
          let later := r.early.find? fun e => decide (e.1 = src ∧ e.2.1 = att)
          let mark := fun (g : Gremon) =>
            match later, g.red rid period with
            | some (s, a, x), some r =>
              g.redMark d { r with early := r.early.filter fun e => decide (¬(e.1 = s ∧ e.2.1 = a)) } s a x
            | _, _ => g
          match held with
          | some i =>
            if att ≤ i.attempt then g
            else
              let r' := { r with inputs := r.inputs.map fun (i : RedIn) => if !i.tray && decide (i.src = src) then fresh else i }
              if r.out.isSome && !r.final then mark (g.redRetract d r' false) else mark (g.setRed r')
          | none =>
            if r.closedAt.isSome then g.lateInput rid period (leAt b 16 4)
            else mark ((g.setRed { r.begun g.clk with inputs := r.inputs ++ [fresh] }).redTryClose d period)

/-- RETENTION_END (R334): 4 × F after the close, inputs that stand retracted are given up. -/
def Gremon.retentionEnd (g : Gremon) (rid period : Nat) : Gremon :=
  match g.decl rid, g.red rid period with
  | some d, some r =>
    match r.closedAt with
    | none => g
    | some t =>
      let g := g.moveTo (t + 4 * g.frameNs)
      let gone := r.inputs.filter fun i => decide (i.state = 2) && !i.tray
      let kid := fun (i : RedIn) =>
        { ((g.redKids.find? fun k => decide (k.rid = rid ∧ k.gid = i.src)).getD
            { rid := rid, gid := i.src, expected := 0, left := false, members := [] }) with expected := (rrCov i.record).expected }
      let x := g.absentAll d (gone.map kid)
      let g := if gone.isEmpty then g else x.2.2.noteMissed rid period x.2.1
      let r := { r with ended := true, early := [], absentKids := if gone.isEmpty then r.absentKids else r.absentKids ++ x.1
                        inputs := r.inputs.map fun (i : RedIn) => if i.state = 2 then { i with gone := true } else i }
      if r.done then
        (if d.pkind = 2 then g.setRed { r with inputs := [], out := none }
         else { g with reds := g.reds.filter fun x => decide (¬(x.rid = rid ∧ x.period = period)) })
      else g.setRed r
  | _, _ => g

/-- Retained outputs that go to the PARENT are sent again to a new one (R440). -/
def Gremon.redResend (g : Gremon) : Gremon :=
  g.reds.foldl (fun g r =>
    match g.decl r.rid, r.out with
    | some d, some o =>
      if r.ended || !d.pod || g.root then g
      else
        let g := g.redOut d o
        if r.done then g.redSignal d r 1 else g
    | _, _ => g) g

end Sys2Proof.Machine
end

