-- ==== Sys2Proof/Machine/Blocks.lean ====
section
/-! DEFINITION. Sample blocks as Gremon reads and makes them (03 R124–R127), and its self-telemetry values (20 R667). -/
namespace Sys2Proof.Machine
open Sys2Proof

/-! ### Reading a block (Tables 3.15–3.17) -/

def blkFrame (b : List Byte) : Nat := leAt b 0 8
def blkNch (b : List Byte) : Nat := leAt b 8 2 % 8192
def blkFlags (b : List Byte) : Nat := leAt b 10 2
def blkQual (b : List Byte) : Nat := blkFlags b % 4
def blkKey (b : List Byte) : Bool := bit (blkFlags b) 2
def blkStep (b : List Byte) : Bool := bit (blkFlags b) 3
def blkDisc (b : List Byte) : Bool := bit (blkFlags b) 4
def blkRaw (b : List Byte) : Bool := bit (blkFlags b) 5
def blkShadow (b : List Byte) : Bool := bit (blkFlags b) 6
def blkPartial (b : List Byte) : Bool := bit (blkFlags b) 7
def blkGap (b : List Byte) : Bool := bit (blkFlags b) 8
def blkGen (b : List Byte) : Nat := leAt b 12 1
def blkNexc (b : List Byte) : Nat := leAt b 16 2

/-- The flags of channel `i`: BOUNDARY, CLR, NOVAL, SUSPECT, UNSERVED from bit 0. -/
def blkChan (b : List Byte) (i : Nat) : Nat :=
  (List.range (blkNexc b)).foldl (fun f j =>
    let e := leAt b (24 + 4 * j) 4
    if bits e 11 0 ≤ i ∧ i ≤ bits e 11 0 + bits e 23 12 then f ||| bits e 28 24 else f) 0

/-- One coded residue at parameter `k` (R126): the escape stands at 24 ones. -/
def takeRice (k : Nat) (bs : List Bool) : Option (Nat × List Bool) :=
  match takeOnes 24 0 bs with
  | none => none
  | some (24, r) => takeBits 64 r
  | some (q, r) => (takeBits k r).map fun x => (q * 2 ^ k + x.1, x.2)

/-- `n` residues of a group. -/
def takeRices (k : Nat) : (n : Nat) → List Bool → Option (List Nat × List Bool)
  | 0, bs => some ([], bs)
  | n + 1, bs =>
    match takeRice k bs with
    | none => none
    | some (z, r) => (takeRices k n r).map fun x => (z :: x.1, x.2)

/-- The residues of `n` channels, in groups of 32. -/
def takeRiceGroups : (fuel n : Nat) → List Bool → Option (List Nat)
  | 0, _, _ => none
  | fuel + 1, n, bs =>
    if n = 0 then some []
    else match takeBits 6 bs with
      | none => none
      | some (k, r) =>
        match takeRices k (min n 32) r with
        | none => none
        | some (zs, r) => (takeRiceGroups fuel (n - min n 32) r).map (zs ++ ·)

/-- The values of a block against the previous ones; none where its payload ends early. -/
def blkValues (b : List Byte) (prev : List W64) : Option (List W64) :=
  let n := blkNch b
  let bs := (b.drop (24 + 4 * blkNexc b)).flatMap fun x => bitsOf 8 x.toNat
  let bs := bs.take (leAt b 20 4)
  if blkRaw b then
    (if bs.length = 64 * n then
      some ((chunks 64 (n + 1) bs).map fun c => BitVec.ofNat 64 (c.foldr (fun b n => b2n b + 2 * n) 0)) else none)
  else (takeRiceGroups (n + 1) n bs).map fun zs =>
    zs.mapIdx fun i z => (if blkKey b then 0 else nth 0 prev i) + BitVec.ofNat 64 (unzigzag z)

/-- A KEY block of values without exceptions (Table 3.15), coded unless raw is shorter. -/
def keyBlock (frame : Nat) (q : Quality) (vals : List W64) : List Byte :=
  ({ frame := frame, upTo := 0, gen := 0, disc := false, step := false, partialEnd := false, shadow := false, keyed := false, qual := q, cutOfs := 0
     values := vals, flags := [], raw := false, keyint := 0 } : Latched).block [] false true

/-! ### Self-telemetry (R667, Table 20.12) -/

/-- Whether a channel is DELTA.
Log: entry 58 (DESIGN CHOICE). -/
def telDelta (i : Nat) : Bool := decide (i < 256) || (decide (290 ≤ i) && decide (i ≤ 307))

/-- What a DELTA channel counts, since reset.
Log: entry 58 (DESIGN CHOICE). -/
def Gremon.telCount (g : Gremon) (i : Nat) : Nat :=
  if i < 256 then
    (List.range 32).foldl (fun n l => n + (Tbl.get 0 (g.core (32 * (i / 16) + l)).opc (i % 16)).toNat) 0
  else if i < 296 then (g.port (i - 290)).crcErr
  else if i = 302 then g.lanes.foldl (fun n e => n + e.2.crcErr) 0
  else if i = 303 then g.lanes.foldl (fun n e => n + e.2.goBackCnt) 0
  else Tbl.get 0 g.sys.tel.counts i

/-- The DVFS setting of the CORE clocks, 0.1 MHz: 2.0 GHz, or 1.2 GHz in IDLE.
Log: entry 59 (DEDUCED). -/
def Gremon.dvfs (g : Gremon) : Nat := if g.sys.pwr.pstate = 1 then 12000 else 20000
/-- The CORE clock of a CT: the lower of the DVFS setting and the thermal ceiling, halved in BRACE (R675, R676).
Log: entry 59 (DEDUCED). -/
def Gremon.coreClock (g : Gremon) (ct : Nat) : Nat :=
  let c := min g.dvfs (Tbl.get 20000 g.sys.hot.ceiling ct)
  if g.sys.pwr.brace then c / 2 else c

/-- The value of a channel at a latch made now.
Log: entry 58 (DESIGN CHOICE). -/
def Gremon.telValue (g : Gremon) (i : Nat) : W64 :=
  if telDelta i then
    (if i < 256 ∧ g.sys.pwr.pstate = 3 then 0
     else BitVec.ofNat 64 (g.telCount i) - BitVec.ofNat 64 (Tbl.get 0 g.sys.tel.base i))
  else if 256 ≤ i ∧ i < 288 then BitVec.ofInt 64 (Tbl.get 0 g.sys.hot.dies (i - 256))
  else if i = 288 then BitVec.ofNat 64 (min g.sys.tel.vinMin g.sys.pwr.vin)
  else if i = 289 then BitVec.ofNat 64 g.sys.tel.power
  else if 308 ≤ i ∧ i < 324 then BitVec.ofNat 64 (g.coreClock (i - 308))
  else 0
/-- Log: entry 58 (DESIGN CHOICE). -/
def Gremon.telValues (g : Gremon) : List W64 := (List.range 336).map g.telValue

end Sys2Proof.Machine
end

