-- ==== Sys2Proof/Machine/Vigil.lean ====
section
/-! DEFINITION. Vigil at Gremon (14 R457–R473): arming a cut, its tick, banks, closing, the debug halt and its end. -/
namespace Sys2Proof.Machine
open Sys2Proof

def Gremon.onVig (g : Gremon) (f : VigilSvc → VigilSvc) : Gremon := g.onSvc fun s => { s with vig := f s.vig }
/-- Replace a cut. -/
def Gremon.setCut (g : Gremon) (c : Cut) : Gremon :=
  g.onVig fun v => { v with cuts := v.cuts.map fun x => if x.vseq = c.vseq then c else x }

/-- The lanes whose dies are in the scope of a cut (R459). -/
def Gremon.vigLanes (g : Gremon) (job : Nat) : List Nat :=
  (List.range 512).filter fun l => (g.die l).accepted && (decide (job = 0) || decide (g.jobOf (g.pda l) = job))

/-- The kits in the scope of a halt. -/
def Gremon.vigKits (g : Gremon) (job : Nat) : List (Nat × KitSlot) :=
  g.resident.filter fun e => decide (e.2.state = 3 ∨ e.2.state = 4) && (decide (job = 0) || decide (pkJob e.2.pkg = job))

/-- The trace sources of cores report entry to a low-power state or halt, PWR of ARG `arg` and PT, or the return from one
(R661). -/
def Gremon.traceDown (g : Gremon) (arg : Nat) (cs : List Nat) : Gremon :=
  cs.foldl (fun g n => g.traceCore n fun s e => if s.started then s.powerDown e arg else s) g
def Gremon.traceUp (g : Gremon) (cs : List Nat) : Gremon :=
  cs.foldl (fun g n => g.traceCore n fun s e => if s.started then s.emitSync e else s) g

/-- Cores of a set of kits stop issuing, for the reason `arg` of a PWR packet, or issue again.
Log: entry 34 (DESIGN CHOICE; DEDUCED). -/
def Gremon.setFrozen (g : Gremon) (on : Bool) (arg : Nat) (cs : List Nat) : Gremon :=
  let change := cs.filter fun n => decide ((g.core n).frozen ≠ on)
  let g := if on then g.traceDown arg change else g.traceUp change
  cs.foldl (fun g n =>
    let c := g.core n
    let g := g.setCore n { c with frozen := on }
    if on then g
    else match c.wait with
      | some (.done d) => g.endWait n d
      | _ => g) g

/-- A HALT cut reaches its tick (R469, R473).
Log: entry 25 (DEDUCED). -/
def Gremon.vigHalt (g : Gremon) (c : Cut) : Gremon × Cut :=
  if !c.halt then (g, c)
  else if g.conf then (g, { c with denied := true })
  else
    let g := g.setFrozen true 4 ((g.vigKits c.job).flatMap fun e => e.2.cores)
    (g.onVig fun v => { v with halts := v.halts ++ [{ vseq := c.vseq, job := c.job, resume := none }] },
     { c with halted := decide (g.sys.pwr.pstate ≠ 3) })

/-- A VIGIL broadcast is delivered (R458, R459, R471): the cut is armed, or missed; RESUME names a halt in force.
Log: entry 25 (DEDUCED). -/
def Gremon.vigilDeliver (g : Gremon) (p : List Byte) : Gremon :=
  let tick := leAt p 0 8
  let vseq := leAt p 8 4
  let job := leAt p 12 2
  let vfl := leAt p 14 2
  if bit vfl 1 then
    g.onVig fun v => { v with halts := v.halts.map fun h => if h.vseq = vseq then { h with resume := some tick } else h }
  else
    let late := decide (g.now + 20000 > tick)
    let ls := g.vigLanes job
    let c : Cut :=
      { vseq := vseq, tick := tick, job := job, halt := bit vfl 0, late := late, state := 0, stamp := Stamp.zero, rx := [], ports := []
        lanes := ls.map fun l => ({ lane := l, res := 5, qual := 0, guards := 0, bank := [] } : LaneCut)
        self := [], halted := false, denied := false, record := [] }
    let g := g.onVig fun v => { v with cuts := v.cuts.filter (fun x => decide (x.vseq ≠ vseq)) ++ [c] }
    if late then g.raise .vigilMissed []
    else ls.foldl (fun g l => g.command l 4 0 0 4 (leBytes 8 tick ++ leBytes 4 vseq ++ leBytes 4 0)) g

/-- Messages of a lane, and of a port and VC, stamped before `t` (R465). -/
def Gremon.laneBefore (g : Gremon) (l t : Nat) : Nat :=
  let x := g.lane l
  let late := (x.inbox.filter fun m => decide (m.stamp.ns.toNat ≥ t)).length +
    (x.rx.filter fun o => (o.map fun m => decide (m.stamp.ns.toNat ≥ t)).getD false).length
  (x.msgs + 2 ^ 32 - late) % 2 ^ 32
def Gremon.portBefore (g : Gremon) (p v t : Nat) : Nat :=
  let late := ((g.port p).rx.filter fun e => decide (e.1 / 256 = v) && decide (e.2.stamp.ns.toNat ≥ t)).length
  ((g.port p).rxMsgs.getD v 0 + 2 ^ 32 - late) % 2 ^ 32

/-- GREMON_VIGIL_TICK (R465, R469): the oldest cut whose tick has not come.
Log: entry 25 (DEDUCED). -/
def Gremon.vigilTick (g : Gremon) : Gremon :=
  match g.svc.vig.cuts.find? fun c => decide (c.state = 0) with
  | none => g
  | some c =>
    let g := g.moveTo c.tick
    let c := { c with
      state := 1, stamp := g.stamp, self := keyBlock (c.tick / max 1 g.frameNs) g.quality g.telValues
      rx := (List.range 512).foldl (fun t l => Tbl.set 0 t l (g.laneBefore l c.tick)) []
      ports := (List.range 24).map fun i => (g.portBefore (i / 4) (i % 4) c.tick, (g.port (i / 4)).txMsgs.getD (i % 4) 0) }
    let (g, c) := g.vigHalt c
    g.setCut c

/-- Bits set in a GUARD field. -/
def popBytes (bs : List Byte) : Nat := bs.foldl (fun n b => n + ((List.range 8).filter fun i => bit b.toNat i).length) 0

/-- VIGIL_BANK_RX (R466): a die's bank joins its cut; after the close it is discarded with LATE_INPUT, in HOLD as MISSING
(R606).
Log: entry 25 (DEDUCED). -/
def Gremon.vigilBankRx (g : Gremon) (lane : Nat) : Gremon :=
  let l := g.lane lane
  match takeFirst (fun m => decide (leAt m.bytes 0 1 = 2)) l.inbox with
  | none => g
  | some (m, r) =>
    let g := g.setLane lane { l with inbox := r }
    let b := m.bytes
    let vseq := leAt b 4 4
    let n := 4 * ((leAt b 16 2 + 31) / 32)
    let bank := b.drop (20 + n)
    if g.sys.pwr.pstate = 3 then g
    else match g.svc.vig.cuts.find? fun c => decide (c.vseq = vseq ∧ c.state ≠ 2) && c.lanes.any fun e => decide (e.lane = lane) with
      | none => g.lateInput 0xF0000001 vseq (eidPhys (g.pda lane))
      | some c =>
        g.setCut { c with lanes := c.lanes.map fun e =>
          if e.lane = lane then
            { e with res := if blkShadow bank then 2 else 1, qual := blkQual bank
                     guards := sat 0xFFFF (popBytes ((b.drop 20).take n)), bank := b.drop 4 }
          else e }

/-- VIGIL_LATE and VIGIL_NOBANK events of a die: no bank will come (Table 14.3). -/
def Gremon.vigilNone (g : Gremon) (lane res : Nat) : Gremon :=
  let mine := fun (c : Cut) => decide (c.state ≠ 2) && c.lanes.any fun e => decide (e.lane = lane ∧ e.res = 5)
  let cs := g.svc.vig.cuts.filter mine
  match (if res = 4 then cs.getLast? else cs.head?) with
  | some c => g.setCut { c with lanes := c.lanes.map fun e => if e.lane = lane then { e with res := res } else e }
  | none => g

/-- The cut record (Tables 14.5, 14.6). -/
def Gremon.cutRecord (g : Gremon) (c : Cut) (cov : List Byte) : List Byte :=
  let lane := fun (l : Nat) =>
    match c.lanes.find? fun e => decide (e.lane = l) with
    | some e => leBytes 8 (Tbl.get 0 c.rx l + 2 ^ 32 * e.res + 2 ^ 35 * e.qual + 2 ^ 48 * e.guards)
    | none => leBytes 8 (Tbl.get 0 c.rx l)
  leBytes 4 c.vseq ++ leBytes 2 g.gid ++ leBytes 2 (b2n c.halted + 2 * b2n c.denied + 4 * b2n c.late) ++ leBytes 8 c.tick ++
    c.stamp.bytes ++ leBytes 4 0 ++ cov ++ leBytes 8 0 ++ (List.range 512).flatMap lane ++
    (List.range 24).flatMap (fun i =>
      let e := c.ports.getD i (0, 0)
      leBytes 4 e.1 ++ leBytes 4 e.2) ++ c.self

/-- The unit of a die in a cut's coverage: its logical EID in a job's cut. -/
def Gremon.cutUnit (g : Gremon) (job lane : Nat) : Nat :=
  match g.bindOf (g.pda lane) with
  | some b => if job = 0 then eidPhys (g.pda lane) else eidLog b.lda
  | none => eidPhys (g.pda lane)

/-- VIGIL_CLOSE (R466, R467): the oldest cut past its tick closes, at once when every bank has come, else at t + VWIN.
Log: entry 25 (DEDUCED). -/
def Gremon.vigilClose (g : Gremon) : Gremon :=
  match g.svc.vig.cuts.find? fun c => decide (c.state = 1) with
  | none => g
  | some c =>
    let win := max 1 (min 100 (g.fld (ind 0xC0004) 6 0))
    let here := c.lanes.filter fun e => decide (e.res = 1 ∨ e.res = 2)
    let g := if here.length = c.lanes.length then g else g.moveTo (c.tick + 100000 * win)
    let missing := (c.lanes.filter fun e => decide (e.res > 2)).map fun e => g.cutUnit c.job e.lane
    let cov := Coverage.of 0 c.lanes.length missing false 0
    let g := g.setCut { c with state := 2, record := g.cutRecord c cov.bytes }
    let g := g.onVig fun v =>
      let shut := v.cuts.filter fun x => decide (x.state = 2)
      let old := (shut.take (shut.length - 16)).map (·.vseq)
      { v with cuts := v.cuts.filter fun x => !old.contains x.vseq }
    let count := fun (p : LaneCut → Bool) => (c.lanes.filter p).length
    g.redOwn 0xF0000001 c.job c.vseq
      [count fun e => decide (e.res = 1), count fun e => decide (e.res = 2), c.lanes.foldl (fun n e => n + e.guards) 0,
       count fun e => decide (e.guards > 0)]

/-- VIGIL_RESUME_TICK (R471): the first RESUME to come ends its halt.
Log: entry 25 (DEDUCED). -/
def Gremon.vigilResume (g : Gremon) : Gremon :=
  let due := g.svc.vig.halts.filterMap fun h => h.resume.map fun t => (t, h)
  match due with
  | [] => g
  | d :: r =>
    let (t, h) := r.foldl (fun (b : Nat × HaltRec) x => if x.1 < b.1 then x else b) d
    let g := g.moveTo t
    let g := g.onVig fun v => { v with halts := v.halts.filter fun x => decide (x ≠ h) }
    (g.vigKits h.job).foldl (fun g e =>
      if (g.haltsOf (pkJob e.2.pkg)).isEmpty then (g.setFrozen false 4 e.2.cores).phasesFrom e.1 t else g) g

/-- GR_VIG_STAT (Table 14.19).
Log: entry 25 (DEDUCED). -/
def Gremon.vigStat (g : Gremon) : Nat :=
  let v := g.svc.vig
  b2n (v.cuts.any fun c => decide (c.state ≠ 2) && !c.late) + 2 * b2n (!v.halts.isEmpty) +
    65536 * ((v.cuts.getLast?.map fun c => c.vseq % 65536).getD 0)

end Sys2Proof.Machine
end

