-- ==== Sys2Proof/Machine/Lantern.lean ====
section
/-! DEFINITION. The Lantern service (14 R474–R478). -/
namespace Sys2Proof.Machine
open Sys2Proof

def kLan : Nat := ind 0xA0000
/-- Change the Lantern service. -/
def Gremon.onLan (g : Gremon) (f : LanternSvc → LanternSvc) : Gremon := g.onSvc fun s => { s with lan := f s.lan }
/-- A parity fault of the service's registers (Table 17.3). -/
def Gremon.lanBad (g : Gremon) : Bool := g.regs.force.any fun k => decide (kLan ≤ k) && decide (k < kLan + 0x300)

/-- BP[j] and PR[j] of a set of registers read by `v`. -/
def lanBp (v : Nat → Nat) (j : Nat) : Int := toInt 64 (v (kLan + 0x100 + 8 * j) + 2 ^ 32 * v (kLan + 0x104 + 8 * j))
def lanPr (v : Nat → Nat) (j : Nat) : Nat := v (kLan + 0x200 + 4 * j) % 65536

/-- Whether a calibration (R475), and a set of thresholds (R476), may be applied. -/
def lanCalOk (v : Nat → Nat) : Bool :=
  ((List.range 15).all fun j => decide (lanBp v j < lanBp v (j + 1))) &&
    ((List.range 16).all fun j => decide (lanPr v j ≤ lanPr v (j + 1)))
def lanThrOk (v : Nat → Nat) : Bool :=
  decide (v (kLan + 0xC) % 65536 < v (kLan + 0xC) / 65536) && decide (v (kLan + 0xC) / 65536 < v (kLan + 0x10) % 65536)

/-- The risk of a score (R475). -/
def Gremon.lanRisk (g : Gremon) (score : Nat) : Nat :=
  lanPr g.reg ((List.range 16).filter fun j => decide (lanBp g.reg j ≤ toInt 64 score)).length

/-- The thresholds by level: 0, TW, TC, TD. -/
def Gremon.lanThr (g : Gremon) (l : Nat) : Nat :=
  match l with
  | 0 => 0 | 1 => g.fld (kLan + 0xC) 15 0 | 2 => g.fld (kLan + 0xC) 31 16 | _ => g.fld (kLan + 0x10) 15 0

/-- Falling from level `l` (R476). -/
def Gremon.lanFall (g : Gremon) (r : Nat) : Nat → Nat
  | 0 => 0
  | l + 1 => if r + g.fld (kLan + 0x10) 31 16 < g.lanThr (l + 1) then g.lanFall r l else l + 1

/-- The level after a RISK (R476). -/
def Gremon.lanLevel (g : Gremon) (prev r : Nat) : Nat :=
  let up := if r ≥ g.lanThr 3 then 3 else if r ≥ g.lanThr 2 then 2 else if r ≥ g.lanThr 1 then 1 else 0
  if up ≥ prev then up else g.lanFall r prev

/-- A LANTERN advisory, from message byte 16 (Table 14.8). -/
def lanBody (e : LanEnt) (prev horizon period score : Nat) (st : Stamp) : List Byte :=
  leBytes 4 e.eid ++ leBytes 4 e.leid ++ leBytes 2 e.job ++ leBytes 1 e.level ++ leBytes 1 prev ++ leBytes 2 e.risk ++
    leBytes 2 horizon ++ leBytes 8 period ++ leBytes 8 score ++ st.bytes ++ leBytes 4 0

/-- An entity in a list, replaced or added. -/
def LanEnt.into (e : LanEnt) (l : List LanEnt) : List LanEnt :=
  if l.any fun x => decide (x.eid = e.eid) then l.map fun x => if x.eid = e.eid then e else x else l ++ [e]

/-- An advisory reaches the root's books: the latest level and risk, the pod level and its advisory, and the trigger
service (R477, R478). -/
def Gremon.lanRoot (g : Gremon) (b : List Byte) : Gremon :=
  let e : LanEnt := { eid := leAt b 0 4, level := leAt b 10 1, risk := leAt b 12 2, job := leAt b 8 2, leid := leAt b 4 4 }
  let g := g.onLan fun l => { l with root := e.into l.root }
  let up := g.svc.lan.root.filter fun x => decide (bits x.eid 31 30 = 1 ∨ bits x.eid 31 30 = 2)
  let lvl := up.foldl (fun m x => max m x.level) 0
  let risk := up.foldl (fun m x => max m x.risk) 0
  let prev := g.svc.lan.podLevel
  let g := g.onLan fun l => { l with podLevel := lvl, podRisk := risk }
  let g := if lvl = prev then g
    else g.deliver 2 false 0 (lanBody { eid := eidPod, level := lvl, risk := risk, job := 0, leid := 0xFFFFFFFF } prev (leAt b 14 2)
      (leAt b 16 8) (leAt b 24 8) g.stamp)
  g.ckptLevels

/-- An advisory of this Gremon: to its own result queues and to the root (R477).
Log: entry 26 (DEDUCED; DESIGN CHOICE). -/
def Gremon.lanAdvise (g : Gremon) (b : List Byte) : Gremon :=
  let g := g.deliver 2 false (leAt b 8 2) b
  if g.root then g.lanRoot b else g.rlTo g.tree.root vcLantern 0x22 0 b

/-- RL_LANTERN_RX (R477).
Log: entry 26 (DEDUCED; DESIGN CHOICE). -/
def Gremon.lanternRx (g : Gremon) : Gremon :=
  g.onRl 0x22 fun g m =>
    let b := (m.bytes.drop 16).take 48
    if g.root then (g.deliver 2 false (leAt b 8 2) b).lanRoot b else g

/-- Whether an entry names an entity of this tray: an enumerated die, the tray or this Gremon (Table 14.7). -/
def Gremon.lanOwn (g : Gremon) (e : Nat) : Bool :=
  decide (e = eidTray g.gid) || decide (e = eidGremon g.gid) ||
    (decide (e < 2 ^ 19) && decide (e / 512 = g.gid) && (g.die (e % 512)).accepted)

/-- One score of a usable block. -/
def Gremon.lanScore (g : Gremon) (period eid score : Nat) : Gremon :=
  let b := if eid < 2 ^ 19 then g.bindOf eid else none
  let old := (g.svc.lan.ents.find? fun x => decide (x.eid = eid)).getD { eid := eid, level := 0, risk := 0, job := 0, leid := 0 }
  let risk := g.lanRisk score
  let e : LanEnt := { eid := eid, level := g.lanLevel old.level risk, risk := risk, job := (b.map (·.job)).getD 0
                      leid := (b.map fun b => eidLog b.lda).getD 0xFFFFFFFF }
  let g := g.onLan fun l => { l with ents := e.into l.ents }
  if e.level = old.level then g else g.lanAdvise (lanBody e old.level (g.fld kLan 31 16) period score g.stamp)

/-- The score block of period `k − 1`, if the source kit has written it whole (R474).
Log: entry 26 (DEDUCED; DESIGN CHOICE). -/
def Gremon.lanBlock (g : Gremon) (k : Nat) : Option (List (Nat × Nat)) :=
  match g.resident.find? fun e => decide (leAt e.2.pkg 8 4 = g.reg (kLan + 4)) with
  | none => none
  | some (_, kit) =>
    let ct := g.fld (kLan + 8) 3 0
    let buf := Tbl.get (0, 0) kit.bufs ct
    let o := 64 * g.fld (kLan + 8) 31 4
    let a := bufCna ct (buf.1 + o)
    let n := g.rd (a + 8) 4
    if o + 64 > buf.2 then none
    else if n > 4096 ∨ o + 64 + 16 * n > buf.2 ∨ g.rd a 8 + 1 ≠ k ∨ g.flowPoison 30 a (64 + 16 * n) = true then none
    else some ((List.range n).map fun i => (g.rd (a + 64 + 16 * i) 4, g.rd (a + 72 + 16 * i) 8))

/-- A period without a usable block (R474).
Log: entry 26 (DEDUCED; DESIGN CHOICE). -/
def Gremon.lanMiss (g : Gremon) : Gremon :=
  let l := g.svc.lan
  let g := g.onLan fun l => { l with missed := l.missed + 1, stale := l.stale || decide (l.missed + 1 ≥ 3) }
  if l.missed + 1 ≥ 3 ∧ l.stale = false then g.raise .lanternStale [] else g

/-- LANTERN_READ (R474): the read for the next scoring boundary. While EN is 0, or PT is UNSET, nothing is read.
Log: entry 26 (DEDUCED; DESIGN CHOICE). -/
def Gremon.lanternRead (g : Gremon) : Gremon :=
  if !bit (g.reg kLan) 0 ∨ g.clock.own = .unset then g.onLan fun l => { l with lastK := none }
  else
    let s := max 1 g.scoreNs
    let d := 10000 * g.fld kLan 15 8
    let k := match g.svc.lan.lastK with
      | some k => k + 1
      | none => (g.now - d + s - 1) / s
    let g := g.moveTo (k * s + d)
    let g := g.onLan fun l => { l with lastK := some k }
    if g.lanBad then g.onLan fun l => { l with stale := true }
    else match g.lanBlock k with
      | none => g.lanMiss
      | some es =>
        let g := g.onLan fun l => { l with missed := 0, stale := false }
        (es.foldl (fun (x : Gremon × List Nat) e =>
          if x.2.contains e.1 || !x.1.lanOwn e.1 then (x.1.onLan fun l => { l with badEnt := sat 0xFFFF (l.badEnt + 1) }, x.2)
          else (x.1.lanScore (k - 1) e.1 e.2, e.1 :: x.2)) (g, [])).1

/-- GR_LAN_STAT (Table 14.20). -/
def Gremon.lanStat (g : Gremon) : Nat :=
  let l := g.svc.lan
  (if g.root then l.podLevel else 0) + 4 * b2n (l.stale || g.lanBad) + 65536 * l.badEnt

end Sys2Proof.Machine
end

