-- ==== Sys2Proof/Machine/Sha.lean ====
section
/-! DEFINITION. SHA-384 (FIPS 180-4), which the spec names for manifests, images and measurements (R389, R491, R497,
R619, R629). Its constants are computed from the primes they stand for. -/
namespace Sys2Proof

/-- The greatest `r` with `r ^ e ≤ n`, found bit by bit from bit `k - 1` down. -/
def rootFrom (e n : Nat) : Nat → Nat → Nat
  | 0, r => r
  | k + 1, r => rootFrom e n k (if (r + 2 ^ k) ^ e ≤ n then r + 2 ^ k else r)

/-- The first 64 bits of the fractional part of the `e`-th root of a prime below 512. -/
def shaFraction (e p : Nat) : Nat := rootFrom e (p * 2 ^ (64 * e)) 69 0 % 2 ^ 64

/-- The first 80 primes: the numbers below 410 that nothing from 2 to 20 divides, but for itself. -/
def shaPrimes : List Nat :=
  (List.range 410).filter fun n => decide (1 < n) && (List.range 21).all fun d => decide (d < 2) || decide (d = n) || decide (n % d ≠ 0)

/-- The round constants come from cube roots; the first chaining value of SHA-384 from the square roots of the ninth to the
sixteenth prime. -/
def shaRoundConstants : List Nat := shaPrimes.map (shaFraction 3)
def shaFirst : List Nat := ((shaPrimes.drop 8).take 8).map (shaFraction 2)

/-- Exclusive or of a 64-bit word turned right by each of some amounts. -/
def turned (x : Nat) (by' : List Nat) : Nat :=
  (by'.map fun n => (x * 2 ^ 64 + x) / 2 ^ n % 2 ^ 64).foldr Nat.xor 0

/-- Bytes as a big-endian number, and a number as `n` big-endian bytes. -/
def ofBe (bs : List Byte) : Nat := bs.foldl (fun n b => 256 * n + b.toNat) 0
def beBytes (n v : Nat) : List Byte := (leBytes n v).reverse

/-- What a round works on: the four words from `a` on, the four from `e` on, and the next sixteen words of the message
schedule, oldest first. -/
structure ShaState where
  left : List Nat
  right : List Nat
  window : List Nat
  deriving DecidableEq, Repr

/-- One round with its constant: each half shifts in one new word, and the schedule gains the word sixteen ahead. -/
def ShaState.round (s : ShaState) (k : Nat) : ShaState :=
  let l := fun i => s.left.getD i 0
  let r := fun i => s.right.getD i 0
  let w := fun i => s.window.getD i 0
  let choice := Nat.xor (r 2) (Nat.land (r 0) (Nat.xor (r 1) (r 2)))
  let majority := Nat.lor (Nat.land (l 0) (l 1)) (Nat.land (l 2) (Nat.lor (l 0) (l 1)))
  let mixed := r 3 + turned (r 0) [14, 18, 41] + choice + k + w 0
  let ahead := w 0 + Nat.xor (turned (w 1) [1, 8]) (w 1 / 2 ^ 7) + w 9 + Nat.xor (turned (w 14) [19, 61]) (w 14 / 2 ^ 6)
  { left := (mixed + turned (l 0) [28, 34, 39] + majority) % 2 ^ 64 :: s.left.take 3
    right := (l 3 + mixed) % 2 ^ 64 :: s.right.take 3
    window := s.window.drop 1 ++ [ahead % 2 ^ 64] }

/-- The chaining value after one block of 128 bytes. -/
def shaBlock (chain : List Nat) (block : List Byte) : List Nat :=
  let words := (List.range 16).map fun i => ofBe ((block.drop (8 * i)).take 8)
  let s := shaRoundConstants.foldl ShaState.round { left := chain.take 4, right := chain.drop 4, window := words }
  List.zipWith (fun x y => (x + y) % 2 ^ 64) chain (s.left ++ s.right)

/-- A message with the padding that fills its last block: a one bit, zeros, and its length in bits. -/
def shaPadded (bs : List Byte) : List Byte :=
  bs ++ 0x80 :: List.replicate ((239 - bs.length % 128) % 128) 0 ++ beBytes 16 (8 * bs.length)

/-- SHA-384 of bytes: 48 bytes.
Log: entry 10 (DESIGN CHOICE). -/
def sha384 (bs : List Byte) : List Byte :=
  let m := shaPadded bs
  let chain := (List.range (m.length / 128)).foldl (fun c i => shaBlock c ((m.drop (128 * i)).take 128)) shaFirst
  (chain.take 6).flatMap (beBytes 8)

end Sys2Proof
end

