-- ==== Sys2Proof/Machine/Continuity.lean ====
section
/-! DEFINITION. Shard logs, manifests and restore verdicts (14 R489–R494): what a Gremon files, and what the root makes of
the entries it gathers. The queries that carry them are in Query. -/
namespace Sys2Proof.Machine
open Sys2Proof

/-- Change the continuity service. -/
def Gremon.onCont (g : Gremon) (f : Continuity → Continuity) : Gremon := g.onSvc fun s => { s with cont := f s.cont }

/-! ### Filing (R489) -/

/-- The first message of a type that waits on a lane, and the rest.
Log: entry 11 (DESIGN CHOICE). -/
def Gremon.takeLane (g : Gremon) (lane ty : Nat) : Option (RxMsg × Gremon) :=
  (takeFirst (fun m => decide (leAt m.bytes 0 1 = ty)) (g.lane lane).inbox).map fun x =>
    (x.1, g.setLane lane { g.lane lane with inbox := x.2 })

/-- SEGD_RX: segment digests wait for their SHARD. -/
def Gremon.segdRx (g : Gremon) (lane : Nat) : Gremon :=
  match g.takeLane lane 0x12 with
  | some (m, g) => g.onCont fun c => { c with segs := c.segs ++ [(lane, m.bytes)] }
  | none => g

/-- Drop the step whose latest entry is the oldest while a job and direction hold more than 8 steps. -/
def dropSteps (job : Nat) (dirIn : Bool) (l : List ShardEnt) : List ShardEnt :=
  let mine := fun (e : ShardEnt) => decide (e.job = job ∧ e.dirIn = dirIn)
  let order := ((l.filter mine).reverse.map (·.step)).eraseDups
  match order.drop 8 with
  | [] => l
  | old => l.filter fun e => !(mine e && old.contains e.step)

/-- The shard-log entry of a SHARD message and its segment digests (Table 14.11). -/
def shardBytes (lda pda : Nat) (m segs : List Byte) : List Byte :=
  leBytes 4 lda ++ (m.drop 16).take 4 ++ leBytes 8 (leAt m 8 6) ++ (m.drop 24).take 8 ++ (m.drop 32).take 32 ++ (m.drop 20).take 4 ++
    leBytes 2 (segs.length / 16) ++ (m.drop 7).take 1 ++ (m.drop 6).take 1 ++ leBytes 4 pda ++ (m.drop 64).take 12 ++ segs

/-- SHARD_RX (R489). The LDA of a die that is not bound is open.
Log: entry 27 (DEDUCED; DESIGN CHOICE). -/
def Gremon.shardRx (g : Gremon) (lane : Nat) : Gremon :=
  let early := ((g.lane lane).inbox.takeWhile fun m => decide (leAt m.bytes 0 1 ≠ 0x11)).filter fun m => decide (leAt m.bytes 0 1 = 0x12)
  let g := early.foldl (fun g _ => g.segdRx lane) g
  match g.takeLane lane 0x11 with
  | none => g
  | some (x, g) =>
    let m := x.bytes
    let same := fun (s : Nat × List Byte) => decide (s.1 = lane) && decide ((s.2.drop 4).take 3 = (m.drop 4).take 3) &&
      decide ((s.2.drop 8).take 12 = (m.drop 8).take 12)
    let segs := (g.svc.cont.segs.filter same).flatMap fun s => (s.2.drop 24).take (16 * leAt s.2 7 1)
    let (f, g) := g.draw
    let lda := ((g.bindOf (g.pda lane)).map (·.lda)).getD (f % 2 ^ 20)
    let job := leAt m 4 2
    let dirIn := bit (leAt m 7 1) 0
    let e : ShardEnt := { job := job, dirIn := dirIn, step := leAt m 8 6, close := leAt m 64 8, lda := lda, bytes := shardBytes lda (g.pda lane) m segs }
    g.onCont fun c => { c with segs := c.segs.filter (fun s => decide (s.1 ≠ lane)), log := dropSteps job dirIn (c.log ++ [e]) }

/-! ### Entries (Table 14.11) -/

def seLda (e : List Byte) : Nat := leAt e 0 4
def seShard (e : List Byte) : Nat := leAt e 4 4
def seStep (e : List Byte) : Nat := leAt e 8 6
def seLen (e : List Byte) : Nat := leAt e 16 8
def seSeg0 (e : List Byte) : Nat := leAt e 56 4
def seNseg (e : List Byte) : Nat := leAt e 60 2
def seFlags (e : List Byte) : Nat := leAt e 62 1
def seSize (e : List Byte) : Nat := 80 + 16 * seNseg e
def seBroken (e : List Byte) : Bool := bit (seFlags e) 1 || bit (seFlags e) 2
def seSegments (e : List Byte) : Bool := bit (seFlags e) 3
/-- The digest of segment `i` of an entry. -/
def seSeg (e : List Byte) (i : Nat) : List Byte := (e.drop (80 + 16 * (i - seSeg0 e))).take 16
def seHas (e : List Byte) (i : Nat) : Bool := decide (seSeg0 e ≤ i) && decide (i < seSeg0 e + seNseg e)

/-- Bytes cut into entries. -/
def seSplit : Nat → List Byte → List (List Byte)
  | 0, _ => []
  | n + 1, bs => if bs.length < 80 then [] else bs.take (seSize bs) :: seSplit n (bs.drop (seSize bs))

/-- Lists kept in ascending order of a key. -/
def insertBy {α : Type} (key : α → List Nat) (x : α) : List α → List α
  | [] => [x]
  | y :: t => if lexLt (key x) (key y) then x :: y :: t else y :: insertBy key x t
def sortBy {α : Type} (key : α → List Nat) (l : List α) : List α := l.foldl (fun a x => insertBy key x a) []
/-- Manifest order. -/
def seKey (e : List Byte) : List Nat := [seLda e, seShard e, seSeg0 e]

/-- A Gremon's entries for a seal (OUT, one step) or a restore (IN, any step, closed after the open).
Log: entry 27 (DEDUCED; DESIGN CHOICE). -/
def Gremon.contEntries (g : Gremon) (dirIn : Bool) (job step openAt : Nat) : List (List Byte) :=
  sortBy seKey ((g.svc.cont.log.filter fun e =>
    decide (e.job = job ∧ e.dirIn = dirIn) && (if dirIn then decide (e.close > openAt) else decide (e.step = step))).map (·.bytes))

/-- The dies bound to a job: LDA and the Gremon that serves each. -/
def Gremon.jobDies (g : Gremon) (job : Nat) : List (Nat × Nat) :=
  (g.binds.filter fun b => decide (b.job = job) && decide (b.state = 1 ∨ b.state = 2)).map fun b => (b.lda, b.pda / 512)

/-- Coverage over dies, by LDA. -/
def dieCov (expected missing : List Nat) : Coverage := Coverage.of 0 expected.length (missing.map eidLog) false 0

/-- The coverage of a Gremon's answer: a die with NSH sound entries is received (R490); for a restore, with any.
Log: entry 27 (DEDUCED; DESIGN CHOICE). -/
def Gremon.contCov (g : Gremon) (job nsh gid : Nat) (es : List (List Byte)) : Coverage :=
  let dies := ((g.jobDies job).filter fun d => decide (d.2 = gid)).map (·.1)
  dieCov dies (dies.filter fun l => decide ((es.filter fun e => decide (seLda e = l) && !seBroken e).length < max 1 nsh))

/-! ### The pod manifest (R491) -/

/-- The manifest of gathered entries; its signature is open.
Log: entry 27 (DEDUCED; DESIGN CHOICE). -/
def Gremon.podManifest (g : Gremon) (job step nsh : Nat) (es : List (List Byte)) (cov : List Byte) : List Byte × Gremon :=
  let body := (sortBy seKey es).flatten
  let m := leBytes 4 0x4E414D58 ++ leBytes 2 1 ++ leBytes 2 job ++ leBytes 8 step ++ leBytes 4 nsh ++ leBytes 4 es.length ++
    leBytes 8 body.length ++ cov ++ g.stamp.bytes ++ leBytes 2 g.gid ++ leBytes 10 0 ++ sha384 body ++ body
  let (sig, g) := g.drawBytes 96
  (m ++ sig, g)

def pmJob (m : List Byte) : Nat := leAt m 6 2
def pmStep (m : List Byte) : Nat := leAt m 8 8
def pmRoot (m : List Byte) : Nat := leAt m 68 2
def pmEntries (m : List Byte) : List (List Byte) := seSplit (leAt m 20 4) ((m.drop 128).take (leAt m 24 8))
/-- Whether a manifest is whole: magic, format, lengths and the digest of its entries. -/
def pmOk (m : List Byte) : Bool :=
  decide (leAt m 0 4 = 0x4E414D58) && decide (leAt m 4 2 = 1) && decide (m.length = 224 + leAt m 24 8) && zeroAt m 70 10 &&
    decide ((pmEntries m).length = leAt m 20 4) && decide (((pmEntries m).foldl (fun n e => n + e.length) 0) = leAt m 24 8) &&
    decide (sha384 ((m.drop 128).take (leAt m 24 8)) = (m.drop 80).take 48)

/-! ### Restore verification (R492–R494) -/

/-- The manifest's entries of a shard, and its entry that an IN entry is held against. -/
def pmShard (ms : List (List Byte)) (s : Nat) : List (List Byte) := ms.filter fun m => decide (seShard m = s)
def pmEntry (ms : List (List Byte)) (s : Nat) : Option (List Byte) :=
  let l := pmShard ms s
  match l.find? fun m => !seSegments m with
  | some m => some m
  | none => l.head?
/-- The manifest's entry of an IN entry's shard that carries the same LDA, if any. -/
def pmSame (ms : List (List Byte)) (e : List Byte) : Option (List Byte) :=
  (pmShard ms (seShard e)).find? fun m => decide (seLda m = seLda e)
/-- The manifest's digest of a segment. -/
def pmSeg (ms : List (List Byte)) (s i : Nat) : Option (List Byte) :=
  ((pmShard ms s).find? fun m => seHas m i).map fun m => seSeg m i
/-- Segments of an entry. -/
def seSegs (e : List Byte) : List Nat := (List.range (seNseg e)).map (· + seSeg0 e)

/-- The class of an IN entry (Table 14.14): 0 MATCH, 1 OTHER_STEP, 2 UNKNOWN, 3 DIGEST_BAD, 4 CONT_BAD, 5 BROKEN. -/
def seClass (ms : List (List Byte)) (step : Nat) (e : List Byte) : Nat :=
  if seBroken e then 5
  else if seStep e ≠ step then 1
  else match pmEntry ms (seShard e) with
    | none => 2
    | some m =>
      if (seSegs e).any fun i => (pmSeg ms (seShard e) i).isNone then 2
      else
        let whole := !seSegments e && !seSegments m && decide (seLen e = seLen m)
        let bad : Bool :=
          if whole then decide ((e.drop 24).take 16 ≠ (m.drop 24).take 16)
          else (seSegs e).any fun i => decide (pmSeg ms (seShard e) i ≠ some (seSeg e i))
        if bad then 3
        else match pmSame ms e with
          | some x => if (e.drop 40).take 16 ≠ (x.drop 40).take 16 then 4 else 0
          | none => 0

/-- What a restore comes to. -/
structure Verdict where
  verdict : Nat
  record  : List Byte
deriving DecidableEq, Repr

/-- The verdict and its record (R493, Table 14.15): manifest entries, IN entries, and the LDAs of the job's dies.
Log: entry 27 (DEDUCED; DESIGN CHOICE). -/
def restoreVerdict (job step : Nat) (ms ins : List (List Byte)) (dies : List Nat) : Verdict :=
  let cls := ins.map fun e => (e, seClass ms step e)
  let n := fun (k : Nat) => (cls.filter fun c => decide (c.2 = k)).length
  let good := (cls.filter fun c => decide (c.2 = 0)).map (·.1)
  let shards := (ms.map seShard).eraseDups
  let covered := fun (s i : Nat) => good.any fun e => decide (seShard e = s) && seHas e i
  let missing := shards.filter fun s => (pmShard ms s).any fun m => (seSegs m).any fun i => !covered s i
  let unchecked := (good.filter fun e => (pmSame ms e).isNone).length
  let steps := sortBy (fun s => [s]) (ins.map seStep).eraseDups
  let hist := steps.map fun s => (s, (ins.filter fun e => decide (seStep e = s)).length)
  let v := if steps.length ≥ 2 then 3
    else if n 2 + n 3 + n 4 + n 5 > 0 ∨ (ins ≠ [] ∧ n 1 = ins.length) then 2
    else if missing.isEmpty then 0 else 1
  let out := dies.filter fun l =>
    let mine := cls.filter fun c => decide (seLda c.1 = l)
    mine.isEmpty || (mine.any fun c => decide (c.2 ≠ 0)) || ms.any fun m => decide (seLda m = l) && missing.contains (seShard m)
  let off := (cls.filter fun c => decide (c.2 ≠ 0)).map (fun c => (seShard c.1, seLda c.1, seStep c.1, c.2)) ++
    missing.map fun s => (s, ((pmEntry ms s).map seLda).getD 0, step, 6)
  let off := sortBy (fun (o : Nat × Nat × Nat × Nat) => [o.1]) off
  let r := leBytes 2 job ++ leBytes 1 v ++ leBytes 1 (min 16 hist.length) ++ leBytes 4 0 ++ leBytes 8 step ++
    ([n 0, n 1, n 2, n 3, n 4, n 5, missing.length, unchecked].flatMap (leBytes 8)) ++
    padTo 256 ((hist.take 16).flatMap fun h => leBytes 8 h.1 ++ leBytes 8 h.2) ++
    leBytes 8 ((hist.drop 16).foldl (fun n h => n + h.2) 0) ++ (dieCov dies out).bytes ++ leBytes 4 off.length ++ leBytes 12 0 ++
    off.flatMap fun o => leBytes 4 o.1 ++ leBytes 4 o.2.1 ++ leBytes 8 o.2.2.1 ++ leBytes 1 o.2.2.2 ++ leBytes 7 0
  { verdict := v, record := r }

end Sys2Proof.Machine
end

