-- ==== Sys2Proof/Machine/History.lean ====
section
/-! DEFINITION. The history store (11 R370–R381): filing of samples and summaries, the rings, the scan of a retrospective
query, and the copy-on-write export (R382–R385). -/
namespace Sys2Proof.Machine
open Sys2Proof

/-- Change the history service. -/
def Gremon.onHist (g : Gremon) (f : History → History) : Gremon := g.onSvc fun s => { s with hist := f s.hist }

/-! ### Tiers, rings and the frame-length log -/

def kHist : Nat := ind 0x90000
def kExp : Nat := ind 0x90040

/-- Bytes of a tier, and the HPA of its ring: FULL, MS1, MS10 in this order from the start of the region (R370). -/
def Gremon.tierSize (g : Gremon) (t : Nat) : Nat :=
  let full := g.fld kHist 10 0
  let ms1 := g.fld kHist 21 11
  2 ^ 30 * (match t with | 0 => full | 1 => ms1 | _ => 1290 - full - ms1)
def Gremon.tierBase (g : Gremon) (t : Nat) : Nat :=
  hpaHist + (match t with | 0 => 0 | 1 => g.tierSize 0 | _ => g.tierSize 0 + g.tierSize 1)

/-- A ring that holds nothing. -/
def HistRing.reset : HistRing := { wp := 0, seq := 0, recs := [] }
def Gremon.ring (g : Gremon) (t : Nat) : HistRing := g.svc.hist.rings.getD t HistRing.reset
def Gremon.setRing (g : Gremon) (t : Nat) (r : HistRing) : Gremon := g.onHist fun h => { h with rings := h.rings.set t r }

/-- Entry `n` of the frame-length log: its tick, F and S in µs. -/
def Gremon.logEnt (g : Gremon) (n : Nat) : Nat × Nat × Nat :=
  ((g.svc.hist.frames.find? fun e => decide (e.1 = n)).map (·.2)).getD (0, g.frameUs, g.scoreNs / 1000)
/-- The length in ns of an index of tier `t` under entry `n`: F, or the interval (R370). -/
def Gremon.tierUnit (g : Gremon) (n t : Nat) : Nat :=
  let f := 1000 * (g.logEnt n).2.1
  max 1 (match t with | 0 => f | 1 => max f 1000000 | _ => max f 10000000)
/-- The entry under which a sample of frame `f` was taken: the latest that holds the whole frame. -/
def Gremon.histEnt (g : Gremon) (f : Nat) : Nat :=
  g.svc.hist.frames.foldl (fun n e =>
    let u := 1000 * e.2.2.1
    if e.2.1 ≤ f * u ∧ (f + 1) * u ≤ g.now then e.1 else n) 0
/-- A new entry; the log keeps the latest 4,096 (R375). -/
def Gremon.logAdd (g : Gremon) (tick f s : Nat) : Gremon :=
  g.onHist fun h =>
    let n := match h.frames.getLast? with
      | some e => e.1 + 1
      | none => 0
    let l := h.frames ++ [(n, tick, f, s)]
    { h with frames := l.drop (l.length - 4096) }

/-! ### Writes, and their preservation (R382, R383, R385) -/

/-- Change EXP_STAT for an export that ended (Table 11.12). -/
def Gremon.expEnd (g : Gremon) (state reason : Nat) : Gremon :=
  ((g.sqcEvent kExp 1 0 state).setFld kExp 7 4 reason).setReg (kExp + 12) 0

/-- The export ends ABORTED (R385).
Log: entry 29 (DEDUCED; DESIGN CHOICE). -/
def Gremon.expAbort (g : Gremon) (reason : Nat) : Gremon :=
  match g.svc.hist.exp with
  | none => g
  | some e =>
    let now := g.fld kExp 23 8
    let g := g.onHist fun h => { h with exp := none, epochs := h.epochs.map fun p => (p.1, now) }
    let g := g.expEnd 3 reason
    (g.raise .exportAbort (leBytes 1 reason ++ leBytes 4 (e.next - e.first))).finish e.cmd 10 reason

/-- The lowest free page of the snapshot reserve. -/
def Export.freePage (e : Export) : Nat :=
  ((List.range (e.kept.length + 1)).find? fun i => !e.kept.any fun k => decide (k.2 = i)).getD 0

/-- Before a write to page `p` of the region: its old contents go to the reserve where R383 asks for it.
Log: entry 29 (DEDUCED; DESIGN CHOICE). -/
def Gremon.preserve (g : Gremon) (p : Nat) : Gremon :=
  let now := g.fld kExp 23 8
  let g := match g.svc.hist.exp with
    | none => g
    | some e =>
      if p < e.next ∨ p ≥ e.first + e.pages ∨ Tbl.get 0 g.svc.hist.epochs p = now then g
      else if e.kept.length ≥ 33554432 then g.expAbort 1
      else
        let i := e.freePage
        let src := hbmCna (hpaHist + 4096 * p)
        let dst := hbmCna (hpaCow + 4096 * i)
        let bad := (List.range 64).filter fun l => g.flowPoison 30 (src + 64 * l) 64
        let g := g.wrFrom 30 dst (g.rdBytes src 4096)
        let g := { g with poison := g.poison ++ bad.map fun l => dst / 64 + l }
        let g := g.setReg (kExp + 12) (e.kept.length + 1)
        g.onHist fun h => { h with exp := some { e with kept := Tbl.put e.kept p i } }
  g.onHist fun h => { h with epochs := Tbl.set 0 h.epochs p now }

/-- Store bytes at an HPA of the history region. -/
def Gremon.histWrite (g : Gremon) (hpa : Nat) (bs : List Byte) : Gremon :=
  let first := (hpa - hpaHist) / 4096
  let last := (hpa - hpaHist + bs.length - 1) / 4096
  ((List.range (last + 1 - first)).foldl (fun (g : Gremon) i => g.preserve (first + i)) g).wrFrom 30 (hbmCna hpa) bs

/-! ### Records (R374, R376, Table 11.6) -/

/-- Entering an extent of a ring drops the records it held. -/
def HistRing.enter (r : HistRing) (wp : Nat) : HistRing :=
  if wp % 65536 = 0 then { r with wp := wp, recs := r.recs.filter fun x => decide (x.1 / 65536 ≠ wp / 65536) } else { r with wp := wp }

/-- A record appended to tier `t`'s ring: a filler closes an extent that lacks room. -/
def Gremon.histAppendRec (g : Gremon) (t : Nat) (rec : Nat → List Byte) : Gremon :=
  let size := g.tierSize t
  let r := g.ring t
  let n := (rec 0).length
  let room := 65536 - r.wp % 65536
  let (g, r) :=
    if room < n then
      let (x, g) := g.drawBytes 22
      let h := leBytes 4 0xFFFFFFFF ++ x.take 2 ++ leBytes 1 (leAt x 2 1 % 32) ++ (x.drop 3).take 19 ++ leBytes 2 g.bootCount ++
        leBytes 4 (room - 48) ++ g.stamp.bytes
      let fill := h ++ leBytes 4 (crc32c h)
      (g.histWrite (g.tierBase t + r.wp) fill, r.enter ((r.wp + room) % max 65536 size))
    else (g, r.enter r.wp)
  let g := g.histWrite (g.tierBase t + r.wp) (rec r.seq)
  g.setRing t { r with wp := (r.wp + n) % max 65536 size, seq := r.seq + 1, recs := r.recs ++ [(r.wp, n)] }

/-- The record of a series block, of RSEQ `q`. -/
def Gremon.histRecord (g : Gremon) (o : HistOpen) (block : List Byte) (q : Nat) : List Byte :=
  let h := leBytes 4 o.eid ++ leBytes 2 o.chan ++ leBytes 1 (o.tier + 4 * o.stat) ++ leBytes 1 (o.flags % 8 + 8 * (o.ent % 32)) ++
    leBytes 8 o.first ++ leBytes 8 q ++ leBytes 2 o.vals.length ++ leBytes 2 g.bootCount ++ leBytes 4 block.length ++ g.stamp.bytes
  let b := h ++ leBytes 4 (crc32c h) ++ block
  padTo ((b.length + 63) / 64 * 64) b

/-- Whether a series is keyed by LDA, and odd. -/
def eidIsLog (e : Nat) : Bool := decide (bits e 31 29 = 1)
def eidOdd (e : Nat) : Bool := eidIsLog e && decide (e % 2 = 1)

/-- The predictor used (R371): MEDIAN only for an odd LDA; LINEAR for an even one; otherwise the plan's, with LINEAR in
place of MEDIAN.
Log: entry 29 (DEDUCED; DESIGN CHOICE). -/
def histPred (o : HistOpen) : Nat :=
  if eidOdd o.eid then o.pred else if eidIsLog o.eid ∨ o.pred = 2 then 1 else o.pred

/-- The neighbour of a series among the blocks sealed with it: the same FIRST and NVAL. -/
def histNeighbour (batch : List HistOpen) (o : HistOpen) (eid : Nat) : Option (List Nat) :=
  (batch.find? fun x => decide (x.eid = eid ∧ x.job = o.job ∧ x.chan = o.chan ∧ x.stat = o.stat ∧ x.first = o.first ∧ x.vals.length = o.vals.length)).map
    fun x => x.vals.map (·.toNat)

/-- The block of a series (R371): tray mode, no predecessor. -/
def histBlock (batch : List HistOpen) (o : HistOpen) : List Byte :=
  let m := histPred o
  let ctx : CoderCtx :=
    { pred := m, prev1 := none, prev2 := none
      nbl := if m = 2 then histNeighbour batch o (o.eid - 1) else none
      nbr := if m = 2 then histNeighbour batch o (o.eid + 1) else none }
  encodeBlock (o.vals.map (·.toNat)) ctx false

/-- Blocks sealed together: those of even LDAs before those that may use them.
Log: entry 29 (DEDUCED; DESIGN CHOICE). -/
def Gremon.histSeal (g : Gremon) (batch : List HistOpen) : Gremon :=
  let order := sortBy (fun (o : HistOpen) => [b2n (eidOdd o.eid), o.eid, o.chan, o.stat]) batch
  order.foldl (fun (g : Gremon) o => g.histAppendRec o.tier (g.histRecord o (histBlock batch o))) g

/-! ### Filing (R371–R373) -/

/-- A channel that a resident kit's history plan stores for a lane. -/
structure HistChan where
  chan  : Nat
  tiers : Nat
  pred  : Nat
  byLog : Bool
deriving DecidableEq, Repr

/-- The history plan of a lane. -/
def Gremon.histPlan (g : Gremon) (lane : Nat) : List HistChan :=
  g.resident.flatMap fun e =>
    let p := e.2.pkg
    let b := pkBody p 8
    if b.isEmpty ∨ mapCt p lane ≥ 16 then []
    else (List.range (mapNchk p)).filterMap fun i =>
      let t := leAt b (4 * i) 1 % 8
      if t = 0 then none
      else some { chan := mapCh0 p + i, tiers := t, pred := leAt b (4 * i + 1) 1 % 4, byLog := decide (leAt b (4 * i + 2) 1 = 1) }

/-- The LDA and job to which a die's frame that opens at PT `t` is attributed (R26, R27). -/
def Gremon.ownerAt (g : Gremon) (pda t : Nat) : Option (Nat × Nat) :=
  let later := g.svc.swaps.filter fun s => decide (t < s.at') && decide (s.old = some pda ∨ s.new = some pda)
  match later with
  | [] => (g.bindOf pda).map fun b => (b.lda, b.job)
  | s :: r =>
    let first := r.foldl (fun n x => min n x.at') s.at'
    (later.find? fun x => decide (x.at' = first) && decide (x.old = some pda)).map fun x => (x.lda, x.job)

/-- An element to append: its series, job, predictor, entry, value, and RFLAGS if a boundary stands before it. -/
structure HistElem where
  eid   : Nat
  lane  : Nat
  job   : Nat
  chan  : Nat
  stat  : Nat
  pred  : Nat
  ent   : Nat
  val   : W64
  flags : Nat
deriving DecidableEq, Repr

/-- Whether an open series belongs with an element's: the same channel of the same job, or the same series.
Log: entry 29 (DEDUCED; DESIGN CHOICE). -/
def histMates (o : HistOpen) (eid job chan : Nat) : Bool :=
  decide (o.chan = chan) && decide (o.job = job) && (decide (o.eid = eid) || decide (job ≠ 0))

/-- Append elements of index `i` to the series of tier `t` (R372): blocks before a missing element, a swap, a GEN change
or a break are sealed with their mates; then those that reach 512. `self`: the series are Gremon's own (lane 512 in their records).
Log: entry 29 (DEDUCED; DESIGN CHOICE). -/
def Gremon.histAppend (g : Gremon) (t i : Nat) (self : Bool) (es : List HistElem) : Gremon :=
  let mine := fun (o : HistOpen) => decide (o.tier = t) && (decide (o.lane = 512) == self)
  let opens := g.svc.hist.opens.filter mine
  let other := g.svc.hist.opens.filter fun o => !mine o
  let elemOf := fun (o : HistOpen) => es.find? fun e => decide (e.eid = o.eid ∧ e.job = o.job ∧ e.chan = o.chan ∧ e.stat = o.stat)
  let broken := fun (o : HistOpen) =>
    let next := o.first + o.vals.length
    match elemOf o with
    | some e => decide (i ≠ next) || decide (e.flags ≠ 0) || decide (e.ent ≠ o.ent)
    | none => decide (next ≤ i)
  let seeds := opens.filter broken
  let hit := fun (seeds : List HistOpen) (o : HistOpen) =>
    seeds.any fun s => histMates o s.eid s.job s.chan
  let now := opens.filter (hit seeds)
  let keep := opens.filter fun o => !hit seeds o
  let added := es.map fun e =>
    match keep.find? fun o => decide (o.eid = e.eid ∧ o.job = e.job ∧ o.chan = e.chan ∧ o.stat = e.stat) with
    | some o => { o with vals := o.vals ++ [e.val], lane := e.lane }
    | none =>
      ({ eid := e.eid, job := e.job, lane := e.lane, chan := e.chan, tier := t, stat := e.stat, pred := e.pred, ent := e.ent, first := i
         vals := [e.val], flags := e.flags } : HistOpen)
  let still := keep.filter fun o => (elemOf o).isNone
  let all := still ++ added
  let full := all.filter fun o => decide (o.vals.length ≥ 512)
  let out := all.filter (hit full)
  let g := g.histSeal now
  let g := g.histSeal out
  g.onHist fun h => { h with opens := other ++ all.filter fun o => !hit full o }

/-- The five series of a closed interval (R373). -/
def intvElems (v : HistIntv) : List HistElem :=
  [(1, v.min'), (2, v.max'), (3, v.sum), (4, v.last), (5, BitVec.ofNat 64 v.count)].map fun s =>
    { eid := v.eid, lane := v.lane, job := v.job, chan := v.chan, stat := s.1, pred := v.pred, ent := v.ent, val := s.2, flags := v.flags }

/-- Close the intervals of a tier that satisfy `p`, in rising order of index.
Log: entry 29 (DEDUCED; DESIGN CHOICE). -/
def Gremon.closeIntvs (g : Gremon) (t : Nat) (p : HistIntv → Bool) : Gremon :=
  let hit := fun (v : HistIntv) => decide (v.tier = t ∧ v.lane ≠ 512) && p v
  let due := g.svc.hist.intvs.filter hit
  let g := g.onHist fun h => { h with intvs := h.intvs.filter fun v => !hit v }
  let idx := sortBy (fun i => [i]) (due.map (·.idx)).eraseDups
  idx.foldl (fun (g : Gremon) i =>
    g.histAppend t i false ((due.filter fun v => decide (v.idx = i)).flatMap intvElems)) g

/-- A value enters its interval. -/
def HistIntv.add (v : HistIntv) (x : W64) (flags : Nat) : HistIntv :=
  { v with
    min' := if x.toInt < v.min'.toInt then x else v.min', max' := if v.max'.toInt < x.toInt then x else v.max'
    sum := v.sum + x, last := x, count := v.count + 1, flags := v.flags ||| flags }

/-- File an element into the summary of tier `t`, interval `i`. -/
def Gremon.intvAdd (g : Gremon) (t i : Nat) (e : HistElem) : Gremon :=
  let same := fun (v : HistIntv) => decide (v.eid = e.eid ∧ v.job = e.job ∧ v.chan = e.chan ∧ v.tier = t ∧ v.idx = i ∧ v.ent = e.ent)
  match g.svc.hist.intvs.find? same with
  | some v => g.onHist fun h => { h with intvs := h.intvs.map fun x => if same x then v.add e.val e.flags else x }
  | none =>
    g.onHist fun h => { h with intvs := h.intvs ++
      [{ eid := e.eid, job := e.job, lane := e.lane, chan := e.chan, tier := t, pred := e.pred, ent := e.ent, idx := i, min' := e.val
         max' := e.val, sum := e.val, last := e.val, count := 1, flags := e.flags }] }

/-- The elements of a sample for a tier. -/
def Gremon.sampleElems (g : Gremon) (s : HistSample) (ent t : Nat) : List HistElem :=
  let pda := g.pda s.lane
  let open' := s.frame * 1000 * (g.logEnt ent).2.1
  let own := g.ownerAt pda open'
  let job := (own.map (·.2)).getD 0
  (g.histPlan s.lane).filterMap fun c =>
    if !bit c.tiers t then none
    else match s.vals.find? fun v => decide (v.1 = c.chan) with
      | none => none
      | some v =>
        let (eid, swap) := match c.byLog, own with
          | true, some o => (eidLog o.1, g.svc.swaps.any fun w => w.rebind && !w.marked && decide (w.new = some pda ∧ w.lda = o.1 ∧ w.job = o.2))
          | _, _ => (eidPhys pda, false)
        some { eid := eid, lane := s.lane, job := if eidIsLog eid then job else 0, chan := c.chan, stat := 0, pred := c.pred
               ent := ent, val := v.2, flags := b2n s.disc + 2 * b2n swap + 4 * b2n s.newgen }

/-- File the samples that wait for frame `f`.
Log: entry 29 (DEDUCED; DESIGN CHOICE). -/
def Gremon.fileFrame (g : Gremon) (f : Nat) : Gremon :=
  let ss := g.svc.hist.waiting.filter fun s => decide (s.frame = f)
  let g := g.onHist fun h => { h with waiting := h.waiting.filter fun s => decide (s.frame ≠ f) }
  let ent := g.histEnt f
  let fl := 1000 * (g.logEnt ent).2.1
  let g := g.histAppend 0 f false (ss.flatMap fun s => g.sampleElems s ent 0)
  let g := [1, 2].foldl (fun (g : Gremon) t =>
    let u := g.tierUnit ent t
    let i := f * fl / u
    let g := g.closeIntvs t fun v => decide (v.ent < ent) || (decide (v.ent = ent) && decide (v.idx < i))
    let g := (ss.flatMap fun s => g.sampleElems s ent t).foldl (fun (g : Gremon) e => g.intvAdd t i e) g
    g.closeIntvs t fun v => decide (v.ent = ent) && decide (v.idx < (f + 1) * fl / u)) g
  let filed := fun (w : SwapRec) => ss.any fun s => decide (some (g.pda s.lane) = w.new) && decide (f * fl ≥ w.at')
  g.onSvc fun s => { s with swaps := s.swaps.map fun w => if filed w then { w with marked := true } else w }

/-- HISTORY_FILE: the oldest frame that waits is filed. -/
def Gremon.historyFile (g : Gremon) : Gremon :=
  match g.svc.hist.waiting with
  | [] => g
  | s :: t => g.fileFrame (t.foldl (fun n x => min n x.frame) s.frame)

/-- Everything that waits is filed, open intervals of the dies close, and every open block is sealed (a change of F, R372). -/
def Gremon.histSealAll (g : Gremon) : Gremon :=
  let frames := sortBy (fun i => [i]) (g.svc.hist.waiting.map (·.frame)).eraseDups
  let g := frames.foldl (fun (g : Gremon) f => g.fileFrame f) g
  let g := (g.closeIntvs 1 fun _ => true).closeIntvs 2 fun _ => true
  let g := [0, 1, 2].foldl (fun (g : Gremon) t => g.histSeal (g.svc.hist.opens.filter fun o => decide (o.tier = t))) g
  g.onHist fun h => { h with opens := [] }

/-- SWAP at a boundary: the open blocks of the LDA are sealed with their mates.
Log: entry 29 (DEDUCED; DESIGN CHOICE). -/
def Gremon.histSwap (g : Gremon) (lda job : Nat) : Gremon :=
  [0, 1, 2].foldl (fun (g : Gremon) t =>
    let mine := g.svc.hist.opens.filter fun o => decide (o.tier = t ∧ o.eid = eidLog lda ∧ o.job = job)
    let out := g.svc.hist.opens.filter fun o => decide (o.tier = t) && mine.any fun s => histMates o s.eid job s.chan
    let g := g.histSeal out
    g.onHist fun h => { h with opens := h.opens.filter fun o => !out.contains o }) g

/-! ### Occupancy registers (Tables 11.10, 11.11) -/

/-- Log: entry 29 (DEDUCED; DESIGN CHOICE). -/
def Gremon.histUsed (g : Gremon) (t : Nat) : Nat := ((g.ring t).recs.foldl (fun n x => n + x.2) 0 + 1048575) / 1048576
/-- The entry in force for a record (R375). -/
def Gremon.recEnt (g : Gremon) (fseg written : Nat) : Nat :=
  g.svc.hist.frames.foldl (fun n e => if e.1 % 32 = fseg ∧ e.2.1 ≤ written then e.1 else n) 0
/-- The PT at which the oldest element held opens; 0 where none is held. -/
def Gremon.histOld (g : Gremon) (t : Nat) : Nat :=
  let opens := (g.ring t).recs.map fun x =>
    let h := g.rdBytes (hbmCna (g.tierBase t + x.1)) 48
    leAt h 8 8 * g.tierUnit (g.recEnt (leAt h 7 1 / 8) (leAt h 32 8)) t
  match opens with
  | [] => 0
  | o :: l => l.foldl min o

/-! ### The scan of a query (R378–R381) -/

/-- What a scan asks for. -/
structure HistAsk where
  tier : Nat
  stat : Nat
  eids : List Nat
  ch0  : Nat
  nch  : Nat
  t0   : Nat
  t1   : Nat
deriving DecidableEq, Repr

/-- Elements found of one record: series, entry, index of the first, values, and whether it is pre-reset. -/
structure HistFound where
  eid   : Nat
  chan  : Nat
  ent   : Nat
  first : Nat
  vals  : List Nat
  old   : Bool
deriving DecidableEq, Repr

/-- The indices asked for, entry by entry (R375, R378): entry, first, and one past the last. -/
def Gremon.askRanges (g : Gremon) (a : HistAsk) : List (Nat × Nat × Nat) :=
  let fs := g.svc.hist.frames
  (fs.zip ((fs.drop 1).map (fun e => some e.2.1) ++ [none])).filterMap fun x =>
    let (e, next) := x
    let u := g.tierUnit e.1 a.tier
    let lo := max a.t0 e.2.1
    let hi := match next with
      | some n => min a.t1 n
      | none => a.t1
    if lo < hi then some (e.1, lo / u, (hi - 1) / u + 1) else none

/-- A record header that the scan asks for. -/
def asksFor (a : HistAsk) (rs : List (Nat × Nat × Nat)) (h : List Byte) (ent : Nat) : Bool :=
  decide (leAt h 6 1 = a.tier + 4 * a.stat) && a.eids.contains (leAt h 0 4) && decide (a.ch0 ≤ leAt h 4 2) &&
    decide (leAt h 4 2 < a.ch0 + a.nch) &&
    rs.any fun r => decide (r.1 = ent) && decide (leAt h 8 8 < r.2.2) && decide (r.2.1 < leAt h 8 8 + leAt h 24 2)

/-- The header of a record, unless it reads POISON or its RCRC fails. -/
def Gremon.recHead (g : Gremon) (t ofs : Nat) : Option (List Byte) :=
  let a := hbmCna (g.tierBase t + ofs)
  let h := g.rdBytes a 48
  if g.flowPoison 30 a 48 || decide (crc32c (h.take 44) ≠ leAt h 44 4) then none else some h

/-- The values of a block read with neighbours `l` and `r`; none where it reads POISON or fails CDEC. -/
def Gremon.recVals (g : Gremon) (t ofs : Nat) (h : List Byte) (l r : Option (List Nat)) : Option (List Nat) :=
  let a := hbmCna (g.tierBase t + ofs)
  let n := leAt h 28 4
  if g.flowPoison 30 a (48 + n) then none
  else
    match decodeBlock (g.rdBytes (a + 48) n) (leAt h 24 2) false { pred := 0, prev1 := none, prev2 := none, nbl := l, nbr := r } with
    | .ok v => some v
    | .error _ => none

/-- The values of the record of a neighbour: the same channel, TS, FIRST and NVAL under the same log entry (R371, R375). -/
def Gremon.recNeighbour (g : Gremon) (t : Nat) (h : List Byte) (eid : Nat) : Option (List Nat) :=
  (g.ring t).recs.findSome? fun x =>
    match g.recHead t x.1 with
    | some k =>
      if leAt k 0 4 = eid ∧ (k.drop 4).take 3 = (h.drop 4).take 3 ∧ (k.drop 8).take 8 = (h.drop 8).take 8 ∧
          leAt k 24 2 = leAt h 24 2 ∧ g.recEnt (leAt k 7 1 / 8) (leAt k 32 8) = g.recEnt (leAt h 7 1 / 8) (leAt h 32 8) then
        g.recVals t x.1 k none none
      else none
    | none => none

/-- Elements of a record that fall in what is asked. -/
def trimFound (rs : List (Nat × Nat × Nat)) (f : HistFound) : List HistFound :=
  (rs.filter fun r => decide (r.1 = f.ent)).filterMap fun r =>
    let lo := max r.2.1 f.first
    let hi := min r.2.2 (f.first + f.vals.length)
    if lo < hi then some { f with first := lo, vals := (f.vals.drop (lo - f.first)).take (hi - lo) } else none

/-- The scan, record by record; `skip`: the extent left after a bad RCRC. -/
def Gremon.scanRecs (a : HistAsk) (rs : List (Nat × Nat × Nat)) : List (Nat × Nat) → Option Nat → Gremon → List HistFound × Gremon
  | [], _, g => ([], g)
  | x :: l, skip, g =>
    if skip = some (x.1 / 65536) then Gremon.scanRecs a rs l skip g
    else
      let hpa := g.tierBase a.tier + x.1
      let bad : Gremon := g.raise .histBadrec (leBytes 4 hpa)
      if g.flowPoison 30 (hbmCna hpa) 48 then Gremon.scanRecs a rs l none bad
      else match g.recHead a.tier x.1 with
        | none => Gremon.scanRecs a rs l (some (x.1 / 65536)) bad
        | some h =>
          let ent := g.recEnt (leAt h 7 1 / 8) (leAt h 32 8)
          if !asksFor a rs h ent then Gremon.scanRecs a rs l none g
          else
            let eid := leAt h 0 4
            let b := leAt (g.rdBytes (hbmCna hpa + 48) 4) 0 4
            let nl := if bit b 16 then g.recNeighbour a.tier h (eid - 1) else none
            let nr := if bit b 17 then g.recNeighbour a.tier h (eid + 1) else none
            let lost := (bit b 16 && nl.isNone) || (bit b 17 && nr.isNone)
            match (if lost then none else g.recVals a.tier x.1 h nl nr) with
            | none => Gremon.scanRecs a rs l none bad
            | some v =>
              let f : HistFound :=
                { eid := eid, chan := leAt h 4 2, ent := ent, first := leAt h 8 8, vals := v, old := decide (leAt h 26 2 ≠ g.bootCount) }
              let r := Gremon.scanRecs a rs l none g
              (trimFound rs f ++ r.1, r.2)

/-- The elements found, in ascending EID, channel, and time (R379).
Log: entry 29 (DEDUCED; DESIGN CHOICE). -/
def Gremon.histScan (g : Gremon) (a : HistAsk) : List HistFound × Gremon :=
  let r := Gremon.scanRecs a (g.askRanges a) (g.ring a.tier).recs none g
  (sortBy (fun (f : HistFound) => [f.eid, f.chan, f.ent, f.first]) r.1, r.2)

/-- Whether an element was found. -/
def foundAt (fs : List HistFound) (eid chan ent i : Nat) : Bool :=
  fs.any fun f => decide (f.eid = eid ∧ f.chan = chan ∧ f.ent = ent) && decide (f.first ≤ i) && decide (i < f.first + f.vals.length)

/-- The indices asked for. -/
def askIdx (rs : List (Nat × Nat × Nat)) : List (Nat × Nat) :=
  rs.flatMap fun r => (List.range (r.2.2 - r.2.1)).map fun i => (r.1, r.2.1 + i)

/-- The EIDs of several that are received (R380).
Log: entry 29 (DEDUCED; DESIGN CHOICE). -/
def Gremon.askReceived (g : Gremon) (a : HistAsk) (fs : List HistFound) : List Nat :=
  let ix := askIdx (g.askRanges a)
  a.eids.filter fun e => (List.range a.nch).all fun c => ix.all fun i => foundAt fs e (a.ch0 + c) i.1 i.2

/-- The coverage of an answer (R380): unit frame over one EID of the query, die over several. -/
def Gremon.askCov (g : Gremon) (a : HistAsk) (single : Bool) (fs : List HistFound) : Coverage :=
  if single then
    let ix := askIdx (g.askRanges a)
    let missing := ix.filter fun i => a.eids.any fun e => (List.range a.nch).any fun c => !foundAt fs e (a.ch0 + c) i.1 i.2
    if a.eids.isEmpty then Coverage.of 3 0 [] false 0 else Coverage.of 3 ix.length (missing.map fun i => i.2 % 2 ^ 32) false 0
  else
    let ok := g.askReceived a fs
    Coverage.of 0 a.eids.length (a.eids.filter fun e => !ok.contains e) false 0

/-- The order key of an entity in a result of job `job`, 0 for none (R30): of a die its LDA where the result is of a job, else
its PDA, both by the binding in force; of the others the EID. -/
def Gremon.orderKey (g : Gremon) (job eid : Nat) : Nat :=
  let n := eid % 2 ^ 19
  if bits eid 31 30 ≠ 0 then eid
  else if bit eid 29 then
    if job ≠ 0 then eid % 2 ^ 20
    else ((g.binds.find? fun b => decide (b.lda = eid % 2 ^ 20) && decide (b.state = 1 ∨ b.state = 2)).map (·.pda)).getD (eid % 2 ^ 20)
  else if job = 0 then n
  else (((g.bindOf n).filter fun b => decide (b.job = job)).map (·.lda)).getD n

/-- One element offered to an operator (R379). -/
def opcOffer (opc fmt : Nat) (acc : List Byte) (x key : Nat) : List Byte :=
  let v := x % 2 ^ fmtWidth fmt
  match opc with
  | 1 =>
    let s := histScale acc
    let at' := binOfs (hbin fmt v s)
    let bs := (histBuckets acc).mapIdx fun i n => if at' = 64 + 8 * i then (cntAdd n 1).1 else n
    let up := fun (o : Nat) (hit : Bool) => if hit then (cntAdd (leAt acc o 8) 1).1 else leAt acc o 8
    let all := [(8, true), (16, decide (at' = 16)), (24, decide (at' = 24)), (32, decide (at' = 32)), (40, hNegative fmt v)]
    let full := (all.any fun p => p.2 && (cntAdd (leAt acc p.1 8) 1).2) ||
      (decide (at' ≥ 64) && (cntAdd (leAt acc at' 8) 1).2)
    histMake s (leAt acc 2 2 ||| b2n full) (up 8 true) (up 16 (decide (at' = 16))) (up 24 (decide (at' = 24)))
      (up 32 (decide (at' = 32))) (up 40 (hNegative fmt v)) bs
  | 2 => ((TkList.ofBytes acc).offer v key).bytes
  | 3 => leBytes 16 ((leAt acc 0 16 + ofInt 128 (toInt 64 x)) % 2 ^ 128)
  | _ => opcMerge opc fmt acc (leBytes 8 v)

/-! ### Export (R382–R385) -/

/-- EXPORT.
Log: entry 29 (DEDUCED; DESIGN CHOICE). -/
def Gremon.cmdExport (g : Gremon) : Gremon :=
  g.onHostCmd 0x06 fun g c =>
    let first := c.param 0 8
    let n := c.param 8 8
    if n = 0 ∨ first + n > 1290 * 2 ^ 18 then g.finish c 2 0
    else if g.sys.pwr.pstate = 3 then g.finish c 1 8
    else if g.svc.hist.exp.isSome then g.finish c 1 0x121
    else if c.isQp ∧ 4096 * n > c.cap then g.post c 5 0 (4096 * n) [] []
    else
      let x := g.fld kExp 23 8
      let g := ((g.setFld kExp 23 8 ((x + 1) % 65536)).setFld kExp 1 0 1).setFld kExp 7 4 0
      let g := (g.setReg (kExp + 8) 0).setReg (kExp + 12) 0
      g.onHist fun h => { h with exp := some { cmd := c, first := first, pages := n, next := first, epoch := x, cutAt := g.now, kept := [], sent := [] } }

/-- The parts of a buffer that hold `n` bytes from offset `o`. -/
def segSlice : List (Nat × Nat) → (o n : Nat) → List (Nat × Nat)
  | [], _, _ => []
  | (a, l) :: t, o, n =>
    if o ≥ l then segSlice t (o - l) n
    else if n ≤ l - o then [(a + o, n)]
    else (a + o, l - o) :: segSlice t 0 (n - (l - o))

/-- EXPORT_PAGE_COPY: the copy pass sends its next page (R384).
Log: entry 29 (DEDUCED; DESIGN CHOICE). -/
def Gremon.exportPage (g : Gremon) : Gremon :=
  match g.svc.hist.exp with
  | none => g
  | some e =>
    let a := match Tbl.find e.kept e.next with
      | some i => hbmCna (hpaCow + 4096 * i)
      | none => hbmCna (hpaHist + 4096 * e.next)
    let bad := g.flowPoison 30 a 4096
    let bs := if bad then List.replicate 4096 0 else g.rdBytes a 4096
    let g := if bad then (g.setReg (kExp + 16) (sat 0xFFFFFFFF (g.reg (kExp + 16) + 1))).raise .lostPage (leBytes 4 e.next) else g
    let g := g.writeReply (segSlice e.cmd.segs (4096 * (e.next - e.first)) 4096) bs
    let e := { e with next := e.next + 1, kept := Tbl.erase e.kept e.next, sent := if e.cmd.isQp then [] else e.sent ++ bs }
    let g := (g.setReg (kExp + 8) (e.next - e.first)).setReg (kExp + 12) e.kept.length
    if e.next < e.first + e.pages then g.onHist fun h => { h with exp := some e }
    else
      let g := (g.onHist fun h => { h with exp := none }).expEnd 2 0
      g.post e.cmd 0 0 (4096 * e.pages) (leBytes 8 e.pages) e.sent

/-- EXPORT_ABORT: a write to a host buffer fails (R385, R530). -/
def Gremon.exportHostFail (g : Gremon) : Gremon :=
  match g.svc.hist.exp with
  | none => g
  | some e =>
    let g := match e.cmd.src with
      | .qp _ => g.raise .hostDmaErr []
      | _ => g
    g.expAbort 4

/-- EXPORT_CANCEL. -/
def Gremon.exportCancel (g : Gremon) : Gremon := g.expAbort 2

/-! ### The self-telemetry latch (R667, R668) -/

/-- SELF_TELEMETRY_LATCH: the clock moves to the next whole millisecond.
Log: entry 29 (DEDUCED; DESIGN CHOICE), entry 58 (DESIGN CHOICE). -/
def Gremon.telLatch (g : Gremon) : Gremon :=
  let at' := (g.now / 1000000 + 1) * 1000000
  let g := g.moveTo at'
  let vals := g.telValues
  let base := (List.range 336).foldl (fun (b : Tbl Nat) i => if telDelta i then Tbl.set 0 b i (g.telCount i) else b) g.sys.tel.base
  let g := g.onTel fun t => { t with base := base, vinMin := g.sys.pwr.vin, last := vals.map (·.toNat) }
  let eid := eidGremon g.gid
  let f := (at' - 1) / g.frameNs
  let ent := g.histEnt f
  let elem := fun (stat : Nat) (i : Nat) (v : W64) =>
    ({ eid := eid, lane := 512, job := 0, chan := i, stat := stat, pred := 1, ent := ent, val := v, flags := 0 } : HistElem)
  let i1 := (at' - 1) / g.tierUnit ent 1
  let g := if at' % g.tierUnit ent 1 = 0 then g.histAppend 1 i1 true (vals.mapIdx fun i v => elem 4 i v) else g
  let u2 := g.tierUnit ent 2
  let i2 := (at' - 1) / u2
  let stat2 := fun (i : Nat) => if telDelta i then 3 else 4
  let g := (vals.mapIdx fun i v => elem (stat2 i) i v).foldl (fun (g : Gremon) e => g.intvAdd 2 i2 e) g
  let g :=
    if at' % u2 = 0 then
      let due := g.svc.hist.intvs.filter fun v => decide (v.lane = 512)
      let g := g.onHist fun h => { h with intvs := h.intvs.filter fun v => decide (v.lane ≠ 512) }
      g.histAppend 2 i2 true (due.map fun v => elem (stat2 v.chan) v.chan (if telDelta v.chan then v.sum else v.last))
    else g
  let payload := leBytes 8 (at' / 1000000) ++ leBytes 2 336 ++ leBytes 6 0 ++ vals.flatMap fun v => leBytes 8 v.toNat
  g.resident.foldl (fun (g : Gremon) e =>
    let k := e.2
    if k.hbm.2 = 0 then g
    else
      let (mseq, g) := g.draw
      (g.ringPut k (hbmCna k.hbm.1 + 32 * 63) g.gid mseq g.stamp payload).1) g

end Sys2Proof.Machine
end

