-- ==== Sys2Proof/Machine/Screening.lean ====
section
/-! DEFINITION. Screening packs, screens and their schedules, classification and conditional faults (15 R496–R517), and
what Gremon does about errors of its own (R518–R526). -/
namespace Sys2Proof.Machine
open Sys2Proof

/-- Change the screening service. -/
def Gremon.onScr (g : Gremon) (f : ScreenSvc → ScreenSvc) : Gremon := g.onSvc fun s => { s with scr := f s.scr }

/-! ### Packs (R496–R499) -/

def packId (p : List Byte) : Nat := leAt p 4 4
def packNum (p : List Byte) : Nat := leAt p 6 2
def packIdle (p : List Byte) : Bool := bit (leAt p 8 1) 0
def packStress (p : List Byte) : Bool := bit (leAt p 8 1) 1
def packDur (p : List Byte) : Nat := leAt p 12 2

/-- Whether a pack keeps to Table 15.1. -/
def packFormatOk (p : List Byte) : Bool :=
  let m := leAt p 8 1
  decide (leAt p 0 4 = 0x4B435053) && decide (1 ≤ m) && decide (m ≤ 3) && decide (leAt p 9 1 ≤ 7) &&
    (packStress p || decide (leAt p 9 1 = 0)) && decide (leAt p 10 1 ≤ 15) && zeros p 11 1 && decide (1 ≤ packDur p) && zeros p 14 2 &&
    decide (leAt p 40 4 % 64 = 0) && zeros p 44 20 && decide (p.length = 160 + leAt p 40 4)

/-- The reason to refuse a pack (R497), 0 for none. `sigOk`: its signature verifies under the key its slot holds.
Log: entry 10 (DESIGN CHOICE). -/
def Gremon.packReason (g : Gremon) (p : List Byte) (sigOk : Bool) : Nat :=
  let have' := fun (t : Tbl (List Byte)) => Tbl.find t (packNum p)
  let newest := match have' g.svc.scr.staged with
    | some x => some x
    | none => have' g.svc.scr.packs
  let nums := (g.svc.scr.packs.map (·.1) ++ g.svc.scr.staged.map (·.1)).eraseDups
  if !packFormatOk p then 1
  else if !g.opKeyOk (leAt p 10 1) then 2
  else if !sigOk then 3
  else match newest with
    | some x => if packId p % 65536 ≤ packId x % 65536 then 4 else 0
    | none => if nums.length ≥ 64 then 5 else 0

/-- PACK_INSTALL; it waits while BRACE suspends NV writes (Table 18.2).
Log: entry 28 (DEDUCED; DESIGN CHOICE). -/
def Gremon.cmdPackInstall (g : Gremon) (sigOk : Bool) : Gremon :=
  if g.sys.pwr.brace then g else
  g.onHostCmd 0x03 fun g c =>
    let r := g.packReason c.data sigOk
    if r = 0 then
      ((g.nvWrite true).onScr fun s => { s with staged := Tbl.put s.staged (packNum c.data) c.data }).complete c 0 0 (leBytes 4 (packId c.data)) []
    else (g.raise .packRefused (leBytes 1 r)).finish c 1 (0x140 + r)

/-- PACK_GET.
Log: entry 28 (DEDUCED; DESIGN CHOICE). -/
def Gremon.cmdPackGet (g : Gremon) : Gremon :=
  g.onHostCmd 0x04 fun g c =>
    match Tbl.find g.svc.scr.packs (c.param 0 2) with
    | some p => g.complete c 0 0 (leBytes 4 (packId p)) p
    | none => g.finish c 2 0

/-! ### A die's screening state -/

def ScrDie.idle : ScrDie :=
  { cur := none, rotPack := 0, rotCore := 0, started := false, nextAt := 0, session := false, stress := [], cls := [], corr := [], cond := [] }
def Gremon.scrDie (g : Gremon) (lane : Nat) : ScrDie := Tbl.get ScrDie.idle g.svc.scr.dies lane
def Gremon.setScr (g : Gremon) (lane : Nat) (d : ScrDie) : Gremon := g.onScr fun s => { s with dies := Tbl.set ScrDie.idle s.dies lane d }

/-- The rotation set of a die (R508): physical cores whose applied remap entry is VALID, in ascending order. -/
def Gremon.rotCores (g : Gremon) (lane : Nat) : List Nat :=
  let m := (g.die lane).remap
  (List.range 256).filter fun c => (m.getD c 0).getLsbD 8
/-- The next core after `a`, wrapping. -/
def nextCore (cs : List Nat) (a : Nat) : Nat := ((cs.find? fun c => decide (c > a)).orElse fun _ => cs.head?).getD a

/-- GR_SCR_CFG. -/
def kScr : Nat := ind 0xD0000
/-- A parity fault of the screening configuration stops the rotation and conditional screens (Table 17.3). -/
def Gremon.scrBad (g : Gremon) : Bool := g.parityBad kScr || g.parityBad (kScr + 4)
def Gremon.scrBase (g : Gremon) : Int := (64 * g.fld kScr 23 16 : Nat)
def Gremon.scrWidth (g : Gremon) : Int := (64 * max 1 (g.fld kScr 27 24) : Nat)

/-- AL_SCR_CFG.WAIT in ns, as Gremon has written it (Table 15.8). -/
def Gremon.scrWait (g : Gremon) : Nat :=
  let v := g.sys.pwr.pushList.foldl (fun v e => if e.1 = 2 ∧ e.2.1 = 0x8000 then imgMerge v e.2.2.1 e.2.2.2 else v) (1000 * 2 ^ 21)
  1000000 * max 1 (bits v 31 21)

/-! ### Starting (R500, R507–R509) -/

/-- Start a screen of a pack on a core. -/
def Gremon.scrStart (g : Gremon) (lane kind : Nat) (p : List Byte) (core : Nat) (stress : Bool) : Gremon :=
  let corner := if stress then leAt p 9 1 else 0
  let g := g.cmdWords lane 0 0x8010 ((List.range 4).map fun i => leAt p (24 + 4 * i) 4)
  let g := g.cmdWord lane 0x8004 (b2n stress + 2 * corner)
  let g := g.command lane 5 0 0 2 (leBytes 4 (packId p) ++ leBytes 1 core ++ leBytes 1 0 ++ leBytes 2 (packDur p))
  let o : ScrOpen :=
    { kind := kind, pack := packId p, core := core, corner := corner, stress := stress, image := p
      due := g.clk + g.scrWait + 1000 * packDur p + 10000000 }
  g.setScr lane { g.scrDie lane with cur := some o }

/-- The next place of the idle rotation (R508): core by core, then the next pack. -/
def Gremon.rotNext (g : Gremon) (lane : Nat) : Option (Nat × Nat) :=
  let d := g.scrDie lane
  let cs := g.rotCores lane
  let ps := (g.svc.scr.packs.filter fun e => packIdle e.2).map (·.1)
  match cs.head?, ps.head? with
  | some c0, some p0 =>
    if !d.started then some (p0, c0)
    else match ps.contains d.rotPack, cs.find? fun c => decide (c > d.rotCore) with
      | true, some c => some (d.rotPack, c)
      | _, _ => some (((ps.find? fun p => decide (p > d.rotPack)).getD p0), c0)
  | _, _ => none

/-- The die on a lane may be given a screen. -/
def Gremon.scrFree (g : Gremon) (lane : Nat) : Bool :=
  (g.die lane).accepted && (g.scrDie lane).cur.isNone && decide (g.sys.pwr.pstate < 2) && !g.sys.pwr.brace

/-- Whether a rotation screen is due. -/
def Gremon.rotDue (g : Gremon) (lane : Nat) : Bool :=
  let d := g.scrDie lane
  decide (g.fld kScr 15 0 ≠ 0) && !g.scrBad && !d.session && (!d.started || decide (d.nextAt ≤ g.clk))

/-- The first waiting screen starts on a free die, in the order of R507.
Log: entry 28 (DEDUCED; DESIGN CHOICE). -/
def Gremon.scrNext (g : Gremon) (lane : Nat) : Gremon :=
  let d := g.scrDie lane
  let pack := fun (n : Nat) => Tbl.find g.svc.scr.packs n
  if !g.scrFree lane then g
  else match d.cls.head?.bind fun (c : ScrClass) => (pack (c.pack / 65536)).map fun p => (c, p) with
    | some (c, p) => g.scrStart lane 0 p (if c.step = 0 then c.core else c.bcore) c.stress
    | none =>
      match d.cond with
      | (core, n) :: t =>
        let g := g.setScr lane { d with cond := t }
        (match pack n with
          | some p => g.scrStart lane 1 p core false
          | none => g)
      | [] =>
        match d.stress with
        | (n, core) :: t =>
          let g := g.setScr lane { d with stress := t }
          (match pack n with
            | some p => g.scrStart lane 2 p core true
            | none => g)
        | [] =>
          if !g.rotDue lane then g
          else match g.rotNext lane with
            | none => g
            | some (n, core) =>
              let g := g.setScr lane { d with
                started := true, rotPack := n, rotCore := core, nextAt := max d.nextAt g.clk + 1000000000 * g.fld kScr 15 0 }
              match pack n with
              | some p => g.scrStart lane 3 p core false
              | none => g

/-- SCREEN_ROTATION: the die's next rotation screen falls due. -/
def Gremon.scrRotation (g : Gremon) (lane : Nat) : Gremon :=
  let d := g.scrDie lane
  if g.fld kScr 15 0 = 0 ∨ d.session = true ∨ g.scrBad = true then g
  else (if d.started then g.moveTo d.nextAt else g).scrNext lane

/-! ### Correlation (R514–R516) -/

/-- The band of a temperature (R514). -/
def Gremon.scrBand (g : Gremon) (temp : Nat) : Option Nat :=
  if temp = 0x8000 then none else some (min 7 (floorDiv (toInt 16 temp - g.scrBase) g.scrWidth).toNat)

/-- COND_TEMP and COND_LOAD of a list of results (R515). -/
def conditional (res : List ScrRes) : Bool × Bool :=
  let f := res.filter (·.fail)
  let p := res.filter fun r => !r.fail
  match f with
  | [] => (false, false)
  | r0 :: t =>
    let oneBand := t.all fun r => decide (r.band = r0.band)
    let oneSig := t.all fun r => decide (r.sig = r0.sig)
    (oneBand && r0.band.isSome && decide ((p.filter fun r => r.band.isSome && decide (r.band ≠ r0.band)).length ≥ 2),
     oneSig && decide ((p.filter fun r => decide (r.sig ≠ r0.sig)).length ≥ 2))

def ScrCorr.fails (c : ScrCorr) : Nat := (c.res.filter (·.fail)).length
def ScrCorr.passes (c : ScrCorr) : Nat := (c.res.filter fun r => !r.fail).length
def ScrCorr.band (c : ScrCorr) : Option Nat := ((c.res.find? (·.fail)).map (·.band)).getD none
def ScrCorr.sig (c : ScrCorr) : Nat := ((c.res.find? (·.fail)).map (·.sig)).getD 0

/-- A correlation record in the black-box record, keyed by PDA, core and pack.
Log: entry 28 (DEDUCED; DESIGN CHOICE). -/
def corrRec (pda : Nat) (c : ScrCorr) : BbNew :=
  { ty := 9, key := (pda * 256 + c.core) * 65536 + c.pack
    body := leBytes 4 pda ++ leBytes 4 (65536 * c.pack + c.ver) ++ leBytes 1 c.core ++ leBytes 1 c.res.length ++ leBytes 2 0 ++
      c.res.flatMap fun r => leBytes 1 (b2n r.fail) ++ leBytes 1 (r.band.getD 255) ++ leBytes 2 0 ++ leBytes 4 r.sig }

/-- A class record goes to the result queues and the black-box record (R512). -/
def Gremon.classOut (g : Gremon) (lane : Nat) (r : List Byte) : Gremon :=
  (g.bbCommit [{ ty := 8, body := r }]).deliver 4 false (g.jobOf (g.pda lane)) r

/-- AL_SCR_COND and AL_SCR_LSIG serve the conditional record of lowest core number (R516). -/
def lowestCorr (l : List ScrCorr) (p : ScrCorr → Bool) : Option ScrCorr :=
  (sortBy (fun (c : ScrCorr) => [c.core, c.pack]) (l.filter p)).head?
def Gremon.scrArm (g : Gremon) (lane : Nat) : Gremon :=
  let l := (g.scrDie lane).corr
  let cond := match lowestCorr l (·.ct) with
    | some c =>
      let b := c.band.getD 0
      let lo := g.scrBase + b * g.scrWidth
      ofInt 16 lo + 65536 * (if b = 7 then 0x7FFF else ofInt 16 (lo + g.scrWidth))
    | none => 0
  let sig := match lowestCorr l (·.cl) with
    | some c => c.sig
    | none => 0
  (g.cmdWord lane 0x8048 cond).cmdWord lane 0x804C sig

/-- A write of GR_SCR_CFG moves the bands of the records that are conditional on temperature (R516). -/
def Gremon.scrRearm (g : Gremon) : Gremon :=
  g.svc.scr.dies.foldl (fun (g : Gremon) e => if e.2.corr.any (·.ct) then g.scrArm e.1 else g) g

/-- The class record of a core with other flags and counts (R515). -/
def classAgain (c : ScrCorr) (ct cl : Bool) : List Byte :=
  c.cls.take 10 ++ leBytes 1 (leAt c.cls 10 1 / 4 * 4 + b2n ct + 2 * b2n cl) ++ (c.cls.drop 11).take 9 ++ leBytes 2 c.fails ++
    leBytes 2 c.passes ++ c.cls.drop 24

/-- A PASS or FAIL enters its correlation record; a change of either flag issues the class record again (R515).
Log: entry 28 (DEDUCED; DESIGN CHOICE). -/
def Gremon.scrRecord (g : Gremon) (lane core pack : Nat) (r : ScrRes) : Gremon :=
  let d := g.scrDie lane
  let num := pack / 65536
  let ver := pack % 65536
  let fresh : ScrCorr := { core := core, pack := num, ver := ver, res := [], ct := false, cl := false, cls := [], condAt := none }
  let old := (d.corr.find? fun c => decide (c.core = core ∧ c.pack = num ∧ c.ver = ver)).getD fresh
  let res := old.res ++ [r]
  let res := res.drop (res.length - 64)
  let fl := conditional res
  let c := { old with res := res, ct := fl.1, cl := fl.2 }
  let changed := decide (fl ≠ (old.ct, old.cl))
  let cls := if c.cls.isEmpty then [] else classAgain c fl.1 fl.2
  let c := if changed then { c with cls := cls } else c
  let g := g.setScr lane { d with corr := c :: d.corr.filter fun x => decide (¬(x.core = core ∧ x.pack = num)) }
  let g := g.bbCommit [corrRec (g.pda lane) c]
  if !changed then g
  else (if c.cls.isEmpty then g else g.classOut lane c.cls).scrArm lane

/-- SCR_INBAND or SCR_INLOAD: a conditional screen is queued, at most one in each COND_GAP (R516). -/
def Gremon.scrCond (g : Gremon) (lane : Nat) (load : Bool) : Gremon :=
  let d := g.scrDie lane
  match lowestCorr d.corr (if load then (·.cl) else (·.ct)) with
  | none => g
  | some c =>
    let gap := 60000000000 * g.fld (ind 0xD0004) 7 0
    let ok := match c.condAt with
      | some t => decide (g.clk ≥ t + gap)
      | none => true
    if !ok || g.scrBad then g
    else
      let corr := d.corr.map fun (x : ScrCorr) => if x.core = c.core ∧ x.pack = c.pack then { x with condAt := some g.clk } else x
      (g.setScr lane { d with corr := corr, cond := d.cond ++ [(c.core, c.pack)] }).scrNext lane

/-! ### Results (R502, R509–R512) -/

/-- CORNER_MISS of a stress verdict (R510). -/
def cornerMiss (p : List Byte) (volt freq : Nat) : Bool :=
  let off := fun (v t tol : Nat) => decide (t ≠ 0) && decide (v + tol < t ∨ t + tol < v)
  off volt (leAt p 16 2) (leAt p 18 2) || off freq (leAt p 20 2) (leAt p 22 2)

/-- The class of a finished classification (Table 15.5), as a record.
Log: entry 28 (DEDUCED; DESIGN CHOICE). -/
def Gremon.scrClass (g : Gremon) (lane : Nat) (c : ScrClass) (cls : Nat) : Gremon :=
  let d := g.scrDie lane
  let num := c.pack / 65536
  let corr := d.corr.find? fun x => decide (x.core = c.core ∧ x.pack = num)
  let fl := (corr.map fun x => b2n x.ct + 2 * b2n x.cl).getD 0
  let r := leBytes 4 (g.pda lane) ++ leBytes 4 c.pack ++ leBytes 1 c.core ++ leBytes 1 cls ++
    leBytes 1 (fl + 4 * b2n c.stress + 8 * b2n c.miss) ++ leBytes 1 c.band ++ leBytes 4 c.sig ++ leBytes 1 c.bcore ++ leBytes 3 0 ++
    leBytes 2 ((corr.map (·.fails)).getD 0) ++ leBytes 2 ((corr.map (·.passes)).getD 0) ++ g.stamp.bytes ++ leBytes 12 0
  let g := g.setScr lane { d with
    cls := d.cls.drop 1, corr := d.corr.map fun (x : ScrCorr) => if x.core = c.core ∧ x.pack = num then { x with cls := r } else x }
  g.classOut lane r

/-- A classification step has its outcome: code 0 PASS, 1 FAIL with its result bytes, or another (R511).
Log: entry 28 (DEDUCED; DESIGN CHOICE). -/
def Gremon.scrStep (g : Gremon) (lane code : Nat) (result : List Byte) (miss : Bool) : Gremon :=
  let d := g.scrDie lane
  match d.cls with
  | [] => g
  | c :: t =>
    let c := { c with miss := c.miss || miss }
    if code > 1 then
      if c.tries ≥ 3 then g.scrClass lane c 4 else g.setScr lane { d with cls := { c with tries := c.tries + 1 } :: t }
    else if c.step = 0 then
      g.setScr lane { d with cls := { c with step := 1, tries := 0, onA := if code = 0 then none else some result } :: t }
    else
      let cls := if code = 1 then 3
        else match c.onA with
          | none => 0
          | some r => if r = c.first then 1 else 2
      g.scrClass lane c cls

/-- The open screen of a die ends (R511): `code` of Table 15.3, and what was measured. -/
def Gremon.scrEnd (g : Gremon) (lane : Nat) (o : ScrOpen) (code temp volt freq sig : Nat) (result : List Byte) : Gremon :=
  let g := g.setScr lane { g.scrDie lane with cur := none }
  let miss := o.stress && decide (code ≤ 1) && cornerMiss o.image volt freq
  let band := g.scrBand temp
  let g := if code ≤ 1 then g.scrRecord lane o.core o.pack { fail := decide (code = 1), band := band, sig := sig } else g
  let isOpen := (g.scrDie lane).cls.any fun c => decide (c.core = o.core ∧ c.pack = o.pack)
  let g := if o.kind = 0 then g.scrStep lane code result miss else g
  let d := g.scrDie lane
  let g :=
    if code = 1 ∧ miss = false ∧ isOpen = false then
      let c : ScrClass :=
        { core := o.core, pack := o.pack, stress := o.stress, corner := o.corner, miss := false, first := result, band := band.getD 255
          sig := sig, bcore := nextCore (g.rotCores lane) o.core, step := 0, tries := 0, onA := none }
      g.setScr lane { d with cls := d.cls ++ [c] }
    else g
  let d := g.scrDie lane
  let g := if o.kind = 2 ∧ d.session = true ∧ d.stress = [] then g.raise .stressDone [] else g
  g.scrNext lane

/-- SCREEN_RX. A message that answers no open screen is discarded. -/
def Gremon.screenRx (g : Gremon) (lane : Nat) : Gremon :=
  match g.takeLane lane 0x13 with
  | none => g
  | some (x, g) =>
    let m := x.bytes
    match (g.scrDie lane).cur with
    | some o =>
      if leAt m 4 4 = o.pack ∧ leAt m 8 1 = o.core then
        g.scrEnd lane o (leAt m 9 1 % 16) (leAt m 10 2) (leAt m 12 2) (leAt m 14 2) (leAt m 16 4) ((m.drop 44).take 16)
      else g
    | none => g

/-- SCREEN_LOST_TIMEOUT (R502): the verdict is LOST. -/
def Gremon.screenLost (g : Gremon) (lane : Nat) : Gremon :=
  match (g.scrDie lane).cur with
  | some o => (g.moveTo o.due).scrEnd lane o 6 0x8000 0 0 0 []
  | none => g

/-- STRESS_OPEN and STRESS_CLOSE of a die, or a reset of it (R509). -/
def Gremon.scrSession (g : Gremon) (lane : Nat) (on : Bool) : Gremon :=
  let d := g.scrDie lane
  let todo := (g.svc.scr.packs.filter fun e => packStress e.2).flatMap fun e => (g.rotCores lane).map fun c => (e.1, c)
  let g := g.setScr lane { d with session := on, stress := if on then todo else [] }
  if on && todo.isEmpty then g.raise .stressDone [] else g.scrNext lane

/-- Installed packs take effect at a frame boundary (R498); a new version clears what was kept of the old one (R514), and the
class record of a core whose flags so fall is issued again (R515).
Log: entry 28 (DEDUCED; DESIGN CHOICE). -/
def Gremon.packsApply (g : Gremon) : Gremon :=
  g.svc.scr.staged.foldl (fun (g : Gremon) e =>
    let g := g.onScr fun s => { s with packs := Tbl.put s.packs e.1 e.2, staged := Tbl.erase s.staged e.1 }
    g.svc.scr.dies.foldl (fun (g : Gremon) x =>
      let d := x.2
      let stale := fun (c : ScrCorr) => decide (c.pack = e.1)
      let g := g.setScr x.1 { d with corr := d.corr.filter fun c => !stale c, cls := d.cls.filter fun c => decide (c.pack / 65536 ≠ e.1) }
      let fell := d.corr.filter fun c => stale c && (c.ct || c.cl)
      let g := fell.foldl (fun (g : Gremon) c =>
        if c.cls.isEmpty then g else g.classOut x.1 (classAgain { c with res := [] } false false)) g
      if fell.isEmpty then g else g.scrArm x.1) g) g

/-! ### Gremon's own errors (R518–R524) -/

/-- A kit becomes FAULTED, cause POISON. -/
def Gremon.kitPoison (g : Gremon) (handle : Nat) : Gremon :=
  match g.kitOf handle with
  | some (n, _) => g.kitFault n 4
  | none => g

/-- The kit that holds a slot of a CT. -/
def Gremon.slotHolder (g : Gremon) (n : Nat) : Option (Nat × KitSlot) := g.resident.find? fun e => e.2.cores.contains n

/-- Suspect cores leave their slots at a frame boundary (R522); those of a kit that waits to restart go then. A slot that
no spare can serve faults its kit (R524).
Log: entry 28 (DEDUCED; DESIGN CHOICE). -/
def Gremon.coreMoves (g : Gremon) : Gremon :=
  (g.svc.scr.cores.filter fun e => decide (e.1 < 1024)).foldl (fun (g : Gremon) e =>
    let ct := e.1 / 64
    let p := e.1 % 64
    let n := 32 * ct + g.reg (kCtMap ct p) % 32
    let holder := g.slotHolder n
    let later := match holder with
      | some (_, k) => decide (k.state = 5) && k.restartAt.isSome
      | none => false
    if !(g.coreNote ct p).move || later then g
    else
      let (g, served) := g.moveCore ct p
      match served, holder with
      | false, some (slot, _) => g.kitFault slot 4
      | _, _ => g) g

/-- What an error names exists: a CNA, a logical core, a CT, an object, a die.
Log: entry 52 (DEDUCED; DESIGN CHOICE). -/
def eccNamed : EccAt → Bool
  | .line a => decide (a < 2 ^ 48)
  | .coreRegs n => decide (n < 512)
  | .tse c => decide (c < 16)
  | .sync o => decide (o < 16384)
  | .canopy d => decide (d < 32)
  | .mram => true
/-- Log: entry 52 (DEDUCED; DESIGN CHOICE). -/
def residueNamed : ResidueAt → Bool
  | .core n => decide (n < 512)
  | .engine ct u => decide (ct < 16) && decide (u < 5)
  | .counters _ | .coder | .digest _ => false

/-- RESIDUE_MISMATCH (R519): an engine's command ends POISON, or the core halts POISON before its result is written and
becomes SUSPECT; a mismatch in the TSE is met there (R355).
Log: entry 28 (DEDUCED; DESIGN CHOICE), entry 52 (DEDUCED; DESIGN CHOICE). -/
def Gremon.residueMismatch (g : Gremon) (w : ResidueAt) : Gremon :=
  match w with
  | .core n =>
    let c := g.core n
    match g.servedBy (n / 32) (n % 32) with
    | some p =>
      if !c.run then g
      else ((g.raise .residueErr (leBytes 1 (n / 32) ++ leBytes 1 p)).haltCore n c c.pc 4).coreResidue (n / 32) p
    | none => g
  | .engine ct u =>
    let g := g.raise .residueErr (leBytes 1 ct ++ leBytes 1 (0x80 + u))
    let eng : Option Engine := match u with
      | 0 => some .sketch | 1 => some .topk | 2 => some .baseline | _ => none
    match eng.bind fun x => g.eng.find? fun e => decide (e.core / 32 = ct) && decide (e.engine = x) with
    | some e => g.engDone e 4 0
    | none => if u = 4 then g.tseRetry ct else g
  | .counters _ | .coder | .digest _ => g

/-- Whether a stream or command of CT `d` that has not ended brings data across the mesh. -/
def Gremon.ctBusy (g : Gremon) (d : Nat) : Bool :=
  decide (d < 16) &&
    ((g.cores.any fun c => decide (c.1 / 32 = d) && c.2.streams.any fun t =>
        decide (sdMode t.desc ≠ 1) && acrossMesh d (sdSrcRow c.1 t.desc t.idx 0)) ||
      g.eng.any fun e => decide (e.core / 32 = d) && (g.engSpan e).any fun r => acrossMesh d r.1)

/-- ECC_ERROR (R518, Table 15.11). A Canopy flit in error is delivered to the next transfer of its CT that crosses the mesh to end
(R213); where none is under way it counts as a transfer ended POISON.
Log: entry 28 (DEDUCED; DESIGN CHOICE), entry 52 (DEDUCED; DESIGN CHOICE). -/
def Gremon.eccError (g : Gremon) (w : EccAt) (fixed : Bool) : Gremon :=
  match w, fixed with
  | .line _, true => g.count 305 1
  | .line a, false => if g.poison.contains (a / 64) then g else { g with poison := g.poison ++ [a / 64] }
  | .coreRegs n, true =>
    (match g.servedBy (n / 32) (n % 32) with
      | some p => g.coreCe (n / 32) p
      | none => g)
  | .coreRegs n, false =>
    let c := g.core n
    let g := if c.run then g.haltCore n c c.pc 4 else g
    (match g.servedBy (n / 32) (n % 32) with
      | some p => g.suspectCore (n / 32) p
      | none => g)
  | .tse _, true => g.count 305 1
  | .tse ct, false => g.tseRetry ct
  | .sync _, true => g.count 305 1
  | .sync o, false => g.kitPoison (g.obj o).kit
  | .canopy _, true => g
  | .canopy d, false =>
    if g.ctBusy d then { g with flits := if g.flits.contains d then g.flits else g.flits ++ [d] } else g.poisonAt d
  | .mram, true => g.count 305 1
  | .mram, false => g

/-- HBM_SCRUB (R220): the patrol reads a line and corrects it; in BRACE nothing is written back. -/
def Gremon.hbmScrub (g : Gremon) (a : Nat) (fixed : Bool) : Gremon :=
  if fixed && !g.sys.pwr.brace && decide (g.sys.pwr.pstate ≠ 3) && cnaHbm a then g.eccError (.line a) true else g

/-- SRAM_SCRUB (R666). -/
def Gremon.sramScrub (g : Gremon) (w : EccAt) (fixed : Bool) : Gremon :=
  match w, fixed with
  | .line a, true => if cnaHbm a then g else g.eccError (.line a) true
  | .tse c, true => g.eccError (.tse c) true
  | .sync o, true => g.eccError (.sync o) true
  | _, _ => g

end Sys2Proof.Machine
end

