-- ==== Sys2Proof/Machine/GTime.lean ====
section
/-! DEFINITION. Gremon's side of time (04): exchanges, site time, ordered steps, transmit stamps, alignment. -/
namespace Sys2Proof.Machine
open Sys2Proof

/-! ### The discipline chain -/

/-- What a change of Gremon's clock brings with it (Table 4.10). -/
def Gremon.timeNews (g : Gremon) (n : TimeNews) : Gremon :=
  let g := if n.set then g.ptSet else g
  let g := match n.stepped with
    | some (b, e) => g.raise .timeStep ((stampAt16 g.stamp b).bytes ++ (stampAt16 g.stamp e).bytes)
    | none => g
  let g := if n.held then g.raise .holdover [] else g
  if n.expired then g.raise .holdExpired [] else g

/-- Gremon's exchange interval with its PARENT (Table 4.7). -/
def Gremon.interval (g : Gremon) : Nat := intervalNs (bits g.almCfg 3 0)

/-- TIME_EXCHANGE_OPEN at a Gremon (R146): a TIME_REQ to the PARENT; the root has no master. -/
def Gremon.openExchange (g : Gremon) : Gremon :=
  match g.tree.parent with
  | some p =>
    if g.root || !g.portUp p then g
    else
      let x := g.clock.exid + 1
      let g := { g with clock := { g.clock with exid := x, waiting := false } }
      g.rlSend p vcTime (g.rlMsg 0x10 1 ((g.neighbour p).getD 0x3FF) 0 0 (leBytes 2 x.toNat ++ leBytes 6 0))
  | none => g

/-- TIME_REQ_RX from a die (R146, R197, R614): T3 is written as the response leaves. -/
def Gremon.timeReqLane (g : Gremon) (n : Nat) : Gremon :=
  let l := g.lane n
  match takeFirst (fun m => decide (leAt m.bytes 0 1 = 0x30)) l.inbox with
  | none => g
  | some (m, r) =>
    let g := g.setLane n { l with inbox := r }
    if g.clock.own = .unset then g
    else
      g.glSend n clsTime (glMsg 0x31 (leBytes 2 (leAt m.bytes 4 2) ++ leBytes 1 (min 7 (bits g.almCfg 7 4)) ++
        leBytes 1 (bits g.almCfg 31 24) ++ m.stamp.bytes ++ leBytes 12 0))

/-- TIME_REQ_RX from a neighbour (R146, Table 13.14). -/
def Gremon.timeReqPort (g : Gremon) (p : Nat) : Gremon :=
  match takeFirst (fun (m : RlMsgIn) => decide (leAt m.bytes 0 1 = 0x10) && decide (m.port = p)) g.rlIn with
  | none => g
  | some (m, r) =>
    let g := { g with rlIn := r }
    if g.clock.own = .unset then g
    else
      g.rlSend p vcTime (g.rlMsg 0x11 1 (leAt m.bytes 8 2) 0 0 (leBytes 2 (leAt m.bytes 16 2) ++
        leBytes 1 (min 7 (bits g.almCfg 3 0)) ++ leBytes 1 0 ++ m.stamp.bytes ++ leBytes 12 0 ++ leBytes 4 0))

/-- TIME_RSP_RX at a Gremon (R147–R150): only the PARENT's answer to the latest request counts.
Log: entry 13 (DEDUCED; DESIGN CHOICE). -/
def Gremon.timeRsp (g : Gremon) : Gremon :=
  match takeFirst (fun (m : RlMsgIn) => decide (leAt m.bytes 0 1 = 0x11)) g.rlIn with
  | none => g
  | some (m, r) =>
    let g := { g with rlIn := r }
    if g.root ∨ g.tree.parent ≠ some m.port ∨ g.clock.waiting = false ∨ leAt m.bytes 16 2 ≠ g.clock.exid.toNat then g
    else
      let asym := toInt 16 (g.fld (0x300200 + 4 * m.port) 15 0)
      let c := g.clock.exchange (Stamp.ofBytes m.bytes 20) (Stamp.ofBytes m.bytes 32) m.stamp.sixteenths asym g.interval
        (slewPpm (bits g.almCfg 23 16))
      ({ g with clock := c.1 }).timeNews c.2

/-- LOCK_LOSS_TIMEOUT at a Gremon other than the root (R150). -/
def Gremon.lockLoss (g : Gremon) : Gremon :=
  if g.root ∨ g.clock.own ≠ .locked then g
  else
    let g := { g with clock := g.clock.lmTo (g.clock.lastOk + 8 * g.interval) }
    let c := g.clock.hold g.uncert
    ({ g with clock := c.1 }).timeNews c.2

/-- HOLD_EXPIRED at a Gremon (R152).
Log: entry 14 (DEDUCED; DESIGN CHOICE; PRESUMED). -/
def Gremon.holdExpire (g : Gremon) : Gremon :=
  let c := g.clock.expire 5 (holdMax (bits g.almCfg 15 8))
  ({ g with clock := c.1 }).timeNews c.2

/-! ### Site time and ordered steps -/

/-- Change what is known of site time. -/
def Gremon.onSite (g : Gremon) (f : SiteTrack → SiteTrack) : Gremon := g.onSvc fun s => { s with site := f s.site }

/-- 1 ms (R143). -/
def siteFarAt : Int := 16000000
/-- The most that the root slews toward site time: 10 ppm (R143), and no more than SLEW_MAX (R140). -/
def Gremon.siteSlew (g : Gremon) : Nat := min 10 (slewPpm (bits g.almCfg 23 16)) * (10 * 2 ^ 40) / 1000000

/-- The site servo's outcome (R142, R143): `off` is the offset of this node's scale from site time in sixteenths of a
nanosecond, `lock` whether the servo counts as locked to it. Only the root applies it: it sets an UNSET PT, and slews
otherwise, by how much is open.
Log: entry 14 (DEDUCED; DESIGN CHOICE; PRESUMED). -/
def Gremon.siteSync (g : Gremon) (off : Int) (lock : Bool) : Gremon :=
  let st := if lock then 2 else if g.svc.site.state = 2 ∨ g.svc.site.state = 3 then 3 else 1
  let g := g.onSite fun x => { x with state := st }
  if g.root ∧ g.clock.own = .unset ∧ lock then
    let g := ({ g with clock := { g.clock with own := .locked, pt := ((g.clock.own16 : Int) - off).toNat * 2 ^ 36 } } : Gremon).ptSet
    g.onSite fun x => { x with offset := 0, far := false }
  else
    let far := decide (off > siteFarAt) || decide (off < -siteFarAt)
    let new := g.root && far && !g.svc.site.far
    let g := g.onSite fun x => { x with offset := off, far := g.root && far }
    let g := if g.root ∧ lock then
        let (d, g) := g.draw
        let k : Int := (d % (g.siteSlew + 1) : Nat)
        let y := if off > 0 then g.clock.yInt - k else if off < 0 then g.clock.yInt + k else g.clock.yInt
        { g with clock := { g.clock with y := y, own := .locked } }
      else g
    if new then g.raise .siteFar [] else g

/-- The PT of the latest black-box commit that holds one (R145). -/
def Gremon.seedPt (g : Gremon) : Nat :=
  match ((g.sys.bb.recs.filter fun r => decide (r.ty = 2) && decide (r.stamp.qual ≠ .unset)).getLast?) with
  | some r => r.stamp.ns.toNat + 1000000000
  | none => 0

/-- ROOT_SITE_WAIT_EXPIRY (R145, R615): 1,000 ms after the self-test without site lock the root seeds PT; a root that has
kept its PT is LOCKED to itself from then, and its SITE stays as it is.
Log: entry 14 (DEDUCED; DESIGN CHOICE; PRESUMED). -/
def Gremon.siteWait (g : Gremon) : Gremon :=
  if !g.sys.pwr.ready then g
  else
    let due := g.svc.site.since + 1000000000
    let g := { g with clock := g.clock.lmTo due }
    let g := g.onSite fun x => { x with waited := true }
    if !g.root || decide (g.svc.site.state = 2) then g
    else if g.clock.own = .unset then
      let g := g.onSite fun x => { x with state := 0 }
      ({ g with clock := { g.clock with own := .locked, pt := g.seedPt * tickUnit } } : Gremon).ptSet
    else { g with clock := { g.clock with own := .locked } }

/-- The next ordered step of PT, if any (R144).
Log: entry 14 (DEDUCED; DESIGN CHOICE; PRESUMED). -/
def Gremon.nextStep (g : Gremon) : Option (Nat × Int) :=
  g.svc.ptSteps.foldl (fun b s => match b with
    | some c => if s.1 < c.1 then some s else b
    | none => some s) none

/-- PT_STEP_TICK at a Gremon (R144); LOCKED is the node's own state, not the quality that it reports.
Log: entry 14 (DEDUCED; DESIGN CHOICE; PRESUMED). -/
def Gremon.ptStep (g : Gremon) : Gremon :=
  match g.nextStep with
  | none => g
  | some s =>
    let g := (g.moveTo s.1).onSvc fun v => { v with ptSteps := v.ptSteps.filter fun x => decide (x.1 ≠ s.1) }
    if g.clock.own = .locked then { g with clock := g.clock.jump (16 * s.2) } else g

/-! ### Transmit stamps (R157, R158) -/

def Gremon.tsq (g : Gremon) (p : Nat) : TsQueue := Tbl.get TsQueue.reset g.sys.tsq p
def Gremon.setTsq (g : Gremon) (p : Nat) (t : TsQueue) : Gremon :=
  { g with sys := { g.sys with tsq := Tbl.set TsQueue.reset g.sys.tsq p t } }

/-- A read of GR_TSQ_p_HEAD: the oldest entry is popped and its NS words are latched; an empty queue pops nothing. -/
def Gremon.tsqPop (g : Gremon) (p : Nat) : Nat × Gremon :=
  let t := g.tsq p
  match t.q with
  | (id, st) :: r => (id % 65536 + 2 ^ 16 * st.tq + 2 ^ 31, g.setTsq p { t with q := r, head := st })
  | [] => (0, g)

/-- GR_TSQ_p_STAT. -/
def Gremon.tsqStat (g : Gremon) (p : Nat) : Nat := (g.tsq p).q.length + 65536 * (g.tsq p).lost

/-! ### IEEE 1588 on MGMT (Table 4.8) -/

/-- The master chosen among those present.
Log: entry 14 (DEDUCED; DESIGN CHOICE; PRESUMED). -/
def Gremon.siteMaster (g : Gremon) : Option Nat :=
  ((g.svc.site.masters.filter fun m => decide (g.clock.lmNs ≤ m.until')).foldl
    (fun (b : Option PtpMaster) m => match b with
      | some c => if lexLt m.rank c.rank then some m else b
      | none => some m) none).map (·.source)

/-- The domain number in force: the Defaults Image's, 0 without one. -/
def Gremon.siteDomain (g : Gremon) : Nat :=
  let p := g.sys.pwr
  if p.image = 0 ∧ p.copyA ≠ [] then (Config.siteDomain p.copyA).toNat
  else if p.image = 1 ∧ p.copyB ≠ [] then (Config.siteDomain p.copyB).toNat
  else 0

/-- With T1 and T2 of a Sync known a Delay_Req leaves, its transmit stamp going to queue 0 under its sequence number
(R157, Table 4.8).
Log: entry 14 (DEDUCED; DESIGN CHOICE; PRESUMED). -/
def Gremon.delayReq (g : Gremon) (y : PtpSync) : Gremon :=
  let n := g.svc.site.dseq
  let g := g.txStamp 0 n.toNat (g.linkStamp 30)
  g.onSite fun x => { x with sync := none, dreq := some (n, y), dseq := n + 1 }

/-- CD's firmware takes the stamp of the message `id` from queue 0, with those that stand before it.
Log: entry 14 (DEDUCED; DESIGN CHOICE; PRESUMED). -/
def Gremon.mgmtStamp (g : Gremon) (id : Nat) : Option Stamp × Gremon :=
  let q := (g.tsq 0).q
  match q.find? (fun e => decide (e.1 = id)) with
  | some e => (some e.2, g.setTsq 0 { g.tsq 0 with q := (q.dropWhile fun e => decide (e.1 ≠ id)).drop 1, head := e.2 })
  | none => (none, g)

/-- SITE_SYNC_MESSAGE (R142, R615, Table 4.8): messages of another domain, another transport or an unsupported feature are
ignored, as is a Sync that is not the chosen master's or comes outside 2⁻⁷ s to 1 s. A Delay_Resp completes the four
stamps, of which the servo takes the offset; `lock` says whether it then counts as locked.
Log: entry 14 (DEDUCED; DESIGN CHOICE; PRESUMED). -/
def Gremon.siteMsg (g : Gremon) (m : PtpMsg) (lock : Bool) : Gremon :=
  if !g.sys.pwr.ready || decide (m.transport = .other) || decide (m.domain ≠ g.siteDomain) then g
  else
    let mine := decide (g.siteMaster = some m.source)
    match m.body with
    | .announce gm steps ivl =>
      let keep : Nat := 3 * (if ivl ≥ 0 then 1000000000 * 2 ^ (min ivl 16).toNat else 1000000000 / 2 ^ (-(max ivl (-16))).toNat)
      let x : PtpMaster := { source := m.source, rank := gm ++ [steps, m.source], until' := g.clock.lmNs + keep }
      g.onSite fun s => { s with masters := x :: s.masters.filter fun y => decide (y.source ≠ m.source) && decide (g.clock.lmNs ≤ y.until') }
    | .sync seq two origin ivl =>
      if !mine || decide (ivl < -7) || decide (ivl > 0) then g
      else
        let y : PtpSync := { source := m.source, seq := seq, t1 := origin, t2 := (g.linkStamp 30).sixteenths }
        if two then g.onSite fun s => { s with sync := some y } else g.delayReq y
    | .followUp seq origin =>
      match g.svc.site.sync with
      | some y => if mine && decide (y.source = m.source) && decide (y.seq = seq) then g.delayReq { y with t1 := origin } else g
      | none => g
    | .delayResp seq received =>
      match g.svc.site.dreq with
      | some (n, y) =>
        if mine && decide (y.source = m.source) && decide (n.toNat = seq) then
          let r := (g.onSite fun s => { s with dreq := none }).mgmtStamp n.toNat
          match r.1 with
          | some t3 => r.2.siteSync (floorDiv (((y.t2 : Int) - y.t1) - ((received : Int) - t3.sixteenths)) 2) lock
          | none => r.2
        else g
      | none => g
    | .unsupported => g

/-! ### Alignment (R159–R164) -/

/-- The Gremons that serve a job, ascending, and the home of a mark (R162). -/
def Gremon.servers (g : Gremon) (job : Nat) : List Nat :=
  let l := (g.jobDies job).map (·.2)
  (List.range 1024).filter fun i => l.contains i
/-- Log: entry 60 (DESIGN CHOICE; DEDUCED; PRESUMED). -/
def Gremon.markHome (g : Gremon) (job id : Nat) : Option Nat :=
  let s := g.servers job
  s[id % max 1 s.length]?

/-- A die's mark reaches its Gremon, which keeps it or forwards it to its home (R162).
Log: entry 15 (DEDUCED; DESIGN CHOICE), entry 60 (DESIGN CHOICE; DEDUCED; PRESUMED). -/
def Gremon.takeMark (g : Gremon) (m : Mark) : Gremon :=
  match g.markHome m.job m.id with
  | some h =>
    if h = g.gid then g.onSvc fun s => { s with marks := s.marks ++ [m] }
    else g.ownMsg h 2 (leBytes 2 m.job ++ leBytes 2 m.id ++ leBytes 4 m.lda ++ leBytes 1 (b2n m.recv) ++ leBytes 1 0 ++
      leBytes 2 m.unc ++ leBytes 10 m.at16)
  | none => g

/-- RL_MSG_RX (R445, R446): a kit's message, or one of another Gremon's own services: an entry of its tray manifest, a mark,
a minimum, or NCH of its plan.
Log: entry 60 (DESIGN CHOICE; DEDUCED; PRESUMED). -/
def Gremon.msgTake (g : Gremon) : Gremon :=
  match g.rlIn.find? fun m => decide (leAt m.bytes 0 1 = 0x44) with
  | some x =>
    match ownKind x.bytes with
    | none => g.msgRx
    | some k => g.onRl 0x44 fun g m =>
      let b := m.bytes.drop 36
      if k = 1 then g.trayNote (leAt b 0 4) (BitVec.ofNat 64 (leAt b 4 8))
      else if k = 2 then g.onSvc fun s => { s with marks := s.marks ++ [
        { job := leAt b 0 2, id := leAt b 2 2, lda := leAt b 4 4, recv := bit (leAt b 8 1) 0, unc := leAt b 10 2, at16 := leAt b 12 10 }] }
      else if k = 3 then g.onSvc fun s => { s with minima := s.minima ++ [(leAt b 0 2, leAt b 2 4, leAt b 6 4, toInt 64 (leAt b 10 8))] }
      else if k = 4 then g.onSvc fun s => { s with plans := Tbl.put s.plans (leAt b 0 2) (leAt b 2 4) }
      else g
  | none => g

def gapOf (a b : Nat) : Nat := (a - b) + (b - a)

/-- The sends of an ID that another send within the window makes ambiguous.
Log: entry 15 (DEDUCED; DESIGN CHOICE). -/
def ambiguous (win : Nat) (ms : List Mark) (m : Mark) : Bool :=
  let sends := ms.filter fun x => !x.recv && decide (x.id = m.id)
  sends.any fun a => sends.any fun b => decide (a ≠ b) && decide (gapOf a.at16 b.at16 ≤ 16 * win) &&
    (decide (gapOf a.at16 m.at16 ≤ 16 * win) || decide (gapOf b.at16 m.at16 ≤ 16 * win))

/-- Weights of directed edges, ascending by their ends; an edge keeps its least weight. -/
abbrev Edges := List ((Nat × Nat) × Int)
def Edges.add (e : Nat × Nat) (x : Int) : Edges → Edges
  | [] => [(e, x)]
  | (f, y) :: t =>
    if e = f then (f, min x y) :: t
    else if e.1 < f.1 ∨ (e.1 = f.1 ∧ e.2 < f.2) then (e, x) :: (f, y) :: t
    else (f, y) :: Edges.add e x t

/-- INF of R163. -/
def alignInf : Int := 2 ^ 62

/-- One round of relaxation. -/
def relax (w : Edges) (d : Tbl Int) : Tbl Int :=
  w.foldl (fun (d : Tbl Int) e =>
    let n := Tbl.get alignInf d e.1.1 + e.2
    if n < Tbl.get alignInf d e.1.2 then Tbl.put d e.1.2 n else d) d

/-- `shortest` of R163. -/
def shortest (n : Nat) (w : Edges) (src : Nat) : Option (Tbl Int) :=
  let d := loop (relax w) (n - 1) [(src, 0)]
  if w.any fun e => decide (Tbl.get alignInf d e.1.1 + e.2 < Tbl.get alignInf d e.1.2) then none else some d

/-- `solve` of R163: lo, hi and c of each die, or none where the marks are inconsistent.
Log: entry 15 (DEDUCED; DESIGN CHOICE). -/
def alignSolve (dies : List Nat) (ub : Edges) (u : Nat → Int) (ref : Nat) : Option (List (Nat × Int × Int × Int)) :=
  let w := dies.foldl (fun (w : Edges) i =>
    if i = ref then w else (w.add (ref, i) (u i + u ref)).add (i, ref) (u i + u ref)) ub
  let back : Edges := w.foldl (fun (b : Edges) e => b.add (e.1.2, e.1.1) e.2) []
  match shortest dies.length w ref, shortest dies.length back ref with
  | some hi, some bk => some (dies.map fun i =>
      let h := Tbl.get alignInf hi i
      let b := Tbl.get alignInf bk i
      (i, -b, h, floorDiv (h - b) 2))
  | _, _ => none

/-- The least ub of each matched pair of this window (R162).
Log: entry 15 (DEDUCED; DESIGN CHOICE). -/
def alignPairs (ms : List Mark) (from16 to16 : Nat) (x : AlignIn) : Edges :=
  let good := ms.filter fun m => !ambiguous x.win ms m
  good.foldl (fun (w : Edges) s =>
    if s.recv then w
    else good.foldl (fun (w : Edges) r =>
      if r.recv ∧ r.id = s.id ∧ gapOf r.at16 s.at16 ≤ 16 * x.win ∧ from16 ≤ r.at16 ∧ r.at16 < to16 ∧ r.lda ≠ s.lda then
        let lam := (x.lam.find? fun l => decide (l.1 = s.lda) && decide (l.2.1 = r.lda)).map (·.2.2)
        w.add (s.lda, r.lda) ((r.at16 : Int) - s.at16 - (lam.getD 0 : Nat))
      else w) w) []

/-- U of a die of the job, in sixteenths: as given, by its latest mark, or this Gremon's with the hop bound. -/
def Gremon.dieUnc (g : Gremon) (ms : List Mark) (x : AlignIn) (lda : Nat) : Int :=
  let q := match x.unc.find? fun p => decide (p.1 = lda) with
    | some p => p.2
    | none => match (ms.filter fun m => decide (m.lda = lda)).getLast? with
      | some m => m.unc
      | none => sat 0xFFFF (g.uncert + 8)
  ((4 * q : Nat) : Int)

/-- ALIGN_SOLVE (R162–R164): at the end of a window a home Gremon sends its minima to the solver and lets old marks go; the
solver solves with its own and those it has received since its last solve.
Log: entry 15 (DEDUCED; DESIGN CHOICE), entry 60 (DESIGN CHOICE; DEDUCED; PRESUMED). -/
def Gremon.alignStep (g : Gremon) (job : Nat) (x : AlignIn) : Gremon :=
  let t16 := g.clock.pt16
  let mine := g.svc.marks.filter fun m => decide (m.job = job)
  let bad := (mine.filter fun m => ambiguous x.win mine m).length
  let own := alignPairs mine (t16 - 16 * x.span) t16 x
  let got := g.svc.minima.filter fun e => decide (e.1 = job)
  let g := g.onSvc fun s => { s with
    marks := s.marks.filter fun m => decide (m.job ≠ job) || (decide (m.at16 + 16 * x.win ≥ t16) && !ambiguous x.win mine m)
    minima := s.minima.filter fun e => decide (e.1 ≠ job), ambig := s.ambig + bad }
  let dies := (g.jobDies job).map (·.1)
  let ref := dies.foldl min (dies.headD 0)
  let solver := x.solver.getD g.tree.root
  if solver ≠ g.gid then
    own.foldl (fun (g : Gremon) e => g.ownMsg solver 3 (leBytes 2 job ++ leBytes 4 e.1.1 ++ leBytes 4 e.1.2 ++ leBytes 8 (ofInt 64 e.2))) g
  else if dies.isEmpty then g
  else
    let ub := got.foldl (fun (w : Edges) e =>
      if dies.contains e.2.1 && dies.contains e.2.2.1 then w.add (e.2.1, e.2.2.1) e.2.2.2 else w)
      (own.filter fun e => dies.contains e.1.1 && dies.contains e.1.2)
    let missing := dies.filter fun i => decide (i ≠ ref) && !(ub.any fun e => decide (e.1.1 = i) || decide (e.1.2 = i))
    let cov := dieCov dies missing
    let put := fun (g : Gremon) (b : List Byte) => g.onSvc fun s => { s with
      aligned := (job, b) :: s.aligned.filter fun p => decide (p.1 ≠ job) }
    match alignSolve dies ub (g.dieUnc mine x) ref with
    | some l => put g (cov.bytes ++ l.flatMap fun r => leBytes 4 r.1 ++ leBytes 8 (ofInt 64 r.2.1) ++
        leBytes 8 (ofInt 64 r.2.2.1) ++ leBytes 8 (ofInt 64 r.2.2.2))
    | none => (put g ({ cov with degraded := true : Coverage }).bytes).raiseJob .alignInconsistent job []

end Sys2Proof.Machine
end

