-- ==== Sys2Proof/Machine/Ingest.lean ====
section
/-! DEFINITION. Gremon's ends of the lanes and what it takes from the dies: link events, enumeration (05), samples and
events (12 R393, 20 R647), responses. -/
namespace Sys2Proof.Machine
open Sys2Proof

/-! ### Link events -/

/-- The part of a REFUSED lane's messages that Gremon accepts: ENUM and TIME_REQ (R203). -/
def refusedTakes (l : GlLink) : GlLink :=
  if l.st = .refused then
    { l with inbox := l.inbox.filter fun m => decide (leAt m.bytes 0 1 = 0x23) || decide (leAt m.bytes 0 1 = 0x30) }
  else l

/-- The measurement record of a lane that leaves UP is STALE from now (R631). -/
def Gremon.measStale (g : Gremon) (n : Nat) : Gremon :=
  match Tbl.find g.sys.prot.meas n with
  | some r => if r.since.isSome then g else
    { g with sys := { g.sys with prot := { g.sys.prot with meas := Tbl.put g.sys.prot.meas n { r with since := some g.clk } } } }
  | none => g

/-- Gremon after a link event on lane `n` (R181, R189, R191, R195). -/
def Gremon.glNews (g : Gremon) (n : Nat) (r : GlLink × GlNews) : Gremon :=
  let was := (g.lane n).st
  let g := g.setLane n (refusedTakes r.1)
  let g := if (was = .up ∨ was = .shadow) ∧ r.1.st ≠ .up ∧ r.1.st ≠ .shadow then g.measStale n else g
  let g := loop (fun (s : Gremon) => s.raise .glBadMsg []) r.2.badMsgs g
  let g := match r.2.takeover with
    | some c => g.raise .glTakeover (leBytes 2 n ++ leBytes 1 c ++ g.stamp.bytes)
    | none => g
  if r.2.fresh then
    let d := g.die n
    let still := fun (m : List Byte) => (g.lane n).tx.any fun q => q.any fun t => decide (t.bytes = m)
    (g.setDie n { d with waiting := d.waiting.filter fun w => still w.2 }).raise .linkFresh []
  else g

/-- A link event at PT `ns` on Gremon's end of lane `n`. -/
def Gremon.onLane (g : Gremon) (n ns : Nat) (f : Stamp → GlLink → GlLink × GlNews) : Gremon :=
  if !g.sys.pwr.rails || decide (n ≥ 512) then g
  else
    let g := g.moveTo ns
    g.glNews n (f (g.linkStamp (pdOf n (g.lane n).active)) (g.lane n))

/-- GL_TX_SLOT at Gremon's end: T3, QUAL and U of a TIME_RSP are written as it leaves (R197). -/
def Gremon.glSlot (g : Gremon) (n ns : Nat) : Gremon :=
  if !g.sys.pwr.rails || decide (n ≥ 512) then g
  else
    let g := g.moveTo ns
    let patch := fun (m : List Byte) =>
      if leAt m 0 1 = 0x31 then m.take 20 ++ (g.stampOn (pdOf n (g.lane n).active)).bytes ++ m.drop 32 else m
    g.setLane n ((g.lane n).slot patch)

/-- GL_TRAIN_START at Gremon: once its Guyline ports are enabled (R614).
Log: entry 42 (DESIGN CHOICE). -/
def Gremon.glTrain (g : Gremon) (n : Nat) : Gremon :=
  if g.sys.pwr.glOn && decide (n < 512) then g.setLane n (g.lane n).trainStart else g

/-- GL_TRAIN_RETRY at Gremon (R187): the eighth failure in a row writes TRAIN_FAIL. -/
def Gremon.glRetry (g : Gremon) (n : Nat) : Gremon :=
  if !g.sys.pwr.glOn || decide (n ≥ 512) then g
  else
    let l := (g.lane n).trainFail .gremon
    let new := decide (l.trainFails = 8) && decide ((g.lane n).trainFails = 7)
    let g := g.setLane n l
    if new then g.raise .trainFail (leBytes 2 n) else g

/-- A Gremon receiver gains lock; a pair whose PD has failed never does (R169, R229). -/
def Gremon.glLock (g : Gremon) (n : Nat) (pr : Pair) : Gremon :=
  if n < 512 ∧ g.fld (kDieStat (pdOf n pr)) 1 0 ≠ 3 then g.setLane n ((g.lane n).gainLock .gremon pr (bit (g.die n).cfgid.toNat 10)) else g

/-- STBY_FAIL at Gremon (R189).
Log: entry 42 (DESIGN CHOICE). -/
def Gremon.glStby (g : Gremon) (n : Nat) : Gremon :=
  if n ≥ 512 then g
  else
    let r := (g.lane n).standbyLoss
    let g := g.setLane n r.1
    if r.2 then g.raise .stbyFail [] else g

/-! ### What a die is given (R166, R167, R204, R488, R578) -/

/-- Sections of a firmware image (Table 19.7a): TYPE and contents. -/
def imgSections (b : List Byte) : List (Nat × List Byte) :=
  (List.range (min 16 (leAt b 6 2))).map fun i =>
    (leAt b (64 + 16 * i) 2, (b.drop (leAt b (68 + 16 * i) 4)).take (leAt b (72 + 16 * i) 4))
/-- The AL-4 image nested in an image. -/
def imgNested (b : List Byte) : List Byte := ((imgSections b).find? fun s => decide (s.1 = 3)).elim [] (·.2)
/-- The microcode of an AL-4 image and its UCODE_VER: the low half of VERSION. -/
def alMicrocode (b : List Byte) : List Byte := ((imgSections b).find? fun s => decide (s.1 = 2)).elim [] (·.2)
/-- Log: entry 22 (DEDUCED; DESIGN CHOICE). -/
def alUcodeVer (b : List Byte) : Nat := leAt b 24 2

/-- The AL-4 image for the die with an HDID: that of the running bank, unless it is bound to another die (R634). -/
def Gremon.alImage (g : Gremon) (hdid : W64) : List Byte :=
  let b := imgNested g.sys.upd.running
  if leAt b 16 8 = 0 ∨ leAt b 16 8 = hdid.toNat then b else []

/-- Send a die its microcode, 256 words a command.
Log: entry 22 (DEDUCED; DESIGN CHOICE). -/
def Gremon.ucodePush (g : Gremon) (lane : Nat) (code : List Byte) : Gremon :=
  ((chunks 1024 (code.length + 1) code).foldl (fun (s : Gremon × Nat) c =>
    let n := (c.length + 3) / 4
    (s.1.command lane 3 0 s.2 n (padTo (4 * n) c), s.2 + n)) (g, 0)).1

/-- The frame length and scoring multiple, to apply at a tick, or at once with 0 (R167). -/
def Gremon.framePush (g : Gremon) (lane f n tick : Nat) : Gremon :=
  ((g.cmdWord lane 0x4030 (f + 16384 * n)).cmdWord lane 0x4034 (tick % 2 ^ 32)).cmdWord lane 0x4038 (tick / 2 ^ 32)

/-- A die's job and epoch, or none (R166). -/
def Gremon.jobPush (g : Gremon) (lane : Nat) : Gremon :=
  match g.bindOf (g.pda lane) with
  | some b => match g.jobInfo b.job with
    | some j =>
      ((g.cmdWord lane 0x4018 (j.epoch.toNat % 2 ^ 32)).cmdWord lane 0x401C (j.epoch.toNat / 2 ^ 32)).cmdWord lane 0x4028
        (b.job + 65536)
    | none => g.cmdWord lane 0x4028 0
  | none => g.cmdWord lane 0x4028 0

/-- A job's SD128 key, on one die: eight words, JOB, SET (R488).
Log: entry 21 (DEDUCED; DESIGN CHOICE), entry 22 (DEDUCED; DESIGN CHOICE). -/
def Gremon.keyPush (g : Gremon) (lane job : Nat) (key : List Byte) : Gremon :=
  (((g.cmdWords lane 0 0x7000 ((List.range 8).map fun i => leAt key (4 * i) 4)).cmdWord lane 0x7020 job)).cmdWord lane 0x7020
    (job + 2 ^ 17)

/-- The key of the die's job, where one is set. -/
def Gremon.keyOf (g : Gremon) (lane : Nat) : Gremon :=
  let job := g.jobOf (g.pda lane)
  match (g.jobInfo job).bind (·.key) with
  | some k => g.keyPush lane job k
  | none => g

/-- Registers of a die, each written with what the Defaults Image makes of its reset value (R610). -/
def Gremon.imageWords (g : Gremon) (lane : Nat) (keys : List Nat) : Gremon :=
  keys.foldl (fun (g : Gremon) k =>
    let v := g.sys.pwr.pushList.foldl (fun v e => if alKey e.1 e.2.1 = k then imgMerge v e.2.2.1 e.2.2.2 else v)
      (rstWord .ailen k)
    if k ≥ ind 0 then g.cmdWords lane 1 (k - ind 0) [v] else g.cmdWord lane k v) g

/-- The registers beside the capture configuration that the Defaults Image sets in every die. -/
def Gremon.imageKeys (g : Gremon) : List Nat :=
  ((g.sys.pwr.pushList.map fun e => alKey e.1 e.2.1).filter fun k => !isCapKey k).eraseDups
/-- Log: entry 22 (DEDUCED; DESIGN CHOICE). -/
def Gremon.imagePush (g : Gremon) (lane : Nat) : Gremon := g.imageWords lane g.imageKeys

/-- AL_TRC_CTL of a die: what the image makes of it, with SEC_OK while a token with SECURE_TRACE is installed (R662). -/
def Gremon.secPush (g : Gremon) (lane : Nat) : Gremon :=
  let v := g.sys.pwr.pushList.foldl (fun v e => if alKey e.1 e.2.1 = 0x9000 then imgMerge v e.2.2.1 e.2.2.2 else v) (rstWord .ailen 0x9000)
  let ok : Bool := match g.sys.prot.token with
    | some t => bit t.1 0
    | none => false
  g.cmdWord lane 0x9000 (putBits v 5 5 (b2n ok))

/-- Everything that Gremon pushes to a die, written again and committed (R578).
Log: entry 22 (DEDUCED; DESIGN CHOICE). -/
def Gremon.repush (g : Gremon) (lane : Nat) : Gremon :=
  (((g.capPush lane (g.unionUnit g.planPkgs)).imageWords lane (0x4020 :: 0x8000 :: 0x8004 ::
    g.imageKeys.filter fun k => !([0x4020, 0x8000, 0x8004].contains k))).scrArm lane).keyOf lane

/-! ### Enumeration (R202–R204) -/

/-- The first register of each group of host-written AILEN registers, in the order of R599: remap, AL_VIG_CTL, the step
registers, the continuity registers, AL_MB_CTL, AL_SCR_SESS. -/
def hostGroups : List Nat := [0x400, 0x108, 0x110, 0x6000, 0x50C4, 0x8044]

/-- What a reset of the die reverted (R599, R600): after an AO-LOSS every host-written group, after a BLOCK reset the stress
session that was open. What the host had written is not known to Gremon.
Log: entry 22 (DEDUCED; DESIGN CHOICE). -/
def Gremon.dieReverted (g : Gremon) (lane cause : Nat) : Gremon :=
  if cause = 0 then
    hostGroups.foldl (fun (g : Gremon) k =>
      let r := g.draw
      r.2.defaulted 2 k (g.pda lane) r.1 (rstWord .ailen k) 2) g
  else if cause = 1 ∧ (g.scrDie lane).session = true then g.defaulted 2 0x8044 (g.pda lane) 1 0 1
  else g

/-- What an accepted ENUM tells of a die (Table 5.20). -/
def DieInfo.enumerated (d : DieInfo) (m : List Byte) : DieInfo :=
  { d with
    accepted := true, hdid := BitVec.ofNat 64 (leAt m 16 8), alId := BitVec.ofNat 32 (leAt m 4 4), alVer := BitVec.ofNat 32 (leAt m 8 4)
    cfgid := BitVec.ofNat 32 (leAt m 12 4), ucode := BitVec.ofNat 16 (leAt m 26 2), capGen := BitVec.ofNat 8 (leAt m 28 1)
    phash := BitVec.ofNat 32 (leAt m 32 4), rseqHi := if leAt m 24 1 = 0 then .none else d.rseqHi, resend := leAt m 36 2
    remap := (List.range 256).map fun p => BitVec.ofNat 16 (leAt m (40 + 2 * p) 2), mbAgain := d.mbFwd.isSome, cause := leAt m 24 1 }

/-- What an accepted die is sent after its ENUM_ACK, in the order of R204.
Log: entry 22 (DEDUCED; DESIGN CHOICE). -/
def Gremon.enumPushes (g : Gremon) (lane : Nat) (m : List Byte) (newCfg : Bool) : Gremon :=
  let cause := leAt m 24 1
  let img := g.alImage (BitVec.ofNat 64 (leAt m 16 8))
  let g := if img.isEmpty ∨ alUcodeVer img = leAt m 26 2 then g else g.ucodePush lane (alMicrocode img)
  let g := if newCfg then g.capPush lane (g.unionUnit g.planPkgs) else g
  let g := if newCfg ∨ cause ≤ 1 then g.imagePush lane else g
  let g := if cause ≤ 1 then g.keyOf lane else g
  let g := if cause = 0 ∧ ((g.scrDie lane).corr.any fun c => c.ct || c.cl) = true then g.scrArm lane else g
  let g := if cause = 2 ∨ g.sys.prot.token.isSome = true then g.secPush lane else g
  let g := g.framePush lane g.frameUs g.frameN 0
  let g := match g.frameNext with
    | some (f, n, t) => g.framePush lane f n t
    | none => g
  let g := if (g.bindOf (g.pda lane)).isSome then g.jobPush lane else g
  let g := if cause ≤ 1 ∧ (g.scrDie lane).session = true then g.scrSession lane false else g
  if leAt m 36 2 = 0 then g.mbForward lane else g

/-- ENUM_RX.
Log: entry 22 (DEDUCED; DESIGN CHOICE), entry 60 (DESIGN CHOICE; DEDUCED; PRESUMED). -/
def Gremon.enumRx (g : Gremon) (lane : Nat) : Gremon :=
  match g.takeLane lane 0x23 with
  | none => g
  | some (x, g) =>
    let m := x.bytes
    let hdid : W64 := BitVec.ofNat 64 (leAt m 16 8)
    let twice := g.dies.any fun e => decide (e.1 ≠ lane) && e.2.accepted && decide (e.2.hdid = hdid)
    let verdict :=
      if bits (leAt m 4 4) 15 8 ≠ 4 then 1
      else if leAt m 10 2 ≠ 4 then 2
      else if hdid = 0 ∨ hdid = BitVec.allOnes 64 ∨ twice = true then 3
      else 0
    let d := g.die lane
    let l := g.lane lane
    let img := g.alImage hdid
    let ver := if img.isEmpty then leAt m 26 2 else alUcodeVer img
    let ack := glMsg 0x24 (leBytes 1 verdict ++ leBytes 3 0 ++ leBytes 4 (g.pda lane) ++ leBytes 2 (if verdict = 0 then ver else 0) ++
      leBytes 2 0)
    if verdict ≠ 0 then
      let g := g.setLane lane (refusedTakes { l with st := .refused, rest := .refused })
      let g := (g.setDie lane { d with accepted := false, cfgid := BitVec.ofNat 32 (leAt m 12 4) }).glSend lane clsCtrl ack
      (if d.accepted then g.traySend lane else g).raise .glRefused (leBytes 1 verdict)
    else
      let u := g.unionUnit g.planPkgs
      let newCfg := decide (leAt m 28 1 ≠ d.capGen.toNat) || decide (leAt m 32 4 ≠ capPhash u)
      let d' := d.enumerated m
      let g := (g.setDie lane d').dieReverted lane d'.cause
      let g := g.setLane lane { l with rest := .up, st := if l.shadowRate then .shadow else .up }
      let rec' : MeasRec :=
        { pda := g.pda lane, hdid := hdid, alId := d'.alId, alVer := d'.alVer, cfgid := d'.cfgid, ucode := d'.ucode
          capGen := d'.capGen, phash := d'.phash, since := none }
      let g : Gremon := { g with sys := { g.sys with prot := { g.sys.prot with meas := Tbl.put g.sys.prot.meas lane rec' } } }
      let g := (g.glSend lane clsCtrl ack).traySend lane
      g.enumPushes lane m newCfg

/-! ### Responses (R199) -/

/-- RSP_RX: the outcome of a commit (R112) and of a frame change (R167) is read from it; of the rest Gremon needs only
that they were answered. -/
def Gremon.rspRx (g : Gremon) (lane : Nat) : Gremon :=
  match g.takeLane lane 0x22 with
  | none => g
  | some (x, g) =>
    let m := x.bytes
    let d := g.die lane
    match d.waiting.find? fun w => decide (w.1.toNat = leAt m 4 2) with
    | none => g
    | some w =>
      let d := { d with waiting := d.waiting.filter fun y => decide (y.1 ≠ w.1) }
      let g := g.setDie lane d
      let op := leAt w.2 6 1
      let addr := leAt w.2 8 4
      let st := leAt m 6 1
      if op = 1 ∧ addr = 0x1008 ∧ st = 0 then
        let stat := leAt m 12 4
        if bit stat 2 then g.command lane 1 0 0x1008 2 []
        else
          let gen : BitVec 8 := BitVec.ofNat 8 (bits stat 23 16)
          let ph : Word := BitVec.ofNat 32 (leAt m 16 4)
          let g := g.setDie lane { d with capGen := gen, phash := ph }
          let g := match Tbl.find g.sys.prot.meas lane with
            | some r => { g with sys := { g.sys with prot := { g.sys.prot with
                meas := Tbl.put g.sys.prot.meas lane { r with capGen := gen, phash := ph } } } }
            | none => g
          if bits stat 1 0 = 1 then g.kitApplied lane else g
      else if op = 2 ∧ addr = 0x4038 ∧ st = 2 then
        let v := match g.frameNext with
          | some (f, n, _) => (f, n)
          | none => (g.frameUs, g.frameN)
        g.framePush lane v.1 v.2 0
      else if op = 3 ∧ st = 0 then
        match Tbl.find g.sys.prot.meas lane with
        | some r => { g with sys := { g.sys with prot := { g.sys.prot with
            meas := Tbl.put g.sys.prot.meas lane { r with ucode := BitVec.ofNat 16 (alUcodeVer (g.alImage d.hdid)) } } } }
        | none => g
      else g

/-! ### Events of the dies (R647) -/

/-- An applied remap change announced by its REMAP record (R34). -/
def remapMove (m : List (BitVec 16)) (l before after : Nat) : List (BitVec 16) :=
  let m := if before < 256 ∧ (m.getD before 0).toNat % 512 = 256 + l then m.set before 0 else m
  if after < 256 then m.set after (BitVec.ofNat 16 (256 + l)) else m

/-- The marks of a MARKS record (Tables 4.13, 5.15). -/
def Gremon.marksRx (g : Gremon) (lane : Nat) (m : List Byte) : Gremon :=
  match g.bindOf (g.pda lane) with
  | none => g
  | some b =>
    (List.range (min 2 (leAt m 24 1))).foldl (fun (g : Gremon) i =>
      let o := 28 + 16 * i
      g.takeMark { job := b.job, lda := b.lda, id := leAt m (o + 12) 2, recv := bit (leAt m (o + 15) 1) 0
                   at16 := (Stamp.ofBytes m o).sixteenths, unc := leAt m (o + 10) 2 }) g

/-- What an event of a die leads Gremon to do. -/
def Gremon.eventDo (g : Gremon) (lane : Nat) (m : List Byte) : Gremon :=
  let c := leAt m 8 2
  if c = Ev.code .mbRead then g.mbReadEvent lane (leAt m 24 1)
  else if c = Ev.code .cfgParity then
    let sp := 2 + leAt m 24 1
    let ad := leAt m 25 4
    let k := if sp = 3 then ind ad else ad
    let g := g.bbCommit [{ ty := 10, body := leBytes 1 sp ++ (m.drop 25).take 22 }]
    let g := if leAt m 34 1 = 0 && aParityReset k then g.defaulted sp ad (g.pda lane) (leAt m 29 4) (rstWord .ailen k) 5 else g
    g.repush lane
  else if c = Ev.code .marks then g.marksRx lane m
  else if c = Ev.code .stepMark then
    let h := Tbl.get HistDie.none g.svc.hist.dies lane
    g.onHist fun s => { s with dies := Tbl.set HistDie.none s.dies lane { h with steps := (leAt m 24 8 % 2 ^ 48 :: h.steps).take 64 } }
  else if c = Ev.code .vigilLate then g.vigilNone lane 4
  else if c = Ev.code .vigilNobank then g.vigilNone lane 3
  else if c = Ev.code .scrInband then g.scrCond lane false
  else if c = Ev.code .scrInload then g.scrCond lane true
  else if c = Ev.code .stressOpen then g.scrSession lane true
  else if c = Ev.code .stressClose then g.scrSession lane false
  else if c = Ev.code .remap then
    let d := g.die lane
    g.setDie lane { d with remap := remapMove d.remap (leAt m 36 1) (leAt m 37 2) (leAt m 39 2) }
  else g

/-- EVENT_RX: filed under the die's PDA and offered to kits, unless it is an entry sent again that Gremon already holds. -/
def Gremon.eventRx (g : Gremon) (lane : Nat) : Gremon :=
  match g.takeLane lane 0x10 with
  | none => g
  | some (x, g) =>
    let m := x.bytes
    let d := g.die lane
    let rseq := leAt m 4 4
    let held : Bool := match d.rseqHi with
      | some h => decide (rseq ≤ h)
      | none => false
    let g := g.setDie lane { d with resend := d.resend - 1, rseqHi := if held then d.rseqHi else some rseq }
    let g := if held then g else
      let pda := g.pda lane
      let g := g.file (leAt m 8 2) (g.jobOf pda) (Stamp.ofBytes m 12) (eidPhys pda) ((m.drop 24).take 40)
      (g.eventRings lane x).eventDo lane m
    if d.resend = 1 then g.mbForward lane else g

/-! ### Samples (R393, R394) -/

/-- The channel index of each value of a block: in SHADOW the plan's SENSOR channels alone (R128). -/
def Gremon.blkIndex (g : Gremon) (b : List Byte) : List Nat :=
  if blkShadow b then
    let u := g.unionUnit g.planPkgs
    (List.range (capNch u)).filter fun i => decide (capKind u i = 2)
  else List.range (blkNch b)

/-- A kit's part of a block into its ingest area: the values first, the status entry last (Table 12.6). Where the way from the lane's
PD to the CT has failed, nothing arrives (R213). -/
def Gremon.ingestKit (g : Gremon) (lane : Nat) (k : KitSlot) (b : List Byte) (vals : List (Nat × W64)) : Gremon :=
  let p := k.pkg
  let c := mapCt p lane
  let pd := pdOf lane (g.lane lane).active
  if c ≥ 16 ∨ mapNchk p = 0 ∨ mapNbuf p = 0 then g
  else if g.flowDead pd c then g.poisonAt pd
  else
    let lanes := mapLanesOf p c
    let d := lanes.length
    let j := lanes.idxOf lane
    let f := blkFrame b
    let n := mapNchk p
    let row := (f % mapNbuf p) * d + j
    let a := bufCna c ((Tbl.get (0, 0) k.bufs c).1 + areaOfs p c)
    let mine := fun (i : Nat) => decide (mapCh0 p ≤ i) && decide (i < mapCh0 p + n)
    let g := vals.foldl (fun (g : Gremon) v =>
      if mine v.1 then g.wrBytes (a + 8 * n * row + 8 * (v.1 - mapCh0 p)) (leBytes 8 v.2.toNat) else g) g
    let xfl := (List.range (blkNexc b)).foldl (fun x i =>
      let e := leAt b (24 + 4 * i) 4
      let lo := bits e 11 0
      if lo < mapCh0 p + n ∧ mapCh0 p ≤ lo + bits e 23 12 then x ||| bits e 28 24 else x) 0
    g.wrBytes (a + 8 * n * mapNbuf p * d + 16 * row)
      (leBytes 8 f ++ leBytes 2 (blkFlags b) ++ leBytes 2 lane ++ leBytes 1 xfl ++ leBytes 1 (blkGen b) ++ leBytes 2 0)

/-- A sample of a die goes to the open feeds that are still to send its frame: the channels each asks for. -/
def Gremon.feedSample (g : Gremon) (lane frame : Nat) (vals : List (Nat × W64)) : Gremon :=
  let add := fun (f : FeedRec) =>
    let c := leAt f.msg 72 2
    let mine := vals.filter fun v => decide (c ≤ v.1) && decide (v.1 < c + leAt f.msg 74 2)
    if frame < f.nextAt ∨ mine.isEmpty = true then f
    else { f with got := f.got ++ [{ lane := lane, frame := frame, vals := mine }] }
  { g with feeds := g.feeds.map add }

/-- In DROWSE the values of listed channels are kept for the histograms of their frame (R604). -/
def Gremon.drowseSample (g : Gremon) (lane frame : Nat) (vals : List (Nat × W64)) : Gremon :=
  let mine := vals.filter fun v => g.sys.pwr.drowseList.any fun e => decide (e.1 = v.1)
  if g.sys.pwr.pstate ≠ 2 ∨ mine.isEmpty = true then g
  else g.onHist fun h => { h with drowse := h.drowse ++ [{ lane := lane, frame := frame, vals := mine }] }

/-- SAMPLE_RX (R393): the block is decoded, written to the kits' areas and left for the history service; HOLD discards
it, and DROWSE stores none (R604).
Log: entry 29 (DEDUCED; DESIGN CHOICE). -/
def Gremon.sampleRx (g : Gremon) (lane : Nat) : Gremon :=
  match g.takeLane lane 1 with
  | none => g
  | some (x, g) =>
    let b := x.bytes.drop 4
    let h := Tbl.get HistDie.none g.svc.hist.dies lane
    if g.sys.pwr.pstate = 3 then g
    else match blkValues b h.prev with
      | none => g
      | some vs =>
        let vals := (g.blkIndex b).zip vs
        let e : HistDie := { h with prev := vs, gen := some (blkGen b), last := some (blkFrame b), seen := (blkFrame b :: h.seen).take 256 }
        let g := g.onHist fun s => { s with dies := Tbl.set HistDie.none s.dies lane e }
        let g := g.resident.foldl (fun (g : Gremon) e => g.ingestKit lane e.2 b vals) g
        let g := g.feedSample lane (blkFrame b) vals
        let g := g.drowseSample lane (blkFrame b) vals
        let plan := (g.histPlan lane).map (·.chan)
        let keep := vals.filter fun v => plan.contains v.1
        if g.sys.pwr.pstate = 2 ∨ keep.isEmpty then g
        else
          let e : HistSample :=
            { lane := lane, frame := blkFrame b, disc := blkDisc b || blkStep b
              newgen := decide (h.gen.isSome ∧ h.gen ≠ some (blkGen b)), vals := keep }
          g.onHist fun s => { s with waiting := s.waiting ++ [e] }

end Sys2Proof.Machine
end

