-- ==== Sys2Proof/Machine/Broadcast.lean ====
section
/-! DEFINITION. Broadcasts of the pod tree (13 R441–R444): their issue at the root, delivery, acknowledgement and timeout, and
the host commands BCAST and VIGIL (16 R534, 14 R457). -/
namespace Sys2Proof.Machine
open Sys2Proof

/-! ### What a delivered broadcast does (Table 13.9) -/

/-- FRAMECFG (R42, R167): every die is told, and this Gremon changes at the tick. -/
def Gremon.frameCfg (g : Gremon) (p : List Byte) : Gremon :=
  let f := leAt p 0 4
  let n := leAt p 4 4 / max 1 f
  let t := leAt p 8 8
  let g : Gremon := { g with frameNext := some (f, n, t) }
  (g.dies.filter fun e => e.2.accepted).foldl (fun (g : Gremon) e => g.framePush e.1 f n t) g

/-- One entry of an XLATE: the binding waits for the swap boundary.
Log: entry 21 (DEDUCED; DESIGN CHOICE). -/
def Gremon.xlateEntry (g : Gremon) (job at' : Nat) (lda entry : Nat) : Gremon :=
  let st := bits entry 25 24
  let nx : BindNext := { pda := bits entry 18 0, state := if st = 2 then 1 else st, at' := at' }
  let same := fun (b : Binding) => decide (b.job = job ∧ b.lda = lda)
  let wait := fun (b : Binding) =>
    if same b then { b with
      next := (b.next.filter fun y => decide (y.at' ≠ at')) ++ [nx]
      state := if b.state = 1 ∧ nx.state = 1 ∧ nx.pda ≠ b.pda then 2 else b.state }
    else b
  if g.binds.any same then { g with binds := g.binds.map wait }
  else { g with binds := g.binds ++ [{ pda := nx.pda, lda := lda, job := job, state := 0, gen := 0, ever := false, next := [nx] }] }

/-- XLATE (R25).
Log: entry 21 (DEDUCED; DESIGN CHOICE). -/
def Gremon.xlate (g : Gremon) (p : List Byte) : Gremon :=
  (List.range (leAt p 2 2)).foldl (fun (g : Gremon) i =>
    g.xlateEntry (leAt p 0 2) (leAt p 8 8) (leAt p (16 + 16 * i) 4) (leAt p (24 + 16 * i) 8)) g

/-- MEMBER (R439). -/
def Gremon.memberIs (g : Gremon) (p : List Byte) : Gremon :=
  let id := leAt p 0 2
  g.onTree fun t => { t with
    failed := if leAt p 2 1 = 1 then id :: t.failed.filter fun x => decide (x ≠ id) else t.failed.filter fun x => decide (x ≠ id) }

/-- JOBEPOCH (R133, R134): the owner is known where the command was given; elsewhere no MID owns the job.
Log: entry 20 (DEDUCED; DESIGN CHOICE). -/
def Gremon.jobEpoch (g : Gremon) (p : List Byte) (mid : Option Nat) : Gremon :=
  let job := leAt p 0 2
  if (g.jobInfo job).isSome then g
  else
    let mine := g.host.fwd.find? fun c => decide (c.opc = 0x12 ∧ c.param 0 2 = 4) && decide (leAt c.data 0 2 = job)
    let owner := (mid.orElse fun _ => mine.map (·.mid)).getD 0xFFFF
    let j : JobInfo := { job := job, epoch := BitVec.ofNat 64 (leAt p 8 8), owner := owner, key := none }
    { g with jobs := g.jobs ++ [j] }

/-- PTSTEP (R144). -/
def Gremon.ptStepOrder (g : Gremon) (p : List Byte) : Gremon :=
  g.onSvc fun s => { s with ptSteps := s.ptSteps ++ [(leAt p 0 8, toInt 64 (leAt p 8 8))] }

/-- GR_UPD_STAT, and an update event with its REASON (Table 19.12).
Log: entry 46 (DEDUCED; DESIGN CHOICE). -/
def kUpd : Nat := 0x10210
def Gremon.onUpd (g : Gremon) (f : Update → Update) : Gremon := { g with sys := { g.sys with upd := f g.sys.upd } }
def Gremon.updState (g : Gremon) : Nat := g.fld kUpd 2 0
def Gremon.updEvent (g : Gremon) (state : Nat) : Gremon :=
  let g := g.setFld kUpd 2 0 state
  { g with regs := g.regs.bumpSeq .gremon kUpd }
/-- Log: entry 46 (DEDUCED; DESIGN CHOICE). -/
def Gremon.updReason (g : Gremon) (r : Nat) : Gremon :=
  let g := g.setFld kUpd 15 8 r
  { g with regs := g.regs.bumpSeq .gremon kUpd }

/-- ACTIVATE (R637).
Log: entry 46 (DEDUCED; DESIGN CHOICE). -/
def Gremon.activate (g : Gremon) (p : List Byte) : Gremon :=
  let named := (List.range (leAt p 56 2)).any fun i => decide (leAt p (64 + 8 * i) 8 = g.serial.toNat)
  if !named then g
  else if g.updState = 2 ∧ g.sys.upd.otherOk = true ∧ g.sys.upd.otherDigest = (p.drop 8).take 48 then
    (g.onUpd fun u => { u with tick := leAt p 0 8, tickGone := false, autoRevert := bit (leAt p 59 1) 0, confirmWin := leAt p 60 2 }).updEvent 3
  else (g.updReason 11).raise .actSkip (leBytes 1 11)

/-- Local delivery of a broadcast; `mid`: who asked for it, where that is known here. -/
def Gremon.deliverBcast (g : Gremon) (kind : Nat) (p : List Byte) (mid : Option Nat) : Gremon :=
  match kind with
  | 1 => g.frameCfg p
  | 2 => g.xlate p
  | 3 => g.memberIs p
  | 4 => g.jobEpoch p mid
  | 5 => g.ptStepOrder p
  | 6 => g.vigilDeliver p
  | 7 => g.activate p
  | _ => g

/-! ### Forwarding and acknowledgement (R442–R444) -/

/-- A set of Gremon IDs as 128 bytes, and back. -/
def idSet (l : List Nat) : List Byte := leBytes 128 (l.foldl (fun n i => n ||| 2 ^ i) 0)
def idsOf (n : Nat) : List Nat := (List.range 1024).filter n.testBit

/-- A hop-by-hop message to the neighbour on port `p`. -/
def Gremon.rlHop (g : Gremon) (p vc ty : Nat) (body : List Byte) : Gremon :=
  g.rlSend p vc (g.rlMsg ty 0 ((g.neighbour p).getD 0x3FF) 0 0 body)

/-- Change the record of a broadcast. -/
def Gremon.onBid (g : Gremon) (bid : W64) (f : BcastRec → BcastRec) : Gremon :=
  { g with bcasts := g.bcasts.map fun b => if b.bid = bid then f b else b }
def Gremon.bidRec (g : Gremon) (bid : W64) : Option BcastRec := g.bcasts.find? fun b => decide (b.bid = bid)

/-- BACK with the record's sets, on a port. -/
def Gremon.backOn (g : Gremon) (p : Nat) (b : BcastRec) : Gremon :=
  g.rlHop p vcControl 0x21 (leBytes 8 b.bid.toNat ++ leBytes 2 g.gid ++ leBytes 6 0 ++ idSet b.acks ++
    idSet (if g.root then b.fails else []))

/-- A broadcast completes at the root when acknowledged and failed members cover the expected set. -/
def Gremon.bcastDone (g : Gremon) (bid : W64) : Gremon :=
  match g.bidRec bid with
  | none => g
  | some b =>
    if g.root && !b.ended && (b.expect.all fun i => b.acks.contains i || b.fails.contains i) then
      let g := g.onBid bid fun b => { b with ended := true, cmd := none }
      match b.cmd with
      | some c => g.complete c 0 0 (leBytes 8 bid.toNat) (idSet b.acks ++ idSet b.fails)
      | none => g
    else g

/-- BACK goes to the PARENT once every present CHILD has answered, and again as the ACKSET grows, at most once a
microsecond (R443). -/
def Gremon.backUp (g : Gremon) (bid : W64) : Gremon :=
  match g.bidRec bid, g.tree.parent with
  | some b, some p =>
    let first := decide (b.backOf = [])
    let ready := b.done && g.childPorts.all fun c => b.answered.contains c
    let grown := !b.acks.all fun i => b.backOf.contains i
    if g.root then g
    else if (first ∧ ready) ∨ (first = false ∧ grown = true) then
      let g := if first then g else g.moveTo (b.backAt + 1000)
      (g.backOn p b).onBid bid fun b => { b with backAt := g.clk, backOf := b.acks }
    else g
  | _, _ => g

/-- Every open broadcast is looked at anew: a child is gone, or has answered. -/
def Gremon.backAll (g : Gremon) : Gremon := g.bcasts.foldl (fun (g : Gremon) b => (g.backUp b.bid).bcastDone b.bid) g

/-- What a Gremon has retained for longer than 1 s is let go. -/
def Gremon.bcastAge (g : Gremon) : Gremon :=
  { g with bcasts := g.bcasts.filter fun b => decide (g.clk < b.seenAt + 1000000000) || (b.cmd.isSome && !b.ended) }

/-- A broadcast as this Gremon first holds it: forwarded to every CHILD, delivered, retained. -/
def Gremon.bcastTake (g : Gremon) (b : BcastRec) : Gremon :=
  let body := b.msg.drop 16
  let g : Gremon := { g with bcasts := g.bcasts ++ [b] }
  let g := g.childPorts.foldl (fun (g : Gremon) c => g.rlHop c vcControl 0x20 body) g
  let g := g.deliverBcast (leAt b.msg 32 2) ((b.msg.drop 48).take (leAt b.msg 36 4)) (b.cmd.map (·.mid))
  let g := g.onBid b.bid fun b => { b with done := true, acks := g.gid :: b.acks }
  (g.backUp b.bid).bcastDone b.bid

/-- The root issues a broadcast (R441). -/
def Gremon.issue (g : Gremon) (kind : Nat) (p : List Byte) (cmd : Option HostCmd) : Gremon :=
  let g := g.bcastAge
  let bid : W64 := BitVec.ofNat 64 (g.gid + 1024 * g.bcastNext)
  let g : Gremon := { g with bcastNext := g.bcastNext + 1 }
  let body := leBytes 8 bid.toNat ++ leBytes 8 g.now ++ leBytes 2 kind ++ leBytes 2 0 ++ leBytes 4 p.length ++
    leBytes 4 g.tree.epoch ++ leBytes 4 0 ++ p
  g.bcastTake
    { bid := bid, msg := g.rlMsg 0x20 0 g.gid 0 0 body, seenAt := g.clk, done := false, acks := [], fails := []
      expect := (g.gid :: g.tree.joinedAs.map (·.1)).eraseDups, issued := g.now, ended := false, backAt := 0, backOf := []
      answered := [], cmd := cmd }

/-- RL_BCAST_RX (R442): a BID seen before is answered on its port and not delivered again.
Log: entry 20 (DEDUCED; DESIGN CHOICE). -/
def Gremon.bcastRx (g : Gremon) : Gremon :=
  g.onRl 0x20 fun g m =>
    let g := g.bcastAge
    let bid : W64 := BitVec.ofNat 64 (leAt m.bytes 16 8)
    match g.bidRec bid with
    | some b =>
      let g := g.backOn m.port b
      if g.tree.parent = some m.port then g.onBid bid fun b => { b with backAt := g.clk, backOf := b.acks } else g
    | none => g.bcastTake
        { bid := bid, msg := m.bytes, seenAt := g.clk, done := false, acks := [], fails := [], expect := [], issued := leAt m.bytes 24 8
          ended := false, backAt := 0, backOf := [], answered := [], cmd := none }

/-- BACK_RX (R443).
Log: entry 20 (DEDUCED; DESIGN CHOICE). -/
def Gremon.backRx (g : Gremon) : Gremon :=
  g.onRl 0x21 fun g m =>
    let bid : W64 := BitVec.ofNat 64 (leAt m.bytes 16 8)
    let set := idsOf (leAt m.bytes 32 128)
    let g := g.onBid bid fun b => { b with
      acks := (b.acks ++ set).eraseDups, answered := m.port :: b.answered.filter fun p => decide (p ≠ m.port) }
    (g.backUp bid).bcastDone bid

/-- BCAST_TIMEOUT (R443): 100 ms after issue the oldest open broadcast is reported INCOMPLETE with both sets.
Log: entry 20 (DEDUCED; DESIGN CHOICE). -/
def Gremon.bcastTimeout (g : Gremon) : Gremon :=
  match g.bcasts.find? fun b => decide (b.expect ≠ []) && !b.ended with
  | none => g
  | some b =>
    let g := g.moveTo (b.issued + 100000000)
    let g := g.onBid b.bid fun b => { b with ended := true, cmd := none }
    match b.cmd with
    | some c => g.complete c 6 0 (leBytes 8 b.bid.toNat) (idSet b.acks ++ idSet b.fails)
    | none => g

/-- MEMBER_DECLARE_FAILED (R439): 50 ms after its pruning a member leaves the membership, and MEMBER says so.
Log: entry 19 (DEDUCED; DESIGN CHOICE). -/
def Gremon.declareFailed (g : Gremon) : Gremon :=
  match g.tree.pruned.getLast? with
  | none => g
  | some m =>
    if !g.root then g
    else
      let g := g.moveTo (m.2.2 + 50000000)
      let g := g.onTree fun t => { t with
        pruned := t.pruned.filter fun x => decide (x.1 ≠ m.1), joinedAs := t.joinedAs.filter fun x => decide (x.1 ≠ m.1)
        lostOnce := m.1 :: t.lostOnce.filter fun x => decide (x ≠ m.1) }
      let hit := fun (b : BcastRec) => if b.expect.contains m.1 then { b with fails := (m.1 :: b.fails).eraseDups } else b
      let g : Gremon := { g with bcasts := g.bcasts.map hit }
      let g := g.issue 3 (leBytes 2 m.1 ++ leBytes 1 1 ++ leBytes 1 0 ++ leBytes 4 g.tree.epoch) none
      g.bcasts.foldl (fun (g : Gremon) b => g.bcastDone b.bid) g

/-- JOIN_RX, after which the root says with MEMBER that a Gremon it had declared failed has joined (R433, Table 13.9).
Log: entry 19 (DEDUCED; DESIGN CHOICE). -/
def Gremon.joinTake (g : Gremon) : Gremon :=
  let h := g.joinRx
  match h.tree.failed.find? fun i => !(g.tree.joinedAs.any fun m => decide (m.1 = i)) && h.tree.joinedAs.any fun m => decide (m.1 = i) with
  | some i => if h.root then h.issue 3 (leBytes 2 i ++ leBytes 1 0 ++ leBytes 1 0 ++ leBytes 4 h.tree.epoch) none else h
  | none => h

/-! ### BCAST and VIGIL (R28, R38, R40, R42, R144, R457, R534) -/

/-- A whole-second tick at least a second away (R42, R144). -/
def wholeSec (t : Nat) : Bool := decide (t % 1000000000 = 0)

/-- STATUS and DETAIL that a BCAST ends with at once, or none where it is issued.
Log: entry 20 (DEDUCED; DESIGN CHOICE). -/
def Gremon.bcastRefusal (g : Gremon) (c : HostCmd) : Option (Nat × Nat) :=
  let p := c.data
  let bad := some (2, 0)
  match c.param 0 2 with
  | 1 =>
    let f := leAt p 0 4
    let s := leAt p 4 4
    if p.length ≠ 16 then bad
    else if f = 0 ∨ s % max 1 f ≠ 0 ∨ frameOk f (s / max 1 f) = false then some (1, 0x114)
    else if !wholeSec (leAt p 8 8) then bad
    else if leAt p 8 8 < g.now + 1000000000 then some (1, 0x113)
    else if g.planClash f then some (1, 27)
    else none
  | 2 =>
    let job := leAt p 0 2
    let n := leAt p 2 2
    let at' := leAt p 8 8
    let es := (List.range n).map fun i => (leAt p (16 + 16 * i) 4, leAt p (20 + 16 * i) 4, leAt p (24 + 16 * i) 8)
    let bound := fun (e : Nat × Nat × Nat) => decide (bits e.2.2 25 24 = 1 ∨ bits e.2.2 25 24 = 2)
    let busy := es.any fun e => bound e && (g.hdidClash (bits e.2.2 18 0) || g.binds.any fun b =>
      (decide (b.state = 1 ∨ b.state = 2) && decide (b.pda = bits e.2.2 18 0) ||
        b.next.any fun x => decide (x.state = 1 ∧ x.pda = bits e.2.2 18 0)) && decide (b.job ≠ job ∨ b.lda ≠ e.1))
    let held := (g.binds.filter fun b => decide (b.job = job) && decide (b.state = 1 ∨ b.state = 2)).map (·.lda)
    let all := (held ++ (es.filter bound).map (·.1)).eraseDups
    if p.length ≠ 16 + 16 * n ∨ n = 0 ∨ leAt p 4 4 ≠ 0 ∨ at' % max 1 g.frameNs ≠ 0 ∨ (g.jobInfo job).isNone = true ∨
        (es.any fun e => decide (e.1 ≥ 2 ^ 20) || decide (e.2.1 ≠ 0) || decide (bits e.2.2 23 19 ≠ 0) || decide (bits e.2.2 31 26 ≠ 0) ||
          decide (bits e.2.2 63 56 ≠ 0) || decide (bits e.2.2 47 32 ≠ job)) = true ∨ (es.map (·.1)).eraseDups.length ≠ n ∨
        ((es.filter bound).map fun e => bits e.2.2 18 0).eraseDups.length ≠ (es.filter bound).length then bad
    else if !g.ownsJob c.mid job then some (3, 0)
    else if at' < g.now + 200000 then some (1, 0x111)
    else if busy then some (1, 0x112)
    else if all.length > 524288 then some (1, 0x152)
    else none
  | 4 =>
    let job := leAt p 0 2
    if p.length ≠ 16 ∨ job = 0 ∨ leAt p 2 6 ≠ 0 then bad
    else if (g.jobInfo job).isSome then some (1, 0x154)
    else if g.jobs.length ≥ 1024 then some (1, 0x153)
    else none
  | 5 => if p.length ≠ 16 ∨ wholeSec (leAt p 0 8) = false ∨ leAt p 0 8 < g.now + 1000000000 then bad else none
  | _ => bad

/-- The reason that refuses an activation schedule at the root, 0 for none (R636): ACT_SIG, ACT_LATE, ACT_CONFLICT,
ACT_BUSY.
Log: entry 10 (DESIGN CHOICE). -/
def Gremon.schedReason (g : Gremon) (p : List Byte) (sigOk : Bool) : Nat :=
  let tick := leAt p 0 8
  let n := leAt p 56 2
  if p.length ≠ 160 + 8 * n ∨ n = 0 ∨ n > 1024 ∨ sigOk = false ∨ g.opKeyOk (leAt p 58 1) = false then 7
  else if wholeSec tick = false ∨ tick < g.now + 10000000000 then 8
  else if g.svc.vig.cuts.any fun c => decide (c.state ≠ 2) && decide (gapOf tick c.tick < 1000000000) then 9
  else if g.sys.upd.schedules.any fun s => decide (s.1 > g.now) then 10 else 0

/-- An accepted schedule is broadcast. -/
def Gremon.schedIssue (g : Gremon) (p : List Byte) : Gremon :=
  (g.onUpd fun u => { u with schedules := u.schedules.filter (fun s => decide (s.1 > g.now)) ++ [(leAt p 0 8, p)] }).issue 7 p none

/-- BCAST: it completes with the broadcast. KIND 7 comes only from CD firmware, as the schedule of another Gremon's SVC;
`sigOk`: its signature verifies. -/
def Gremon.cmdBcast (g : Gremon) (sigOk : Bool) : Gremon :=
  g.onHostCmd 0x12 fun g c =>
    if c.param 0 2 = 7 ∧ c.mid = 0 then
      let r := g.schedReason c.data sigOk
      if r = 0 then (g.schedIssue c.data).finish c 0 0 else g.finish c 1 r
    else match g.bcastRefusal c with
    | some r => g.finish c r.1 r.2
    | none => g.issue (c.param 0 2) c.data (some c)

/-- The refusal of a Vigil request (Table 14.1).
Log: entry 20 (DEDUCED; DESIGN CHOICE). -/
def Gremon.vigilRefusal (g : Gremon) (tick vseq job vfl : Nat) : Option Nat :=
  let busy := g.svc.vig.root.any fun r => decide (gapOf tick r.tick < 1000000) && decide (max tick r.tick > g.now)
  if tick < g.now + 200000 then some 0x101
  else if busy then some 0x102
  else if job ≠ 0 ∧ (g.jobInfo job).isNone = true then some 0x103
  else if bit vfl 1 then
    match g.svc.vig.root.find? fun r => decide (r.vseq = vseq) && r.halt with
    | some r => if r.resumed ∨ tick < r.tick then some 0x104 else none
    | none => some 0x104
  else none

/-- The next VSEQ: 0 is never used. -/
def nextVseq (v : Nat) : Nat := if (v + 1) % 2 ^ 32 = 0 then 1 else (v + 1) % 2 ^ 32

/-- VIGIL (R457): a cut is numbered and broadcast, or a halt cut gets its RESUME. -/
def Gremon.cmdVigil (g : Gremon) : Gremon :=
  g.onHostCmd 0x13 fun g c =>
    let p := c.data
    let tick := leAt p 0 8
    let vseq := leAt p 8 4
    let job := leAt p 12 2
    let vfl := leAt p 14 2
    if p.length ≠ 16 ∨ vfl ≥ 4 ∨ (bit vfl 1 = false ∧ vseq ≠ 0) ∨ vfl = 3 then g.finish c 2 0
    else if c.mid ≠ 0 ∧ ((bit vfl 0 = true ∧ bit (g.perm c.mid) 10 = false) ∨ g.ownsJob c.mid job = false) then g.finish c 3 0
    else match g.vigilRefusal tick vseq job vfl with
      | some r => g.finish c 1 r
      | none =>
        let n := if bit vfl 1 then vseq else g.svc.vig.next
        let g := if bit vfl 1 then
            g.onVig fun v => { v with root := v.root.map fun r => if r.vseq = vseq then { r with resumed := true } else r }
          else
            g.onVig fun v => { v with
              next := nextVseq v.next, root := v.root ++ [{ vseq := n, tick := tick, job := job, halt := bit vfl 0, resumed := false }] }
        let g := g.issue 6 (leBytes 8 tick ++ leBytes 4 n ++ leBytes 2 job ++ leBytes 2 vfl) none
        g.complete c 0 0 (leBytes 4 n) []

/-! ### Swap boundaries (R25–R29) -/

/-- SWAP on the Gremons of both dies of an applied rebinding.
Log: entry 21 (DEDUCED; DESIGN CHOICE). -/
def Gremon.swapEvent (g : Gremon) (b : Binding) (new gen at' : Nat) : Gremon :=
  if b.pda / 512 = g.gid ∨ new / 512 = g.gid then
    g.raiseJob .swap b.job (leBytes 2 b.job ++ leBytes 3 b.lda ++ leBytes 4 b.pda ++ leBytes 4 new ++ leBytes 1 gen ++
      (stampAt16 g.stamp (16 * at')).bytes)
  else g

/-- One binding takes its change: GEN advances each time that an LDA once bound is bound anew, and an LDA that goes to a new
PDA is rebound.
Log: entry 21 (DEDUCED; DESIGN CHOICE). -/
def Gremon.bindApply (g : Gremon) (b : Binding) (x : BindNext) : Gremon :=
  let wasBound := decide (b.state = 1 ∨ b.state = 2)
  let rebind := b.ever && decide (x.state = 1) && decide (x.pda ≠ b.pda)
  let again := b.ever && decide (x.state = 1) && (rebind || !wasBound)
  let gen : BitVec 8 := if again then b.gen + 1 else b.gen
  let g := if rebind then g.histSwap b.lda b.job else g
  let rest := b.next.filter fun y => decide (y ≠ x)
  let state := if x.state = 1 ∧ (rest.any fun y => decide (y.state = 1 ∧ y.pda ≠ x.pda)) = true then 2 else x.state
  let take := fun (y : Binding) =>
    if y.job = b.job ∧ y.lda = b.lda then
      { y with pda := x.pda, state := state, gen := gen, ever := b.ever || decide (x.state = 1), next := rest }
    else y
  let g : Gremon := { g with binds := g.binds.map take }
  let ended := wasBound && decide (b.pda / 512 = g.gid) && (decide (x.pda ≠ b.pda) || decide (x.state ≠ 1))
  let g := if ended then (g.jobPush (b.pda % 512)).keyPush (b.pda % 512) b.job [] else g
  let g := if x.state = 1 ∧ x.pda / 512 = g.gid then (g.jobPush (x.pda % 512)).keyOf (x.pda % 512) else g
  let g := if rebind then g.swapEvent b x.pda gen.toNat x.at' else g
  let s : SwapRec :=
    { lda := b.lda, job := b.job, old := if wasBound then some b.pda else none, new := if x.state = 1 then some x.pda else none
      at' := x.at', rebind := rebind, marked := !rebind }
  g.onSvc fun v => { v with swaps := v.swaps.filter (fun w => !w.marked || decide (x.at' < w.at' + 10000000000)) ++ [s] }

/-- Every change whose swap boundary has come, in the order of the boundaries.
Log: entry 21 (DEDUCED; DESIGN CHOICE). -/
def Gremon.bindsDue (g : Gremon) (t : Nat) : Gremon :=
  let due := g.binds.flatMap fun b => (b.next.filter fun x => decide (x.at' ≤ t)).map fun x => (b.job, b.lda, x)
  (sortBy (fun (d : Nat × Nat × BindNext) => [d.2.2.at']) due).foldl (fun (g : Gremon) d =>
    match g.binds.find? fun b => decide (b.job = d.1 ∧ b.lda = d.2.1) with
    | some b => g.bindApply b d.2.2
    | none => g) g

end Sys2Proof.Machine
end

