-- ==== Sys2Proof/Machine/Query.lean ====
section
/-! DEFINITION. Queries of the pod (13 R447–R449, 16 R537–R540, 11 R378–R380): their fan-out, the part each Gremon computes,
the merging and assembly of answers, and the seal and restore that use them (14 R490–R494, 19 R632). -/
namespace Sys2Proof.Machine
open Sys2Proof

/-! ### Descriptors and QUERY messages (Tables 16.8, 13.14) -/

def qdOp (d : List Byte) : Nat := leAt d 0 1
def qdFmt (d : List Byte) : Nat := leAt d 3 1
def qdParam (d : List Byte) : Nat := leAt d 4 4
def qdVseq (d : List Byte) : Nat := leAt d 36 4
def qdEids (d : List Byte) : List Nat := (List.range (leAt d 12 4)).map fun i => leAt d (64 + 4 * i) 4
def qmQid (m : List Byte) : W64 := BitVec.ofNat 64 (leAt m 16 8)
def qmDeadline (m : List Byte) : Nat := leAt m 24 8
def qmHop (m : List Byte) : Nat := if leAt m 32 2 = 0 then 20000 else 100 * leAt m 32 2
def qmJob (m : List Byte) : Nat := leAt m 34 2
def qmDesc (m : List Byte) : List Byte := m.drop 64

/-- QOPs of the model's own for the queries that a seal and a restore fan out: OUT entries of a step, IN entries of any.
Log: entry 23 (DEDUCED; DESIGN CHOICE). -/
def qopSeal : Nat := 0x10
/-- Log: entry 23 (DEDUCED; DESIGN CHOICE). -/
def qopRestore : Nat := 0x11
/-- Queries whose answers merge on the way up; those that the root assembles from parts. -/
def qopMerges (o : Nat) : Bool := (decide (1 ≤ o) && decide (o ≤ 6)) || decide (o = 8)
def qopPods (o : Nat) : Bool := decide (o ≥ 8)

/-- The Gremon that serves an entity: by its PDA, by the binding in force, or itself. -/
def Gremon.eidHome (g : Gremon) (job e : Nat) : Option Nat :=
  match bits e 31 30 with
  | 0 =>
    if bit e 29 then
      (g.binds.find? fun b => decide (b.lda = e % 2 ^ 20) && decide (b.state = 1 ∨ b.state = 2) && decide (job = 0 ∨ b.job = job)).map
        fun b => b.pda / 512
    else some (e % 2 ^ 19 / 512)
  | 3 => none
  | _ => some (e % 1024)

/-- The named EIDs that a set of Gremons serves. -/
def Gremon.eidsAt (g : Gremon) (m : List Byte) (gids : List Nat) : List Nat :=
  (qdEids (qmDesc m)).filter fun e => match g.eidHome (qmJob m) e with
    | some i => gids.contains i
    | none => false

/-- Whether a query targets a Gremon.
Log: entry 23 (DEDUCED; DESIGN CHOICE). -/
def Gremon.targets (g : Gremon) (m : List Byte) (gid : Nat) : Bool :=
  qopPods (qdOp (qmDesc m)) || !(g.eidsAt m [gid]).isEmpty

/-- Gremons behind a CHILD port. -/
def Gremon.behind (g : Gremon) (p : Nat) : List Nat := (g.tree.subtree.filter fun m => decide (m.port = p)).map (·.gid)

/-! ### A Gremon's own part -/

/-- What a query asks of the history store (R378). -/
def qAsk (m : List Byte) (eids : List Nat) : HistAsk :=
  let d := qmDesc m
  { tier := leAt d 1 1, stat := leAt d 2 1, eids := eids, ch0 := leAt d 8 2, nch := leAt d 10 2, t0 := leAt d 16 8, t1 := leAt d 24 8 }

/-- Whether the query is over one EID (R380). -/
def qSingle (m : List Byte) : Bool := decide (leAt (qmDesc m) 12 4 = 1)

/-- One series of a FETCH answer (R538). -/
def seriesBytes (f : HistFound) : List Byte :=
  leBytes 4 f.eid ++ leBytes 2 f.chan ++ leBytes 2 0 ++ leBytes 8 f.first ++ leBytes 4 f.vals.length ++ leBytes 4 0 ++
    f.vals.flatMap (leBytes 8)

/-- A pod-mode block of values, without context (R367), to a multiple of 8 bytes. -/
def podBlock (xs : List Nat) : List Byte :=
  let b := encodeBlock xs { pred := 0, prev1 := none, prev2 := none, nbl := none, nbr := none } true
  b ++ List.replicate ((8 - b.length % 8) % 8) 0

/-- A series as it crosses Ridgeline: its head, then its values as a pod-mode block (R379).
Log: entry 23 (DEDUCED; DESIGN CHOICE). -/
def seriesWire (s : List Byte) : List Byte :=
  s.take 24 ++ podBlock ((List.range (leAt s 16 4)).map fun i => leAt s (24 + 8 * i) 8)

/-- The series that have crossed Ridgeline, as R538 lays them out; one whose block does not decode is left out.
Log: entry 23 (DEDUCED; DESIGN CHOICE). -/
def seriesUnwire : (fuel : Nat) → List Byte → List Byte
  | 0, _ => []
  | n + 1, b =>
    if b.length < 28 then []
    else
      let len := bits (leAt b 24 4) 30 18 + 8
      let rest := seriesUnwire n (b.drop (24 + (len + 7) / 8 * 8))
      match decodeBlock ((b.drop 24).take len) (leAt b 16 4) true { pred := 0, prev1 := none, prev2 := none, nbl := none, nbr := none } with
      | .ok v => b.take 24 ++ v.flatMap (leBytes 8) ++ rest
      | .error _ => rest

/-- The identity of a reducing query. -/
def qIdent (m : List Byte) : List Byte :=
  let d := qmDesc m
  opcIdent (qdOp d) (qdFmt d) (toInt 16 (qdParam d)) (qdParam d % 256) (bit (qdParam d) 8)

/-- The reduction of what a scan found: a die that falls short contributes nothing, unless the query is over it alone. -/
def Gremon.qReduce (g : Gremon) (m : List Byte) (a : HistAsk) (fs : List HistFound) : List Byte :=
  let d := qmDesc m
  let use := if qSingle m then a.eids else g.askReceived a fs
  (fs.filter fun f => use.contains f.eid).foldl (fun acc f =>
    f.vals.foldl (fun acc x => opcOffer (qdOp d) (qdFmt d) acc x (g.orderKey (qmJob m) f.eid)) acc) (qIdent m)

/-- The body of a COVER answer (R538). -/
def coverBytes (part : Bool) (eids : List Nat) : List Byte :=
  leBytes 4 eids.length ++ leBytes 4 (b2n part) ++ eids.flatMap (leBytes 4)
def coverEids (a : List Byte) : List Nat := (List.range (leAt a 0 4)).map fun i => leAt a (8 + 4 * i) 4

/-- Whether this Gremon serves a RID (R539, R684). -/
def Gremon.serves (g : Gremon) (rid : Nat) : Bool := (g.decl rid).isSome

/-- This Gremon's part of a COVER: what it counted missing itself.
Log: entry 23 (DEDUCED; DESIGN CHOICE). -/
def Gremon.qCover (g : Gremon) (m : List Byte) : List Byte :=
  let rid := leAt (qmDesc m) 32 4
  match g.svc.missed.find? fun r => decide (r.rid = rid ∧ r.period = leAt (qmDesc m) 40 8) with
  | some r => coverBytes false (sortBy (fun e => [e]) r.eids)
  | none => coverBytes (g.serves rid) []

/-- The union of two COVER answers. -/
def coverMerge (a b : List Byte) : List Byte :=
  coverBytes (bit (leAt a 4 4) 0 || bit (leAt b 4 4) 0) (sortBy (fun e => [e]) (coverEids a ++ coverEids b).eraseDups)

/-- The lane of a named die served here. -/
def Gremon.eidLane (g : Gremon) (job e : Nat) : Option Nat :=
  if bits e 31 30 ≠ 0 then none
  else if bit e 29 then
    (g.binds.find? fun b => decide (b.lda = e % 2 ^ 20) && decide (b.state = 1 ∨ b.state = 2) && decide (job = 0 ∨ b.job = job) &&
      decide (b.pda / 512 = g.gid)).map fun b => b.pda % 512
  else if e % 2 ^ 19 / 512 = g.gid then some (e % 512) else none

/-- This Gremon's part of a CUTREC: its cut record with its length, then the banks of the named EIDs.
Log: entry 23 (DEDUCED; DESIGN CHOICE). -/
def Gremon.qCut (g : Gremon) (m : List Byte) : List Byte × Coverage :=
  match g.svc.vig.cuts.find? fun c => decide (c.vseq = qdVseq (qmDesc m) ∧ c.state = 2) with
  | some c =>
    let banks := (qdEids (qmDesc m)).flatMap fun e => match g.eidLane (qmJob m) e with
      | some l => ((c.lanes.find? fun x => decide (x.lane = l)).map (·.bank)).getD []
      | none => []
    (leBytes 4 c.record.length ++ leBytes 4 0 ++ c.record ++ banks, Coverage.of 2 1 [] false 0)
  | none => ([], Coverage.of 2 1 [eidGremon g.gid] false 0)

/-- Coverage of a query's units none of which came: frames of the one EID, or dies. -/
def Gremon.qMissing (g : Gremon) (m : List Byte) (eids : List Nat) : Coverage :=
  let failed := eids.filter fun e => match g.eidHome (qmJob m) e with
    | some i => g.tree.failed.contains i
    | none => false
  let c := g.askCov (qAsk m eids) (qSingle m) []
  { c with failed := if qSingle m then (if failed.isEmpty then 0 else c.expected) else failed.length }
/-- Coverage of Gremons that sent nothing, where the unit is the Gremon. -/
def Gremon.gMissing (g : Gremon) (gids : List Nat) : Coverage :=
  Coverage.of 2 gids.length (gids.map eidGremon) false (gids.filter fun i => g.tree.failed.contains i).length

/-- The entries this Gremon holds for a seal or a restore, and their coverage (R490, R492).
Log: entry 23 (DEDUCED; DESIGN CHOICE). -/
def Gremon.qEntries (g : Gremon) (m : List Byte) : List (List Byte) × Coverage :=
  let d := qmDesc m
  let es := g.contEntries (decide (qdOp d = qopRestore)) (qmJob m) (leAt d 40 8) (leAt d 16 8)
  (es, g.contCov (qmJob m) (qdParam d) g.gid es)

/-- This Gremon's answer and coverage; in HOLD every unit is missing (R605). -/
def Gremon.qOwn (g : Gremon) (m : List Byte) : List Byte × Coverage × Gremon :=
  let op := qdOp (qmDesc m)
  let hold := decide (g.sys.pwr.pstate = 3)
  if op = 8 then
    if hold then (coverBytes (g.serves (leAt (qmDesc m) 32 4)) [], g.gMissing [g.gid], g)
    else (g.qCover m, Coverage.of 2 1 [] false 0, g)
  else if op = 9 then
    if hold then ([], g.gMissing [g.gid], g) else ((g.qCut m).1, (g.qCut m).2, g)
  else if op = qopSeal ∨ op = qopRestore then
    let x := g.qEntries m
    if hold then
      let dies := ((g.jobDies (qmJob m)).filter fun d => decide (d.2 = g.gid)).map (·.1)
      ([], dieCov dies dies, g)
    else (x.1.flatten, x.2, g)
  else
    let mine := g.eidsAt m [g.gid]
    let a := qAsk m mine
    if hold then (if op = 0 then [] else qIdent m, g.qMissing m mine, g)
    else
      let (fs, g) := g.histScan a
      let c := g.askCov a (qSingle m) fs
      (if op = 0 then fs.flatMap seriesBytes else g.qReduce m a fs, c, g)

/-- Whether this Gremon's part uses pre-reset records (R376). -/
def Gremon.qOld (g : Gremon) (m : List Byte) : Bool :=
  let op := qdOp (qmDesc m)
  if op > 6 ∨ g.sys.pwr.pstate = 3 then false
  else
    let a := qAsk m (g.eidsAt m [g.gid])
    let fs := (g.histScan a).1
    let use := if op = 0 ∨ qSingle m = true then a.eids else g.askReceived a fs
    fs.any fun f => f.old && use.contains f.eid

/-! ### Query records -/

def Gremon.query (g : Gremon) (qid : W64) : Option QueryRec := g.queries.find? fun q => decide (q.qid = qid)
def Gremon.onQuery (g : Gremon) (qid : W64) (f : QueryRec → QueryRec) : Gremon :=
  { g with queries := g.queries.map fun q => if q.qid = qid then f q else q }

/-- What nobody waits for any longer is let go after 1 s. -/
def Gremon.queryAge (g : Gremon) : Gremon :=
  { g with queries := g.queries.filter fun q =>
      decide (g.clk < q.seenAt + 1000000000) || decide (g.now ≤ q.deadline) || !q.sent }

/-- The body of a QANS (Table 13.14). -/
def qansBody (qid : W64) (gid part qfl : Nat) (cov ans : List Byte) : List Byte :=
  leBytes 8 qid.toNat ++ leBytes 2 gid ++ leBytes 2 part ++ leBytes 1 qfl ++ leBytes 3 0 ++ leBytes 4 ans.length ++ leBytes 4 0 ++
    cov ++ ans

/-- QFL of a QANS: FINAL, FETCH, and PRE_RESET, whose place no table gives (R376).
Log: entry 23 (DEDUCED; DESIGN CHOICE). -/
def qfl (final fetch old : Bool) : Nat := b2n final + 2 * b2n fetch + 4 * b2n old

/-- RESULT of a query: its QID, then PRE_RESET (R376), whose place no table gives.
Log: entry 23 (DEDUCED; DESIGN CHOICE). -/
def QueryRec.result (q : QueryRec) : List Byte := leBytes 8 q.qid.toNat ++ leBytes 1 (b2n q.old)

/-- The reply of a query (R538). -/
def qReply (cov : Coverage) (body : List Byte) : List Byte := cov.bytes ++ leBytes 8 0 ++ body

/-- End the command of a query with its answer. -/
def Gremon.queryEnd (g : Gremon) (q : QueryRec) (result reply : List Byte) : Gremon :=
  let g := g.onQuery q.qid fun x => { x with sent := true, cmd := none, parts := [], covs := [] }
  match q.cmd with
  | some c => g.complete c 0 0 result reply
  | none => g

/-! ### Merging answers (R307, R448) -/

/-- Gremons counted by no contribution of a merging query at this Gremon: its EIDs unbound anywhere, at the root. -/
def Gremon.strays (g : Gremon) (m : List Byte) : List Nat :=
  let held := g.gid :: g.tree.subtree.map (·.gid)
  (qdEids (qmDesc m)).filter fun e => match g.eidHome (qmJob m) e with
    | some i => !held.contains i
    | none => true

/-- A merging query closes here: own part first, then children in ascending Gremon ID, then what is absent; the root ends
its command, any other Gremon sends one QANS to its PARENT. -/
def Gremon.queryMerge (g : Gremon) (q : QueryRec) : Gremon :=
  let op := qdOp (qmDesc q.msg)
  let kids := sortBy (fun (p : Nat × Nat × List Byte) => [p.1]) q.parts
  let join := fun (a b : List Byte) => if op = 8 then coverMerge a b else opcMerge op (qdFmt (qmDesc q.msg)) a b
  let ans := kids.foldl (fun a p => join a p.2.2) q.answer
  let cov := q.covs.foldl (fun c x => c.merge (Coverage.ofBytes x.2 0)) (Coverage.ofBytes q.cov 0)
  let absent := q.waiting.flatMap fun p => g.behind p
  let cov := cov.merge (if op = 8 then g.gMissing absent else g.qMissing q.msg (g.eidsAt q.msg absent))
  let ans := if op = 8 ∧ absent ≠ [] then coverBytes true (coverEids ans) else ans
  if g.root then
    if op = 8 then
      let rid := leAt (qmDesc q.msg) 32 4
      let held := g.svc.missed.find? fun r => decide (r.rid = rid ∧ r.period = leAt (qmDesc q.msg) 40 8)
      let same := decide ((held.bind (·.hash)) = some (missingHash (coverEids ans)))
      g.queryEnd q q.result (qReply cov (coverBytes (bit (leAt ans 4 4) 0 || !same) (coverEids ans)))
    else
      g.queryEnd q q.result (qReply (cov.merge (g.qMissing q.msg (g.strays q.msg))) ans)
  else
    let g := g.onQuery q.qid fun x => { x with sent := true, parts := [], covs := [] }
    match g.tree.parent with
    | some p => g.rlHop p vcBulk 0x41 (qansBody q.qid g.gid 0 (qfl true false q.old) cov.bytes ans)
    | none => g

/-! ### Assembling answers (R449, R490) -/

/-- The series of a FETCH answer, split. -/
def seriesSplit : Nat → List Byte → List (List Byte)
  | 0, _ => []
  | n + 1, b =>
    if b.length < 24 then []
    else
      let k := 24 + 8 * leAt b 16 4
      b.take k :: seriesSplit n (b.drop k)

/-- The bytes that a Gremon's parts give, in order of PART.
Log: entry 23 (DEDUCED; DESIGN CHOICE). -/
def partsOf (q : QueryRec) (gid : Nat) : List Byte :=
  ((sortBy (fun (p : Nat × Nat × List Byte) => [p.2.1]) (q.parts.filter fun p => decide (p.1 = gid))).map (·.2.2)).flatten

/-- The members a query is for at the root. -/
def Gremon.asked (g : Gremon) (m : List Byte) : List Nat :=
  (sortBy (fun i => [i]) (g.gid :: g.tree.joinedAs.map (·.1)).eraseDups).filter fun i => g.targets m i

/-- The verdict of a restore or the manifest of a seal.
Log: entry 23 (DEDUCED; DESIGN CHOICE). -/
def Gremon.sealEnd (g : Gremon) (q : QueryRec) (cov : Coverage) (es : List (List Byte)) : Gremon :=
  let d := qmDesc q.msg
  let job := qmJob q.msg
  if qdOp d = qopSeal then
    let (m, g) := g.podManifest job (leAt d 40 8) (qdParam d) es cov.bytes
    let g := g.deliver 5 false job m
    let g := if cov.received < cov.expected then g else g.ckptSealed job (leAt d 40 8)
    g.queryEnd q [] m
  else match g.svc.cont.restores.find? fun r => decide (r.job = job) with
    | some r =>
      let v := restoreVerdict job (pmStep r.manifest) (pmEntries r.manifest) (sortBy seKey es) ((g.jobDies job).map (·.1))
      let g := g.onCont fun c => { c with restores := c.restores.filter fun x => decide (x.job ≠ job) }
      let g := g.deliver 6 false job v.record
      g.queryEnd q (leBytes 8 v.verdict) v.record
    | none => g.queryEnd q [] []

/-- An assembled query ends at the root with the parts of those Gremons whose FINAL has come. -/
def Gremon.queryAssemble (g : Gremon) (q : QueryRec) : Gremon :=
  let m := q.msg
  let op := qdOp (qmDesc m)
  let came := sortBy (fun i => [i]) (q.covs.map (·.1))
  let gone := (g.asked m).filter fun i => !came.contains i
  let covs := q.covs.map fun x => Coverage.ofBytes x.2 0
  let body := came.map fun i =>
    let b := partsOf q i
    (i, if op = 0 ∧ i ≠ g.gid then seriesUnwire (b.length + 1) b else b)
  let sum := fun (c : Coverage) => covs.foldl Coverage.merge c
  if op = 0 then
    let series := sortBy (fun (s : List Byte) => [leAt s 0 4, leAt s 4 2, leAt s 8 8]) (body.flatMap fun b => seriesSplit (b.2.length + 1) b.2)
    g.queryEnd q q.result
      (qReply (sum (g.qMissing m ((qdEids (qmDesc m)).filter fun e => !(g.eidsAt m came).contains e))) series.flatten)
  else if op = 9 then
    let held := body.filter fun b => b.2.length ≥ 8
    let cut := fun (b : List Byte) => 8 + leAt b 0 4
    g.queryEnd q q.result
      (qReply (sum (g.gMissing gone)) (held.flatMap (fun b => b.2.take (cut b.2)) ++ held.flatMap fun b => b.2.drop (cut b.2)))
  else
    let dies := ((g.jobDies (qmJob m)).filter fun d => !came.contains d.2)
    let lost := dieCov (dies.map (·.1)) (dies.map (·.1))
    let lost := { lost with failed := (dies.filter fun d => g.tree.failed.contains d.2).length }
    g.sealEnd q (sum lost) (body.flatMap fun b => seSplit (b.2.length + 1) b.2)

/-- A query closes once nothing more is awaited. -/
def Gremon.queryTry (g : Gremon) (qid : W64) : Gremon :=
  match g.query qid with
  | some q =>
    if q.sent || !q.waiting.isEmpty then g
    else if qopMerges (qdOp (qmDesc q.msg)) then g.queryMerge q
    else g.queryAssemble q
  | none => g

/-! ### Fan-out (R447) -/

/-- The parts of an assembled answer on their way to the root, then the FINAL part (R449, Table 14.12). -/
def Gremon.sendParts (g : Gremon) (m ans : List Byte) (cov : Coverage) (old : Bool) : Gremon :=
  let root := (qmQid m).toNat % 1024
  let op := qdOp (qmDesc m)
  if op = qopSeal ∨ op = qopRestore then
    let es := seSplit (ans.length + 1) ans
    let groups := es.foldl (fun (l : List (List (List Byte))) e =>
      match l.reverse with
      | h :: t => if h.flatten.length + e.length ≤ 4194240 then (t.reverse ++ [h ++ [e]]) else l ++ [[e]]
      | [] => [[e]]) []
    let part := fun (g : Gremon) (i fl n : Nat) (cv bs : List Byte) =>
      g.rlTo root vcBulk 0x43 0 (leBytes 8 (qmQid m).toNat ++ leBytes 2 g.gid ++ leBytes 2 i ++ leBytes 1 fl ++ leBytes 3 0 ++ leBytes 4 n ++
        leBytes 4 bs.length ++ cv ++ bs)
    let g := (groups.zip (List.range groups.length)).foldl (fun (g : Gremon) x => part g x.2 0 x.1.length (leBytes 24 0) x.1.flatten) g
    part g groups.length 1 0 cov.bytes []
  else
    let ans := if op = 0 then (seriesSplit (ans.length + 1) ans).flatMap seriesWire else ans
    let cs := chunks 4194240 (ans.length + 1) ans
    let g := (cs.zip (List.range cs.length)).foldl (fun (g : Gremon) x =>
      g.rlTo root vcBulk 0x41 0 (qansBody (qmQid m) g.gid x.2 (qfl false true false) (leBytes 24 0) x.1)) g
    g.rlTo root vcBulk 0x41 0 (qansBody (qmQid m) g.gid cs.length (qfl true true old) cov.bytes [])

/-- The feed that a QUERY of QOP 7 opens at this Gremon (R450). -/
def Gremon.feedOpen (g : Gremon) (m : List Byte) (c : Option HostCmd) : Gremon :=
  let src := match c.map (·.src) with
    | some (.qp q) => some q
    | _ => none
  { g with feeds := g.feeds ++
      [{ fid := qmQid m, msg := m, levels := [], nextAt := g.now / max 1 g.frameNs + 1, high := 0, low := 0, mid := (c.map (·.mid)).getD 0
         src := src, got := [], heard := [] }] }

/-- A QUERY as this Gremon first holds it: forwarded to every CHILD whose subtree holds a targeted Gremon, and computed. -/
def Gremon.queryTake (g : Gremon) (m : List Byte) (port : Option Nat) (c : Option HostCmd) : Gremon :=
  let op := qdOp (qmDesc m)
  let down := g.childPorts.filter fun p => (g.behind p).any fun i => g.targets m i
  let g := down.foldl (fun (g : Gremon) p => g.rlHop p vcControl 0x40 (m.drop 16)) g
  let q : QueryRec :=
    { qid := qmQid m, msg := m, seenAt := g.clk, deadline := qmDeadline m, port := port, answer := [], cov := [], waiting := [], sent := true
      parts := [], covs := [], cmd := c, old := false }
  let old := g.qOld m
  if op = 7 then
    let g := ({ g with queries := g.queries ++ [{ q with cmd := none }] } : Gremon).feedOpen m c
    match c with
    | some c => g.complete c 0 0 (leBytes 8 (qmQid m).toNat) []
    | none => g
  else if qopMerges op then
    let (ans, cov, g) := g.qOwn m
    let g : Gremon := { g with queries := g.queries ++ [{ q with answer := ans, cov := cov.bytes, waiting := down, sent := false, old := old }] }
    g.queryTry (qmQid m)
  else if g.root then
    let here := g.targets m g.gid
    let (ans, cov, g) := if here then g.qOwn m else ([], Coverage.of 0 0 [] false 0, g)
    let others := (g.asked m).filter fun i => decide (i ≠ g.gid)
    let g : Gremon := { g with queries := g.queries ++
        [{ q with waiting := others, sent := false, parts := if here then [(g.gid, 0, ans)] else [], covs := if here then [(g.gid, cov.bytes)] else [], old := here && old }] }
    g.queryTry (qmQid m)
  else
    let g : Gremon := { g with queries := g.queries ++ [q] }
    if g.targets m g.gid then
      let (ans, cov, g) := g.qOwn m
      g.sendParts m ans cov old
    else g

/-- RL_QUERY_RX. -/
def Gremon.queryRx (g : Gremon) : Gremon :=
  g.onRl 0x40 fun g m =>
    let g := g.queryAge
    if (g.query (qmQid m.bytes)).isSome then g else g.queryTake m.bytes (some m.port) none

/-- The root issues a query for a command. -/
def Gremon.queryIssue (g : Gremon) (c : HostCmd) (deadline hop : Nat) (desc : List Byte) : Gremon :=
  let g := g.queryAge
  let qid : Nat := g.gid + 1024 * g.queryNext
  let g : Gremon := { g with queryNext := g.queryNext + 1 }
  let m := g.rlMsg 0x40 0 g.gid 0 0 (leBytes 8 qid ++ leBytes 8 deadline ++ leBytes 2 hop ++ leBytes 2 c.job ++ leBytes 4 desc.length ++
    leBytes 24 0 ++ desc)
  g.queryTake m none (some c)

/-- LATE_INPUT of a part that comes too late.
Log: entry 23 (DEDUCED; DESIGN CHOICE). -/
def Gremon.lateAnswer (g : Gremon) (b : List Byte) : Gremon :=
  g.raise .lateInput (leBytes 8 (leAt b 16 8) ++ leBytes 4 (eidGremon (leAt b 24 2)))

/-- A part of an assembled answer at the root. -/
def Gremon.partRx (g : Gremon) (q : QueryRec) (b : List Byte) (final : Bool) (body : List Byte) : Gremon :=
  let i := leAt b 24 2
  let g := g.onQuery q.qid fun x => { x with
    parts := x.parts ++ [(i, leAt b 26 2, body)], covs := if final then x.covs ++ [(i, (b.drop 40).take 24)] else x.covs
    waiting := if final then x.waiting.filter fun w => decide (w ≠ i) else x.waiting
    old := x.old || (final && bit (leAt b 28 1) 2) }
  g.queryTry q.qid

/-- RL_QANS_RX (R448, R449). -/
def Gremon.qansRx (g : Gremon) : Gremon :=
  g.onRl 0x41 fun g m =>
    let b := m.bytes
    match g.query (BitVec.ofNat 64 (leAt b 16 8)) with
    | some q =>
      if q.sent then g.lateAnswer b
      else if qopMerges (qdOp (qmDesc q.msg)) then
        let i := leAt b 24 2
        if q.covs.any fun x => decide (x.1 = i) then g
        else
          let g := g.onQuery q.qid fun x => { x with
            parts := x.parts ++ [(i, 0, b.drop 64)], covs := x.covs ++ [(i, (b.drop 40).take 24)]
            waiting := x.waiting.filter fun p => decide (p ≠ m.port), old := x.old || bit (leAt b 28 1) 2 }
          g.queryTry q.qid
      else if bit (leAt b 28 1) 1 then g.partRx q b (bit (leAt b 28 1) 0) (b.drop 64)
      else g
    | none => g.lateAnswer b

/-- RL_MANIFEST_RX (R490). -/
def Gremon.manifestRx (g : Gremon) : Gremon :=
  g.onRl 0x43 fun g m =>
    match g.query (BitVec.ofNat 64 (leAt m.bytes 16 8)) with
    | some q => if q.sent then g.lateAnswer m.bytes else g.partRx q m.bytes (bit (leAt m.bytes 28 1) 0) (m.bytes.drop 64)
    | none => g.lateAnswer m.bytes

/-- The open query of a kind whose time comes first; `due` gives its time. -/
def Gremon.queryFirst (g : Gremon) (merges : Bool) (due : QueryRec → Nat) : Option QueryRec :=
  let l := g.queries.filter fun q => !q.sent && decide (qopMerges (qdOp (qmDesc q.msg)) = merges)
  l.foldl (fun (b : Option QueryRec) q => match b with
    | some x => if due q < due x then some q else some x
    | none => some q) none

/-- QANS_DEADLINE (R448): at DEADLINE − d × QHOP what has come is merged and sent. -/
def Gremon.qansDeadline (g : Gremon) : Gremon :=
  let due := fun (q : QueryRec) => q.deadline - g.tree.depth * qmHop q.msg
  match g.queryFirst true due with
  | some q => (g.moveTo (due q)).queryMerge q
  | none => g

/-- QUERY_DEADLINE (R449). -/
def Gremon.queryDeadline (g : Gremon) : Gremon :=
  match g.queryFirst false (·.deadline) with
  | some q => (g.moveTo q.deadline).queryAssemble q
  | none => g

/-! ### QUERY and QUERY_CLOSE -/

/-- Whether a descriptor's fields are in range (Table 16.8). -/
def qdOk (d : List Byte) : Bool :=
  let op := qdOp d
  let p := qdParam d
  let scan := decide (op ≤ 7)
  decide (op ≤ 9) && zeroAt d 48 16 &&
  (!scan || (decide (leAt d 10 2 ≥ 1) && decide (leAt d 8 2 + leAt d 10 2 ≤ 4096))) &&
  (!decide (op ≤ 6) || (decide (leAt d 1 1 ≤ 2) && decide (leAt d 16 8 ≤ leAt d 24 8) &&
    (if leAt d 1 1 = 0 then decide (leAt d 2 1 = 0) else decide (1 ≤ leAt d 2 1) && decide (leAt d 2 1 ≤ 5)))) &&
  (match op with
    | 0 => decide (p = 0)
    | 1 => decide (p < 65536) && decide (-239 ≤ toInt 16 p) && decide (toInt 16 p ≤ 239) && decide (qdFmt d ≤ 9)
    | 2 => decide (1 ≤ p % 256) && decide (p % 256 ≤ 64) && decide (p < 512) && decide (qdFmt d ≤ 9)
    | 7 => decide (p % 4 ≤ 2) && decide (bits p 15 2 = 0) && decide (qdFmt d ≤ 9)
    | 8 => true
    | 9 => true
    | _ => decide (p = 0) && decide (qdFmt d ≤ 9))

/-- Whether the EIDs are valid and strictly ascending (R537). -/
def eidsOk : List Nat → Bool
  | a :: b :: l => eidValid a && decide (a < b) && eidsOk (b :: l)
  | [a] => eidValid a
  | [] => true

/-- Whether the MID may ask of every job that the query touches (R557, R622). -/
def Gremon.queryAllowed (g : Gremon) (mid job : Nat) (d : List Byte) : Bool :=
  (qdEids d).all (fun e =>
    if bits e 31 30 ≠ 0 then true
    else if bit e 29 then
      (g.binds.filter fun b => decide (b.lda = e % 2 ^ 20) && decide (b.state = 1 ∨ b.state = 2) && decide (job = 0 ∨ b.job = job)).all
        fun b => g.ownsJob mid b.job
    else g.ownsJob mid (g.jobOf (e % 2 ^ 19))) &&
  (qdOp d ≠ 8 || g.ownsJob mid (((g.decl (leAt d 32 4)).map (·.job)).getD 0)) &&
  (qdOp d ≠ 9 || g.ownsJob mid (((g.svc.vig.root.find? fun r => decide (r.vseq = qdVseq d)).map (·.job)).getD 0))

/-- QUERY (R537). -/
def Gremon.cmdQuery (g : Gremon) : Gremon :=
  g.onHostCmd 0x10 fun g c =>
    if !qdOk c.data then g.finish c 2 0
    else if !eidsOk (qdEids c.data) then g.finish c 1 0x151
    else if !g.queryAllowed c.mid c.job c.data then g.finish c 3 0
    else g.queryIssue c (c.param 0 8) (c.param 8 2) c.data

/-- QUERY_CLOSE (R540): an open feed of the submitting MID ends.
Log: entry 23 (DEDUCED; DESIGN CHOICE). -/
def Gremon.cmdQueryClose (g : Gremon) : Gremon :=
  g.onHostCmd 0x11 fun g c =>
    let qid : W64 := BitVec.ofNat 64 (c.param 0 8)
    match g.feeds.find? fun f => decide (f.fid = qid) with
    | some f =>
      if f.mid ≠ c.mid then g.finish c 3 0
      else ({ g with feeds := g.feeds.filter fun x => decide (x.fid ≠ qid) } : Gremon).finish c 0 0
    | none => g.finish c 2 0

/-! ### Seals, restores and manifest certificates (R490–R494, R632) -/

/-- The descriptor of the model's own that a seal or restore fans out: QPARAM is NSH, PERIOD the STEP, T0 the open. -/
def sealDesc (op nsh step openAt : Nat) : List Byte :=
  leBytes 1 op ++ leBytes 3 0 ++ leBytes 4 nsh ++ leBytes 8 0 ++ leBytes 8 openAt ++ leBytes 16 0 ++ leBytes 8 step ++ leBytes 16 0

/-- SEAL.
Log: entry 27 (DEDUCED; DESIGN CHOICE). -/
def Gremon.cmdSeal (g : Gremon) : Gremon :=
  g.onHostCmd 0x14 fun g c =>
    if c.data ≠ [] ∨ c.job = 0 ∨ c.param 16 4 = 0 ∨ c.param 0 8 ≥ 2 ^ 48 then g.finish c 2 0
    else g.queryIssue c (c.param 8 8) 0 (sealDesc qopSeal (c.param 16 4) (c.param 0 8) 0)

/-- A restore opens, or is refused (R492).
Log: entry 27 (DEDUCED; DESIGN CHOICE). -/
def Gremon.restoreOpen (g : Gremon) (c : HostCmd) (sigOk : Bool) : Gremon :=
  if !sigOk then g.finish c 1 0x131
  else if g.svc.cont.restores.any fun r => decide (r.job = c.job) then g.finish c 1 0x132
  else (g.onCont fun k => { k with restores := k.restores ++ [{ job := c.job, openAt := g.now, manifest := c.data }] }).finish c 0 0

/-- RESTORE_OPEN: the root uses its own manifest certificate or one it holds, else it asks for one and waits (R632). `sigOk`:
the manifest's signature verifies under the certificate held. -/
def Gremon.cmdRestoreOpen (g : Gremon) (sigOk : Bool) : Gremon :=
  g.onHostCmd 0x15 fun g c =>
    let r := pmRoot c.data
    if !pmOk c.data ∨ pmJob c.data ≠ c.job then g.finish c 2 0
    else if r = g.gid ∨ (g.sys.prot.certs.any fun x => decide (x.1 = r)) = true then g.restoreOpen c sigOk
    else if r ≥ 1024 then g.finish c 1 0x131
    else
      let g := g.rlTo r vcControl 0x28 0 (leBytes 2 r ++ leBytes 6 0)
      g.onCont fun k => { k with waits := k.waits ++ [{ cmd := c, at' := g.clk }] }

/-- RESTORE_SEAL: the IN entries are collected and judged (R492). -/
def Gremon.cmdRestoreSeal (g : Gremon) : Gremon :=
  g.onHostCmd 0x16 fun g c =>
    match g.svc.cont.restores.find? fun r => decide (r.job = c.job) with
    | some r => if c.data ≠ [] then g.finish c 2 0 else g.queryIssue c (c.param 0 8) 0 (sealDesc qopRestore 0 0 r.openAt)
    | none => g.finish c 2 0

/-- CERTREQ_RX: the slot 1 chain goes out; its bytes are of manufacture, and the spec fixes none.
Log: entry 27 (DEDUCED; DESIGN CHOICE). -/
def Gremon.certReqRx (g : Gremon) : Gremon :=
  g.onRl 0x28 fun g m =>
    let (n, g) := g.draw
    let (chain, g) := g.drawBytes (1 + n % 4096)
    g.rlTo (leAt m.bytes 8 2) vcBulk 0x29 0 (leBytes 8 g.serial.toNat ++ leBytes 2 g.gid ++ leBytes 6 0 ++ leBytes 4 chain.length ++ leBytes 4 0 ++ chain)

/-- CERT_RX: a chain that verifies is held, and restores that wait for it go on.
Log: entry 10 (DESIGN CHOICE). -/
def Gremon.certRx (g : Gremon) (chainOk sigOk : Bool) : Gremon :=
  g.onRl 0x29 fun g m =>
    let id := leAt m.bytes 24 2
    if !chainOk then g
    else
      let cert := (id, BitVec.ofNat 64 (leAt m.bytes 16 8), m.bytes.drop 40)
      let g := g.nvWrite true
      let g : Gremon := { g with sys := { g.sys with prot := { g.sys.prot with
        certs := (g.sys.prot.certs.filter fun x => decide (x.1 ≠ id)) ++ [cert] } } }
      let mine := fun (w : RestoreWait) => decide (pmRoot w.cmd.data = id)
      let ws := g.svc.cont.waits.filter mine
      let g := g.onCont fun k => { k with waits := k.waits.filter fun w => !mine w }
      ws.foldl (fun (g : Gremon) w => g.restoreOpen w.cmd sigOk) g

/-- MCERT_UNAVAILABLE: 100 ms after the CERTREQ.
Log: entry 27 (DEDUCED; DESIGN CHOICE). -/
def Gremon.mcertTimeout (g : Gremon) : Gremon :=
  match g.svc.cont.waits with
  | [] => g
  | w :: t =>
    let g := g.moveTo (w.at' + 100000000)
    let g := g.onCont fun k => { k with waits := t }
    (g.raise .mcertUnavailable []).finish w.cmd 1 0x131

/-- JOBKEY (R488): the key is kept, and goes to every die bound to the job.
Log: entry 27 (DEDUCED; DESIGN CHOICE). -/
def Gremon.cmdJobKey (g : Gremon) : Gremon :=
  g.onHostCmd 0x05 fun g c =>
    if (g.jobInfo c.job).isNone then g.finish c 2 0
    else
      let set := fun (j : JobInfo) => if j.job = c.job then { j with key := some c.data } else j
      let g : Gremon := { g with jobs := g.jobs.map set }
      let lanes := (g.binds.filter fun b => decide (b.job = c.job) && decide (b.state = 1 ∨ b.state = 2) && decide (b.pda / 512 = g.gid)).map
        fun b => b.pda % 512
      (lanes.foldl (fun (g : Gremon) l => g.keyPush l c.job c.data) g).finish c 0 0

/-! ### Re-homing (R437, R442, R447) -/

/-- REHOME_RX: a Gremon that gains a CHILD sends it every broadcast it has retained and every query still open. -/
def Gremon.rehomeRx (g : Gremon) : Gremon :=
  g.onJoin 1 fun g m =>
    let g := g.rehome m.port m.bytes
    if leAt m.bytes 2 1 ≠ 0 then g
    else
      let g := g.bcastAge
      let g := g.bcasts.foldl (fun (g : Gremon) b => g.rlHop m.port vcControl 0x20 (b.msg.drop 16)) g
      (g.queries.filter fun q => decide (g.now ≤ q.deadline) && (g.behind m.port).any (g.targets q.msg)).foldl (fun (g : Gremon) q =>
        g.rlHop m.port vcControl 0x40 (q.msg.drop 16)) g

/-- PARENT_FAIL: beside the tree's part, reduction outputs are sent to the new PARENT again (R440). -/
def Gremon.parentFailed (g : Gremon) : Gremon := (g.parentFail.redResend).backAll
/-- CHILD_PORT_DOWN and PRUNE_RX: broadcasts no longer await what has left. -/
def Gremon.childGone (g : Gremon) (p : Nat) : Gremon := (g.childDown p).backAll
def Gremon.pruned (g : Gremon) : Gremon := g.pruneRx.backAll

end Sys2Proof.Machine
end

