-- ==== Sys2Proof/Machine/Feeds.lean ====
section
/-! DEFINITION. Feeds and the resolution ladder (13 R450–R453, 16 R540). -/
namespace Sys2Proof.Machine
open Sys2Proof

/-- The level requested, and SCALE. -/
def FeedRec.asked (f : FeedRec) : Nat := qdParam (qmDesc f.msg) % 4
def FeedRec.scale (f : FeedRec) : Int := toInt 16 (qdParam (qmDesc f.msg) / 65536)

/-- The ladder level in effect at a frame: the highest of every commander's latest (R452). -/
def FeedRec.ladder (f : FeedRec) (frame : Nat) : Nat :=
  let latest := fun (c : Nat) => (f.levels.filter fun e => decide (e.1 = c) && decide (e.2.2 ≤ frame)).getLast?
  min 2 ((f.levels.map (·.1)).eraseDups.foldl (fun n c => max n (((latest c).map (·.2.1)).getD 0)) 0)

/-- The level of the period that begins next, and its length in frames (Table 13.12). -/
def FeedRec.level (f : FeedRec) : Nat := min 2 (max f.asked (f.ladder f.nextAt))
def FeedRec.frames (f : FeedRec) : Nat := if f.level = 2 then 10 else 1

/-- The named dies of a feed that this Gremon serves: EID and lane. -/
def Gremon.feedDies (g : Gremon) (f : FeedRec) : List (Nat × Nat) :=
  (qdEids (qmDesc f.msg)).filterMap fun e => (g.eidLane (qmJob f.msg) e).map fun l => (e, l)

/-- The channels of a feed. -/
def FeedRec.chans (f : FeedRec) : List Nat := (List.range (leAt f.msg 74 2)).map (· + leAt f.msg 72 2)

/-- The values of a channel of a lane in the period, oldest first. -/
def FeedRec.vals (f : FeedRec) (lane chan : Nat) : List Nat :=
  ((f.got.filter fun s => decide (s.lane = lane) && decide (f.nextAt ≤ s.frame) && decide (s.frame < f.nextAt + f.frames)).filterMap
    fun s => (s.vals.find? fun v => decide (v.1 = chan)).map (·.2)).map (·.toNat)

/-- One pod-mode block of one value, padded to 8 bytes. -/
def feedBlock (x : Nat) : List Byte := podBlock [x % 2 ^ 64]

/-- The least and greatest of values compared as s64 (R373). -/
def sMin (l : List Nat) : Nat := l.foldl (fun a x => if toInt 64 x < toInt 64 a then x else a) (l.headD 0)
def sMax (l : List Nat) : Nat := l.foldl (fun a x => if toInt 64 x > toInt 64 a then x else a) (l.headD 0)

/-- The data of a period (Table 13.12). -/
def Gremon.feedData (g : Gremon) (f : FeedRec) : List Byte :=
  let dies := g.feedDies f
  let fmt := qdFmt (qmDesc f.msg)
  if f.level = 1 then
    f.chans.flatMap fun c =>
      leBytes 2 c ++ leBytes 6 0 ++ dies.foldl (fun h d => (f.vals d.2 c).foldl (fun h x => opcOffer 1 fmt h x 0) h) (histZero f.scale)
  else
    dies.flatMap fun d => f.chans.flatMap fun c =>
      let v := f.vals d.2 c
      if v.isEmpty then []
      else
        leBytes 4 d.1 ++ leBytes 2 c ++ leBytes 2 0 ++
          (if f.level = 0 then feedBlock (v.headD 0)
           else feedBlock (sMin v) ++ feedBlock (sMax v) ++ feedBlock (v.foldl (· + ·) 0) ++ feedBlock (v.getLast?.getD 0) ++ feedBlock v.length)

/-- A die is received with a value of every channel in every frame of the period. -/
def Gremon.feedCov (g : Gremon) (f : FeedRec) : Coverage :=
  let dies := g.feedDies f
  let short := dies.filter fun d => f.chans.any fun c => decide ((f.vals d.2 c).length < f.frames)
  { Coverage.of 0 dies.length (short.map (·.1)) false 0 with degraded := decide (f.level > f.asked) }

/-- FEED messages queued on the PARENT port that could not be sent within 10 frames are discarded at level 2 (R453). -/
def Gremon.feedDrop (g : Gremon) (f : FeedRec) : Gremon :=
  match g.tree.parent with
  | some p =>
    if f.level ≠ 2 then g
    else g.rlQueue p vcBulk fun q => q.filter fun m =>
      !(m.tag.isNone && m.fwd.isNone && decide (leAt m.bytes 0 1 = 0x42) && decide (m.at' + 10 * g.frameNs < g.clk))
  | none => g

/-- In DROWSE, the histograms of the listed channels over every die on the tray, for a frame (R604). -/
def Gremon.drowseData (g : Gremon) (f : FeedRec) : List Byte :=
  let fmt := qdFmt (qmDesc f.msg)
  g.sys.pwr.drowseList.flatMap fun c =>
    let vs := (g.svc.hist.drowse.filter fun s => decide (s.frame = f.nextAt)).flatMap fun s => s.vals.filter fun v => decide (v.1 = c.1)
    leBytes 2 c.1 ++ leBytes 6 0 ++ vs.foldl (fun h x => opcOffer 1 fmt h x.2.toNat 0) (histZero c.2)

/-- The dies of a feed without a listed channel's value in DROWSE. -/
def Gremon.drowseCov (g : Gremon) (f : FeedRec) : Coverage :=
  let dies := g.feedDies f
  let here := fun (d : Nat × Nat) => g.svc.hist.drowse.any fun s => decide (s.frame = f.nextAt ∧ s.lane = d.2)
  { Coverage.of 0 dies.length ((dies.filter fun d => !here d).map (·.1)) false 0 with degraded := decide (f.asked = 0) }

/-- The PT at which a feed's next period is sent: one frame after its last frame has closed.
Log: entry 24 (DEDUCED; DESIGN CHOICE). -/
def Gremon.feedDue (g : Gremon) (f : FeedRec) : Nat :=
  (f.nextAt + (if g.sys.pwr.pstate = 2 then 1 else f.frames) + 1) * g.frameNs

/-- A feed's next period is sent: at its effective level, and in DROWSE at level HIST (R450, R604).
Log: entry 24 (DEDUCED; DESIGN CHOICE). -/
def Gremon.feedSend (g : Gremon) (f : FeedRec) : Gremon :=
  let dz := decide (g.sys.pwr.pstate = 2)
  let data := if dz then g.drowseData f else g.feedData f
  let cov := if dz then g.drowseCov f else g.feedCov f
  let next := f.nextAt + (if dz then 1 else f.frames)
  let step := fun (y : FeedRec) => if y.fid = f.fid then { y with nextAt := next, got := y.got.filter fun s => decide (s.frame ≥ next) } else y
  let g := g.feedDrop f
  let g : Gremon := { g with feeds := g.feeds.map step }
  g.rlTo (f.fid.toNat % 1024) vcBulk 0x42 0 (leBytes 8 f.fid.toNat ++ leBytes 8 f.nextAt ++ leBytes 2 g.gid ++
    leBytes 1 (if dz then 1 else f.level) ++ leBytes 1 0 ++ leBytes 4 data.length ++ cov.bytes ++ data)

/-- The feeds that name dies of this Gremon. -/
def Gremon.feedsHere (g : Gremon) : List FeedRec := g.feeds.filter fun f => !(g.feedDies f).isEmpty

/-- FEED_PERIOD: the feed whose next period is due first. HOLD sends none.
Log: entry 24 (DEDUCED; DESIGN CHOICE). -/
def Gremon.feedPeriod (g : Gremon) : Gremon :=
  match g.feedsHere with
  | [] => g
  | x :: t =>
    if g.sys.pwr.pstate = 3 then g
    else
      let f := t.foldl (fun (b : FeedRec) y => if g.feedDue y < g.feedDue b then y else b) x
      (g.moveTo (g.feedDue f)).feedSend f

/-- DROWSE_HISTOGRAM at a frame boundary at `t`: the histograms due go to the feeds, and those sent to all are let go.
Log: entry 24 (DEDUCED; DESIGN CHOICE). -/
def Gremon.drowseTick (g : Gremon) (t : Nat) : Gremon :=
  if g.sys.pwr.pstate ≠ 2 ∨ g.frameNs = 0 then g
  else
    let g := (g.feedsHere.filter fun f => decide (g.feedDue f ≤ t)).foldl (fun (g : Gremon) f => g.feedSend f) g
    g.onHist fun h => { h with drowse := h.drowse.filter fun s => decide (s.frame + 2 > t / g.frameNs) }

/-- A FEED record goes to the result queues of the MID that opened the feed. -/
def Gremon.feedOut (g : Gremon) (f : FeedRec) (body : List Byte) : Gremon :=
  let o : OutRec := { kind := 7, prov := false, job := qmJob f.msg, body := body }
  (List.range 16).foldl (fun g r => if g.rqTakes r o && decide (g.reg (kRq r 0x1C) = f.mid) then g.deliverTo r o else g) g

/-- The first frames of the periods that Gremon `i` discarded before its message for `frame` (R453). -/
def FeedRec.lost (f : FeedRec) (i frame : Nat) : List Nat :=
  match f.heard.find? fun e => decide (e.1 = i) with
  | some e => (List.range ((frame - e.2 + 9) / 10)).map fun k => e.2 + 10 * k
  | none => []

/-- The record of a period that Gremon `i` discarded: no data, and every die of it missing (R453).
Log: entry 24 (DEDUCED; DESIGN CHOICE). -/
def Gremon.feedLost (g : Gremon) (f : FeedRec) (i frame : Nat) : List Byte :=
  let dies := g.eidsAt f.msg [i]
  leBytes 8 f.fid.toNat ++ leBytes 8 frame ++ leBytes 2 i ++ leBytes 1 2 ++ leBytes 1 0 ++ leBytes 4 0 ++
    (Coverage.of 0 dies.length dies (decide (f.asked < 2)) 0).bytes

/-- RL_FEED_RX (R540, R453): a record to the MID that opened the feed, after those of the periods that its sender discarded.
Log: entry 24 (DEDUCED; DESIGN CHOICE). -/
def Gremon.feedRx (g : Gremon) : Gremon :=
  g.onRl 0x42 fun g m =>
    let b := m.bytes
    match g.feeds.find? fun f => decide (f.fid = BitVec.ofNat 64 (leAt b 16 8)) with
    | some f =>
      if !g.root then g
      else
        let i := leAt b 32 2
        let next := leAt b 24 8 + (if leAt b 34 1 = 2 then 10 else 1)
        let set := fun (x : FeedRec) =>
          if x.fid = f.fid then { x with heard := (i, next) :: x.heard.filter fun e => decide (e.1 ≠ i) } else x
        let g := (f.lost i (leAt b 24 8)).foldl (fun (g : Gremon) k => g.feedOut f (g.feedLost f i k)) g
        ({ g with feeds := g.feeds.map set } : Gremon).feedOut f (b.drop 16)
    | none => g

/-! ### The ladder (R451–R453) -/

/-- A commander's level is recorded, and its LADDER goes down every CHILD port. -/
def Gremon.ladderTake (g : Gremon) (fid : W64) (frame level who : Nat) : Gremon :=
  let add := fun (f : FeedRec) => if f.fid = fid then { f with levels := f.levels ++ [(who, level, frame)] } else f
  let g : Gremon := { g with feeds := g.feeds.map add }
  g.childPorts.foldl (fun (g : Gremon) p =>
    g.rlHop p vcControl 0x23 (leBytes 8 fid.toNat ++ leBytes 8 frame ++ leBytes 1 level ++ leBytes 1 0 ++ leBytes 2 who ++ leBytes 4 0)) g

/-- RL_LADDER_RX.
Log: entry 24 (DEDUCED; DESIGN CHOICE). -/
def Gremon.ladderRx (g : Gremon) : Gremon :=
  g.onRl 0x23 fun g m =>
    let b := m.bytes
    g.ladderTake (BitVec.ofNat 64 (leAt b 16 8)) (leAt b 24 8) (leAt b 32 1) (leAt b 34 2)

/-- The first frame that opens at least 50 µs from now (R452).
Log: entry 24 (DEDUCED; DESIGN CHOICE). -/
def Gremon.ladderFrame (g : Gremon) : Nat := (g.now + 50000 + g.frameNs - 1) / max 1 g.frameNs

/-- LADDER_WATCH (R451, R453): at the end of a 1 ms window the PARENT port's BULK class is looked at for every feed.
Log: entry 24 (DEDUCED; DESIGN CHOICE). -/
def Gremon.ladderWatch (g : Gremon) : Gremon :=
  match g.tree.parent with
  | none => g
  | some p =>
    let g := g.moveTo ((g.clk / 1000000 + 1) * 1000000)
    let x := g.port p
    let k := x.classes.getD vcBulk RlClass.reset
    let depth := k.depthMax
    let waited := k.q.any fun m => m.tag.isNone && decide (leAt m.bytes 0 1 = 0x42) && decide (g.clk > m.at' + 2 * g.frameNs)
    let g := g.setPort p { x with classes := putClass x.classes vcBulk { k with depthMax := k.depth } }
    g.feeds.foldl (fun (g : Gremon) f =>
      let high := if 4 * depth > 3 * 2048 then f.high + 1 else 0
      let low := if 4 * depth < 2048 then f.low + 1 else 0
      let own := ((f.levels.filter fun e => decide (e.1 = g.gid)).getLast?.map (·.2.1)).getD 0
      let down := (decide (high ≥ 2) || waited) && decide (own < 2)
      let up := decide (low ≥ 100) && decide (own > 0)
      let set := fun (y : FeedRec) => if y.fid = f.fid then
        { y with high := if down then 0 else high, low := if up || down then 0 else low } else y
      let g : Gremon := { g with feeds := g.feeds.map set }
      if down then g.ladderTake f.fid g.ladderFrame (own + 1) g.gid
      else if up then g.ladderTake f.fid g.ladderFrame (own - 1) g.gid
      else g) g

end Sys2Proof.Machine
end

