-- ==== Sys2Proof/Machine/Canopy.lean ====
section
/-! DEFINITION. Failures of Gremon's package: Canopy links and memory stacks (06 R213, R214, R221), and GR_PKG_DIE_STAT. -/
namespace Sys2Proof.Machine
open Sys2Proof

/-- Links that carry nothing: excluded at self-test, or failed since. -/
def Gremon.linksDown (g : Gremon) : List (Nat × Nat) := g.exclLinks ++ g.deadLinks

/-- CANOPY_LINK_FAIL: lane repair of the link between two dies is exhausted (R213).
Log: entry 42 (DESIGN CHOICE), entry 52 (DEDUCED; DESIGN CHOICE). -/
def Gremon.canopyFail (g : Gremon) (a b : Nat) : Gremon :=
  let l := (min a b, max a b)
  if !(meshNext [] a).contains b ∨ a ≥ 32 ∨ g.linksDown.contains l = true then g
  else { g with deadLinks := g.deadLinks ++ [l] }.raise .canopyLinkFail []

/-- STACK_FAIL: the MH retires a stack (R221).
Log: entry 42 (DESIGN CHOICE), entry 52 (DEDUCED; DESIGN CHOICE). -/
def Gremon.stackFail (g : Gremon) (s : Nat) : Gremon :=
  if s ≥ 24 ∨ g.deadStacks.contains s = true then g
  else { g with deadStacks := g.deadStacks ++ [s] }.raise .stackFail []

/-- Whether a die has lost something it was built with: a link, for an MH a stack, for a CT a plane or a slot's core.
Log: entry 52 (DEDUCED; DESIGN CHOICE). -/
def Gremon.dieWorn (g : Gremon) (d : Nat) : Bool :=
  (g.linksDown.any fun l => decide (l.1 = d ∨ l.2 = d)) ||
  (if d < 16 then decide ((g.tseOf d).planes < 10) || (List.range 32).any fun s => (g.servedBy d s).isNone
   else decide (d < 24) && g.deadStacks.any fun s => decide (s / 3 = d - 16))

/-- STATE of a die (Table 6.11); where the self-test left no path every die of the module reads FAILED (R214).
Log: entry 52 (DEDUCED; DESIGN CHOICE). -/
def Gremon.dieState (g : Gremon) (d : Nat) : Nat :=
  let s := g.fld (kDieStat d) 1 0
  if g.failed then 3 else if s = 1 ∧ g.dieWorn d = true then 2 else s

/-- The mesh links of a die that are up: north, east, south, west. -/
def Gremon.linkUp (g : Gremon) (d : Nat) : Nat :=
  let p := meshPos d
  let up := meshNext g.linksDown d
  let has := fun (q : Nat × Nat) => b2n (up.any fun e => decide (meshPos e = q))
  (if p.2 = 0 then 0 else has (p.1, p.2 - 1)) + 2 * has (p.1 + 1, p.2) + 4 * has (p.1, p.2 + 1) +
    8 * (if p.1 = 0 then 0 else has (p.1 - 1, p.2))

/-- Unused spare cores of a CT. -/
def Gremon.sparesLeft (g : Gremon) (ct : Nat) : Nat :=
  ((List.range 34).filter fun p => !bit (g.reg (kCtMap ct p)) 5 && !bit (g.reg (kCtMap ct p)) 6 &&
    decide (g.fld (kCoreErr ct p) 1 0 = 0)).length

/-- GR_PKG_DIE_STAT_d as it reads; 0 until the self-test has set its STATE. -/
def Gremon.pkgDieStat (g : Gremon) (d : Nat) : Nat :=
  if g.dieState d = 0 then 65536 * g.fld (kDieStat d) 31 16
  else g.dieState d + 4 * g.linkUp d +
    (if d < 16 then 256 * min 3 (g.sparesLeft d) + 1024 * b2n (g.tseOf d).spare else 0) + 65536 * g.fld (kDieStat d) 31 16

/-- MODULE of GR_GLB_STAT (Table 17.6). -/
def Gremon.module (g : Gremon) : Nat :=
  if g.failed then 3 else if !g.sys.pwr.ready then 0
  else if (List.range 32).any fun d => decide (g.dieState d = 2) then 2 else 1

end Sys2Proof.Machine
end

