-- ==== Sys2Proof/Machine/GLive.lean ====
section
/-! DEFINITION. What reads of Gremon's registers return: the values that the block computes, latches, cursors and the
queues that a read pops (17 R558–R562, 04 R158, R165, 20 R649, 19 R624). -/
namespace Sys2Proof.Machine
open Sys2Proof

/-! ### Computed words -/

/-- The root's own view of site time, as a word of GR_ALM_STAT. -/
def Gremon.almStat (g : Gremon) : Nat :=
  g.quality.code + 4 * b2n g.root + (if g.root then 8 * g.svc.site.state else 0) + 65536 * g.uncert

def RlState.code : RlState → Nat
  | .down => 0 | .training => 1 | .init => 2 | .up => 3 | .laneWait => 4 | .failed => 5

/-- GR_RL_STAT_p, GR_RL_ERR_p and GR_RL_FEC_p_l. -/
def Gremon.rlStat (g : Gremon) (p : Nat) : Nat :=
  let x := g.port p
  x.st.code + 8 * g.role p + 64 * (x.active.foldl (fun n l => n ||| 2 ^ l) 0) + 2048 * b2n x.spare.isSome +
    (match x.neighbour with
      | some n => 65536 * n + 2 ^ 26
      | none => 0)
def Gremon.rlErr (g : Gremon) (p : Nat) : Nat :=
  let x := g.port p
  sat 0xFFFF x.crcErr + 65536 * sat 255 x.goBackCnt + 2 ^ 24 * sat 255 x.badMsg
def Gremon.rlFec (g : Gremon) (p l : Nat) : Nat :=
  sat 0xFFFFFF ((g.port p).corr.getD l 0) + 2 ^ 24 * sat 255 ((g.port p).uncorr.getD l 0)

/-- GR_TREE_STAT. -/
def Gremon.treeStat (g : Gremon) : Nat :=
  let t := g.tree
  t.phase + 4 * (t.depth % 16) + 64 * t.parent.getD 7 + 512 * t.alt.getD 7 + 65536 * t.root

/-- GR_TREE_MEMB: the root's members, and those declared failed. -/
def Gremon.treeMemb (g : Gremon) : Nat :=
  if g.root then g.tree.joinedAs.length % 2048 + 65536 * (g.tree.lostOnce.length % 2048) else 0

/-- GR_KIT_SLOT_n and GR_KIT_ERR_n. -/
def KitSlot.stat (k : KitSlot) : Nat :=
  (if k.state = 0 then 0 else k.handle) + 65536 * k.state + 2 ^ 19 * b2n k.boot + 2 ^ 20 * k.cause + 2 ^ 24 * (k.restarts % 16)
def KitSlot.errs (k : KitSlot) : Nat := k.overruns + 65536 * k.faults + 2 ^ 24 * k.lagging

/-- GR_GL_STAT_n and GR_GL_ERR_n. -/
def Gremon.glStat (g : Gremon) (n : Nat) : Nat :=
  let l := g.lane n
  l.st.code + 8 * pairCode l.active + 16 * b2n l.stbyOk + 32 * b2n (bit (g.die n).cfgid.toNat 10) + 256 * sat 255 l.takeovers +
    65536 * sat 255 l.trainFails
def Gremon.glErr (g : Gremon) (n : Nat) : Nat :=
  let l := g.lane n
  sat 0xFFFF l.crcErr + 65536 * sat 255 l.goBackCnt + 2 ^ 24 * sat 255 l.badMsg

/-- GR_GLB_STAT. -/
def Gremon.glbStat (g : Gremon) : Nat :=
  let p := g.sys.pwr
  g.module + 4 * p.pstate + 16 * b2n p.brace + 32 * b2n g.locked + 64 * b2n g.conf + 128 * b2n (decide (p.image = 2)) +
    256 * b2n (!g.regs.bad.isEmpty)

/-- GR_PWR_STAT. -/
def Gremon.pwrStat (g : Gremon) : Nat :=
  let p := g.sys.pwr
  p.pstate + 4 * b2n (p.want.isSome || p.heldTarget.isSome) + 8 * b2n p.waking

/-- GR_PROT_CTL. -/
def Gremon.protCtl (g : Gremon) : Nat :=
  bits (g.reg kProtCtl) 1 0 + (match g.sys.prot.token with
    | some t => 4 + 256 * (t.1 % 4)
    | none => 0)

/-- Word `w` of the recorder slot that cursor `c` shows (R649); in confidential mode a job's record shows its RSEQ and the code
WITHHELD (R650). -/
def Gremon.erWord (g : Gremon) (c w : Nat) : Nat :=
  match Tbl.find g.log.slots (g.reg (0x1000100 + 0x100 * c) % 16384) with
  | some e => if g.conf && decide (e.job ≠ 0) && decide (w ≠ 0) then (if w = 1 then 0xFFFF else 0) else leAt e.bytes (4 * w) 4
  | none => 0

/-- GR_OPC_c_l_k (Table 7.17), at the key of its LO word. -/
def Gremon.opcOf (g : Gremon) (k : Nat) : Nat :=
  let o := k - ind 0x100000
  (Tbl.get 0 (g.core (o / 0x800)).opc (o % 0x800 / 8)).toNat

/-! ### Reading by block of the map -/

/-- Word `k` of a 64-bit value whose LO word lies at `lo`. -/
def halfWord (v k lo : Nat) : Nat := if k = lo then v % 2 ^ 32 else v / 2 ^ 32 % 2 ^ 32

/-- STEP of GR_BOOT_STAT: the last step of Table 18.12 completed, as far as Gremon can tell.
Log: entry 44 (DEDUCED; DESIGN CHOICE). -/
def Gremon.bootStep (g : Gremon) : Nat :=
  let p := g.sys.pwr
  if p.glOn && p.podSent.isSome then max p.step 7
  else if p.glOn && g.dies.any (fun e => e.2.accepted) then max p.step 5
  else if p.ready && g.tree.joined && decide (g.tree.phase = 2) then max p.step 3
  else if p.ready && (List.range 6).any g.portUp then max p.step 2
  else p.step

/-- Registers below 0x200000 (global, power, protection, queues). -/
def Gremon.liveGlobal (g : Gremon) (k : Nat) : Option Nat :=
  let p := g.sys.pwr
  if k = 0x4 then some (leAt g.sys.upd.running 24 4)
  else if k = kGlbStat then some g.glbStat
  else if k = 0x10008 then some (putBits (g.reg k) 0 0 (b2n (!g.regs.shadow.isEmpty)))
  else if k = 0x10014 then
    some (putBits (putBits (g.reg k) 0 0 (b2n (!g.regs.bad.isEmpty))) 15 8 (sat 255 g.regs.bad.length))
  else if k = 0x10104 then some g.pwrStat
  else if k = 0x1010C then some p.vin
  else if k = 0x10118 then some (p.cls + 2 * p.src + 65536 * p.prevBoot)
  else if k = 0x1011C then
    some (g.bootStep + 16 * b2n p.podReady + 32 * p.image + 256 * (p.kitsOk % 16) + 4096 * (p.kitsRef % 16))
  else if k = 0x10120 then some (p.imgSeq % 65536 + 65536 * p.defaulted)
  else if k = kProtCtl then some g.protCtl
  else if k = 0x10218 ∨ k = 0x1021C then some (halfWord (if g.sys.upd.tickGone then 0 else g.sys.upd.tick) k 0x10218)
  else if 0x100000 ≤ k ∧ k < 0x101000 then
    if k % 0x40 = 0x1C then some (g.hqStat ((k - 0x100000) / 0x40)) else none
  else if 0x108000 ≤ k ∧ k < 0x108400 then
    let r := Tbl.get RQueue.reset g.host.rqs ((k - 0x108000) / 0x40)
    if k % 0x40 = 0x14 then some r.tail else if k % 0x40 = 0x18 then some r.drop else none
  else none

/-- Registers from 0x200000 to the trace block (mailboxes, time, kits, records). -/
def Gremon.liveMiddle (g : Gremon) (k : Nat) : Option Nat :=
  if 0x200000 ≤ k ∧ k < 0x200800 then if k % 8 = 4 then some (g.mbStat ((k - 0x200000) / 8)) else none
  else if k = 0x300000 then some g.almStat
  else if k = 0x300010 ∨ k = 0x300014 then some (halfWord g.stamp.ns.toNat k 0x300010)
  else if k = 0x300018 then some g.stamp.tq
  else if k = 0x30001C ∨ k = 0x300020 then some (halfWord (g.replicaLm 30) k 0x30001C)
  else if 0x300100 ≤ k ∧ k < 0x300170 then
    let p := (k - 0x300100) / 16
    if k % 16 = 0 then some 0
    else if k % 16 = 12 then some (g.tsqStat p) else some (halfWord (g.tsq p).head.ns.toNat (k % 16) 4)
  else if 0x400100 ≤ k ∧ k < 0x400300 then
    let s := g.kit ((k - 0x400100) / 8)
    some (if k % 8 = 0 then s.stat else s.errs)
  else if k = 0x1000000 then some g.log.wr
  else if k = 0x1000004 then some g.log.rel
  else if k = 0x1000008 then some g.log.ovf
  else if 0x1000140 ≤ k ∧ k < 0x1000480 then if k % 0x100 < 0x40 then none else some (g.erWord ((k - 0x1000100) / 0x100) (k % 0x40 / 4))
  else if k = 0x1800000 then some g.bbStat
  else if k = 0x1800004 ∨ k = 0x1800008 then
    g.bbShown.map fun r => halfWord r.bseq k 0x1800004
  else if 0x1801000 ≤ k ∧ k < 0x1802000 then some (g.bbWord ((k - 0x1801000) / 4))
  else if k = 0x2000004 then some g.sys.trc.state
  else if k = 0x2000014 ∨ k = 0x2000018 then some (halfWord (g.sys.trc.wp % trcReserve) k 0x2000014)
  else none

/-- Ridgeline ports and the pod tree. -/
def Gremon.livePod (g : Gremon) (k : Nat) : Option Nat :=
  let p := (k - 0x3000000) / 0x1000
  let o := k % 0x1000
  if k = 0x3008000 then some g.treeStat
  else if k = 0x3008004 then some (g.tree.epoch % 2 ^ 32)
  else if k = 0x300800C then some g.treeMemb
  else if k ≥ 0x3006000 then none
  else if o = 0 then some (g.rlStat p)
  else if o = 4 then some (g.rlErr p)
  else if 0x10 ≤ o ∧ o < 0x24 then some (g.rlFec p ((o - 0x10) / 4))
  else none

/-- Indirect registers. -/
def Gremon.liveInd (g : Gremon) (who : Requester) (k : Nat) : Option Nat :=
  let a := k - ind 0
  let hide : Bool := g.conf && (match who with
    | .window _ => true
    | _ => false)
  if 0x31000 ≤ a ∧ a < 0x31800 then some (g.glStat ((a - 0x31000) / 4))
  else if 0x31800 ≤ a ∧ a < 0x32000 then some (g.glErr ((a - 0x31800) / 4))
  else if 0x41000 ≤ a ∧ a < 0x41080 then some (g.pkgDieStat ((a - 0x41000) / 4))
  else if 0x50000 ≤ a ∧ a < 0x70000 then
    some (if hide then 0 else halfWord (g.obj ((a - 0x50000) / 8)).state.toNat (a % 8) 0)
  else if 0x70000 ≤ a ∧ a < 0x80000 then
    let o := g.obj ((a - 0x70000) / 4)
    some (if hide then 0 else o.kind + 65536 * o.kit)
  else if 0x80000 ≤ a ∧ a < 0x80200 then
    let ct := (a - 0x80000) / 0x20
    match a % 0x20 with
    | 0 => some (g.tseStat ct)
    | 4 => some (g.tseUse ct)
    | 8 => some (g.tseLoad ct)
    | 12 => some (g.tseErr ct)
    | _ => none
  else if 0x90010 ≤ a ∧ a < 0x90040 then
    let t := (a - 0x90010) / 16
    if a % 16 = 0 then some (g.histUsed t) else some (halfWord (g.histOld t) (a % 16) 4)
  else if a = 0xA0014 then some g.lanStat
  else if 0xB0000 ≤ a ∧ a < 0xB8000 then if a % 0x20 = 0x10 then some (g.ckptStat ((a - 0xB0000) / 0x20)) else none
  else if a = 0xC0000 then some g.vigStat
  else if 0xD1000 ≤ a ∧ a < 0xD2000 then if hide then some 0 else none
  else if 0x100000 ≤ a ∧ a < 0x200000 then
    some (if hide then 0 else halfWord (g.opcOf (k - k % 8)) (a % 8) 0)
  else none

/-- The word that the register at `k` holds for a read by `who`, before latches. -/
def Gremon.live (g : Gremon) (who : Requester) (k : Nat) : Nat :=
  let v := if k ≥ ind 0 then g.liveInd who k else if k < 0x200000 then g.liveGlobal k
    else if k < 0x3000000 then g.liveMiddle k else g.livePod k
  match v with
  | some v => v % 2 ^ 32
  | none => g.regs.getShadow .gremon k

/-! ### Reads -/

/-- A read of the register at `k`, with the latches of R562 and R165, the pop of R158 and the cursor of R649. -/
def Gremon.readReg (g : Gremon) (who : Requester) (k : Nat) : Gremon × Nat :=
  match regDesc .gremon k with
  | none => (g, 0)
  | some d =>
    let v := g.live who k - (g.live who k &&& d.hidden)
    if k = 0x300010 then
      let r := [0x300014, 0x300018, 0x30001C, 0x300020].foldl (fun (r : RegFile) j => r.setLatch who j (g.live who j)) g.regs
      ({ g with regs := r }, v)
    else if 0x300100 ≤ k ∧ k < 0x300170 ∧ k % 16 = 0 then
      let r := g.tsqPop ((k - 0x300100) / 16)
      (r.2, r.1)
    else match g.regs.latched who k with
      | some w => ({ g with regs := g.regs.unlatch who k }, w.toNat)
      | none =>
        if d.hiLatch then ({ g with regs := g.regs.setLatch who (k + 4) (g.live who (k + 4)) }, v)
        else if 0x1000140 ≤ k ∧ k < 0x1000480 ∧ k % 0x40 = 0x3C then
          let c := 0x1000100 + (k - 0x1000100) / 0x100 * 0x100
          (if g.reg (c + 4) % 2 = 1 then g.setReg c ((g.reg c + 1) % 2 ^ 32) else g, v)
        else (g, v)

end Sys2Proof.Machine
end

