-- ==== Sys2Proof/Machine/GReset.lean ====
section
/-! DEFINITION. Gremon with every piece of its state at its reset value, and what each kind of reset keeps of it
(18 R592–R597, Tables 18.6 and 4.6). -/
namespace Sys2Proof.Machine
open Sys2Proof

/-! ### Reset values -/

def HostSide.reset : HostSide :=
  { qps := [], rqs := [], vecs := [], cmds := [], fwd := [], dma := [], msix := [], mgmt := [], mgmtOut := [], sealIn := []
    sealOut := [], chans := [], linkUp := false, d0 := true, pci := { vendor := 0x1F81, device := 0x3224, cls := 0x120000 } }
def Recorder.reset : Recorder := { wr := 0, rel := 0, ovf := 0, slots := [], offers := [] }
def Tree.reset : Tree :=
  { phase := 0, root := 0, rootPrio := 255, depth := 0, parent := Option.none, alt := Option.none, hellos := [], since := 0, stale := [], beat := 0
    beatAt := 0, epoch := 0, moves := 0, joined := false, none := false, subtree := [], joinedAs := [], pruned := [], failed := []
    lostOnce := [] }
def History.reset : History :=
  { rings := [HistRing.reset, HistRing.reset, HistRing.reset], opens := [], intvs := [], dies := [], frames := [], waiting := [], drowse := []
    exp := none, epochs := [] }
def ScreenSvc.reset : ScreenSvc := { packs := [], staged := [], dies := [], cores := [] }
def SiteTrack.reset : SiteTrack := { state := 0, offset := 0, far := false, since := 0, waited := false, masters := [], sync := none, dreq := none, dseq := 0 }
def Svc.reset : Svc :=
  { vig := { cuts := [], halts := [], next := 1, root := [] }
    lan := { ents := [], lastK := none, missed := 0, stale := false, badEnt := 0, root := [], podLevel := 0, podRisk := 0 }
    ckpt := [], cont := { log := [], segs := [], restores := [], waits := [] }, scr := ScreenSvc.reset, hist := History.reset
    swaps := [], marks := [], aligned := [], ambig := 0, minima := [], planNch := 0, plans := [], hdids := [], site := SiteTrack.reset, ptSteps := [], missed := [] }
def Power.reset : Power :=
  { pwrEn := true, rails := true, glOn := false, ready := false, vin := 5400, pstate := 0, want := none, waking := false
    brace := false, braceAt := 0, vmin := 0, recoverAt := none, braceCommit := false, held := none, heldTarget := none, porSrc := 0
    goodAt := 0, fullReset := none, reqAt := 0, cls := 0, src := 0, prevBoot := 0, step := 0, podReady := false, podPartial := false
    podSent := none, image := 0, kitsOk := 0, kitsRef := 0, imgSeq := 0, defaulted := 0, lostMid := false, wdtAt := 0, silentAt := 0
    hwSet := [], hwDirty := false, hwCommitted := [], lastList := [], copyA := [], copyB := [], drowseList := [], keys := []
    bootKits := [], pushList := [] }
def Update.reset : Update :=
  { running := [], other := [], otherOk := false, otherDigest := [], buf := [], tick := 0, tickGone := false, deferred := false, autoRevert := false
    confirmWin := 0, activatedAt := 0, nvWrites := false, old := none, waits := [], schedules := [] }
def Protect.reset : Protect := { token := none, sessions := [], certs := [], meas := [], spdmOut := [] }
def BlackBox.reset : BlackBox :=
  { recs := [], next := 1, writes := [], cur := 0, fill := 0, pinned := 0, pinFull := false, firsts := [], mirrored := 1, lost := 0 }
def TraceCol.reset : TraceCol :=
  { srcs := [], dieQ := [], dieLost := [], cseq := [], turn := 0, state := 0, trigAt := 0, wp := 0, port := [] }
def Thermal.reset : Thermal := { dies := [], stks := [], warm := [], hot := [], ceiling := [], stepAt := 0, tripAt := none }
def Telemetry.reset : Telemetry := { counts := [], base := [], vinMin := 5400, power := 0, last := [] }
def Sys.reset : Sys :=
  { pwr := Power.reset, upd := Update.reset, prot := Protect.reset, bb := BlackBox.reset, trc := TraceCol.reset
    hot := Thermal.reset, tel := Telemetry.reset, tsq := [] }

/-- Gremon as its first power-good leaves it, before its boot has run: nothing in memory, every register at its reset
value, no die enumerated, no kit, DOWN links, an empty record.
Log: entry 1 (DESIGN CHOICE). -/
def Gremon.reset : Gremon :=
  { regs := RegFile.reset, rdData := 0, clock := Clock.reset, replicas := [], root := false, lanes := [], dies := [], binds := []
    jobs := [], frameUs := 100, frameN := 10, frameNext := none, log := Recorder.reset, host := HostSide.reset, mem := []
    poison := [], deadStacks := [], deadLinks := [], exclLinks := [], flits := [], cores := [], sync := [], eng := [], msnd := [], tse := []
    ens := [], ensNext := 1, kits := [], kitNext := 1, halted := [], sys := Sys.reset, svc := Svc.reset, tree := Tree.reset
    ports := [], rlIn := [], bcasts := [], bcastNext := 1, queries := [], queryNext := 1, feeds := [], reds := [], redNext := [], redOld := []
    redKids := [], failed := false, badRegAt := none, badRegs := 0, seed := 0 }

/-! ### What a reset keeps -/

/-- The register file after a reset: the bits that survive it, every other at its reset value; shadows, faults and latches
are gone (Table 17.1, R575).
Log: entry 45 (DEDUCED; DESIGN CHOICE). -/
def RegFile.survive (mask : RegDesc → Nat) (r : RegFile) : RegFile :=
  r.vals.foldl (fun (s : RegFile) e =>
    match regDesc .gremon e.1 with
    | some d => s.write .gremon e.1 (mask d) e.2.toNat
    | none => s) RegFile.reset

/-- Power state that outlives every reset: the input, the image copies, the two copies of the host-write set and the
reports of the last boots.
Log: entry 45 (DEDUCED; DESIGN CHOICE). -/
def Power.carry (p : Power) : Power :=
  { Power.reset with
    pwrEn := p.pwrEn, rails := p.rails, vin := p.vin, porSrc := p.porSrc, goodAt := p.goodAt, lostMid := p.lostMid
    hwCommitted := p.hwCommitted, lastList := p.lastList, copyA := p.copyA, copyB := p.copyB }

/-- The history service after a FULL reset (R376): the records written; what was open is lost, and every page's tag is that
of the restarted epoch (R385).
Log: entry 45 (DEDUCED; DESIGN CHOICE). -/
def History.carry (h : History) : History := { History.reset with rings := h.rings, frames := h.frames }

/-- The screening service after a reset: the packs installed, and the correlation records of the black-box record.
Log: entry 45 (DEDUCED; DESIGN CHOICE). -/
def ScreenSvc.carry (s : ScreenSvc) : ScreenSvc :=
  { ScreenSvc.reset with
    packs := s.staged.foldl (fun t e => Tbl.put t e.1 e.2) s.packs
    dies := s.dies.map fun e => (e.1, { ScrDie.idle with corr := e.2.corr }) }

/-- What neither reset touches: the non-volatile stores, BOOT_COUNT, serial and fuses, core retirement.
Log: entry 45 (DEDUCED; DESIGN CHOICE). -/
def Gremon.carry (g : Gremon) (mask : RegDesc → Nat) : Gremon :=
  { Gremon.reset with
    regs := (g.regs.survive mask).setFld .gremon kModule 31 16 g.bootCount
    seed := g.seed
    sys := { Sys.reset with
      pwr := g.sys.pwr.carry, upd := g.sys.upd, prot := { Protect.reset with certs := g.sys.prot.certs }, bb := g.sys.bb }
    svc := { Svc.reset with scr := g.svc.scr.carry } }

/-- The core of POR: PT, history, recorder and jobs are lost; a schedule returns to STAGED, and staging under way to IDLE
(Table 19.10, R635).
Log: entry 6 (DESIGN CHOICE), entry 45 (DEDUCED; DESIGN CHOICE). -/
def Gremon.porWipe (g : Gremon) : Gremon :=
  let h := g.carry (·.keepPor)
  let st := h.updState
  let h := h.onUpd fun u => { u with tick := 0, buf := [], waits := [], deferred := false, schedules := [], otherOk := u.otherOk && decide (st ≠ 1) }
  if st = 1 then h.setFld kUpd 2 0 0 else if st = 3 then h.setFld kUpd 2 0 2 else h

/-- The core of FULL reset: TD's time bases, job epochs, history and recorder stay (R592, Tables 4.6 and 18.6); an export
ends with RESET.
Log: entry 6 (DESIGN CHOICE), entry 45 (DEDUCED; DESIGN CHOICE). -/
def Gremon.fullWipe (g : Gremon) : Gremon :=
  let g := g.expAbort 3
  let c := g.clock.hold g.uncert
  let g := ({ g with clock := c.1 }).timeNews c.2
  let h := g.carry (·.keep)
  let st := h.updState
  let h := h.onUpd fun u => { u with buf := [], waits := [], tickGone := true, otherOk := u.otherOk && decide (st ≠ 1) }
  let h := if st = 1 then h.setFld kUpd 2 0 0 else h
  let hist := fun (cna : Nat) => cnaHbm cna && decide (hpaHist ≤ cnaHpa cna) && decide (cnaHpa cna < hpaEnd)
  { h with
    clock := { g.clock with waiting := false }
    replicas := g.replicas
    jobs := g.jobs.map fun j => { j with key := none }
    log := { g.log with offers := g.log.offers }
    host := { HostSide.reset with linkUp := g.host.linkUp, d0 := g.host.d0 }
    mem := g.mem.filter fun e => hist e.1
    poison := g.poison.filter fun l => hist (64 * l)
    dies := (g.dies.filter fun e => e.2.rseqHi.isSome).map fun e => (e.1, { DieInfo.none with rseqHi := e.2.rseqHi })
    lanes := (g.lanes.filter fun e => e.2.eqSaved || decide (e.2.epoch ≠ 0)).map fun e => (e.1, { GlLink.reset .gremon with eqSaved := e.2.eqSaved, epoch := e.2.epoch })
    ports := (g.ports.filter fun e => e.2.eqSaved || decide (e.2.epoch ≠ 0)).map fun e => (e.1, { RlPort.reset with eqSaved := e.2.eqSaved, epoch := e.2.epoch })
    svc := { h.svc with hist := g.svc.hist.carry, ptSteps := g.svc.ptSteps } }

/-- Every rail is off: nothing that POR loses is left, and only power-good follows. -/
def Gremon.railsOff (g : Gremon) (src : Nat) : Gremon :=
  let h := g.porWipe
  h.onPwr fun p => { p with rails := false, porSrc := src }

end Sys2Proof.Machine
end

