-- ==== Sys2Proof/Machine/Power.lean ====
section
/-! DEFINITION. Gremon's input supply, resets asked for, watchdogs and power states (18 R584–R607, 21 R673). -/
namespace Sys2Proof.Machine
open Sys2Proof

/-! ### Reset requests (R588–R591) -/

/-- A FULL reset is requested by source: the host-write set and EVTAIL are committed; in BRACE the reset is held (R588,
R596, Table 20.5). -/
def Gremon.askFull (g : Gremon) (src : Nat) : Gremon :=
  let g := g.hwCommit [g.evTail]
  g.onPwr fun p =>
    let p := { p with reqAt := g.clk }
    if p.brace then { p with held := some src } else { p with fullReset := some src }

/-- FULL_RESET_REQUEST: a write of GR_GLB_RESET with KEY 0xA5, or a recovery request on SVC. -/
def Gremon.fullRequest (g : Gremon) (svc : Bool) (v : Nat) : Gremon :=
  if svc then g.askFull 5 else if bit v 0 && decide (bits v 15 8 = 0xA5) then g.askFull 2 else g

/-- CD_WATCHDOG_EXPIRY: 1 s after CD firmware last fed its watchdog. -/
def Gremon.cdWatchdog (g : Gremon) : Gremon :=
  if g.sys.pwr.ready then (g.moveTo (g.sys.pwr.silentAt + 1000000000)).askFull 3 else g

/-- HOST_WATCHDOG_EXPIRY: PERIOD ms after the last KICK (R591). -/
def Gremon.hostWatchdog (g : Gremon) : Gremon :=
  let per := g.fld 0x10108 15 0
  if per = 0 ∨ g.sys.pwr.ready = false then g
  else ((g.moveTo (g.sys.pwr.wdtAt + 1000000 * per)).onPwr fun p => { p with wdtAt := g.sys.pwr.wdtAt + 1000000 * per }).askFull 4

/-- A write of GR_WDT: PERIOD from the PCIe function alone, and KICK (R591). -/
def Gremon.wdtWrite (g : Gremon) (period : Bool) (v : Nat) : Gremon :=
  let was := g.fld 0x10108 15 0
  let g := if period then g.setFld 0x10108 15 0 (bits v 15 0) else g
  if bit v 16 || (decide (was = 0) && decide (g.fld 0x10108 15 0 ≠ 0)) then g.onPwr fun p => { p with wdtAt := g.clk } else g

/-! ### BRACE (R584–R588) -/

/-- A BRACE record (Table 20.5).
Log: entry 43 (DEDUCED; DESIGN CHOICE). -/
def braceRec (vmin dur : Nat) (reset : Bool) : BbNew :=
  { ty := 6, body := leBytes 2 vmin ++ leBytes 2 dur ++ leBytes 1 (b2n reset) }

/-- The input voltage as sampled; its least within a BRACE and since the last telemetry latch. -/
def Gremon.vinIs (g : Gremon) (vin : Nat) : Gremon :=
  (g.onPwr fun p => { p with vin := vin, vmin := if p.brace then min p.vmin vin else p.vmin }).onTel
    fun t => { t with vinMin := min t.vinMin vin }

/-- POWER_FAIL_WARNING: `commit` says whether the commit of step 4 completes (R586).
Log: entry 43 (DEDUCED; DESIGN CHOICE). -/
def Gremon.powerFail (g : Gremon) (vin : Nat) (commit : Bool) : Gremon :=
  if g.sys.pwr.brace then g.vinIs vin
  else
    let g := (g.onPwr fun p => { p with
      brace := true, braceAt := g.clk, vmin := vin, recoverAt := none, braceCommit := false }).vinIs vin
    let g := g.raise .braceEnter []
    if commit then (g.hwCommit [g.evTail]).onPwr fun p => { p with braceCommit := true } else g

/-- RECOVERY_CROSSING (R587).
Log: entry 43 (DEDUCED; DESIGN CHOICE). -/
def Gremon.recoverCross (g : Gremon) (rising : Bool) (vin : Nat) : Gremon :=
  let g := g.vinIs vin
  if g.sys.pwr.brace then g.onPwr fun p => { p with recoverAt := if rising then some g.clk else none } else g

/-- GR_BRACE_STAT and GR_BRACE_CNT at the end of a BRACE.
Log: entry 43 (DEDUCED; DESIGN CHOICE). -/
def Gremon.braceEnd (g : Gremon) (dur : Nat) (reset : Bool) : Gremon :=
  let g := (g.setFld 0x10110 15 0 (sat 0xFFFF g.sys.pwr.vmin)).setFld 0x10110 31 16 dur
  if reset then g.setFld 0x10114 31 16 (sat 0xFFFF (g.fld 0x10114 31 16 + 1))
  else g.setFld 0x10114 15 0 (sat 0xFFFF (g.fld 0x10114 15 0 + 1))

/-! ### Power states (R601–R606) -/

/-- A resident kit's cores stop with their state kept, in state `s`, DROWSE or HOLD, or go on (R406). -/
def Gremon.kitsHalt (g : Gremon) (s : Nat) : Gremon :=
  g.resident.foldl (fun (g : Gremon) e =>
    if e.2.state = 3 then (g.setFrozen true (s - 1) e.2.cores).setKit e.1 { e.2 with state := 7, prev := 3 }
    else if e.2.state = 7 then g.traceDown (s - 1) e.2.cores else g) g

/-- HALTED kits resume at a frame boundary `t`; those in a debug halt's scope issue nothing yet. -/
def Gremon.kitsWake (g : Gremon) (t : Nat) : Gremon :=
  g.resident.foldl (fun (g : Gremon) e =>
    if e.2.state ≠ 7 then g
    else
      let g := g.setKit e.1 { e.2 with state := e.2.prev, prev := 0 }
      let g := if (g.haltsOf (pkJob e.2.pkg)).isEmpty then g.setFrozen false 0 e.2.cores else g
      g.phasesFrom e.1 t) g

/-- A wake from DROWSE or HOLD begins (R603).
Log: entry 43 (DEDUCED; DESIGN CHOICE). -/
def Gremon.wake (g : Gremon) : Gremon :=
  if g.sys.pwr.pstate ≥ 2 then g.onPwr fun p => { p with waking := true, want := none } else g.onPwr fun p => { p with want := none }

/-- A TARGET takes effect, unless BRACE holds it (R588, R603). -/
def Gremon.target (g : Gremon) (v : Nat) : Gremon :=
  if g.sys.pwr.brace then g.onPwr fun p => { p with heldTarget := some v }
  else if v ≥ 2 then g.onPwr fun p => { p with want := some (v, g.clk) }
  else
    let g := g.wake
    if v = 0 ∧ g.sys.pwr.pstate = 1 then g.onPwr fun p => { p with pstate := 0 } else g

/-- PWR_TARGET_WRITE. -/
def Gremon.pwrTarget (g : Gremon) (v : Nat) : Gremon := (g.setFld 0x10100 1 0 (v % 4)).target (v % 4)

/-- A pending DROWSE or HOLD at frame boundary `t` (R603). -/
def Gremon.sleepDue (g : Gremon) (t : Nat) : Gremon :=
  match g.sys.pwr.want with
  | some (s, at') =>
    if t < at' + 10000 ∨ (s = 3 ∧ g.svc.hist.exp.isSome = true) ∨ g.sys.pwr.brace = true ∨ g.sys.pwr.waking = true then g
    else if s = g.sys.pwr.pstate then g.onPwr fun p => { p with want := none }
    else (g.onPwr fun p => { p with pstate := s, want := none }).kitsHalt s
  | none => g

/-- Whether there is work that keeps Gremon in RUN (R602). -/
def Gremon.working (g : Gremon) : Bool :=
  g.svc.hist.exp.isSome || (g.resident.any fun e => decide (e.2.state = 3)) || g.queries.any fun q => !q.sent

/-- IDLE_ENTRY, and the return to RUN with the first work (R602). -/
def Gremon.idleEntry (g : Gremon) : Gremon :=
  if g.sys.pwr.ready && decide (g.sys.pwr.pstate = 0) && decide (g.fld 0x10100 1 0 ≥ 1) && !g.working then
    g.onPwr fun p => { p with pstate := 1 }
  else g
def Gremon.idleExit (g : Gremon) : Gremon :=
  if g.sys.pwr.pstate = 1 ∧ g.working = true then g.onPwr fun p => { p with pstate := 0 } else g

/-- WAKE_COMPLETE: kits go on at the next frame boundary.
Log: entry 43 (DEDUCED; DESIGN CHOICE). -/
def Gremon.wakeDone (g : Gremon) : Gremon :=
  if g.sys.pwr.waking then g.onPwr fun p => { p with waking := false, pstate := 0 } else g

/-- A management command that needs cores or HBM wakes Gremon (R603).
Log: entry 37 (DEDUCED; DESIGN CHOICE). -/
def Gremon.mgmtWake (g : Gremon) (opc : Nat) : Gremon :=
  if (opc = 0x01 ∨ opc = 0x06) ∧ g.sys.pwr.pstate ≥ 2 then g.wake else g

/-- BRACE_EXIT (R587, R588): what BRACE held is performed.
Log: entry 43 (DEDUCED; DESIGN CHOICE). -/
def Gremon.braceExit (g : Gremon) : Gremon :=
  match g.sys.pwr.brace, g.sys.pwr.recoverAt with
  | true, some t =>
    let g := g.moveTo (t + 1000000)
    let p := g.sys.pwr
    let dur := sat 0xFFFF ((g.clk - p.braceAt) / 100000)
    let g := g.braceEnd dur false
    let g := (g.raise .braceExit (leBytes 2 p.vmin ++ leBytes 2 dur)).bbCommit [braceRec p.vmin dur false]
    let g := g.onPwr fun p => { p with brace := false, recoverAt := none, held := none, heldTarget := none, fullReset := p.held }
    match p.heldTarget with
    | some v => g.target v
    | none => g
  | _, _ => g

/-! ### Loss of the rails (R584, R673) -/

/-- The rails go: a BRACE under way ends in a reset; writes may be lost where no BRACE commit completed (R597).
Log: entry 9 (DEDUCED). -/
def Gremon.loseRails (g : Gremon) (src : Nat) : Gremon :=
  let p := g.sys.pwr
  let g := if p.brace then (g.braceEnd 0xFFFF true).onPwr fun p => { p with lostMid := !p.braceCommit && decide (src ≠ 0) }
    else g.onPwr fun p => { p with lostMid := decide (src ≠ 0) }
  g.railsOff src

/-- INPUT_RESET: source 1 at or below 40.00 V; otherwise over-voltage or a rail's loss, source 7. -/
def Gremon.inputReset (g : Gremon) (vin : Nat) : Gremon := (g.vinIs vin).loseRails (if vin ≤ 4000 then 1 else 7)

/-- PWR_EN_FALL and PWR_EN_RISE (R673). -/
def Gremon.pwrEnFall (g : Gremon) : Gremon :=
  let g := if g.sys.pwr.rails then g.loseRails 0 else g
  g.onPwr fun p => { p with pwrEn := false }
def Gremon.pwrEnRise (g : Gremon) : Gremon := g.onPwr fun p => { p with pwrEn := true }

/-- POWER_GOOD: the input has been at 46.0 V or above for 10 ms; LM begins.
Log: entry 9 (DEDUCED). -/
def Gremon.powerGood (g : Gremon) (vin : Nat) : Gremon :=
  if g.sys.pwr.rails || !g.sys.pwr.pwrEn then g
  else g.onPwr fun p => { p with rails := true, vin := vin, goodAt := g.clock.lmNs }

/-! ### The host link (R529, R590, R600) -/

/-- HOST_LINK_TRAINED: lanes and GT/s of the trained link.
Log: entry 43 (DEDUCED; DESIGN CHOICE). -/
def Gremon.hostLink (g : Gremon) (width rate : Nat) : Gremon :=
  let g := g.onHost fun h => { h with linkUp := true, d0 := true }
  if width < 16 ∨ rate < 64 then g.raise .hostLinkDegraded [] else g

/-- PCIE_RESET: EN of every queue falls, each named in a DEFAULTED record; kits, links and time go on. -/
def Gremon.pcieReset (g : Gremon) : Gremon :=
  let g := (g.onHost fun h => { h with linkUp := false }).raise .hostReset []
  let g := (List.range 64).foldl (fun (g : Gremon) q =>
    let v := g.reg (kHq q 0x10)
    if bit v 10 then (g.hqCfg q (putBits v 10 10 0)).defaulted 0 (kHq q 0x10) 0 v (putBits v 10 10 0) 1 else g) g
  (List.range 16).foldl (fun (g : Gremon) r =>
    let v := g.reg (kRq r 8)
    if bit v 5 then (g.rqCfg r (putBits v 5 5 0)).defaulted 0 (kRq r 8) 0 v (putBits v 5 5 0) 1 else g) g

end Sys2Proof.Machine
end

