-- ==== Sys2Proof/Machine/Update.lean ====
section
/-! DEFINITION. Debug tokens, attestation, firmware staging, activation and confirmation (19). -/
namespace Sys2Proof.Machine
open Sys2Proof

/-! ### SVC (Table 19.6b) -/

/-- SVC stands beside the sixteen MGMT sessions in the list of answers. -/
def svcSession : Nat := 256
/-- Log: entry 47 (DEDUCED; DESIGN CHOICE). -/
def Gremon.svcAnswer (g : Gremon) (mseq : Nat) (bs : List Byte) : Gremon :=
  g.onHost fun h => { h with mgmtOut := h.mgmtOut ++ [(svcSession, mseq, bs)] }
/-- OK, or a reason by its number.
Log: entry 47 (DEDUCED; DESIGN CHOICE). -/
def Gremon.svcCode (g : Gremon) (mseq r : Nat) : Gremon := g.svcAnswer mseq (leBytes 4 r)

/-- An UPDATE record: 1 staging, 2 activation, 3 confirmation, 4 fall-back; the version running and the other.
Log: entry 46 (DEDUCED; DESIGN CHOICE). -/
def Gremon.updRecord (g : Gremon) (what : Nat) : Gremon :=
  g.bbCommit [{ ty := 12, body := leBytes 1 what ++ leBytes 4 (leAt g.sys.upd.running 24 4) ++ leBytes 4 (leAt g.sys.upd.other 24 4) }]

/-! ### Staging (R633–R635) -/

/-- The largest image: 48 MiB. -/
def imgMax : Nat := 50331648

/-- HWTYPE "GR-3224" and "AL-4", padded with 0 bytes. -/
def hwGr3224 : List Byte := [0x47, 0x52, 0x2D, 0x33, 0x32, 0x32, 0x34, 0x00]
def hwAl4 : List Byte := [0x41, 0x4C, 0x2D, 0x34, 0, 0, 0, 0]
def imgHw (b : List Byte) : List Byte := (b.drop 16 |>.take 8)
def imgAt (b : List Byte) : List Byte := (b.drop 8).take 8

/-- Sections inside the image, each with its check. -/
def sectsOk (b : List Byte) (types : List Nat) : Bool :=
  (pkSects b).all fun s => types.contains s.ty && decide (64 + 16 * leAt b 6 2 ≤ s.ofs) && decide (s.ofs + s.len + 96 ≤ b.length) &&
    decide (crc32c (sectBody b s) = s.crc)

/-- The form of a firmware image (Table 19.7a), whole. -/
def fwFormat (b : List Byte) : Bool :=
  decide (leAt b 0 4 = 0x4D495758) && decide (leAt b 4 2 = 1) && decide (1 ≤ leAt b 6 2) && decide (leAt b 6 2 ≤ 16) &&
  decide (leAt b 28 2 ≤ 63) && decide (leAt b 32 4 = b.length) && decide (b.length % 64 = 0) && decide (b.length ≤ imgMax) &&
  decide (64 + 16 * leAt b 6 2 + 96 ≤ b.length) && zeros b 36 28 && sectsOk b [1, 2, 3] &&
  ((List.range (leAt b 6 2)).all fun i => decide (leAt b (66 + 16 * i) 2 = 0))

/-- SVN of an image. -/
def fwSvn (b : List Byte) : Nat := leAt b 28 2

/-- An image of a GR-3224 that carries exactly one well-formed AL-4 image. -/
def fwType (b : List Byte) : Bool :=
  decide (imgAt b = hwGr3224) && decide (((imgSections b).filter fun s => decide (s.1 = 3)).length = 1) &&
    (let n := imgNested b; fwFormat n && decide (imgAt n = hwAl4) && decide (leAt n 30 2 = 0))

/-- STAGE_CHUNK. A chunk that comes while the inactive bank may not change is held apart.
Log: entry 46 (DEDUCED; DESIGN CHOICE). -/
def Gremon.stageChunk (g : Gremon) (mseq ofs : Nat) (bs : List Byte) : Gremon :=
  if ofs + bs.length > imgMax ∨ bs.length > 1048576 then (g.updReason 1).svcCode mseq 1
  else
    let u := g.sys.upd
    let buf := if g.updState = 1 ∨ g.updState ≥ 3 then u.buf else []
    let buf := padTo ofs (buf.take ofs) ++ bs ++ buf.drop (ofs + bs.length)
    let g := g.onUpd fun u => { u with buf := buf, otherOk := u.otherOk && decide (g.updState ≥ 3) }
    (if g.updState = 0 ∨ g.updState = 2 then g.updEvent 1 else g).svcCode mseq 0

/-- The reason that refuses a staged image, 0 for none (R634).
Log: entry 10 (DESIGN CHOICE), entry 46 (DEDUCED; DESIGN CHOICE). -/
def Gremon.stageReason (g : Gremon) (b : List Byte) (total : Nat) (sigOk nestedOk : Bool) : Nat :=
  let rbk := g.reg 0x10220
  if b.length ≠ total ∨ fwFormat b = false then 1
  else if !sigOk then 2
  else if !fwType b || !nestedOk then 3
  else if leAt b 16 8 ≠ 0 ∧ leAt b 16 8 ≠ g.serial.toNat then 4
  else if fwSvn b < bits rbk 5 0 ∨ fwSvn (imgNested b) < bits rbk 13 8 then 5
  else if g.updState ≥ 3 then 6 else 0

/-- STAGE_END. It waits while BRACE suspends NOR programs (Table 18.2).
Log: entry 43 (DEDUCED; DESIGN CHOICE), entry 46 (DEDUCED; DESIGN CHOICE). -/
def Gremon.stageEnd (g : Gremon) (mseq total : Nat) (sigOk nestedOk : Bool) : Gremon :=
  if g.sys.pwr.brace then
    g.onUpd fun u => { u with waits := u.waits ++ [{ mseq := mseq, total := total, sigOk := sigOk, nestedOk := nestedOk }] }
  else
    let b := g.sys.upd.buf.take total
    let r := g.stageReason b total sigOk nestedOk
    let g := g.onUpd fun u => { u with buf := [] }
    if r = 0 then
      let g := g.onUpd fun u => { u with other := b, otherOk := true, otherDigest := sha384 b }
      ((g.updEvent 2).updRecord 1).svcCode mseq 0
    else
      let g := if g.updState = 1 then g.setFld kUpd 2 0 0 else g
      (g.updReason r).svcCode mseq r

/-- NOR programs go on at the end of BRACE: each STAGE_END that waited, in order. -/
def Gremon.stageGoes (g : Gremon) : Gremon :=
  if g.sys.pwr.brace then g
  else
    let ws := g.sys.upd.waits
    ws.foldl (fun (g : Gremon) w => g.stageEnd w.mseq w.total w.sigOk w.nestedOk) (g.onUpd fun u => { u with waits := [] })

/-- SVC_STATUS: GR_UPD_STAT, GR_UPD_RBK, GR_PROT_NONCE.
Log: entry 47 (DEDUCED; DESIGN CHOICE). -/
def Gremon.svcStatus (g : Gremon) (mseq : Nat) : Gremon :=
  g.svcAnswer mseq (leBytes 4 (g.reg kUpd) ++ leBytes 4 (g.reg 0x10220) ++ leBytes 8 (g.reg64 0x10208))

/-! ### Schedules (R636–R638) -/

/-- SCHEDULE: the root decides; any other Gremon submits the payload to it. -/
def Gremon.scheduleReq (g : Gremon) (mseq : Nat) (p : List Byte) (sigOk : Bool) : Gremon :=
  let c : HostCmd :=
    { src := .mgmt svcSession mseq, mid := 0, data := p, segs := [], due := 0
      desc := leBytes 1 0x12 ++ leBytes 1 0 ++ leBytes 2 mseq ++ leBytes 12 0 ++ leBytes 4 p.length ++ leBytes 20 0 ++ leBytes 2 7 ++
        leBytes 22 0 }
  if g.root then
    let r := g.schedReason p sigOk
    if r = 0 then (g.schedIssue p).finish c 0 0 else (g.updReason r).finish c 1 r
  else g.start c

/-- HRSP_RX, with the reason of a schedule of this Gremon that the root has refused. -/
def Gremon.hrspTake (g : Gremon) (m : List Byte) : Gremon :=
  let mine := g.host.fwd.any fun c => decide (c.tag = leAt m 20 2) && decide (leAt m 18 1 = 0xFF) && decide (g.clk ≤ c.due) && (match c.src with
    | .mgmt s _ => decide (s = svcSession)
    | _ => false)
  (if mine && decide (leAt m 26 1 = 1) then g.updReason (leAt m 36 4) else g).hrspRx m

/-- The first whole second after now. -/
def Gremon.nextSecond (g : Gremon) : Nat := (g.now / 1000000000 + 1) * 1000000000

/-- ACTIVATION_TICK (R638, Table 19.10): a FULL reset with source 6, or deferred for BRACE or an open cut. -/
def Gremon.activationTick (g : Gremon) : Gremon :=
  if g.updState ≠ 3 ∨ g.sys.upd.tick = 0 then g
  else
    let g := g.moveTo g.sys.upd.tick
    let cut := g.svc.vig.cuts.any fun c => decide (c.state ≠ 2) && decide (c.tick ≤ g.sys.upd.tick)
    if g.sys.pwr.brace || cut then
      let first := g.sys.pwr.brace && !g.sys.upd.deferred
      let g := g.onUpd fun u => { u with tick := g.nextSecond, tickGone := false, deferred := true }
      let g := (g.setFld kUpd 4 4 1).updEvent 3
      if first then g.raise .activateDeferred [] else g
    else g.askFull 6

/-! ### Confirmation and fall-back (R640, R641) -/

/-- What CONFIRMING does once NV writes may go on: the counters are burnt up to the running images and the old bank and
format go. -/
def Gremon.confirmDone (g : Gremon) : Gremon :=
  if g.updState ≠ 5 ∨ g.sys.pwr.brace = true then g
  else
    let b := g.sys.upd.running
    let v := g.reg 0x10220
    let g := g.setReg 0x10220 (max (bits v 5 0) (fwSvn b % 64) + 256 * max (bits v 13 8) (fwSvn (imgNested b) % 64))
    let g := g.onUpd fun u => { u with otherOk := false, old := none, autoRevert := false, nvWrites := false }
    (g.updEvent 0).updRecord 3

/-- A CONFIRM while PENDING_CONFIRM.
Log: entry 46 (DEDUCED; DESIGN CHOICE). -/
def Gremon.confirm (g : Gremon) : Gremon := if g.updState = 4 then (g.updEvent 5).confirmDone else g
/-- A REVERT while PENDING_CONFIRM. -/
def Gremon.revert (g : Gremon) : Gremon := if g.updState = 4 then g.askFull 6 else g

/-- UPD_CTL_CONFIRM and UPD_CTL_REVERT: a write of GR_UPD_CTL with KEY 0xC3. -/
def Gremon.updCtl (g : Gremon) (v : Nat) : Gremon :=
  if bits v 15 8 ≠ 0xC3 then g
  else if bit v 0 then g.confirm else if bit v 1 then g.revert else g

/-- Whether an SVC CONFIRM or REVERT is of this module's running image and verifies under an operator key.
Log: entry 10 (DESIGN CHOICE), entry 46 (DEDUCED; DESIGN CHOICE). -/
def Gremon.cfmOk (g : Gremon) (b : List Byte) (sigOk : Bool) : Bool :=
  decide (b.length = 160) && decide (leAt b 0 8 = g.serial.toNat) && decide ((b.drop 8).take 48 = sha384 g.sys.upd.running) && sigOk &&
    zeros b 57 7 && g.opKeyOk (leAt b 56 1) && decide (g.updState = 4)
/-- Log: entry 46 (DEDUCED; DESIGN CHOICE). -/
def Gremon.svcConfirm (g : Gremon) (mseq : Nat) (b : List Byte) (sigOk : Bool) : Gremon :=
  if g.cfmOk b sigOk then g.confirm.svcCode mseq 0 else g.svcCode mseq 1
def Gremon.svcRevert (g : Gremon) (mseq : Nat) (b : List Byte) (sigOk : Bool) : Gremon :=
  if g.cfmOk b sigOk then g.revert.svcCode mseq 0 else g.svcCode mseq 1

/-- FALLBACK_READY_TIMEOUT: ROM finds the new firmware not READY 10 s after the activation reset. -/
def Gremon.fallbackReady (g : Gremon) : Gremon :=
  if g.updState = 4 ∧ g.sys.pwr.ready = false ∧ g.sys.pwr.rails = true then
    (g.moveTo (g.sys.upd.activatedAt + 10000000000)).askFull 6
  else g

/-- AUTO_REVERT_TIMEOUT: CONFIRM_WIN seconds after the unit's own activation. -/
def Gremon.autoRevertDue (g : Gremon) : Gremon :=
  let u := g.sys.upd
  if g.updState = 4 ∧ u.autoRevert = true ∧ u.confirmWin ≠ 0 then (g.moveTo (u.activatedAt + 1000000000 * u.confirmWin)).askFull 6
  else g

/-- The persistent store as it stands, and Gremon on another copy of it (R639, R641). -/
def Gremon.store (g : Gremon) : NvStore := { packs := g.svc.scr.packs, hw := g.sys.pwr.hwCommitted, certs := g.sys.prot.certs }
def Gremon.onStore (g : Gremon) (n : NvStore) : Gremon :=
  { g with
    svc := { g.svc with scr := { g.svc.scr with packs := n.packs } }
    sys := { g.sys with pwr := { g.sys.pwr with hwCommitted := n.hw }, prot := { g.sys.prot with certs := n.certs } } }

/-- The banks change places at a FULL reset with source 6 (R638, R639, R641): into the staged image from SCHEDULED, whose
firmware works on a copy of the store; back to the old one from PENDING_CONFIRM, which finds the store as it left it.
Log: entry 46 (DEDUCED; DESIGN CHOICE). -/
def Gremon.bankSwitch (g : Gremon) : Gremon :=
  let st := g.updState
  if st ≠ 3 ∧ st ≠ 4 then g
  else
    let u := g.sys.upd
    let late := u.deferred
    let g := g.onUpd fun u => { u with
      running := u.other, other := u.running, otherDigest := sha384 u.running, otherOk := decide (st = 3), tick := 0, deferred := false
      activatedAt := if st = 3 then g.clk else u.activatedAt
      old := if st = 3 then some g.store else none, nvWrites := false, autoRevert := u.autoRevert && decide (st = 3) }
    let g := g.setFld kUpd 3 3 (1 - g.fld kUpd 3 3)
    if st = 3 then ((g.setFld kUpd 4 4 (b2n late)).updEvent 4).updRecord 2
    else
      let g := match u.old with
        | some n => g.onStore n
        | none => g
      let g := (((g.setFld kUpd 5 5 1).updEvent 0).updRecord 4).raise .updateFallback []
      if u.nvWrites then g.defaulted 0 0 0 0 0 6 else g

/-! ### Debug tokens (R626) -/

/-- Change the protection state. -/
def Gremon.onProt (g : Gremon) (f : Protect → Protect) : Gremon := { g with sys := { g.sys with prot := f g.sys.prot } }

/-- A message of a session has come. -/
def Gremon.heard' (g : Gremon) (doe : Bool) (num : Nat) : Gremon :=
  g.onProt fun p => { p with sessions := p.sessions.map fun s => if s.doe = doe ∧ s.num = num then { s with beat := g.clk } else s }

/-- A new nonce. -/
def Gremon.newNonce (g : Gremon) : Gremon :=
  let (d, g) := g.draw
  (g.setReg 0x10208 (d % 2 ^ 32)).setReg 0x1020C (d / 2 ^ 32)

/-- A token is installed or gone: SEC_OK of every die follows. -/
def Gremon.setToken (g : Gremon) (t : Option (Nat × Nat)) : Gremon :=
  let g := g.onProt fun p => { p with token := t }
  ((List.range 512).filter fun l => (g.die l).accepted).foldl (fun (g : Gremon) l => g.secPush l) g

/-- The reason that refuses a token, 0 for none: TOK_FORMAT, TOK_UNIT, TOK_NONCE, TOK_TIME, TOK_SIG, TOK_CONF.
Log: entry 10 (DESIGN CHOICE), entry 47 (DEDUCED; DESIGN CHOICE). -/
def Gremon.tokReason (g : Gremon) (b : List Byte) (sigOk : Bool) : Nat :=
  let s := g.now / 1000000000
  if b.length ≠ 160 ∨ leAt b 0 4 ≠ 0x4E4B5444 ∨ leAt b 4 4 ≥ 4 ∨ zeros b 40 24 = false then 1
  else if leAt b 8 8 ≠ g.serial.toNat then 2
  else if leAt b 16 8 ≠ g.reg64 0x10208 then 3
  else if g.clock.own = .unset ∨ s < leAt b 24 8 ∨ s ≥ leAt b 32 8 then 4
  else if !sigOk then 5
  else if g.conf then 6 else 0

/-- SVC_TOKEN.
Log: entry 47 (DEDUCED; DESIGN CHOICE). -/
def Gremon.svcToken (g : Gremon) (mseq : Nat) (b : List Byte) (sigOk : Bool) : Gremon :=
  let r := g.tokReason b sigOk
  if r = 0 then ((g.setToken (some (leAt b 4 4, leAt b 32 8))).newNonce).svcCode mseq 0 else g.svcCode mseq r

/-- TOKEN_LAPSE. -/
def Gremon.tokenLapse (g : Gremon) : Gremon :=
  match g.sys.prot.token with
  | some t => if g.clock.own = .unset then g else (g.moveTo (1000000000 * t.2)).setToken none
  | none => g

/-! ### Dispatch of SVC messages -/

/-- A whole message on SVC: OP in its first four bytes, then the body of Table 19.6b.
Log: entry 47 (DEDUCED; DESIGN CHOICE). -/
def Gremon.svcMessage (g : Gremon) (mseq : Nat) (m : List Byte) (sigOk nestedOk : Bool) : Gremon :=
  let b := m.drop 4
  match leAt m 0 4 with
  | 1 => g.stageChunk mseq (leAt b 0 8) ((b.drop 16).take (leAt b 8 4))
  | 2 => g.stageEnd mseq (leAt b 0 4) sigOk nestedOk
  | 3 => g.scheduleReq mseq b sigOk
  | 4 => g.svcConfirm mseq b sigOk
  | 5 => g.svcRevert mseq b sigOk
  | 6 => g.svcToken mseq b sigOk
  | 7 => g.svcStatus mseq
  | _ => g

/-- MGMT_DATAGRAM (R545): a fragment; the message runs when it is whole.
Log: entry 47 (DEDUCED; DESIGN CHOICE). -/
def Gremon.mgmtDatagram (g : Gremon) (svc : Bool) (session mseq ofs len : Nat) (bs : List Byte) (sigOk nestedOk : Bool) : Gremon :=
  if !svc && !(g.sessionsUp.any fun s => !s.doe && decide (s.num = session)) then g
  else
    let g := if svc then g else g.heard' false session
    let r := g.mgmtFragment svc session mseq ofs len bs
    match r.2 with
    | some m => if svc then r.1.svcMessage mseq m sigOk nestedOk else (r.1.mgmtWake (leAt m 0 1)).mgmtCommand session mseq m
    | none => r.1

end Sys2Proof.Machine
end

