-- ==== Sys2Proof/Machine/Spdm.lean ====
section
/-! DEFINITION. Gremon as an SPDM responder: requests, measurements, sessions, bound queue pairs and the measurement
records of dies (19 R627–R631). Signatures and wire cryptography are outside the model. -/
namespace Sys2Proof.Machine
open Sys2Proof

/-! ### Measurements (Tables 19.5, 19.6, 19.6a) -/

/-- What the ROM holds is not part of the state: its measurement is fixed and unknown.
Log: entry 7 (DESIGN CHOICE), entry 48 (DEDUCED; DESIGN CHOICE; PRESUMED). -/
def romDigest : List Byte := (List.range 48).map fun i => Config.freeByte (2 ^ 80 + i)

/-- The microcode digest of a die: that of the image where the die reports its version, otherwise unknown.
Log: entry 7 (DESIGN CHOICE), entry 48 (DEDUCED; DESIGN CHOICE; PRESUMED). -/
def Gremon.ucodeDigest (g : Gremon) (r : MeasRec) : List Byte :=
  let img := g.alImage r.hdid
  if r.ucode.toNat = alUcodeVer img ∧ img ≠ [] then sha384 (alMicrocode img)
  else (List.range 48).map fun i => Config.freeByte (2 ^ 80 + 2 ^ 16 * (r.ucode.toNat + 1) + i)

/-- A lane's record; `age` gives AGE, which index 0x07 takes as 0. -/
def Gremon.measRecord (g : Gremon) (lane : Nat) (age : Bool) : List Byte :=
  match Tbl.find g.sys.prot.meas lane with
  | none => leBytes 2 lane ++ leBytes 1 2 ++ List.replicate 93 0
  | some r =>
    let a := match r.since with
      | some t => if age then sat 0xFFFFFFFF ((g.clk - t) / 1000000000) else 0
      | none => 0
    leBytes 2 lane ++ leBytes 1 (b2n r.since.isSome) ++ leBytes 1 0 ++ leBytes 4 r.pda ++ leBytes 8 r.hdid.toNat ++
      leBytes 4 r.alId.toNat ++ leBytes 4 r.alVer.toNat ++ leBytes 4 r.cfgid.toNat ++ leBytes 2 r.ucode.toNat ++
      leBytes 1 r.capGen.toNat ++ leBytes 1 0 ++ leBytes 4 r.phash.toNat ++ leBytes 4 a ++ leBytes 8 0 ++ g.ucodeDigest r

/-- The protection setup in register-address order (R620). -/
def Gremon.protSetup (g : Gremon) : List Byte :=
  let ks := [0x10200, 0x10204] ++ (List.range 64).flatMap (fun q => [0x20, 0x24, 0x28, 0x2C].map (kHq q)) ++
    (List.range 16).map (fun r => kRq r 0x1C) ++ (List.range 256).map (fun n => 0x200000 + 8 * n) ++
    (List.range 4096).map fun m => ind 0x200000 + 4 * m
  ks.flatMap fun k => leBytes 4 (g.reg k)

/-- The measurement of an index: its DMTF type and value; none for an index that is not reported.
Log: entry 48 (DEDUCED; DESIGN CHOICE; PRESUMED). -/
def Gremon.measure (g : Gremon) (i : Nat) : Option (Nat × List Byte) :=
  let u := g.sys.upd
  let p := g.sys.pwr
  let st := g.updState
  match i with
  | 0x01 => some (0, romDigest)
  | 0x02 => some (1, sha384 u.running)
  | 0x03 => some (1, sha384 (imgNested u.running))
  | 0x04 => some (3, sha384 (leBytes 4 (g.reg 0x10220)))
  | 0x05 => if p.image = 2 then none else some (3, sha384 (if p.image = 0 then p.copyA else p.copyB))
  | 0x06 => some (3, sha384 g.protSetup)
  | 0x07 => some (4, sha384 ((List.range 512).flatMap fun l => g.measRecord l false))
  | 0x08 => if st ≥ 2 then some (1, sha384 u.other) else none
  | 0x09 => if st ≥ 2 then some (1, sha384 (imgNested u.other)) else none
  | 0xF0 => some (0x83, leBytes 1 (g.reg kUpd % 256) ++ leBytes 1 (g.fld kUpd 3 3))
  | i =>
    if 0x10 ≤ i ∧ i < 0x50 then
      let k := g.kit (i - 0x10)
      let sig := ((pkOf k.pkg 15).head?.map (·.ofs)).getD k.pkg.length
      if k.state = 0 then none else some (1, sha384 (k.pkg.take sig))
    else none

/-- One measurement block: index, type, size, value.
Log: entry 48 (DEDUCED; DESIGN CHOICE; PRESUMED). -/
def measBlock (i : Nat) (m : Nat × List Byte) : List Byte := leBytes 1 i ++ leBytes 1 m.1 ++ leBytes 2 m.2.length ++ m.2

/-! ### Requests (R627, R630) -/

/-- Request codes of Table 19.4, from the SPDM standard.
Log: entry 48 (DEDUCED; DESIGN CHOICE; PRESUMED). -/
def spdmCodes : List Nat :=
  [0x84, 0xE1, 0xE3, 0x81, 0x82, 0x83, 0xE0, 0xE4, 0xE5, 0xE9, 0xE8, 0xEC, 0x85, 0x86, 0xFE]

/-- Answer on a transport: version, response code, two parameters, content.
Log: entry 48 (DEDUCED; DESIGN CHOICE; PRESUMED). -/
def Gremon.spdmAnswer (g : Gremon) (doe : Bool) (num code p1 p2 : Nat) (bs : List Byte) : Gremon :=
  g.onProt fun p => { p with spdmOut := p.spdmOut ++ [(doe, num, [0x13] ++ leBytes 1 code ++ leBytes 1 p1 ++ leBytes 1 p2 ++ bs)] }

/-- The time to retry, in 100 ms, from the bound of R592. -/
def Gremon.busyFor (g : Gremon) : Nat := (2200000000 + 99999999 - min 2200000000 (g.clk - g.sys.pwr.reqAt)) / 100000000

/-- Whether ROM answers for a firmware that is not running: from the activation tick until the responder runs. -/
def Gremon.spdmBusy (g : Gremon) : Bool := !g.sys.pwr.ready || decide (g.sys.pwr.fullReset = some 6)

/-- The live session with a number on a transport.
Log: entry 48 (DEDUCED; DESIGN CHOICE; PRESUMED). -/
def Gremon.session (g : Gremon) (doe : Bool) (num : Nat) : Option Session :=
  g.sessionsUp.find? fun s => decide (s.doe = doe ∧ s.num = num)
def Gremon.dropSession (g : Gremon) (doe : Bool) (num : Nat) : Gremon :=
  g.onProt fun p => { p with sessions := p.sessions.filter fun s => decide (¬(s.doe = doe ∧ s.num = num)) }

/-- SEQ of a MID's bounce records restarts (R555).
Log: entry 48 (DEDUCED; DESIGN CHOICE; PRESUMED). -/
def Gremon.sealRestart (g : Gremon) (mid : Nat) : Gremon :=
  g.onHost fun h => { h with sealIn := Tbl.erase h.sealIn mid, sealOut := Tbl.erase h.sealOut mid }

/-- SPDM_REQUEST: the message's code in its second byte. FINISH opens the session `num`, END_SESSION ends it, KEY_UPDATE
restarts its bounce records; GET_MEASUREMENTS answers the index in Param2 (0xFF: all).
Log: entry 48 (DEDUCED; DESIGN CHOICE; PRESUMED). -/
def Gremon.spdm (g : Gremon) (doe : Bool) (num : Nat) (m : List Byte) : Gremon :=
  let code := leAt m 1 1
  let ok := fun (g : Gremon) (bs : List Byte) => g.spdmAnswer doe num (code - 0x80) 0 0 bs
  if g.spdmBusy then g.spdmAnswer doe num 0x7F 0x03 g.busyFor []
  else if !spdmCodes.contains code then g.spdmAnswer doe num 0x7F 0x07 code []
  else
    let g := (g.onProt fun p => { p with sessions := g.sessionsUp }).heard' doe num
    if code = 0xE5 then
      if num ≥ 16 ∨ (g.session doe num).isSome = true then g.spdmAnswer doe num 0x7F 0x04 0 []
      else ok (g.onProt fun p => { p with sessions := p.sessions ++ [{ doe := doe, num := num, mid := none, beat := g.clk }] }) []
    else if code = 0xEC then ok (g.dropSession doe num) []
    else if code = 0xE9 then
      let g := match (g.session doe num).bind (·.mid) with
        | some mid => g.sealRestart mid
        | none => g
      ok g []
    else if code = 0xE0 then
      let i := leAt m 3 1
      let all := (List.range 254).filterMap fun j => (g.measure (j + 1)).map fun x => measBlock (j + 1) x
      let bs := if i = 0xFF then all.flatten else if i = 0 then leBytes 1 all.length else
        ((g.measure i).map (measBlock i)).getD []
      ok g bs
    else if code = 0x84 then ok g (leBytes 1 2 ++ leBytes 2 0x1200 ++ leBytes 2 0x1300)
    else ok g []

/-- BIND (R628): one live DOE session for a MID with GR_HQ_MID.CONF.
Log: entry 48 (DEDUCED; DESIGN CHOICE; PRESUMED). -/
def Gremon.spdmBind (g : Gremon) (num mid : Nat) : Gremon :=
  let conf := (List.range 64).any fun q => decide (g.fld (kHq q 0x20) 11 0 = mid) && bit (g.reg (kHq q 0x20)) 12
  let held := g.sessionsUp.any fun s => decide (s.mid = some mid) && decide (s.num ≠ num)
  if g.spdmBusy then g.spdmAnswer true num 0x7F 0x03 g.busyFor []
  else match g.session true num with
  | none => g.spdmAnswer true num 0x7F 0x06 0 []
  | some s =>
    if !conf || held || decide (mid = 0) then g.spdmAnswer true num 0x7F 0x01 0 []
    else
      let set := fun (x : Session) => if x.doe = s.doe ∧ x.num = s.num then { x with mid := some mid, beat := g.clk } else x
      ((g.onProt fun p => { p with sessions := p.sessions.map set }).sealRestart mid).spdmAnswer true num 0x7E 0 0 []

/-- AL_MEAS (R631): inside a secured session only. -/
def Gremon.alMeas (g : Gremon) (doe : Bool) (num lane : Nat) : Gremon :=
  if g.spdmBusy then g.spdmAnswer doe num 0x7F 0x03 g.busyFor []
  else if (g.session doe num).isNone then g.spdmAnswer doe num 0x7F 0x06 0 []
  else if lane ≥ 512 then g.spdmAnswer doe num 0x7F 0x01 0 []
  else g.spdmAnswer doe num 0x7E 0 0 (g.measRecord lane true)

end Sys2Proof.Machine
end

