-- ==== Sys2Proof/Machine/Boot.lean ====
section
/-! DEFINITION. Boot: the self-test, the factory values, the Defaults Image, the lock, the boot kits; the two resets that
lead to it, and pod bring-up (18 R592, R597, R608–R617). -/
namespace Sys2Proof.Machine
open Sys2Proof

/-! ### The Defaults Image (R608–R610) -/

/-- The form of a Defaults Image (Table 18.9). -/
def dimgFormat (b : List Byte) : Bool :=
  decide (160 ≤ b.length) && decide (leAt b 0 4 = 0x46444758) && decide (leAt b 4 2 = 1) && decide (leAt b 24 4 = b.length) &&
    decide (64 + 16 * leAt b 6 2 + 96 ≤ b.length) && decide (imgHw b = hwGr3224) && zeros b 28 36 && sectsOk b [1, 2, 3, 4, 5]

/-- IMG_SEQ. -/
def dimgSeq (b : List Byte) : Nat := leAt b 8 8

/-- The valid copy with the higher IMG_SEQ: 0 A, 1 B, 2 neither. -/
def Power.choose (p : Power) (t : SelfTest) : Nat :=
  let a := t.sigA && dimgFormat p.copyA
  let b := t.sigB && dimgFormat p.copyB
  if a && (!b || decide (dimgSeq p.copyA ≥ dimgSeq p.copyB)) then 0 else if b then 1 else 2

/-- A SETTINGS entry. -/
structure Setting where
  space : Nat
  addr  : Nat
  value : Nat
  msk   : Nat
deriving DecidableEq, Repr

/-- Elements of `n` bytes of a section. -/
def sectElems (b : List Byte) (ty n : Nat) : List (List Byte) :=
  let s := pkBody b ty
  (List.range (s.length / n)).map fun i => (s.drop (n * i)).take n

def dimgSettings (b : List Byte) : List Setting :=
  (sectElems b 1 16).map fun e => { space := leAt e 0 1, addr := leAt e 4 4, value := leAt e 8 4, msk := leAt e 12 4 }

/-- Whether an entry may be applied: a mapped address, and only bits that hold settings in MASK.
Log: entry 41 (DEDUCED; DESIGN CHOICE). -/
def Setting.ok (s : Setting) : Bool :=
  let within := fun (d : RegDesc) (b : Nat) => decide (d.writer ≠ .hrpOnly) && decide (s.msk &&& b = s.msk)
  match s.space with
  | 0 => if s.addr ≥ ind 0 then false else match regDesc .gremon s.addr with
    | some d => within d (d.rw ||| d.fb ||| d.bl)
    | none => false
  | 1 => match regDesc .gremon (ind s.addr) with
    | some d => within d (d.rw ||| d.fb ||| d.bl)
    | none => false
  | 2 => if s.addr ≥ ind 0 then false else match regDesc .ailen s.addr with
    | some d => within d (d.rw ||| d.fb)
    | none => false
  | 3 => match regDesc .ailen (ind s.addr) with
    | some d => within d (d.rw ||| d.fb)
    | none => false
  | _ => false

/-- The key of an entry of SPACE 0 or 1. -/
def Setting.key (s : Setting) : Nat := if s.space = 1 then ind s.addr else s.addr

/-- SETTINGS applied in order: Gremon's own registers at once, those of dies kept for their push; a faulty entry is skipped
and named.
Log: entry 44 (DEDUCED; DESIGN CHOICE). -/
def Gremon.settings (g : Gremon) (ss : List Setting) : Gremon :=
  ss.foldl (fun (g : Gremon) s =>
    if !s.ok then g.defaulted s.space s.addr 0 0 0 4
    else if s.space ≤ 1 then { g with regs := g.regs.write .gremon s.key s.msk s.value }
    else g.onPwr fun p => { p with pushList := p.pushList ++ [(s.space, s.addr, s.value, s.msk)] }) g

/-- Tier sizes that the image leaves out of range return to the factory values (R370).
Log: entry 44 (DEDUCED; DESIGN CHOICE). -/
def Gremon.histCfgCheck (g : Gremon) : Gremon :=
  let full := g.fld kHist 10 0
  let ms1 := g.fld kHist 21 11
  if full = 0 ∨ ms1 = 0 ∨ full + ms1 > 1289 then
    (g.setReg kHist (rstWord .gremon kHist)).defaulted (keySpace kHist) (keyAddr kHist) 0 (g.reg kHist) (rstWord .gremon kHist) 4
  else g

/-- GREMON_ID of the IDS entry that names this serial. -/
def Gremon.idOf (g : Gremon) (b : List Byte) : Option Nat :=
  ((sectElems b 2 16).find? fun e => decide (leAt e 0 8 = g.serial.toNat)).map fun e => leAt e 8 2 % 1024

/-- GREMON_ID 1,023 and PRIO 255, each named in a DEFAULTED record (R611). -/
def Gremon.noId (g : Gremon) (reason : Nat) : Gremon :=
  let prio := g.fld 0x3008008 7 0
  let g := (g.setFld kModule 9 0 1023).setFld 0x3008008 7 0 255
  (g.defaulted 0 kModule 0 0 1023 reason).defaulted 0 0x3008008 0 prio 255 reason

/-- The image of copy `n` takes effect.
Log: entry 41 (DEDUCED; DESIGN CHOICE). -/
def Gremon.applyImage (g : Gremon) (n : Nat) (t : SelfTest) : Gremon :=
  let b := if n = 0 then g.sys.pwr.copyA else g.sys.pwr.copyB
  let ss := dimgSettings b
  let g := (g.settings ss).histCfgCheck
  let kits := (t.kits.take (min 8 (sectElems b 4 16).length)).map (·.1)
  let dl := ((sectElems b 5 4).take 64).map fun e => (leAt e 0 2, toInt 16 (leAt e 2 2))
  let named := (ss.filter Setting.ok).map fun s => (s.space, s.addr)
  let g := g.onPwr fun p => { p with
    image := n, imgSeq := dimgSeq b, keys := t.keys, bootKits := kits, drowseList := dl, lastList := named }
  let g := g.bbCommit (imgRecs ((ss.filter Setting.ok).map fun s =>
    { space := s.space, addr := s.addr, pda := 0, before := 0, value := s.value }))
  match g.idOf b with
  | some i => g.setFld kModule 9 0 i
  | none => g.noId 4

/-- Neither copy is valid (R612): factory values alone.
Log: entry 41 (DEDUCED; DESIGN CHOICE). -/
def Gremon.noImage (g : Gremon) : Gremon :=
  let g := (g.onPwr fun p => { p with image := 2 }).raise .defaultsInvalid []
  let g := g.sys.pwr.lastList.foldl (fun (g : Gremon) e =>
    g.defaulted e.1 e.2 0 0 (if e.1 ≤ 1 then g.reg (if e.1 = 1 then ind e.2 else e.2) else rstWord .ailen (if e.1 = 3 then ind e.2 else e.2)) 3) g
  g.noId 3

/-! ### The self-test (Table 18.12, step 1) -/

/-- A core that fails its test is withdrawn, its slot going to a spare; one that was under suspicion and passes rejoins the
spares.
Log: entry 44 (DEDUCED; DESIGN CHOICE). -/
def Gremon.bootCore (g : Gremon) (t : SelfTest) (ct p : Nat) : Gremon :=
  if bit (g.reg (kCtMap ct p)) 6 then g
  else if t.cores.contains (ct, p) then
    let e := g.reg (kCtMap ct p)
    let g := g.retireCore ct p
    if !bit e 5 then g
    else match g.spareOf ct with
      | some q => if t.cores.contains (ct, q) then g else g.setReg (kCtMap ct q) e
      | none => g
  else if g.fld (kCoreErr ct p) 1 0 = 1 ∨ g.fld (kCoreErr ct p) 1 0 = 2 then g.setFld (kCoreErr ct p) 1 0 0 else g

/-- What the self-test leaves: dies and their states, links excluded, stacks, planes, cores; FAILED where no path is left
(R214).
Log: entry 44 (DEDUCED; DESIGN CHOICE). -/
def Gremon.selfTest (g : Gremon) (t : SelfTest) : Gremon :=
  let g := (List.range 32).foldl (fun (g : Gremon) d => g.setFld (kDieStat d) 1 0 (if t.dies.contains d then 3 else 1)) g
  let g : Gremon := { g with
    exclLinks := (t.links.map fun l => (min l.1 l.2, max l.1 l.2)).eraseDups
    deadStacks := t.stks.filter fun s => decide (s < 24) }
  let g := (List.range 16).foldl (fun (g : Gremon) c =>
    let n := t.planes.getD c 11
    g.setTse c { TseCt.off with planes := min 10 n, spare := decide (n ≥ 11) }) g
  let g := (List.range 16).foldl (fun (g : Gremon) c =>
    (List.range 34).foldl (fun (g : Gremon) p => g.bootCore t c p) g) g
  { g with failed := meshSplit g.exclLinks }

/-! ### Boot -/

/-- DEFAULTED for each setting of the committed host-write set, and UNKNOWN where writes may have been missed (R597).
Log: entry 41 (DEDUCED; DESIGN CHOICE). -/
def Gremon.reportLost (g : Gremon) : Gremon :=
  let p := g.sys.pwr
  let g := p.hwCommitted.foldl (fun (g : Gremon) e =>
    g.defaulted e.space e.addr e.pda e.value
      (if e.space = 2 then frameAct g.frameUs g.frameN else g.reg (if e.space = 1 then ind e.addr else e.addr)) 1) g
  let g := if p.lostMid then g.defaulted 0 0 0 0 0 6 else g
  let g := if p.hwCommitted.isEmpty then g else g.bbCommit [{ ty := 3, body := [] }]
  g.onPwr fun p => { p with hwCommitted := [], lostMid := false }

/-- The boot kits are placed in order (R407); refused ones raise BOOTKIT_REFUSED.
Log: entry 44 (DEDUCED; DESIGN CHOICE). -/
def Gremon.loadBootKits (g : Gremon) (t : SelfTest) : Gremon :=
  (t.kits.take g.sys.pwr.bootKits.length).foldl (fun (g : Gremon) k =>
    let r := g.loadKit k.1 true k.2
    if r.2.2.1 = 0 then r.1
    else (r.1.raise .bootkitRefused r.2.1).onPwr fun p => { p with kitsRef := min 15 (p.kitsRef + 1) }) g

/-- Boot after a reset of class `cls` and source `src`.
Log: entry 44 (DEDUCED; DESIGN CHOICE). -/
def Gremon.boot (g : Gremon) (t : SelfTest) (cls src : Nat) : Gremon :=
  let prev := g.bootCount
  let g := g.setFld kModule 31 16 ((prev + 1) % 65536)
  let g := g.onPwr fun p => { p with cls := cls, src := src, prevBoot := prev }
  let g := g.bbCommit [{ ty := 5, body := leBytes 4 (cls + 2 * src + 65536 * prev) ++ leBytes 8 g.sys.pwr.reqAt }]
  if !t.ready then g
  else
    let g := g.setReg (ind 0x200004) 0xFFF
    let n := g.sys.pwr.choose t
    let g := if n = 2 then g.noImage else g.applyImage n t
    let g := g.checkBinds.selfTest t
    let g := ((g.setFld kProtCtl 0 0 1).newNonce).beAlone
    let g := g.reportLost
    let g := g.onSite fun x => { x with since := g.clock.lmNs }
    let g := g.onPwr fun p => { p with ready := true, step := 1, wdtAt := g.clk, silentAt := g.clk }
    let now := (g.frameUs, g.scoreNs / 1000)
    let g := match g.svc.hist.frames.getLast? with
      | some e => if e.2.2 = now then g else g.logAdd g.now now.1 now.2
      | none => g.logAdd 0 now.1 now.2
    g.confirmDone.loadBootKits t

/-- POR_BOOT: once power is good.
Log: entry 44 (DEDUCED; DESIGN CHOICE). -/
def Gremon.porBoot (g : Gremon) (t : SelfTest) : Gremon :=
  if g.sys.pwr.rails && !g.sys.pwr.ready && decide (g.sys.pwr.step = 0) then g.boot t 0 g.sys.pwr.porSrc else g

/-- FULL_RESET: the reset that was requested is performed; with source 6 the banks change places.
Log: entry 45 (DEDUCED; DESIGN CHOICE). -/
def Gremon.fullReset (g : Gremon) (t : SelfTest) : Gremon :=
  match g.sys.pwr.fullReset with
  | some src =>
    if g.sys.pwr.rails = false then g
    else
      let req := g.sys.pwr.reqAt
      let g := g.fullWipe
      let g := g.onPwr fun p => { p with reqAt := req }
      (if src = 6 then g.bankSwitch else g).boot t 1 src
  | none => g

/-! ### Bring-up (R614–R617) -/

/-- GUYLINE_ENABLE: with quality LOCKED, or 3,000 ms after power-good. -/
def Gremon.glEnable (g : Gremon) : Gremon :=
  if !g.sys.pwr.ready || g.sys.pwr.glOn then g
  else
    let g := if g.quality = .locked then g else { g with clock := g.clock.lmTo (g.sys.pwr.goodAt + 3000000000) }
    g.onPwr fun p => { p with glOn := true, step := max p.step 4 }

/-- The system reduction of R616, whose second element is the number of dies accepted.
Log: entry 44 (DEDUCED; DESIGN CHOICE). -/
def Gremon.podContribute (g : Gremon) : Gremon :=
  let p := g.sys.pwr
  let boot := g.resident.any fun e => e.2.boot && decide (e.2.state = 2) && decide (e.2.faults = 0)
  if !p.ready || boot || !g.tree.joined || decide (g.tree.phase ≠ 0 ∧ g.tree.phase ≠ 2) || decide (p.podSent = some g.tree.epoch) then g
  else
    let n := (g.dies.filter fun e => e.2.accepted).length
    (g.onPwr fun p => { p with podSent := some g.tree.epoch }).redOwn 0xF0000002 0 g.tree.epoch [1, n]

/-- POD_READY_TIMEOUT: 5,000 ms after power-good the root delivers POD_READY_PARTIAL with the coverage it has.
Log: entry 44 (DEDUCED; DESIGN CHOICE). -/
def Gremon.podReadyTimeout (g : Gremon) : Gremon :=
  let p := g.sys.pwr
  if !g.root || p.podReady || p.podPartial || !p.ready then g
  else
    let g := { g with clock := g.clock.lmTo (p.goodAt + 5000000000) }
    let last := ((g.reds.filter fun r => decide (r.rid = 0xF0000002) && r.out.isSome).getLast?).bind (·.out)
    let members := (g.gid :: g.tree.joinedAs.map (·.1)).eraseDups
    let cov := match last with
      | some o => (o.drop 24).take 24
      | none => (Coverage.of 2 members.length (members.map eidGremon) false 0).bytes
    (g.raise .podReadyPartial cov).onPwr fun p => { p with podPartial := true }

end Sys2Proof.Machine
end

