-- ==== Sys2Proof/Machine/GRegs.lean ====
section
/-! DEFINITION. What writes of Gremon's registers do: locks, frame-buffered sets, the indirect windows, BAR0 accesses and
parity (17 R558–R578, 19 R620–R623, 18 R591, R596). -/
namespace Sys2Proof.Machine
open Sys2Proof

/-! ### Locks (R569, R623) -/

/-- The bit of GR_PROT_RLOCK that covers the register at `k` (Table 19.7); none for a register that no region holds.
Doorbells are never locked. -/
def lockBit (k : Nat) : Option Nat :=
  if k = kAlmCfg ∨ (0x300200 ≤ k ∧ k < 0x300218) then some 0
  else if 0x3000000 ≤ k ∧ k < 0x3006000 ∧ k % 0x1000 / 0x100 = 1 then some 1
  else if (ind 0xA0000 ≤ k ∧ k < ind 0xA0244) ∨ (ind 0xB0000 ≤ k ∧ k < ind 0xB8000) then some 2
  else if k = ind 0xD0000 ∨ k = ind 0xD0004 then some 3
  else if k = 0x10100 ∨ k = 0x10108 then some 4
  else if 0x100000 ≤ k ∧ k < 0x101000 then if k % 0x40 = 0x14 ∨ k % 0x40 = 0x18 then none else some 5
  else if 0x108000 ≤ k ∧ k < 0x108400 then if k % 0x40 = 0x10 then none else some 5
  else if 0x2000000 ≤ k ∧ k < 0x3000000 then some 6
  else none

/-- A write by `who` meets a region lock; CD firmware is not subject to them. -/
def Gremon.regionLocked (g : Gremon) (who : Requester) (k : Nat) : Bool :=
  decide (who ≠ .cd) && (match lockBit k with
    | some b => bit (g.reg 0x10204) b
    | none => false)

/-- LOCKED_WRITE, with the offset.
Log: entry 39 (DEDUCED; DESIGN CHOICE). -/
def Gremon.lockedWrite (g : Gremon) (k : Nat) : Gremon := g.raise .lockedWrite (leBytes 4 (keyAddr k))

/-! ### Stores -/

/-- A good word reaching the applied copy clears the register's fault (R575). -/
def Gremon.heal (g : Gremon) (k : Nat) : Gremon :=
  if g.regs.bad.isEmpty then g else { g with regs := { g.regs with bad := g.regs.bad.filter fun j => decide (j ≠ k) } }

/-- A setting changed by a writer outside boot enters the host-write set (R596).
Log: entry 41 (DEDUCED; DESIGN CHOICE). -/
def Gremon.noteWrite (g : Gremon) (d : RegDesc) (k before : Nat) : Gremon :=
  if d.data || decide (d.rw ||| d.bl = 0) || decide (g.regs.get .gremon k = before) then g
  else g.hwNote (keySpace k) (keyAddr k) 0 before (g.regs.get .gremon k)

/-- A write of GR_EXP_STAT that names its SEQ: DONE and ABORTED return to IDLE (Table 11.12).
Log: entry 39 (DEDUCED; DESIGN CHOICE). -/
def Gremon.expClear (g : Gremon) (v : Nat) : Gremon :=
  if bits v 31 24 = g.fld (ind 0x90040) 31 24 ∧ 2 ≤ g.fld (ind 0x90040) 1 0 then g.setFld (ind 0x90040) 1 0 0 else g

/-- A write of GR_TRC_CTL (Table 20.9). -/
def Gremon.trcCtl (g : Gremon) (d : RegDesc) (v : Nat) : Gremon :=
  let was := bit (g.reg 0x2000000) 0
  let g := { g with regs := g.regs.write .gremon 0x2000000 d.rw v }
  let g := if bit v 0 = was then g else g.trcEnable (bit v 0)
  if bit v 3 then g.traceFire else g

/-- A write of GR_WDT: PERIOD is written only from the PCIe function, and not under its lock (R591, R623).
Log: entry 39 (DEDUCED; DESIGN CHOICE). -/
def Gremon.wdtStore (g : Gremon) (who : Requester) (v : Nat) : Gremon :=
  let lock := g.regionLocked who 0x10108 && decide (bits v 15 0 ≠ g.fld 0x10108 15 0)
  let g := g.wdtWrite (decide (who = .pcie) && !g.regionLocked who 0x10108) v
  if lock then g.lockedWrite 0x10108 else g

/-- The effect of a write of the register at `k` that no lock stops; `fs` is what the host's memory answers when a doorbell
makes Gremon fetch.
Log: entry 39 (DEDUCED; DESIGN CHOICE). -/
def Gremon.storeReg (g : Gremon) (who : Requester) (d : RegDesc) (k v : Nat) (fs : List Fetched) : Gremon :=
  if k = ind 0x90040 then g.expClear v
  else if d.sqc ≠ 0 then { g with regs := g.regs.sqcClear .gremon k d.sqc v }
  else if d.fb ≠ 0 then { g with regs := g.regs.writeShadow .gremon k d.fb v (if g.clock.own = .unset then g.clock.lmNs else g.now) }
  else if k = 0x10004 then g.fullRequest false v
  else if k = 0x10100 then (g.pwrTarget v).heal k
  else if k = 0x10108 then (g.wdtStore who v).heal k
  else if k = 0x10214 then g.updCtl v
  else if 0x100000 ≤ k ∧ k < 0x101000 ∧ k % 0x40 = 0x10 then (g.hqCfg ((k - 0x100000) / 0x40) v).heal k
  else if 0x100000 ≤ k ∧ k < 0x101000 ∧ k % 0x40 = 0x14 then g.sqTail ((k - 0x100000) / 0x40) v fs
  else if 0x100000 ≤ k ∧ k < 0x101000 ∧ k % 0x40 = 0x18 then g.cqHead ((k - 0x100000) / 0x40) v fs
  else if 0x108000 ≤ k ∧ k < 0x108400 ∧ k % 0x40 = 8 then (g.rqCfg ((k - 0x108000) / 0x40) v).heal k
  else if 0x108000 ≤ k ∧ k < 0x108400 ∧ k % 0x40 = 0x10 then g.rqHead ((k - 0x108000) / 0x40) v
  else if k = 0x1000004 then g.release (v % 2 ^ 32)
  else if k = 0x2000000 then (g.trcCtl d v).heal k
  else if k = ind 0x90044 then (if bit v 0 then g.exportCancel else g)
  else if k = kScr then (({ g with regs := g.regs.write .gremon k d.rw v } : Gremon).heal k).scrRearm
  else if ind 0xB0000 ≤ k ∧ k < ind 0xB8000 ∧ k % 0x20 = 0 then (g.ckptCfg ((k - ind 0xB0000) / 0x20) v).heal k
  else
    let msk := d.rw ||| (if who = .cd then d.bl else 0)
    if msk = 0 then g else ({ g with regs := g.regs.write .gremon k msk v } : Gremon).heal k

/-- A write of the register at `k` by `who`.
Log: entry 39 (DEDUCED; DESIGN CHOICE). -/
def Gremon.writeReg (g : Gremon) (who : Requester) (k v : Nat) (fs : List Fetched) : Gremon :=
  match regDesc .gremon k with
  | none => g
  | some d =>
    if (decide (d.bl ≠ 0) && g.locked) || (g.regionLocked who k && decide (k ≠ 0x10108)) then g.lockedWrite k
    else (g.storeReg who d k v fs).noteWrite d k (g.regs.get .gremon k)

/-! ### Frame-buffered registers (R563–R566) -/

/-- The set that an FB register belongs to: ports 0–5, 6 the Lantern calibration, 7 the Lantern thresholds, 8 no check. -/
def fbSet (k : Nat) : Nat :=
  if 0x3000000 ≤ k ∧ k < 0x3006000 then (k - 0x3000000) / 0x1000
  else if ind 0xA0100 ≤ k ∧ k < ind 0xA0300 then 6
  else if k = ind 0xA000C ∨ k = ind 0xA0010 then 7
  else 8

/-- Whether set `s` passes its own check when its registers read `v`. -/
def fbSetOk (s : Nat) (v : Nat → Nat) : Bool :=
  if s < 6 then shapeOk s v else if s = 6 then lanCalOk v else if s = 7 then lanThrOk v else true

/-- The register at `k` as it will read once the due shadows of `now` apply. -/
def RegFile.after (r : RegFile) (now : Tbl (Word × Nat)) (k : Nat) : Nat :=
  match Tbl.find now k with
  | some (w, _) => merge (r.get .gremon k) (fbMask .gremon k) w.toNat
  | none => r.get .gremon k

/-- The due shadows apply in one step; a set that fails its check keeps its applied values and its shadow is discarded.
Log: entry 39 (DEDUCED; DESIGN CHOICE). -/
def Gremon.fbApply (g : Gremon) (due : Nat → Bool) (frame : Nat) : Gremon :=
  let now := g.regs.shadow.filter fun e => due e.2.2
  if now.isEmpty then g
  else
    let sets := (now.map fun e => fbSet e.1).eraseDups
    let refused := sets.filter fun s => !fbSetOk s (g.regs.after now)
    let good := now.filter fun e => !refused.contains (fbSet e.1)
    let was := g.regs
    let rest := g.regs.shadow.filter fun e => !due e.2.2
    let r := ({ g.regs with shadow := good } : RegFile).applyShadow .gremon fun _ => true
    let g : Gremon := { g with regs := { r with shadow := rest } }
    let g := good.foldl (fun (g : Gremon) e =>
      if g.regs.get .gremon e.1 = was.get .gremon e.1 then g
      else g.hwNote (keySpace e.1) (keyAddr e.1) 0 (was.get .gremon e.1) (g.regs.get .gremon e.1)) g
    let g := refused.foldl (fun (g : Gremon) s => if s < 6 then g.raise .rlShapeRefused [] else g.raise .lanternCfgBad []) g
    let g := g.sqcEvent 0x10008 2 1 (if refused.isEmpty then 1 else 2)
    (g.setReg 0x1000C (frame % 2 ^ 32)).setReg 0x10010 (frame / 2 ^ 32)

/-- FB_UNSET_APPLY: with PT UNSET a write applies 1 µs after it reached its register, the clock moving to the oldest
such instant. -/
def Gremon.fbUnsetApply (g : Gremon) : Gremon :=
  if g.clock.own ≠ .unset then g
  else match g.regs.shadow with
    | [] => g
    | e :: t =>
      let first := t.foldl (fun n x => min n x.2.2) e.2.2
      let g := g.moveTo (first + 1000)
      g.fbApply (fun n => decide (n + 1000 ≤ g.clock.lmNs)) 0

/-! ### Indirect windows (R570, R571) -/

/-- The key of window `w`'s ADDR; DATA, CTL and STAT follow it. -/
def kWin (w : Nat) : Nat := 0x800000 + 0x20 * w

def Gremon.winFail (g : Gremon) (w ecode : Nat) : Gremon :=
  (g.setFld (kWin w + 12) 3 2 ecode).sqcEvent (kWin w + 12) 0 0 1

def Gremon.winNext (g : Gremon) (w : Nat) : Gremon :=
  if bit (g.reg (kWin w + 8)) 0 then g.setReg (kWin w) ((g.reg (kWin w) + 4) % 2 ^ 32) else g

/-- The ECODE of an access through window `w` that is answered in time. -/
def Gremon.winCode (g : Gremon) (w : Nat) : Nat :=
  let k := g.reg (kWin w)
  if k % 4 ≠ 0 then 2 else if (regDesc .gremon (ind k)).isNone then 1 else 0

/-- Log: entry 39 (DEDUCED; DESIGN CHOICE). -/
def Gremon.winRead (g : Gremon) (w : Nat) : Gremon × Nat :=
  if g.winCode w ≠ 0 then ((g.winFail w (g.winCode w)).winNext w, 0)
  else
    let r := g.readReg (.window w) (ind (g.reg (kWin w)))
    (r.1.winNext w, r.2)

/-- Log: entry 39 (DEDUCED; DESIGN CHOICE). -/
def Gremon.winWrite (g : Gremon) (who : Requester) (w v : Nat) : Gremon :=
  if g.winCode w ≠ 0 then (g.winFail w (g.winCode w)).winNext w
  else (g.writeReg who (ind (g.reg (kWin w))) v []).winNext w

/-- An access that fails: UNMAPPED or UNALIGNED where the address is so, else the target did not answer in time. -/
def Gremon.winFailed (g : Gremon) (w : Nat) : Gremon :=
  (g.winFail w (if g.winCode w = 0 then 3 else g.winCode w)).winNext w

/-! ### BAR0 accesses (R559–R562) -/

/-- LO words of LO/HI pairs that lie on 8 bytes.
Log: entry 39 (DEDUCED; DESIGN CHOICE). -/
def isPairLo (k : Nat) : Bool :=
  decide (k = 0x10) || decide (k = 0x10208) || decide (k = 0x10218) || decide (k = 0x300010) || decide (k = 0x2000090) ||
    (decide (0x100000 ≤ k) && decide (k < 0x101000) && (decide (k % 0x40 = 0) || decide (k % 0x40 = 8))) ||
    (decide (0x108000 ≤ k) && decide (k < 0x108400) && decide (k % 0x40 = 0))

/-- Whether an access is of a size, alignment and place that BAR0 accepts. -/
def barOk (x : Access) : Bool :=
  (decide (x.size = 4) && decide (x.addr % 4 = 0) && decide (x.addr < 0x4000000) && (regDesc .gremon x.addr).isSome) ||
    (decide (x.size = 8) && decide (x.addr % 8 = 0) && isPairLo x.addr)

/-- Who reaches Gremon's registers: the PCIe function and CD firmware. -/
def Requester.toGremon : Requester → Bool
  | .pcie => true
  | .cd => true
  | _ => false

/-- One 4-byte read.
Log: entry 39 (DEDUCED; DESIGN CHOICE). -/
def Gremon.bar0Read (g : Gremon) (who : Requester) (k : Nat) : Gremon × Nat :=
  if 0x800000 ≤ k ∧ k < 0x800100 ∧ k % 0x20 = 4 then g.winRead ((k - 0x800000) / 0x20) else g.readReg who k

/-- One 4-byte write.
Log: entry 39 (DEDUCED; DESIGN CHOICE). -/
def Gremon.bar0Write (g : Gremon) (who : Requester) (k v : Nat) (fs : List Fetched) : Gremon :=
  if 0x800000 ≤ k ∧ k < 0x800100 ∧ k % 0x20 = 4 then g.winWrite who ((k - 0x800000) / 0x20) v else g.writeReg who k v fs

/-- A read: the answer is left in `rdData`. -/
def Gremon.accessRead (g : Gremon) (x : Access) : Gremon :=
  if !Requester.toGremon x.who then g
  else if !barOk x then { g.badReg with rdData := 0 }
  else
    let r := g.bar0Read x.who x.addr
    if x.size = 8 then
      let s := r.1.bar0Read x.who (x.addr + 4)
      { s.1 with rdData := BitVec.ofNat 64 (r.2 + 2 ^ 32 * s.2) }
    else { r.1 with rdData := BitVec.ofNat 64 r.2 }

/-- A write. -/
def Gremon.accessWrite (g : Gremon) (x : Access) (fs : List Fetched) : Gremon :=
  if !Requester.toGremon x.who then g
  else if !barOk x then g.badReg
  else
    let g := g.bar0Write x.who x.addr (x.data.toNat % 2 ^ 32) fs
    if x.size = 8 then g.bar0Write x.who (x.addr + 4) (x.data.toNat / 2 ^ 32) fs else g

/-! ### Parity (R572–R577) -/

/-- A mismatch found at `k`: `v` and `p` are the value and the parity bit read. A second fault in the same copy while the
first holds adds nothing. Where the function falls back to the reset value, DEFAULTED names the register (Table 17.3).
Log: entry 40 (DEDUCED; DESIGN CHOICE). -/
def Gremon.parityFault (g : Gremon) (k : Nat) (shadow : Bool) (v : Word) (p : Bool) : Gremon :=
  match regDesc .gremon k with
  | none => g
  | some d =>
    if d.data || decide (d.rw ||| d.fb ||| d.bl = 0) || (!shadow && g.regs.bad.contains k) ||
        (shadow && (decide (d.fb = 0) || (Tbl.find g.regs.shadow k).isNone)) then g
    else
      let entry := leBytes 1 (keySpace k) ++ leBytes 4 (keyAddr k) ++ leBytes 4 v.toNat ++ leBytes 1 (b2n p) ++
        leBytes 1 (b2n shadow) ++ g.stamp.bytes
      let g := (g.raise .cfgParity entry).bbCommit [{ ty := 10, body := entry }]
      let g := (g.setFld 0x10014 2 2 (b2n shadow)).sqcEvent 0x10014 1 1 1
      let g := g.setReg 0x10018 (keyAddr k % 2 ^ 28 + 2 ^ 28 * keySpace k)
      if shadow then { g with regs := { g.regs with shadow := Tbl.erase g.regs.shadow k } }
      else
        let before := g.regs.get .gremon k
        let r := g.regs.write .gremon k (d.rw ||| d.fb ||| d.bl) v.toNat
        let g : Gremon := { g with regs := { r with bad := k :: r.bad } }
        if gParityOwn k then g else g.defaulted (keySpace k) (keyAddr k) 0 before (rstWord .gremon k) 5

end Sys2Proof.Machine
end

