-- ==== Sys2Proof/Machine/Boundary.lean ====
section
/-! DEFINITION. Gremon's frame boundary and all that takes effect at it, and thermal protection (01 R39–R43, 17 R565,
21 R675, R676). -/
namespace Sys2Proof.Machine
open Sys2Proof

/-! ### Frame boundary -/

/-- Periods of reductions that ended under the old frame length and have not closed keep their ends, whatever they are
called; the next of each is the one that opens.
Log: entry 57 (DEDUCED). -/
def Gremon.redRenumber (g : Gremon) (t : Nat) : Gremon :=
  let old := g.redNext.flatMap fun e =>
    match g.decl e.1 with
    | some d => ((List.range (t / max 1 (g.redLen d) - e.2)).map fun i => (e.1, e.2 + i, (e.2 + i + 1) * g.redLen d))
    | none => []
  { g with redOld := g.redOld ++ old }

/-- A change of F or S at its tick (R42): blocks of history seal, feeds and periods end, and the log of frame lengths
gains an entry (R372, R375).
Log: entry 57 (DEDUCED). -/
def Gremon.frameChange (g : Gremon) (f n t : Nat) : Gremon :=
  let g := (g.histSealAll).redRenumber t
  let g := (g.feedsHere.filter fun x => decide ((x.nextAt + x.frames) * g.frameNs ≤ t)).foldl (fun (g : Gremon) x => g.feedSend x) g
  let g := g.hwNote 2 0x402C 0 (frameAct g.frameUs g.frameN) (frameAct f n)
  let g : Gremon := { g with frameUs := f, frameN := n, frameNext := none }
  let k := t / max 1 g.frameNs
  let g : Gremon := { g with feeds := g.feeds.map fun x => { x with nextAt := k, got := [] } }
  let next := g.redNext.map fun e => (e.1, match g.decl e.1 with
    | some d => t / max 1 (g.redLen d)
    | none => e.2)
  let g : Gremon := { g with redNext := next }
  let g := g.resident.foldl (fun (g : Gremon) e =>
    (g.setKit e.1 { e.2 with phases := e.2.phases.map fun ph => { ph with next := 0 } }).phasesFrom e.1 t) g
  (g.onLan fun l => { l with lastK := none }).logAdd t f (n * f)

/-- Everything that takes effect at the boundary at `t`.
Log: entry 57 (DEDUCED). -/
def Gremon.boundaryAt (g : Gremon) (t : Nat) : Gremon :=
  let g : Gremon := { g with regs := { g.regs with force := g.regs.bad } }
  let g := g.fbApply (fun a => decide (a + 1000 < t)) (t / g.frameNs)
  let g := match g.frameNext with
    | some (f, n, tick) => if tick ≤ t then g.frameChange f n t else g
    | none => g
  let g := ((g.bindsDue t).packsApply).planeSwitches
  let g := (List.range 6).foldl (fun (g : Gremon) p => g.laneSwitch p t) g
  let g := (g.coreMoves.kitHalts).sleepDue t
  let g := if g.sys.pwr.pstate < 2 ∧ g.sys.pwr.waking = false then g.kitsWake t else g
  (g.redEnded).drowseTick t

/-- FRAME_BOUNDARY in Gremon: PT reaches the next multiple of F. None falls while PT is UNSET.
Log: entry 57 (DEDUCED). -/
def Gremon.frameBoundary (g : Gremon) : Gremon :=
  if g.clock.own = .unset ∨ g.frameNs = 0 ∨ g.sys.pwr.ready = false then g
  else
    let t := (g.now / g.frameNs + 1) * g.frameNs
    (g.moveTo t).boundaryAt t

/-- SCORING_BOUNDARY in Gremon: the frame boundary that comes next is a multiple of S too (R40); the work of a scoring
period has commands of its own.
Log: entry 57 (DEDUCED). -/
def Gremon.scoringBoundary (g : Gremon) : Gremon :=
  if g.scoreNs ≠ 0 ∧ g.frameNs ≠ 0 ∧ (g.now / g.frameNs + 1) * g.frameNs % g.scoreNs = 0 then g.frameBoundary else g

/-! ### Thermal protection (Table 21.7); temperatures in 1/64 °C -/

/-- Change the thermal state.
Log: entry 51 (DEDUCED). -/
def Gremon.onHot (g : Gremon) (f : Thermal → Thermal) : Gremon := { g with sys := { g.sys with hot := f g.sys.hot } }

/-- A condition: entered at or above `on` °C, left below `off` °C. -/
def held (was : Bool) (temp : Int) (on off : Nat) : Bool :=
  decide (temp ≥ 64 * on) || (was && decide (temp ≥ 64 * off))

/-- Whether the die is a CT. -/
def isCt (cdn : Nat) : Bool := decide (cdn < 16)

/-- The conditions after a reading. -/
def Gremon.conditions (g : Gremon) (h : Thermal) : Thermal :=
  let die := fun (d : Nat) => Tbl.get 0 h.dies d
  let st := fun (s : Nat) => Tbl.get 0 h.stks s
  let warmD := (List.range 32).filter fun d =>
    if isCt d then held (h.warm.contains d) (die d) 100 95 else held (h.warm.contains d) (die d) 105 100
  let warmS := ((List.range 24).filter fun s => held (h.warm.contains (32 + s)) (st s) 85 82).map (32 + ·)
  let hotD := (List.range 16).filter fun d =>
    held (h.hot.contains d) (die d) 108 103 && (h.hot.contains d || decide (min g.dvfs (Tbl.get 20000 h.ceiling d) = 12000))
  let hotS := ((List.range 24).filter fun s => held (h.hot.contains (32 + s)) (st s) 95 92).map (32 + ·)
  { h with warm := warmD ++ warmS, hot := hotD ++ hotS }

/-- The ceilings after 1 ms: down by 100 MHz for a warm CT, to 1.2 GHz at least; up by 100 MHz for another. -/
def Thermal.ceilings (h : Thermal) (dvfs : Nat) : Thermal :=
  { h with ceiling := (List.range 16).foldl (fun t d =>
      let c := min dvfs (Tbl.get 20000 t d)
      if h.warm.contains d then Tbl.set 20000 t d (max 12000 (c - 1000))
      else if Tbl.get 20000 t d < 20000 then Tbl.set 20000 t d (if Tbl.get 20000 t d + 1000 ≥ dvfs then 20000 else Tbl.get 20000 t d + 1000)
      else t) h.ceiling }

/-- A trip: the black-box record is committed, unless the commit of a BRACE has completed, and every rail goes; the next
boot is a POR with source 7.
Log: entry 51 (DEDUCED). -/
def Gremon.trip (g : Gremon) : Gremon :=
  let g := if g.sys.pwr.brace && g.sys.pwr.braceCommit then g else g.hwCommit [g.evTail]
  g.loseRails 7

/-- A table of readings by index. -/
def readings (l : List (BitVec 16)) (n : Nat) : Tbl Int :=
  (List.range n).foldl (fun t d => Tbl.set 0 t d ((l.getD d 0).toInt)) []

/-- Whether a trip condition holds.
Log: entry 51 (DEDUCED). -/
def Thermal.beyond (h : Thermal) : Bool :=
  ((List.range 32).any fun d => decide (Tbl.get 0 h.dies d ≥ 7360)) || ((List.range 24).any fun s => decide (Tbl.get 0 h.stks s ≥ 6720))

/-- The trip timer at LM `now`.
Log: entry 51 (DEDUCED). -/
def Gremon.tripCheck (g : Gremon) (now : Nat) : Gremon :=
  if !g.sys.hot.beyond then g.onHot fun h => { h with tripAt := none }
  else match g.sys.hot.tripAt with
    | none => g.onHot fun h => { h with tripAt := some now }
    | some t => if now ≥ t + 1000000 then g.trip else g

/-- The ceilings move once a millisecond.
Log: entry 51 (DEDUCED), entry 59 (DEDUCED). -/
def Gremon.ceilingStep (g : Gremon) (now : Nat) : Gremon :=
  if now ≥ g.sys.hot.stepAt + 1000000 then g.onHot fun h => { h.ceilings g.dvfs with stepAt := now } else g

/-- THERMAL_READING: the clock moves to the next reading, 100 µs after the last; `dies` by CDN, `stacks` by stack.
Log: entry 51 (DEDUCED). -/
def Gremon.thermalReading (g : Gremon) (dies stks : List (BitVec 16)) : Gremon :=
  let g : Gremon := { g with clock := g.clock.lmTo ((g.clock.lmNs / 100000 + 1) * 100000) }
  let g := g.onHot fun h => g.conditions { h with dies := readings dies 32, stks := readings stks 24 }
  (g.ceilingStep g.clock.lmNs).tripCheck g.clock.lmNs

/-- The ENGINE and TSE islands of a CT run at half rate: hot, or in BRACE; never at a quarter (R676). -/
def Gremon.halfRate (g : Gremon) (ct : Nat) : Bool := g.sys.pwr.brace || g.sys.hot.hot.contains ct

/-- A stack whose refresh rate its MH has doubled. -/
def Gremon.fastRefresh (g : Gremon) (s : Nat) : Bool := g.sys.hot.warm.contains (32 + s)

/-! ### Sideband outputs (Table 21.9), low when asserted -/

def Gremon.thermN (g : Gremon) : Bool :=
  !(g.sys.hot.warm.any fun d => decide (d < 32)) && g.sys.hot.hot.isEmpty
def Gremon.alertN (g : Gremon) : Bool := !(decide (g.module ≥ 2) || g.sys.pwr.brace)
def Gremon.modPrsntN (_ : Gremon) : Bool := false

end Sys2Proof.Machine
end

