-- ==== Sys2Proof/Machine/Settle.lean ====
section
/-! DEFINITION. What follows from a command within the same step of Gremon: halted cores reach their kits, signals reach the
reductions, and every event filed is offered to the result queues, the trace trigger and the black-box record (07 R269,
12 R403, 09 R324, 20 R647, R654, R665). -/
namespace Sys2Proof.Machine
open Sys2Proof

/-- A core of a kit has halted: HALT of them all stops the kit, any other reason faults it (R403). -/
def Gremon.coreHalted (g : Gremon) (n : Nat) : Gremon :=
  match g.slotHolder n with
  | none => g
  | some (slot, k) =>
    match (g.core n).halt.toNat with
    | 1 =>
      if k.state = 3 ∧ (k.cores.all fun c => !(g.core c).run && decide ((g.core c).halt = 1)) = true then g.setKit slot { k with state := 6 }
      else g
    | 2 => g.kitFault slot 3
    | 3 => g.kitFault slot 2
    | 4 => g.kitFault slot 4
    | _ => g

/-- Every core halted within the command.
Log: entry 8 (DESIGN CHOICE). -/
def Gremon.haltsSettle (g : Gremon) : Gremon :=
  g.halted.foldl (fun (g : Gremon) n => g.coreHalted n) { g with halted := [] }

/-- One event is offered: result queues (KIND 8), the trace trigger, and a FAULT record where its code asks for one.
Log: entry 8 (DESIGN CHOICE), entry 60 (DESIGN CHOICE; DEDUCED; PRESUMED). -/
def Gremon.offer (g : Gremon) (e : GEvent) : Gremon :=
  let g := g.count 306 1
  let g := g.deliver 8 false e.job.toNat e.bytes
  let g := if bbFaultCodes.contains e.code.toNat then g.bbFault e else g
  let filed := decide (Tbl.find g.log.slots (e.rseq.toNat % 16384) = some e)
  if filed && bit (g.reg 0x2000000) 4 && decide (g.fld 0x2000000 31 16 = e.code.toNat) then g.traceFire else g

/-- The events waiting are offered, in order of filing.
Log: entry 8 (DESIGN CHOICE). -/
def Gremon.offerAll (g : Gremon) : Gremon :=
  g.log.offers.foldl (fun (g : Gremon) e => g.offer e) { g with log := { g.log with offers := [] } }

/-- Nothing waits: no event to be offered, no halt for its kit. -/
def Gremon.clear (g : Gremon) : Gremon := { g with halted := [], log := { g.log with offers := [] } }

/-- What follows from a command, until nothing waits. A trace trigger files one event more, which two passes offer.
Log: entry 8 (DESIGN CHOICE). -/
def Gremon.settle (g : Gremon) : Gremon :=
  if g.sys.pwr.rails then (((g.haltsSettle).redSignals).podContribute).idleExit.offerAll.offerAll.offerAll.clear else g.clear

end Sys2Proof.Machine
end

