-- ==== Sys2Proof/Machine/State.lean ====
section
/-! DEFINITION. The machine: AILEN, Gremon, and the queue of commands that wait. -/
namespace Sys2Proof.Machine
open Sys2Proof

/-- The whole state: one AILEN and one Gremon, and the commands waiting, first in, first out.
Log: entry 3 (DESIGN CHOICE). -/
structure State where
  a       : Ailen
  g       : Gremon
  pending : List Instr
deriving DecidableEq, Repr

/-- The faults of a step. The part has no error that stops it: every error the spec names is a record, a status or a state
from which it goes on, so no meaning answers with a fault. -/
inductive Fault where
deriving DecidableEq, Repr

/-- Why a command is refused. -/
inductive Refusal where
  /-- The command has no meaning in the model. No arm of the dispatch raises it. Safe: the machine stops. -/
  | notModelled (mnemonic : String)
deriving DecidableEq, Repr

/-- The machine right after reset: AILEN and Gremon in their reset states, no command waiting.
Log: entry 1 (DESIGN CHOICE). -/
def State.reset : State := { a := Ailen.reset, g := Gremon.reset, pending := [] }

end Sys2Proof.Machine
end

