-- ==== Sys2Proof/Machine/Wrap.lean ====
section
/-! DEFINITION. How a command reaches its part: AILEN or Gremon, at the instant it names, on the lane, core, port, tray or
slot it names. A command that names what does not exist changes nothing. Every change of Gremon is settled before the
command ends. -/
namespace Sys2Proof.Machine
open Sys2Proof

/-! ### The parts -/

/-- A command to AILEN. -/
def onA (s : State) (f : Ailen → Ailen) : Host.Outcome State Fault Refusal := .next { s with a := f s.a }

/-- A signal at AILEN's pins at `ns`.
Log: entry 4 (DESIGN CHOICE; DEDUCED). -/
def onPins (s : State) (ns : Nat) (f : Ailen → Ailen) : Host.Outcome State Fault Refusal := onA s fun a => f (a.moveTo ns)

/-- A change of Gremon's power, which its rails do not gate.
Log: entry 9 (DEDUCED). -/
def onPower (s : State) (f : Gremon → Gremon) : Host.Outcome State Fault Refusal := .next { s with g := (f s.g).settle }

/-- Gremon while its rails are on.
Log: entry 9 (DEDUCED). -/
def Gremon.powered (g : Gremon) (f : Gremon → Gremon) : Gremon := if g.sys.pwr.rails then f g else g

/-- A command to Gremon.
Log: entry 9 (DEDUCED). -/
def onG (s : State) (f : Gremon → Gremon) : Host.Outcome State Fault Refusal := onPower s fun g => g.powered f

/-- A command to Gremon at `ns`. -/
def onGAt (s : State) (ns : Nat) (f : Gremon → Gremon) : Host.Outcome State Fault Refusal := onG s fun g => f (g.moveTo ns)

/-- A command to one of `lim` like things of Gremon. -/
def onNth (lim : Nat) (s : State) (n : Nat) (f : Gremon → Gremon) : Host.Outcome State Fault Refusal :=
  onG s fun g => if n < lim then f g else g

/-- A command on a Guyline lane, of a Brutu core, of a CT's engines, on a Ridgeline port, to a kit slot. -/
def onLane (s : State) (n : Nat) (f : Gremon → Gremon) : Host.Outcome State Fault Refusal := onNth 512 s n f
def onCore (s : State) (n : Nat) (f : Gremon → Gremon) : Host.Outcome State Fault Refusal := onNth 512 s n f
def onCt (s : State) (n : Nat) (f : Gremon → Gremon) : Host.Outcome State Fault Refusal := onNth 16 s n f
def onPort (s : State) (n : Nat) (f : Gremon → Gremon) : Host.Outcome State Fault Refusal := onNth 6 s n f
def onSlot (s : State) (n : Nat) (f : Gremon → Gremon) : Host.Outcome State Fault Refusal := onNth 64 s n f

/-- A command that either part takes. -/
def onPart (s : State) (p : Part) (fa : Ailen → Ailen) (fg : Gremon → Gremon) : Host.Outcome State Fault Refusal :=
  match p with
  | .ailen => onA s fa
  | .gremon => onG s fg

/-- The same at `ns`. -/
def onPartAt (s : State) (p : Part) (ns : Nat) (fa : Ailen → Ailen) (fg : Gremon → Gremon) :
    Host.Outcome State Fault Refusal :=
  match p with
  | .ailen => onPins s ns fa
  | .gremon => onGAt s ns fg

/-- A link event at one end of a Guyline link. -/
def onLink (s : State) (e : GlEnd) (ns : Nat) (f : Part → Stamp → GlLink → GlLink × GlNews) :
    Host.Outcome State Fault Refusal :=
  match e with
  | .ailen => onA s fun a => a.onLink ns (f .ailen)
  | .lane n => onG s fun g => g.onLane n ns (f .gremon)

/-- PT_STEP_TICK (R144): the ordered step in both parts at once; nothing is ordered while Gremon holds none.
Log: entry 14 (DEDUCED; DESIGN CHOICE; PRESUMED). -/
def ptStepBoth (s : State) (cutOfs : BitVec 16) : Host.Outcome State Fault Refusal :=
  match (if s.g.sys.pwr.rails then s.g.nextStep else none) with
  | some (tick, amount) => .next { s with a := s.a.ptStep tick amount cutOfs, g := s.g.ptStep.settle }
  | none => .next s

/-! ### Register accesses -/

/-- A 4-byte access. -/
def a4 (who : Requester) (addr v : Nat) : Access := { who := who, addr := addr, size := 4, data := BitVec.ofNat 64 v }

/-- What the map says of a direct address; of an unmapped one, nothing. -/
def keyDesc (p : Part) (addr : Nat) : RegDesc := (regDesc p addr).getD { base := addr }

/-- A write and a read of a direct register at `ns`.
Log: entry 4 (DESIGN CHOICE; DEDUCED). -/
def writeAt (s : State) (p : Part) (x : Access) (ns : Nat) : Host.Outcome State Fault Refusal :=
  onPartAt s p ns (fun a => a.accessWrite x) fun g => g.accessWrite x []
/-- Log: entry 4 (DESIGN CHOICE; DEDUCED). -/
def readAt (s : State) (p : Part) (x : Access) (ns : Nat) : Host.Outcome State Fault Refusal :=
  onPartAt s p ns (fun a => a.accessRead x) fun g => g.accessRead x

/-- An access to the DATA word of an indirect window: a write of `v`, or a read. AILEN has one window; Gremon has 8. -/
def windowAt (s : State) (p : Part) (who : Requester) (w : Nat) (v : Option Word) (ns : Nat) :
    Host.Outcome State Fault Refusal :=
  let addr := match p with
    | .ailen => 0xF004
    | .gremon => 0x800004 + 0x20 * (w % 8)
  match v with
  | some v => writeAt s p (a4 who addr v.toNat) ns
  | none => readAt s p (a4 who addr 0) ns

/-- The LO word of PT. -/
def ptLo : Part → Nat
  | .ailen => 0x4004
  | .gremon => 0x300010

/-- The last word of a recorder window: AILEN has one, Gremon has four. -/
def erLast (p : Part) (k : Nat) : Nat :=
  match p with
  | .ailen => 0xA07C
  | .gremon => 0x100017C + 0x100 * (k % 4)

/-! ### Gremon's messages and ports as commands name them -/

/-- HCMD_RX and HRSP_RX: the oldest of their type is taken. -/
def Gremon.hcmdMsg (g : Gremon) : Gremon := g.onRl 0x26 fun g m => g.hcmdRx m.bytes
def Gremon.hrspMsg (g : Gremon) : Gremon := g.onRl 0x27 fun g m => g.hrspTake m.bytes

/-- RL_PORT_DOWN: an UP port goes DOWN. -/
def Gremon.rlDown (g : Gremon) (p : Nat) : Gremon := if g.portUp p then g.portDown p .down else g

end Sys2Proof.Machine
end

