-- ==== Sys2Proof/Machine/ExecAilen.lean ====
section
/-! DEFINITION. The meanings of the commands of AILEN's pins, capture and timers. -/
namespace Sys2Proof.Machine
open Sys2Proof

/-- FRAME_BOUNDARY (R39). -/
def execFrameBoundary (p : Part) (clr : List Nat) (cutOfs : BitVec 16) (s : State) : Host.Outcome State Fault Refusal :=
  onPart s p (fun a => a.frameBoundary clr cutOfs) fun g => g.frameBoundary

/-- SCORING_BOUNDARY (R40). -/
def execScoringBoundary (p : Part) (s : State) : Host.Outcome State Fault Refusal :=
  onPart s p (fun a => a.scoringBoundary) fun g => g.scoringBoundary

/-- SAMPLE_BLOCK_CODED (R117). -/
def execSampleBlockCoded (s : State) : Host.Outcome State Fault Refusal :=
  onA s fun a => a.codeBlock

/-- AO_POR_ASSERT (R59). -/
def execAoPorAssert (at' : Nat) (s : State) : Host.Outcome State Fault Refusal :=
  onPins s at' fun a => a.aoPor

/-- AO_POR_RELEASE (R54). -/
def execAoPorRelease (hdid : BitVec 64) (at' : Nat) (s : State) : Host.Outcome State Fault Refusal :=
  onPins s at' fun a => a.aoPorRelease hdid

/-- MAIN_RST_ASSERT (R67). -/
def execMainRstAssert (at' : Nat) (s : State) : Host.Outcome State Fault Refusal :=
  onPins s at' fun a => a.mainRst

/-- EVP_INCREMENT (R69). -/
def execEvpIncrement (incs : List EvpInc) (at' : Nat) (s : State) : Host.Outcome State Fault Refusal :=
  onPins s at' fun a => a.evp incs

/-- BANK_CLEAR (R70). -/
def execBankClear (bank : Nat) (at' : Nat) (s : State) : Host.Outcome State Fault Refusal :=
  onPins s at' fun a => a.bankClear bank

/-- OPP_PACKETS (R72). -/
def execOppPackets (ps : List OppPkt) (at' : Nat) (s : State) : Host.Outcome State Fault Refusal :=
  onPins s at' fun a => a.opp ps

/-- SENSOR_TOGGLE (R105). -/
def execSensorToggle (chan : Nat) (v : BitVec 16) (at' : Nat) (s : State) : Host.Outcome State Fault Refusal :=
  onPins s at' fun a => a.sensor chan v

/-- TRP_RETIREMENT (R75). -/
def execTrpRetirement (r : TrpRet) (at' : Nat) (s : State) : Host.Outcome State Fault Refusal :=
  onPins s at' fun a => a.retire r

/-- STP_TRANSFER_OPEN (R78). -/
def execStpTransferOpen (b : StpBeat) (at' : Nat) (s : State) : Host.Outcome State Fault Refusal :=
  onPins s at' fun a => a.stpOpen b

/-- STP_BEAT (R78). -/
def execStpBeat (b : StpBeat) (at' : Nat) (s : State) : Host.Outcome State Fault Refusal :=
  onPins s at' fun a => a.stpMiddle b

/-- STP_TRANSFER_CLOSE (R487). -/
def execStpTransferClose (b : StpBeat) (at' : Nat) (s : State) : Host.Outcome State Fault Refusal :=
  onPins s at' fun a => a.stpClose b

/-- SHADOW_ENTRY_REQUEST (R81). -/
def execShadowEntryRequest (x : ShadowReq) (s : State) : Host.Outcome State Fault Refusal :=
  onPins s x.at' fun a => a.shadowAsked x.cutAt x.cutOfs

/-- SHADOW_ENTRY_DONE (R81). -/
def execShadowEntryDone (at' : Nat) (s : State) : Host.Outcome State Fault Refusal :=
  onPins s at' fun a => a.shadowEntryDone

/-- SHADOW_EXIT_REQUEST (R81). -/
def execShadowExitRequest (at' : Nat) (s : State) : Host.Outcome State Fault Refusal :=
  onPins s at' fun a => a.shadowExit

/-- SHADOW_EXIT_DONE (R607). -/
def execShadowExitDone (at' : Nat) (s : State) : Host.Outcome State Fault Refusal :=
  onPins s at' fun a => a.shadowLeft

/-- PWR_ABRUPT (R83). -/
def execPwrAbrupt (at' : Nat) (s : State) : Host.Outcome State Fault Refusal :=
  onPins s at' fun a => a.pwrAbrupt

/-- MBX_DOORBELL (R84). -/
def execMbxDoorbell (at' : Nat) (s : State) : Host.Outcome State Fault Refusal :=
  onPins s at' fun a => a.doorbell

/-- SCR_GRANT (R501). -/
def execScrGrant (at' : Nat) (s : State) : Host.Outcome State Fault Refusal :=
  onPins s at' fun a => a.screenGrant

/-- SCR_REVOKE (R88). -/
def execScrRevoke (at' : Nat) (s : State) : Host.Outcome State Fault Refusal :=
  onPins s at' fun a => a.screenRevoke

/-- SCR_GRANT_FALL (R501). -/
def execScrGrantFall (at' : Nat) (s : State) : Host.Outcome State Fault Refusal :=
  onPins s at' fun a => a.screenGrantFall

/-- HCLK_LOST (R98). -/
def execHclkLost (at' : Nat) (s : State) : Host.Outcome State Fault Refusal :=
  onPins s at' fun a => a.hclkLoss

/-- HCLK_RECOVER (R122). -/
def execHclkRecover (at' : Nat) (s : State) : Host.Outcome State Fault Refusal :=
  onPins s at' fun a => a.hclkBack

/-- REFCLK_LOST (R98). -/
def execRefclkLost (at' : Nat) (s : State) : Host.Outcome State Fault Refusal :=
  onPins s at' fun a => a.refLoss

/-- AOCLK_RANGE (R98). -/
def execAoclkRange (at' : Nat) (s : State) : Host.Outcome State Fault Refusal :=
  onPins s at' fun a => a.aoRangeSet true

/-- VIGIL_W_SAMPLE (R463). -/
def execVigilWSample (s : State) : Host.Outcome State Fault Refusal :=
  onA s fun a => a.vigilW

/-- VIGIL_SNAPSHOT_A (R463). -/
def execVigilSnapshotA (s : State) : Host.Outcome State Fault Refusal :=
  onA s fun a => a.vigilA

/-- VIGIL_TICK (R461). -/
def execVigilTick (s : State) : Host.Outcome State Fault Refusal :=
  onA s fun a => a.vigilTick

/-- VIGIL_SNAPSHOT_B (R463). -/
def execVigilSnapshotB (s : State) : Host.Outcome State Fault Refusal :=
  onA s fun a => a.vigilB

/-- SCREEN_TIMER_EXPIRY (R502). -/
def execScreenTimerExpiry (s : State) : Host.Outcome State Fault Refusal :=
  onA s fun a => a.screenTimer

/-- SCREEN_WAIT_EXPIRY (R501). -/
def execScreenWaitExpiry (s : State) : Host.Outcome State Fault Refusal :=
  onA s fun a => a.screenWaitOver

/-- MAIN_RST_RELEASE (R122). -/
def execMainRstRelease (at' : Nat) (s : State) : Host.Outcome State Fault Refusal :=
  onPins s at' fun a => a.mainRstRelease

/-- REFCLK_RETURN (R92). -/
def execRefclkReturn (at' : Nat) (s : State) : Host.Outcome State Fault Refusal :=
  onPins s at' fun a => a.refBack

/-- AOCLK_RANGE_CLEAR (R152). -/
def execAoclkRangeClear (at' : Nat) (s : State) : Host.Outcome State Fault Refusal :=
  onPins s at' fun a => a.aoRangeSet false

end Sys2Proof.Machine
end

