-- ==== Sys2Proof/Machine/ExecEngines.lean ====
section
/-! DEFINITION. The meanings of the commands of streams, engines, the Sync Hub, fences, mailboxes and time of Brutu. -/
namespace Sys2Proof.Machine
open Sys2Proof

/-- SLD (R276). -/
def execSld (core : Nat) (s : State) : Host.Outcome State Fault Refusal :=
  onCore s core fun g => g.iSld core

/-- SST (R276). -/
def execSst (core : Nat) (s : State) : Host.Outcome State Fault Refusal :=
  onCore s core fun g => g.iSst core

/-- SGO (R278). -/
def execSgo (core : Nat) (s : State) : Host.Outcome State Fault Refusal :=
  onCore s core fun g => g.iSgo core

/-- SWAIT (R280). -/
def execSwait (core : Nat) (s : State) : Host.Outcome State Fault Refusal :=
  onCore s core fun g => g.iSwait core

/-- STEST (R273). -/
def execStest (core : Nat) (s : State) : Host.Outcome State Fault Refusal :=
  onCore s core fun g => g.iStest core

/-- STREAM_END (R280). -/
def execStreamEnd (core sreg : Nat) (s : State) : Host.Outcome State Fault Refusal :=
  onCore s core fun g => g.streamEnd core sreg

/-- HINS (R311). -/
def execHins (core : Nat) (s : State) : Host.Outcome State Fault Refusal :=
  onCore s core fun g => g.iHins core

/-- HMRG (R313). -/
def execHmrg (core : Nat) (s : State) : Host.Outcome State Fault Refusal :=
  onCore s core fun g => g.iHmrg core

/-- TKIN (R317). -/
def execTkin (core : Nat) (s : State) : Host.Outcome State Fault Refusal :=
  onCore s core fun g => g.iTkin core

/-- TKMRG (R318). -/
def execTkmrg (core : Nat) (s : State) : Host.Outcome State Fault Refusal :=
  onCore s core fun g => g.iTkmrg core

/-- EWMA (R320). -/
def execEwma (core : Nat) (s : State) : Host.Outcome State Fault Refusal :=
  onCore s core fun g => g.iEwma core

/-- CUSUM (R321). -/
def execCusum (core : Nat) (s : State) : Host.Outcome State Fault Refusal :=
  onCore s core fun g => g.iCusum core

/-- TSUB (R287). -/
def execTsub (core : Nat) (s : State) : Host.Outcome State Fault Refusal :=
  onCore s core fun g => g.iTsub core

/-- TWAIT (R287). -/
def execTwait (core : Nat) (s : State) : Host.Outcome State Fault Refusal :=
  onCore s core fun g => g.iTwait core

/-- CENC (R368). -/
def execCenc (core : Nat) (s : State) : Host.Outcome State Fault Refusal :=
  onCore s core fun g => g.iCenc core

/-- CDEC (R369). -/
def execCdec (core : Nat) (s : State) : Host.Outcome State Fault Refusal :=
  onCore s core fun g => g.iCdec core

/-- HINS_DONE (R311). -/
def execHinsDone (ct : Nat) (s : State) : Host.Outcome State Fault Refusal :=
  onCt s ct fun g => g.hinsDone ct

/-- HMRG_DONE (R313). -/
def execHmrgDone (ct : Nat) (s : State) : Host.Outcome State Fault Refusal :=
  onCt s ct fun g => g.hmrgDone ct

/-- TKIN_DONE (R317). -/
def execTkinDone (ct : Nat) (s : State) : Host.Outcome State Fault Refusal :=
  onCt s ct fun g => g.tkinDone ct

/-- TKMRG_DONE (R318). -/
def execTkmrgDone (ct : Nat) (s : State) : Host.Outcome State Fault Refusal :=
  onCt s ct fun g => g.tkmrgDone ct

/-- EWMA_DONE (R320). -/
def execEwmaDone (ct : Nat) (s : State) : Host.Outcome State Fault Refusal :=
  onCt s ct fun g => g.ewmaDone ct

/-- CUSUM_DONE (R321). -/
def execCusumDone (ct : Nat) (s : State) : Host.Outcome State Fault Refusal :=
  onCt s ct fun g => g.cusumDone ct

/-- CENC_DONE (R368). -/
def execCencDone (ct : Nat) (s : State) : Host.Outcome State Fault Refusal :=
  onCt s ct fun g => g.cencDone ct

/-- CDEC_DONE (R369). -/
def execCdecDone (ct : Nat) (s : State) : Host.Outcome State Fault Refusal :=
  onCt s ct fun g => g.cdecDone ct

/-- TSUB_DONE (R354). -/
def execTsubDone (core : Nat) (transients : List Nat) (fail : Option Nat) (s : State) : Host.Outcome State Fault Refusal :=
  onCore s core fun g => g.tsubDone core transients fail

/-- SEMP (R291). -/
def execSemp (core : Nat) (s : State) : Host.Outcome State Fault Refusal :=
  onCore s core fun g => g.iSemp core

/-- SEMV (R292). -/
def execSemv (core : Nat) (s : State) : Host.Outcome State Fault Refusal :=
  onCore s core fun g => g.iSemv core

/-- BARA (R291). -/
def execBara (core : Nat) (s : State) : Host.Outcome State Fault Refusal :=
  onCore s core fun g => g.iBara core

/-- BARW (R291). -/
def execBarw (core : Nat) (s : State) : Host.Outcome State Fault Refusal :=
  onCore s core fun g => g.iBarw core

/-- EVSET (R291). -/
def execEvset (core : Nat) (s : State) : Host.Outcome State Fault Refusal :=
  onCore s core fun g => g.iEvset core

/-- EVCLR (R291). -/
def execEvclr (core : Nat) (s : State) : Host.Outcome State Fault Refusal :=
  onCore s core fun g => g.iEvclr core

/-- EVW (R291). -/
def execEvw (core : Nat) (s : State) : Host.Outcome State Fault Refusal :=
  onCore s core fun g => g.iEvw core

/-- SYRD (R291). -/
def execSyrd (core : Nat) (s : State) : Host.Outcome State Fault Refusal :=
  onCore s core fun g => g.iSyrd core

/-- FENCE_L (R296). -/
def execFenceL (core : Nat) (s : State) : Host.Outcome State Fault Refusal :=
  onCore s core fun g => g.iFenceL core

/-- FENCE_C (R296). -/
def execFenceC (core : Nat) (s : State) : Host.Outcome State Fault Refusal :=
  onCore s core fun g => g.iFenceC core

/-- FENCE_T (R297). -/
def execFenceT (core : Nat) (s : State) : Host.Outcome State Fault Refusal :=
  onCore s core fun g => g.iFenceT core

/-- FENCE_X (R296). -/
def execFenceX (core : Nat) (s : State) : Host.Outcome State Fault Refusal :=
  onCore s core fun g => g.iFenceX core

/-- MBS (R300). -/
def execMbs (core : Nat) (s : State) : Host.Outcome State Fault Refusal :=
  onCore s core fun g => g.iMbs core

/-- MBR (R300). -/
def execMbr (core : Nat) (s : State) : Host.Outcome State Fault Refusal :=
  onCore s core fun g => g.iMbr core

/-- MSND (R301). -/
def execMsnd (core : Nat) (s : State) : Host.Outcome State Fault Refusal :=
  onCore s core fun g => g.iMsnd core

/-- TRD (R302). -/
def execTrd (core : Nat) (s : State) : Host.Outcome State Fault Refusal :=
  onCore s core fun g => g.iTrd core

/-- TRDX (R302). -/
def execTrdx (core : Nat) (s : State) : Host.Outcome State Fault Refusal :=
  onCore s core fun g => g.iTrdx core

/-- WAITPT (R303). -/
def execWaitpt (core : Nat) (s : State) : Host.Outcome State Fault Refusal :=
  onCore s core fun g => g.iWaitpt core

/-- WAITPT_RELEASE (R303). -/
def execWaitptRelease (core : Nat) (s : State) : Host.Outcome State Fault Refusal :=
  onCore s core fun g => g.waitptRelease core

/-- MACK_RX (R446). -/
def execMackRx (s : State) : Host.Outcome State Fault Refusal :=
  onG s fun g => g.mackRx

/-- MSND_UNREACH (R446). -/
def execMsndUnreach (s : State) : Host.Outcome State Fault Refusal :=
  onG s fun g => g.msndUnreach

end Sys2Proof.Machine
end

