-- ==== Sys2Proof/Machine/ExecGuyline.lean ====
section
/-! DEFINITION. The meanings of the commands of Guyline. -/
namespace Sys2Proof.Machine
open Sys2Proof

/-- GL_TX_SLOT (R182). -/
def execGlTxSlot (e : GlEnd) (at' : Nat) (s : State) : Host.Outcome State Fault Refusal :=
  match e with
  | .ailen => onA s fun a => a.slot at'
  | .lane n => onG s fun g => g.glSlot n at'

/-- GL_DATA_FRAME_RX (R176). -/
def execGlDataFrameRx (e : GlEnd) (pr : Pair) (f : List Byte) (at' : Nat) (s : State) : Host.Outcome State Fault Refusal :=
  onLink s e at' fun p st l => l.rxData p pr st f

/-- GL_NULL_FRAME_RX (R177). -/
def execGlNullFrameRx (e : GlEnd) (f : List Byte) (at' : Nat) (s : State) : Host.Outcome State Fault Refusal :=
  onLink s e at' fun _ _ l => l.rxNull f

/-- GL_CTL_CREDIT (R179). -/
def execGlCtlCredit (e : GlEnd) (f : List Byte) (at' : Nat) (s : State) : Host.Outcome State Fault Refusal :=
  onLink s e at' fun _ _ l => l.rxCredit f

/-- GL_CTL_NAK (R178). -/
def execGlCtlNak (e : GlEnd) (f : List Byte) (at' : Nat) (s : State) : Host.Outcome State Fault Refusal :=
  onLink s e at' fun _ _ l => l.rxNak f

/-- GL_CTL_LANE (R190). -/
def execGlCtlLane (e : GlEnd) (f : List Byte) (at' : Nat) (s : State) : Host.Outcome State Fault Refusal :=
  onLink s e at' fun _ _ l => l.rxLane f

/-- GL_CTL_RATE (R193). -/
def execGlCtlRate (e : GlEnd) (f : List Byte) (at' : Nat) (s : State) : Host.Outcome State Fault Refusal :=
  onLink s e at' fun p _ l => l.rxRate p f

/-- GL_INIT_RX (R181). -/
def execGlInitRx (e : GlEnd) (f : List Byte) (at' : Nat) (s : State) : Host.Outcome State Fault Refusal :=
  onLink s e at' fun p _ l => l.rxInit p f

/-- GL_REPLAY_TIMEOUT (R178). -/
def execGlReplayTimeout (e : GlEnd) (at' : Nat) (s : State) : Host.Outcome State Fault Refusal :=
  onLink s e at' fun _ _ l => l.replayTimeout

/-- GL_NAK_REPEAT (R176). -/
def execGlNakRepeat (e : GlEnd) (at' : Nat) (s : State) : Host.Outcome State Fault Refusal :=
  onLink s e at' fun _ _ l => (l.nakRepeat, {})

/-- GL_CREDIT_TIMER (R179). -/
def execGlCreditTimer (e : GlEnd) (at' : Nat) (s : State) : Host.Outcome State Fault Refusal :=
  onLink s e at' fun _ _ l => (l.creditTimer, {})

/-- GL_INIT_REPEAT (R185). -/
def execGlInitRepeat (e : GlEnd) (at' : Nat) (s : State) : Host.Outcome State Fault Refusal :=
  onLink s e at' fun p _ l => (l.initRepeat p, {})

/-- GL_TRAIN_START (R185). -/
def execGlTrainStart (e : GlEnd) (s : State) : Host.Outcome State Fault Refusal :=
  match e with
  | .ailen => onA s fun a => a.trainStart
  | .lane n => onG s fun g => g.glTrain n

/-- GL_TRAIN_RETRY (R187). -/
def execGlTrainRetry (e : GlEnd) (s : State) : Host.Outcome State Fault Refusal :=
  match e with
  | .ailen => onA s fun a => a.trainRetry
  | .lane n => onG s fun g => g.glRetry n

/-- GL_BLOCK_LOCK_LOSS (R188). -/
def execGlBlockLockLoss (e : GlEnd) (at' : Nat) (s : State) : Host.Outcome State Fault Refusal :=
  onLink s e at' fun _ _ l => l.lossOf 0

/-- GL_CRC_SILENCE (R188). -/
def execGlCrcSilence (e : GlEnd) (at' : Nat) (s : State) : Host.Outcome State Fault Refusal :=
  onLink s e at' fun _ _ l => l.lossOf 1

/-- STBY_FAIL (R189). -/
def execStbyFail (e : GlEnd) (s : State) : Host.Outcome State Fault Refusal :=
  match e with
  | .ailen => onA s fun a => a.stbyLoss
  | .lane n => onG s fun g => g.glStby n

/-- GL_BLOCK_LOCK_ACQUIRED (R185). -/
def execGlBlockLockAcquired (e : GlEnd) (pr : Pair) (s : State) : Host.Outcome State Fault Refusal :=
  match e with
  | .ailen => onA s fun a => a.gainLock pr
  | .lane n => onG s fun g => g.glLock n pr

end Sys2Proof.Machine
end

