-- ==== Sys2Proof/Machine/ExecHost.lean ====
section
/-! DEFINITION. The meanings of the commands of the host link and management. -/
namespace Sys2Proof.Machine
open Sys2Proof

/-- MSIX_COALESCE (R543). -/
def execMsixCoalesce (v : Nat) (s : State) : Host.Outcome State Fault Refusal :=
  onG s fun g => g.coalesce v

/-- MGMT_DATAGRAM (R545). -/
def execMgmtDatagram (svc : Bool) (session mseq ofs len : Nat) (bs : List Byte) (sigOk nestedOk : Bool) (at' : Nat) (s : State) : Host.Outcome State Fault Refusal :=
  onGAt s at' fun g => g.mgmtDatagram svc session mseq ofs len bs sigOk nestedOk

/-- MGMT_REASSEMBLY_TIMEOUT (R545). -/
def execMgmtReassemblyTimeout (s : State) : Host.Outcome State Fault Refusal :=
  onG s fun g => g.mgmtTimeout

/-- PCIE_RESET (R590). -/
def execPcieReset (at' : Nat) (s : State) : Host.Outcome State Fault Refusal :=
  onGAt s at' fun g => g.pcieReset

/-- HOST_LINK_TRAINED (R529). -/
def execHostLinkTrained (width rate : Nat) (at' : Nat) (s : State) : Host.Outcome State Fault Refusal :=
  onGAt s at' fun g => g.hostLink width rate

end Sys2Proof.Machine
end

