-- ==== Sys2Proof/Machine/ExecKits.lean ====
section
/-! DEFINITION. The meanings of the commands of kits and host commands. -/
namespace Sys2Proof.Machine
open Sys2Proof

/-- KIT_START (R400). -/
def execKitStart (slot : Nat) (s : State) : Host.Outcome State Fault Refusal :=
  onSlot s slot fun g => g.kitStart slot

/-- PLAN_APPLY_TIMEOUT (R400). -/
def execPlanApplyTimeout (slot : Nat) (s : State) : Host.Outcome State Fault Refusal :=
  onSlot s slot fun g => g.planTimeout slot

/-- PHASE_DEADLINE (R402). -/
def execPhaseDeadline (slot phase : Nat) (s : State) : Host.Outcome State Fault Refusal :=
  onSlot s slot fun g => g.phaseDeadline slot phase

/-- KIT_RESTART (R404). -/
def execKitRestart (slot : Nat) (s : State) : Host.Outcome State Fault Refusal :=
  onSlot s slot fun g => g.kitRestart slot

/-- KIT_UNLOAD_DONE (R405). -/
def execKitUnloadDone (slot : Nat) (s : State) : Host.Outcome State Fault Refusal :=
  onSlot s slot fun g => g.kitUnloaded slot

/-- KIT_LOAD (R397). -/
def execKitLoad (sigOk : Bool) (s : State) : Host.Outcome State Fault Refusal :=
  onG s fun g => g.cmdKitLoad sigOk

/-- KIT_UNLOAD (R405). -/
def execKitUnload (s : State) : Host.Outcome State Fault Refusal :=
  onG s fun g => g.cmdKitUnload

/-- PACK_INSTALL (R497). -/
def execPackInstall (sigOk : Bool) (s : State) : Host.Outcome State Fault Refusal :=
  onG s fun g => g.cmdPackInstall sigOk

/-- PACK_GET (R499). -/
def execPackGet (s : State) : Host.Outcome State Fault Refusal :=
  onG s fun g => g.cmdPackGet

/-- JOBKEY (R488). -/
def execJobkey (s : State) : Host.Outcome State Fault Refusal :=
  onG s fun g => g.cmdJobKey

/-- EXPORT (R382). -/
def execExportHistory (s : State) : Host.Outcome State Fault Refusal :=
  onG s fun g => g.cmdExport

/-- MB_SEND (R548). -/
def execMbSend (s : State) : Host.Outcome State Fault Refusal :=
  onG s fun g => g.cmdMbSend

/-- MB_RECV (R548). -/
def execMbRecv (s : State) : Host.Outcome State Fault Refusal :=
  onG s fun g => g.cmdMbRecv

/-- QUERY (R537). -/
def execQuery (s : State) : Host.Outcome State Fault Refusal :=
  onG s fun g => g.cmdQuery

/-- QUERY_CLOSE (R540). -/
def execQueryClose (s : State) : Host.Outcome State Fault Refusal :=
  onG s fun g => g.cmdQueryClose

/-- BCAST (R441). -/
def execBcast (sigOk : Bool) (s : State) : Host.Outcome State Fault Refusal :=
  onG s fun g => g.cmdBcast sigOk

/-- VIGIL (R457). -/
def execVigil (s : State) : Host.Outcome State Fault Refusal :=
  onG s fun g => g.cmdVigil

/-- SEAL (R490). -/
def execSeal (s : State) : Host.Outcome State Fault Refusal :=
  onG s fun g => g.cmdSeal

/-- RESTORE_OPEN (R492). -/
def execRestoreOpen (sigOk : Bool) (s : State) : Host.Outcome State Fault Refusal :=
  onG s fun g => g.cmdRestoreOpen sigOk

/-- RESTORE_SEAL (R493). -/
def execRestoreSeal (s : State) : Host.Outcome State Fault Refusal :=
  onG s fun g => g.cmdRestoreSeal

end Sys2Proof.Machine
end

