-- ==== Sys2Proof/Machine/ExecMessages.lean ====
section
/-! DEFINITION. The meanings of the commands of messages over Guyline. -/
namespace Sys2Proof.Machine
open Sys2Proof

/-- SAMPLE_RX (R393). -/
def execSampleRx (lane : Nat) (s : State) : Host.Outcome State Fault Refusal :=
  onLane s lane fun g => g.sampleRx lane

/-- VIGIL_BANK_RX (R466). -/
def execVigilBankRx (lane : Nat) (s : State) : Host.Outcome State Fault Refusal :=
  onLane s lane fun g => g.vigilBankRx lane

/-- TRACE_RX (R663). -/
def execTraceRx (lane : Nat) (s : State) : Host.Outcome State Fault Refusal :=
  onLane s lane fun g => g.traceRx lane

/-- EVENT_RX (R647). -/
def execEventRx (lane : Nat) (s : State) : Host.Outcome State Fault Refusal :=
  onLane s lane fun g => g.eventRx lane

/-- SHARD_RX (R489). -/
def execShardRx (lane : Nat) (s : State) : Host.Outcome State Fault Refusal :=
  onLane s lane fun g => g.shardRx lane

/-- SEGD_RX (R201). -/
def execSegdRx (lane : Nat) (s : State) : Host.Outcome State Fault Refusal :=
  onLane s lane fun g => g.segdRx lane

/-- SCREEN_RX (R511). -/
def execScreenRx (lane : Nat) (s : State) : Host.Outcome State Fault Refusal :=
  onLane s lane fun g => g.screenRx lane

/-- MBOX_RX_GREMON (R548). -/
def execMboxRxGremon (lane : Nat) (s : State) : Host.Outcome State Fault Refusal :=
  onLane s lane fun g => g.mboxRx lane

/-- MBOX_RX_AILEN (R552). -/
def execMboxRxAilen (s : State) : Host.Outcome State Fault Refusal :=
  onA s fun a => a.mboxRx

/-- CMD_READ (R199). -/
def execCmdRead (s : State) : Host.Outcome State Fault Refusal :=
  onA s fun a => a.cmdRead

/-- CMD_WRITE (R199). -/
def execCmdWrite (s : State) : Host.Outcome State Fault Refusal :=
  onA s fun a => a.cmdWrite

/-- CMD_UCODE (R194). -/
def execCmdUcode (s : State) : Host.Outcome State Fault Refusal :=
  onA s fun a => a.cmdUcode

/-- CMD_VIGIL_ARM (R460). -/
def execCmdVigilArm (s : State) : Host.Outcome State Fault Refusal :=
  onA s fun a => a.cmdVigilArm

/-- CMD_SCREEN_START (R500). -/
def execCmdScreenStart (s : State) : Host.Outcome State Fault Refusal :=
  onA s fun a => a.cmdScreenStart

/-- RSP_RX (R199). -/
def execRspRx (lane : Nat) (s : State) : Host.Outcome State Fault Refusal :=
  onLane s lane fun g => g.rspRx lane

/-- ENUM_RX (R203). -/
def execEnumRx (lane : Nat) (s : State) : Host.Outcome State Fault Refusal :=
  onLane s lane fun g => g.enumRx lane

/-- ENUM_ACK_RX (R202). -/
def execEnumAckRx (s : State) : Host.Outcome State Fault Refusal :=
  onA s fun a => a.enumAck

/-- CMD_BAD_OP (R682). -/
def execCmdBadOp (s : State) : Host.Outcome State Fault Refusal :=
  onA s fun a => a.cmdBadOp

end Sys2Proof.Machine
end

