-- ==== Sys2Proof/Machine/ExecPackage.lean ====
section
/-! DEFINITION. The meanings of the commands of Gremon's package, errors and temperature. -/
namespace Sys2Proof.Machine
open Sys2Proof

/-- CANOPY_LINK_FAIL (R213). -/
def execCanopyLinkFail (a b : Nat) (at' : Nat) (s : State) : Host.Outcome State Fault Refusal :=
  onGAt s at' fun g => g.canopyFail a b

/-- STACK_FAIL (R221). -/
def execStackFail (stack : Nat) (at' : Nat) (s : State) : Host.Outcome State Fault Refusal :=
  onGAt s at' fun g => if stack < 24 then g.stackFail stack else g

/-- ECC_ERROR (R518). -/
def execEccError (w : EccAt) (fixed : Bool) (at' : Nat) (s : State) : Host.Outcome State Fault Refusal :=
  onGAt s at' fun g => if eccNamed w then g.eccError w fixed else g

/-- HBM_SCRUB (R220). -/
def execHbmScrub (line : Nat) (fixed : Bool) (at' : Nat) (s : State) : Host.Outcome State Fault Refusal :=
  onGAt s at' fun g => if line < 2 ^ 48 then g.hbmScrub line fixed else g

/-- SRAM_SCRUB (R666). -/
def execSramScrub (w : EccAt) (fixed : Bool) (at' : Nat) (s : State) : Host.Outcome State Fault Refusal :=
  onGAt s at' fun g => if eccNamed w then g.sramScrub w fixed else g

/-- RESIDUE_MISMATCH (R519). -/
def execResidueMismatch (w : ResidueAt) (at' : Nat) (s : State) : Host.Outcome State Fault Refusal :=
  match w with
  | .core _ | .engine _ _ => onGAt s at' fun g => if residueNamed w then g.residueMismatch w else g
  | .counters b => onPins s at' fun a => a.counterError b
  | .coder => onPins s at' fun a => a.coderError
  | .digest t => onPins s at' fun a => a.digestError t

/-- CORE_TEST_END (R523). -/
def execCoreTestEnd (ct core : Nat) (pass : Bool) (s : State) : Host.Outcome State Fault Refusal :=
  onG s fun g => if ct < 16 ∧ core < 34 then g.coreTestEnd ct core pass else g

/-- THERMAL_READING (R675). -/
def execThermalReading (dies stks : List (BitVec 16)) (s : State) : Host.Outcome State Fault Refusal :=
  onG s fun g => g.thermalReading dies stks

end Sys2Proof.Machine
end

