-- ==== Sys2Proof/Machine/ExecPod.lean ====
section
/-! DEFINITION. The meanings of the commands of the pod tree and its messages. -/
namespace Sys2Proof.Machine
open Sys2Proof

/-- LADDER_WATCH (R451). -/
def execLadderWatch (s : State) : Host.Outcome State Fault Refusal :=
  onG s fun g => g.ladderWatch

/-- HELLO_TIMER (R429). -/
def execHelloTimer (s : State) : Host.Outcome State Fault Refusal :=
  onG s fun g => g.helloTimer

/-- HELLO_RX (R430). -/
def execHelloRx (s : State) : Host.Outcome State Fault Refusal :=
  onG s fun g => g.helloRx

/-- TREE_FORMED (R431). -/
def execTreeFormed (s : State) : Host.Outcome State Fault Refusal :=
  onG s fun g => g.treeFormed

/-- JOIN_RX (R433). -/
def execJoinRx (s : State) : Host.Outcome State Fault Refusal :=
  onG s fun g => g.joinTake

/-- JOIN_ACK_RX (R433). -/
def execJoinAckRx (s : State) : Host.Outcome State Fault Refusal :=
  onG s fun g => g.joinAckRx

/-- REHOME_RX (R437). -/
def execRehomeRx (s : State) : Host.Outcome State Fault Refusal :=
  onG s fun g => g.rehomeRx

/-- PRUNE_RX (R438). -/
def execPruneRx (s : State) : Host.Outcome State Fault Refusal :=
  onG s fun g => g.pruned

/-- ROOT_STALE (R435). -/
def execRootStale (s : State) : Host.Outcome State Fault Refusal :=
  onG s fun g => g.rootStale

/-- STALE_EXPIRY (R435). -/
def execStaleExpiry (s : State) : Host.Outcome State Fault Refusal :=
  onG s fun g => g.staleExpiry

/-- PARENT_FAIL (R437). -/
def execParentFail (s : State) : Host.Outcome State Fault Refusal :=
  onG s fun g => g.parentFailed

/-- CHILD_PORT_DOWN (R438). -/
def execChildPortDown (port : Nat) (s : State) : Host.Outcome State Fault Refusal :=
  onPort s port fun g => g.childGone port

/-- MEMBER_DECLARE_FAILED (R439). -/
def execMemberDeclareFailed (s : State) : Host.Outcome State Fault Refusal :=
  onG s fun g => g.declareFailed

/-- RL_BCAST_RX (R442). -/
def execRlBcastRx (s : State) : Host.Outcome State Fault Refusal :=
  onG s fun g => g.bcastRx

/-- BACK_RX (R443). -/
def execBackRx (s : State) : Host.Outcome State Fault Refusal :=
  onG s fun g => g.backRx

/-- BCAST_TIMEOUT (R443). -/
def execBcastTimeout (s : State) : Host.Outcome State Fault Refusal :=
  onG s fun g => g.bcastTimeout

/-- RL_MSG_RX (R446). -/
def execRlMsgRx (s : State) : Host.Outcome State Fault Refusal :=
  onG s fun g => g.msgTake

/-- RL_QUERY_RX (R447). -/
def execRlQueryRx (s : State) : Host.Outcome State Fault Refusal :=
  onG s fun g => g.queryRx

/-- QANS_DEADLINE (R448). -/
def execQansDeadline (s : State) : Host.Outcome State Fault Refusal :=
  onG s fun g => g.qansDeadline

/-- RL_QANS_RX (R448). -/
def execRlQansRx (s : State) : Host.Outcome State Fault Refusal :=
  onG s fun g => g.qansRx

/-- FEED_PERIOD (R450). -/
def execFeedPeriod (s : State) : Host.Outcome State Fault Refusal :=
  onG s fun g => g.feedPeriod

/-- RL_FEED_RX (R540). -/
def execRlFeedRx (s : State) : Host.Outcome State Fault Refusal :=
  onG s fun g => g.feedRx

/-- RL_LADDER_RX (R452). -/
def execRlLadderRx (s : State) : Host.Outcome State Fault Refusal :=
  onG s fun g => g.ladderRx

/-- RL_LANTERN_RX (R478). -/
def execRlLanternRx (s : State) : Host.Outcome State Fault Refusal :=
  onG s fun g => g.lanternRx

/-- RL_MANIFEST_RX (R490). -/
def execRlManifestRx (s : State) : Host.Outcome State Fault Refusal :=
  onG s fun g => g.manifestRx

/-- HCMD_RX (R535). -/
def execHcmdRx (s : State) : Host.Outcome State Fault Refusal :=
  onG s fun g => g.hcmdMsg

/-- HRSP_RX (R535). -/
def execHrspRx (s : State) : Host.Outcome State Fault Refusal :=
  onG s fun g => g.hrspMsg

/-- HCMD_UNREACH (R535). -/
def execHcmdUnreach (s : State) : Host.Outcome State Fault Refusal :=
  onG s fun g => g.hcmdUnreach

/-- CERTREQ_RX (R632). -/
def execCertreqRx (s : State) : Host.Outcome State Fault Refusal :=
  onG s fun g => g.certReqRx

/-- CERT_RX (R632). -/
def execCertRx (chainOk sigOk : Bool) (s : State) : Host.Outcome State Fault Refusal :=
  onG s fun g => g.certRx chainOk sigOk

/-- MCERT_UNAVAILABLE (R632). -/
def execMcertUnavailable (s : State) : Host.Outcome State Fault Refusal :=
  onG s fun g => g.mcertTimeout

/-- QUERY_DEADLINE (R449). -/
def execQueryDeadline (s : State) : Host.Outcome State Fault Refusal :=
  onG s fun g => g.queryDeadline

end Sys2Proof.Machine
end

