-- ==== Sys2Proof/Machine/ExecPower.lean ====
section
/-! DEFINITION. The meanings of the commands of power, resets and boot. -/
namespace Sys2Proof.Machine
open Sys2Proof

/-- FULL_RESET (R592). -/
def execFullReset (t : SelfTest) (s : State) : Host.Outcome State Fault Refusal :=
  onG s fun g => g.fullReset t

/-- CD_WATCHDOG_EXPIRY (R589). -/
def execCdWatchdogExpiry (s : State) : Host.Outcome State Fault Refusal :=
  onG s fun g => g.cdWatchdog

/-- HOST_WATCHDOG_EXPIRY (R591). -/
def execHostWatchdogExpiry (s : State) : Host.Outcome State Fault Refusal :=
  onG s fun g => g.hostWatchdog

/-- POWER_FAIL_WARNING (R585). -/
def execPowerFailWarning (vin : Nat) (commit : Bool) (at' : Nat) (s : State) : Host.Outcome State Fault Refusal :=
  onGAt s at' fun g => g.powerFail vin commit

/-- BRACE_EXIT (R587). -/
def execBraceExit (s : State) : Host.Outcome State Fault Refusal :=
  onG s fun g => g.braceExit.stageGoes.confirmDone

/-- INPUT_RESET (R584). -/
def execInputReset (vin : Nat) (at' : Nat) (s : State) : Host.Outcome State Fault Refusal :=
  onGAt s at' fun g => g.inputReset vin

/-- POWER_GOOD (R584). -/
def execPowerGood (vin : Nat) (s : State) : Host.Outcome State Fault Refusal :=
  onPower s fun g => g.powerGood vin

/-- POR_BOOT (R610). -/
def execPorBoot (t : SelfTest) (s : State) : Host.Outcome State Fault Refusal :=
  onG s fun g => g.porBoot t

/-- HWSET_COMMIT (R596). -/
def execHwsetCommit (s : State) : Host.Outcome State Fault Refusal :=
  onG s fun g => g.hwsetCommit

/-- IDLE_ENTRY (R602). -/
def execIdleEntry (s : State) : Host.Outcome State Fault Refusal :=
  onG s fun g => g.idleEntry

/-- GUYLINE_ENABLE (R614). -/
def execGuylineEnable (s : State) : Host.Outcome State Fault Refusal :=
  onG s fun g => g.glEnable

/-- POD_READY_TIMEOUT (R616). -/
def execPodReadyTimeout (s : State) : Host.Outcome State Fault Refusal :=
  onG s fun g => g.podReadyTimeout

/-- PWR_EN_FALL (R673). -/
def execPwrEnFall (at' : Nat) (s : State) : Host.Outcome State Fault Refusal :=
  onPower s fun g => (g.moveTo at').pwrEnFall

/-- WAKE_COMPLETE (R603). -/
def execWakeComplete (at' : Nat) (s : State) : Host.Outcome State Fault Refusal :=
  onGAt s at' fun g => g.wakeDone

/-- PWR_EN_RISE (R673). -/
def execPwrEnRise (s : State) : Host.Outcome State Fault Refusal :=
  onPower s fun g => g.pwrEnRise

/-- RECOVERY_CROSSING (R587). -/
def execRecoveryCrossing (rising : Bool) (vin : Nat) (at' : Nat) (s : State) : Host.Outcome State Fault Refusal :=
  onGAt s at' fun g => g.recoverCross rising vin

end Sys2Proof.Machine
end

