-- ==== Sys2Proof/Machine/ExecRecords.lean ====
section
/-! DEFINITION. The meanings of the commands of black-box record, trace and telemetry. -/
namespace Sys2Proof.Machine
open Sys2Proof

/-- BB_COMPACTION (R656). -/
def execBbCompaction (s : State) : Host.Outcome State Fault Refusal :=
  onG s fun g => g.bbCompact

/-- BB_MIRROR_COPY (R657). -/
def execBbMirrorCopy (s : State) : Host.Outcome State Fault Refusal :=
  onG s fun g => g.bbMirror

/-- TRACE_BRANCH_FLUSH (R660). -/
def execTraceBranchFlush (p : Part) (src : Nat) (s : State) : Host.Outcome State Fault Refusal :=
  onPart s p (fun a => a.traceFlush src) fun g => g.traceFlush src

/-- TRACE_SYNC_TIMER (R661). -/
def execTraceSyncTimer (p : Part) (src : Nat) (s : State) : Host.Outcome State Fault Refusal :=
  onPart s p (fun a => a.traceSync src) fun g => g.traceSync src

/-- TRACE_DRAIN (R663). -/
def execTraceDrain (s : State) : Host.Outcome State Fault Refusal :=
  onG s fun g => g.traceDrain

/-- TRACE_TICK_TRIGGER (R665). -/
def execTraceTickTrigger (s : State) : Host.Outcome State Fault Refusal :=
  onG s fun g => g.traceTick

/-- TRACE_STOP (R665). -/
def execTraceStop (s : State) : Host.Outcome State Fault Refusal :=
  onG s fun g => g.traceStop

/-- SELF_TELEMETRY_LATCH (R667). -/
def execSelfTelemetryLatch (power : Nat) (s : State) : Host.Outcome State Fault Refusal :=
  onG s fun g => (g.onTel fun t => { t with power := power }).telLatch

end Sys2Proof.Machine
end

