-- ==== Sys2Proof/Machine/ExecReduce.lean ====
section
/-! DEFINITION. The meanings of the commands of reductions and history. -/
namespace Sys2Proof.Machine
open Sys2Proof

/-- PERIOD_CLOSE_DEADLINE (R326). -/
def execPeriodCloseDeadline (rid : Nat) (s : State) : Host.Outcome State Fault Refusal :=
  onG s fun g => g.periodClose rid

/-- STEP_CLOSE_WINDOW (R327). -/
def execStepCloseWindow (rid step : Nat) (s : State) : Host.Outcome State Fault Refusal :=
  onG s fun g => g.stepClose rid step

/-- REDUCE_PRIMARY_DONE (R329). -/
def execReducePrimaryDone (rid period : Nat) (wrong : Bool) (at' : Nat) (s : State) : Host.Outcome State Fault Refusal :=
  onGAt s at' fun g => g.primaryDone rid period wrong

/-- REDUCE_VERDICT (R330). -/
def execReduceVerdict (rid period : Nat) (bad : Bool) (p q : Nat) (at' : Nat) (s : State) : Host.Outcome State Fault Refusal :=
  onGAt s at' fun g => g.redVerdict rid period bad p q

/-- VERDICT_TIMEOUT (R331). -/
def execVerdictTimeout (rid period : Nat) (s : State) : Host.Outcome State Fault Refusal :=
  onG s fun g => g.verdictTimeout rid period

/-- RL_REDUCE_RX (R333). -/
def execRlReduceRx (s : State) : Host.Outcome State Fault Refusal :=
  onG s fun g => g.reduceRx

/-- RETENTION_END (R334). -/
def execRetentionEnd (rid period : Nat) (s : State) : Host.Outcome State Fault Refusal :=
  onG s fun g => g.retentionEnd rid period

/-- HISTORY_FILE (R371). -/
def execHistoryFile (s : State) : Host.Outcome State Fault Refusal :=
  onG s fun g => g.historyFile

/-- EXPORT_PAGE_COPY (R384). -/
def execExportPageCopy (s : State) : Host.Outcome State Fault Refusal :=
  onG s fun g => g.exportPage

/-- EXPORT_ABORT (R385). -/
def execExportAbort (at' : Nat) (s : State) : Host.Outcome State Fault Refusal :=
  onGAt s at' fun g => g.exportHostFail

end Sys2Proof.Machine
end

