-- ==== Sys2Proof/Machine/ExecRegs.lean ====
section
/-! DEFINITION. The meanings of the commands of register accesses. -/
namespace Sys2Proof.Machine
open Sys2Proof

/-- REGISTER_WRITE (R558). -/
def execRegisterWrite (p : Part) (x : Access) (at' : Nat) (s : State) : Host.Outcome State Fault Refusal :=
  writeAt s p x at'

/-- REMAP_COMMIT (R94). -/
def execRemapCommit (who : Requester) (at' : Nat) (s : State) : Host.Outcome State Fault Refusal :=
  onPins s at' fun a => a.accessWrite (a4 who 0x100 1)

/-- CAP_COMMIT (R111). -/
def execCapCommit (at' : Nat) (s : State) : Host.Outcome State Fault Refusal :=
  onPins s at' fun a => a.accessWrite (a4 .cmd 0x1004 1)

/-- SQC_CLEAR_WRITE (R567). -/
def execSqcClearWrite (p : Part) (x : Access) (at' : Nat) (s : State) : Host.Outcome State Fault Refusal :=
  if (keyDesc p x.addr).sqc ≠ 0 then writeAt s p x at' else .next s

/-- TSQ_HEAD_READ (R158). -/
def execTsqHeadRead (who : Requester) (q : Nat) (at' : Nat) (s : State) : Host.Outcome State Fault Refusal :=
  readAt s .gremon (a4 who (0x300100 + 16 * (q % 7)) 0) at'

/-- PT_LO_READ (R165). -/
def execPtLoRead (p : Part) (who : Requester) (at' : Nat) (s : State) : Host.Outcome State Fault Refusal :=
  readAt s p (a4 who (ptLo p) 0) at'

/-- LO_READ_LATCH (R562): a read, which latches HI where it names the LO word of a latching pair. -/
def execLoReadLatch (p : Part) (x : Access) (at' : Nat) (s : State) : Host.Outcome State Fault Refusal :=
  readAt s p x at'

/-- EXPORT_CANCEL (R385). -/
def execExportCancel (who : Requester) (at' : Nat) (s : State) : Host.Outcome State Fault Refusal :=
  onGAt s at' fun g => g.writeReg who (ind 0x90044) 1 []

/-- CKT_ENABLE (R479). -/
def execCktEnable (who : Requester) (n : Nat) (v : Word) (at' : Nat) (s : State) : Host.Outcome State Fault Refusal :=
  onGAt s at' fun g => if n < 1024 then g.writeReg who (kCkt n) (v.toNat ||| 0x10000) [] else g

/-- SD_KEY_SET (R488). -/
def execSdKeySet (job : BitVec 16) (at' : Nat) (s : State) : Host.Outcome State Fault Refusal :=
  onPins s at' fun a => a.accessWrite (a4 .cmd 0x7020 (job.toNat + 0x20000))

/-- SCR_DONE_WRITE (R502). -/
def execScrDoneWrite (hcode : Byte) (at' : Nat) (s : State) : Host.Outcome State Fault Refusal :=
  onPins s at' fun a => a.accessWrite (a4 .hrp 0x8040 (256 * hcode.toNat + 1))

/-- STRESS_SESSION_WRITE (R509). -/
def execStressSessionWrite (opens : Bool) (at' : Nat) (s : State) : Host.Outcome State Fault Refusal :=
  onPins s at' fun a => a.accessWrite (a4 .hrp 0x8044 (b2n opens))

/-- HERR_WRITE (R506). -/
def execHerrWrite (v : Word) (at' : Nat) (s : State) : Host.Outcome State Fault Refusal :=
  onPins s at' fun a => a.accessWrite (a4 .hrp 0x8060 v.toNat)

/-- SQ_TAIL_DOORBELL (R532). -/
def execSqTailDoorbell (q : Nat) (v : Word) (fs : List Fetched) (at' : Nat) (s : State) : Host.Outcome State Fault Refusal :=
  onGAt s at' fun g => if q < 64 then g.accessWrite (a4 .pcie (kHq q 0x14) v.toNat) fs else g

/-- CQ_HEAD_DOORBELL (R533). -/
def execCqHeadDoorbell (q : Nat) (v : Word) (fs : List Fetched) (at' : Nat) (s : State) : Host.Outcome State Fault Refusal :=
  onGAt s at' fun g => if q < 64 then g.accessWrite (a4 .pcie (kHq q 0x18) v.toNat) fs else g

/-- HQ_CFG_WRITE (R533). -/
def execHqCfgWrite (who : Requester) (q : Nat) (v : Word) (at' : Nat) (s : State) : Host.Outcome State Fault Refusal :=
  onGAt s at' fun g => if q < 64 then g.accessWrite (a4 who (kHq q 0x10) v.toNat) [] else g

/-- RQ_HEAD_DOORBELL (R685). -/
def execRqHeadDoorbell (r : Nat) (v : Word) (at' : Nat) (s : State) : Host.Outcome State Fault Refusal :=
  onGAt s at' fun g => if r < 16 then g.accessWrite (a4 .pcie (kRq r 0x10) v.toNat) [] else g

/-- MB_TX_SEND (R552). -/
def execMbTxSend (who : Requester) (chan : Byte) (at' : Nat) (s : State) : Host.Outcome State Fault Refusal :=
  onPins s at' fun a => a.accessWrite (a4 who 0x5040 (chan.toNat + 0x100))

/-- MB_RX_ACK (R552). -/
def execMbRxAck (who : Requester) (at' : Nat) (s : State) : Host.Outcome State Fault Refusal :=
  onPins s at' fun a => a.accessWrite (a4 who 0x50C0 0x10000)

/-- FB_WRITE (R563). -/
def execFbWrite (p : Part) (x : Access) (at' : Nat) (s : State) : Host.Outcome State Fault Refusal :=
  if (keyDesc p x.addr).fb ≠ 0 then writeAt s p x at' else .next s

/-- FB_UNSET_APPLY (R566). -/
def execFbUnsetApply (p : Part) (s : State) : Host.Outcome State Fault Refusal :=
  onPart s p (fun a => a.fbUnsetApply) fun g => g.fbUnsetApply

/-- IND_DATA_ACCESS (R570). -/
def execIndDataAccess (p : Part) (who : Requester) (w : Nat) (v : Option Word) (at' : Nat) (s : State) : Host.Outcome State Fault Refusal :=
  windowAt s p who w v at'

/-- IND_ACCESS_FAIL (R571). -/
def execIndAccessFail (p : Part) (w : Nat) (at' : Nat) (s : State) : Host.Outcome State Fault Refusal :=
  onPartAt s p at' (fun a => a.windowFailed) fun g => if w < 8 then { g.winFailed w with rdData := 0 } else g

/-- PARITY_SWEEP (R573). -/
def execParitySweep (p : Part) (hit : Option ParityHit) (s : State) : Host.Outcome State Fault Refusal :=
  match hit with
  | none => .next s
  | some h => onPart s p (fun a => a.parityFault h.key h.shadow h.v h.par) fun g => g.parityFault h.key h.shadow h.v h.par

/-- FULL_RESET_REQUEST (R589). -/
def execFullResetRequest (svc : Bool) (who : Requester) (v : Word) (at' : Nat) (s : State) : Host.Outcome State Fault Refusal :=
  onGAt s at' fun g => if svc then g.fullRequest true 0 else g.accessWrite (a4 who 0x10004 v.toNat) []

/-- WDT_KICK (R591). -/
def execWdtKick (v : Word) (at' : Nat) (s : State) : Host.Outcome State Fault Refusal :=
  onGAt s at' fun g => g.accessWrite (a4 .pcie 0x10108 (v.toNat ||| 0x10000)) []

/-- PWR_TARGET_WRITE (R603). -/
def execPwrTargetWrite (who : Requester) (v : Word) (at' : Nat) (s : State) : Host.Outcome State Fault Refusal :=
  onGAt s at' fun g => g.accessWrite (a4 who 0x10100 v.toNat) []

/-- UPD_CTL_CONFIRM (R640). -/
def execUpdCtlConfirm (who : Requester) (key : Byte) (at' : Nat) (s : State) : Host.Outcome State Fault Refusal :=
  onGAt s at' fun g => g.accessWrite (a4 who 0x10214 (256 * key.toNat + 1)) []

/-- UPD_CTL_REVERT (R641). -/
def execUpdCtlRevert (who : Requester) (key : Byte) (at' : Nat) (s : State) : Host.Outcome State Fault Refusal :=
  onGAt s at' fun g => g.accessWrite (a4 who 0x10214 (256 * key.toNat + 2)) []

/-- ER_REL_WRITE (R648). -/
def execErRelWrite (who : Requester) (v : Word) (at' : Nat) (s : State) : Host.Outcome State Fault Refusal :=
  onGAt s at' fun g => g.accessWrite (a4 who 0x1000004 v.toNat) []

/-- ER_WINDOW_READ (R649). -/
def execErWindowRead (p : Part) (who : Requester) (k : Nat) (at' : Nat) (s : State) : Host.Outcome State Fault Refusal :=
  readAt s p (a4 who (erLast p k) 0) at'

/-- BB_CUR_WRITE (R658). -/
def execBbCurWrite (who : Requester) (lo hi : Word) (at' : Nat) (s : State) : Host.Outcome State Fault Refusal :=
  onGAt s at' fun g => (g.accessWrite (a4 who 0x1800004 lo.toNat) []).accessWrite (a4 who 0x1800008 hi.toNat) []

/-- TRACE_TRIG_WRITE (R665). -/
def execTraceTrigWrite (who : Requester) (v : Word) (at' : Nat) (s : State) : Host.Outcome State Fault Refusal :=
  onGAt s at' fun g => g.accessWrite (a4 who 0x2000000 (v.toNat ||| 8)) []

end Sys2Proof.Machine
end

