-- ==== Sys2Proof/Machine/ExecRidgeline.lean ====
section
/-! DEFINITION. The meanings of the commands of Ridgeline ports. -/
namespace Sys2Proof.Machine
open Sys2Proof

/-- RL_TX_SLOT (R422). -/
def execRlTxSlot (port : Nat) (at' : Nat) (s : State) : Host.Outcome State Fault Refusal :=
  onPort s port fun g => g.rlSlot port at'

/-- RL_DATA_FLIT_RX (R418). -/
def execRlDataFlitRx (port : Nat) (f : List Byte) (at' : Nat) (s : State) : Host.Outcome State Fault Refusal :=
  onPort s port fun g => g.rlData port f at'

/-- RL_NULL_FLIT_RX (R418). -/
def execRlNullFlitRx (port : Nat) (f : List Byte) (at' : Nat) (s : State) : Host.Outcome State Fault Refusal :=
  onPort s port fun g => g.rlNull port f at'

/-- RL_CTL_CREDIT (R419). -/
def execRlCtlCredit (port : Nat) (f : List Byte) (at' : Nat) (s : State) : Host.Outcome State Fault Refusal :=
  onPort s port fun g => g.rlCreditRx port f at'

/-- RL_CTL_NAK (R418). -/
def execRlCtlNak (port : Nat) (f : List Byte) (at' : Nat) (s : State) : Host.Outcome State Fault Refusal :=
  onPort s port fun g => g.rlNakRx port f at'

/-- RL_CTL_LANE (R414). -/
def execRlCtlLane (port : Nat) (f : List Byte) (at' : Nat) (s : State) : Host.Outcome State Fault Refusal :=
  onPort s port fun g => g.rlLaneRx port f at'

/-- RL_INIT_RX (R419). A port that reaches UP starts the tree (R431). -/
def execRlInitRx (port : Nat) (f : List Byte) (at' : Nat) (s : State) : Host.Outcome State Fault Refusal :=
  onPort s port fun g =>
    let h := g.rlInitRx port f at'
    if h.portUp port && !g.portUp port then h.treePortUp else h

/-- RL_REPLAY_TIMEOUT (R418). -/
def execRlReplayTimeout (port : Nat) (at' : Nat) (s : State) : Host.Outcome State Fault Refusal :=
  onPort s port fun g => (g.moveTo at').rlReplayTimeout port

/-- RL_NAK_REPEAT (R418). -/
def execRlNakRepeat (port : Nat) (at' : Nat) (s : State) : Host.Outcome State Fault Refusal :=
  onPort s port fun g => (g.moveTo at').rlNakRepeat port

/-- RL_CREDIT_TIMER (R419). -/
def execRlCreditTimer (port : Nat) (at' : Nat) (s : State) : Host.Outcome State Fault Refusal :=
  onPort s port fun g => (g.moveTo at').rlCreditTimer port

/-- RL_TRAIN_START (R413). -/
def execRlTrainStart (port : Nat) (at' : Nat) (s : State) : Host.Outcome State Fault Refusal :=
  onPort s port fun g => (g.moveTo at').rlTrainStart port

/-- FEC_WINDOW_END (R414). -/
def execFecWindowEnd (port : Nat) (corr uncorr : List Nat) (at' : Nat) (s : State) : Host.Outcome State Fault Refusal :=
  onPort s port fun g => (g.moveTo at').fecWindow port corr uncorr

/-- RL_LANE_LOCK_LOSS (R415). -/
def execRlLaneLockLoss (port ln : Nat) (at' : Nat) (s : State) : Host.Outcome State Fault Refusal :=
  onPort s port fun g => (g.moveTo at').rlLaneLoss port ln

/-- RL_PORT_DOWN (R419). -/
def execRlPortDown (port : Nat) (at' : Nat) (s : State) : Host.Outcome State Fault Refusal :=
  onPort s port fun g => (g.moveTo at').rlDown port

/-- RL_LATENCY_SAMPLE (R424). -/
def execRlLatencySample (port : Nat) (s : State) : Host.Outcome State Fault Refusal :=
  onPort s port fun g => g.rlSample port

/-- RL_ALIGNMENT_LOCK (R413). -/
def execRlAlignmentLock (port : Nat) (lns : List Nat) (at' : Nat) (s : State) : Host.Outcome State Fault Refusal :=
  onPort s port fun g => (g.moveTo at').rlAlign port lns

end Sys2Proof.Machine
end

