-- ==== Sys2Proof/Machine/ExecScalar.lean ====
section
/-! DEFINITION. The meanings of the commands of Brutu's scalar instructions. -/
namespace Sys2Proof.Machine
open Sys2Proof

/-- ILLEGAL_OPCODE (R252). -/
def execIllegalOpcode (core : Nat) (s : State) : Host.Outcome State Fault Refusal :=
  onCore s core fun g => g.illegalOpcode core

/-- NOP (R253). -/
def execNop (core : Nat) (s : State) : Host.Outcome State Fault Refusal :=
  onCore s core fun g => g.iNop core

/-- ADD (R253). -/
def execAdd (core : Nat) (s : State) : Host.Outcome State Fault Refusal :=
  onCore s core fun g => g.iAdd core

/-- SUB (R253). -/
def execSub (core : Nat) (s : State) : Host.Outcome State Fault Refusal :=
  onCore s core fun g => g.iSub core

/-- AND (R253). -/
def execAnd (core : Nat) (s : State) : Host.Outcome State Fault Refusal :=
  onCore s core fun g => g.iAnd core

/-- OR (R253). -/
def execOr (core : Nat) (s : State) : Host.Outcome State Fault Refusal :=
  onCore s core fun g => g.iOr core

/-- XOR (R253). -/
def execXor (core : Nat) (s : State) : Host.Outcome State Fault Refusal :=
  onCore s core fun g => g.iXor core

/-- SLL (R253). -/
def execSll (core : Nat) (s : State) : Host.Outcome State Fault Refusal :=
  onCore s core fun g => g.iSll core

/-- SRL (R253). -/
def execSrl (core : Nat) (s : State) : Host.Outcome State Fault Refusal :=
  onCore s core fun g => g.iSrl core

/-- SRA (R253). -/
def execSra (core : Nat) (s : State) : Host.Outcome State Fault Refusal :=
  onCore s core fun g => g.iSra core

/-- MIN (R253). -/
def execMin (core : Nat) (s : State) : Host.Outcome State Fault Refusal :=
  onCore s core fun g => g.iMin core

/-- MAX (R253). -/
def execMax (core : Nat) (s : State) : Host.Outcome State Fault Refusal :=
  onCore s core fun g => g.iMax core

/-- CMP (R248). -/
def execCmp (core : Nat) (s : State) : Host.Outcome State Fault Refusal :=
  onCore s core fun g => g.iCmp core

/-- MUL (R253). -/
def execMul (core : Nat) (s : State) : Host.Outcome State Fault Refusal :=
  onCore s core fun g => g.iMul core

/-- MULH (R253). -/
def execMulh (core : Nat) (s : State) : Host.Outcome State Fault Refusal :=
  onCore s core fun g => g.iMulh core

/-- DIV (R250). -/
def execDiv (core : Nat) (s : State) : Host.Outcome State Fault Refusal :=
  onCore s core fun g => g.iDiv core

/-- REM (R250). -/
def execRem (core : Nat) (s : State) : Host.Outcome State Fault Refusal :=
  onCore s core fun g => g.iRem core

/-- LIH (R253). -/
def execLih (core : Nat) (s : State) : Host.Outcome State Fault Refusal :=
  onCore s core fun g => g.iLih core

/-- ADDI (R253). -/
def execAddi (core : Nat) (s : State) : Host.Outcome State Fault Refusal :=
  onCore s core fun g => g.iAddi core

/-- ANDI (R253). -/
def execAndi (core : Nat) (s : State) : Host.Outcome State Fault Refusal :=
  onCore s core fun g => g.iAndi core

/-- ORI (R253). -/
def execOri (core : Nat) (s : State) : Host.Outcome State Fault Refusal :=
  onCore s core fun g => g.iOri core

/-- XORI (R253). -/
def execXori (core : Nat) (s : State) : Host.Outcome State Fault Refusal :=
  onCore s core fun g => g.iXori core

/-- SLLI (R253). -/
def execSlli (core : Nat) (s : State) : Host.Outcome State Fault Refusal :=
  onCore s core fun g => g.iSlli core

/-- SRLI (R253). -/
def execSrli (core : Nat) (s : State) : Host.Outcome State Fault Refusal :=
  onCore s core fun g => g.iSrli core

/-- SRAI (R253). -/
def execSrai (core : Nat) (s : State) : Host.Outcome State Fault Refusal :=
  onCore s core fun g => g.iSrai core

/-- LI (R253). -/
def execLi (core : Nat) (s : State) : Host.Outcome State Fault Refusal :=
  onCore s core fun g => g.iLi core

/-- FADD (R239). -/
def execFadd (core : Nat) (s : State) : Host.Outcome State Fault Refusal :=
  onCore s core fun g => g.iFadd core

/-- FSUB (R239). -/
def execFsub (core : Nat) (s : State) : Host.Outcome State Fault Refusal :=
  onCore s core fun g => g.iFsub core

/-- FMUL (R245). -/
def execFmul (core : Nat) (s : State) : Host.Outcome State Fault Refusal :=
  onCore s core fun g => g.iFmul core

/-- FDIV (R245). -/
def execFdiv (core : Nat) (s : State) : Host.Outcome State Fault Refusal :=
  onCore s core fun g => g.iFdiv core

/-- FSQRT (R239). -/
def execFsqrt (core : Nat) (s : State) : Host.Outcome State Fault Refusal :=
  onCore s core fun g => g.iFsqrt core

/-- FMA (R253). -/
def execFma (core : Nat) (s : State) : Host.Outcome State Fault Refusal :=
  onCore s core fun g => g.iFma core

/-- FMIN (R248). -/
def execFmin (core : Nat) (s : State) : Host.Outcome State Fault Refusal :=
  onCore s core fun g => g.iFmin core

/-- FMAX (R248). -/
def execFmax (core : Nat) (s : State) : Host.Outcome State Fault Refusal :=
  onCore s core fun g => g.iFmax core

/-- FCMP (R248). -/
def execFcmp (core : Nat) (s : State) : Host.Outcome State Fault Refusal :=
  onCore s core fun g => g.iFcmp core

/-- CVT (R249). -/
def execCvt (core : Nat) (s : State) : Host.Outcome State Fault Refusal :=
  onCore s core fun g => g.iCvt core

/-- FABS (R240). -/
def execFabs (core : Nat) (s : State) : Host.Outcome State Fault Refusal :=
  onCore s core fun g => g.iFabs core

/-- FNEG (R240). -/
def execFneg (core : Nat) (s : State) : Host.Outcome State Fault Refusal :=
  onCore s core fun g => g.iFneg core

/-- LD (R258). -/
def execLd (core : Nat) (s : State) : Host.Outcome State Fault Refusal :=
  onCore s core fun g => g.iLd core

/-- ST (R260). -/
def execSt (core : Nat) (s : State) : Host.Outcome State Fault Refusal :=
  onCore s core fun g => g.iSt core

/-- BEQ (R257). -/
def execBeq (core : Nat) (s : State) : Host.Outcome State Fault Refusal :=
  onCore s core fun g => g.iBeq core

/-- BNE (R257). -/
def execBne (core : Nat) (s : State) : Host.Outcome State Fault Refusal :=
  onCore s core fun g => g.iBne core

/-- BLT (R257). -/
def execBlt (core : Nat) (s : State) : Host.Outcome State Fault Refusal :=
  onCore s core fun g => g.iBlt core

/-- BGE (R257). -/
def execBge (core : Nat) (s : State) : Host.Outcome State Fault Refusal :=
  onCore s core fun g => g.iBge core

/-- BP (R257). -/
def execBp (core : Nat) (s : State) : Host.Outcome State Fault Refusal :=
  onCore s core fun g => g.iBp core

/-- JAL (R257). -/
def execJal (core : Nat) (s : State) : Host.Outcome State Fault Refusal :=
  onCore s core fun g => g.iJal core

/-- JALR (R257). -/
def execJalr (core : Nat) (s : State) : Host.Outcome State Fault Refusal :=
  onCore s core fun g => g.iJalr core

/-- TRAP (R268). -/
def execTrap (core : Nat) (s : State) : Host.Outcome State Fault Refusal :=
  onCore s core fun g => g.iTrap core

/-- RETT (R268). -/
def execRett (core : Nat) (s : State) : Host.Outcome State Fault Refusal :=
  onCore s core fun g => g.iRett core

/-- HALT (R269). -/
def execHalt (core : Nat) (s : State) : Host.Outcome State Fault Refusal :=
  onCore s core fun g => g.iHalt core

/-- MFS (R237). -/
def execMfs (core : Nat) (s : State) : Host.Outcome State Fault Refusal :=
  onCore s core fun g => g.iMfs core

/-- MTS (R237). -/
def execMts (core : Nat) (s : State) : Host.Outcome State Fault Refusal :=
  onCore s core fun g => g.iMts core

end Sys2Proof.Machine
end

