-- ==== Sys2Proof/Machine/ExecServices.lean ====
section
/-! DEFINITION. The meanings of the commands of Vigil, Lantern, checkpoint triggers and screening at Gremon. -/
namespace Sys2Proof.Machine
open Sys2Proof

/-- GREMON_VIGIL_TICK (R465). -/
def execGremonVigilTick (s : State) : Host.Outcome State Fault Refusal :=
  onG s fun g => g.vigilTick

/-- VIGIL_CLOSE (R466). -/
def execVigilClose (s : State) : Host.Outcome State Fault Refusal :=
  onG s fun g => g.vigilClose

/-- VIGIL_RESUME_TICK (R471). -/
def execVigilResumeTick (s : State) : Host.Outcome State Fault Refusal :=
  onG s fun g => g.vigilResume

/-- LANTERN_READ (R474). -/
def execLanternRead (s : State) : Host.Outcome State Fault Refusal :=
  onG s fun g => g.lanternRead

/-- CKPT_TRIGGER_EVAL (R481). -/
def execCkptTriggerEval (n : Nat) (s : State) : Host.Outcome State Fault Refusal :=
  onG s fun g => if n < 1024 then g.ckptTick n else g

/-- SCREEN_LOST_TIMEOUT (R502). -/
def execScreenLostTimeout (lane : Nat) (s : State) : Host.Outcome State Fault Refusal :=
  onLane s lane fun g => g.screenLost lane

/-- SCREEN_ROTATION (R508). -/
def execScreenRotation (lane : Nat) (s : State) : Host.Outcome State Fault Refusal :=
  onLane s lane fun g => g.scrRotation lane

end Sys2Proof.Machine
end

