-- ==== Sys2Proof/Machine/ExecTime.lean ====
section
/-! DEFINITION. The meanings of the commands of Almanac. -/
namespace Sys2Proof.Machine
open Sys2Proof

/-- TIME_EXCHANGE_OPEN (R146). -/
def execTimeExchangeOpen (p : Part) (s : State) : Host.Outcome State Fault Refusal :=
  onPart s p (fun a => a.openExchange) fun g => g.openExchange

/-- TIME_REQ_RX (R146). -/
def execTimeReqRx (src : TimeFrom) (s : State) : Host.Outcome State Fault Refusal :=
  match src with
  | .lane n => onLane s n fun g => g.timeReqLane n
  | .port n => onPort s n fun g => g.timeReqPort n

/-- TIME_RSP_RX (R149). -/
def execTimeRspRx (p : Part) (asym : Int) (cutOfs : BitVec 16) (s : State) : Host.Outcome State Fault Refusal :=
  onPart s p (fun a => a.timeRsp asym (slewPpm (bits s.g.almCfg 23 16)) cutOfs) fun g => g.timeRsp

/-- LOCK_LOSS_TIMEOUT (R150). -/
def execLockLossTimeout (p : Part) (s : State) : Host.Outcome State Fault Refusal :=
  onPart s p (fun a => a.lockLoss) fun g => g.lockLoss

/-- HOLD_EXPIRED (R152). -/
def execHoldExpired (p : Part) (s : State) : Host.Outcome State Fault Refusal :=
  onPart s p (fun a => a.holdExpire (bits s.g.almCfg 15 8)) fun g => g.holdExpire

/-- ALMANAC_CALIBRATION (R140). -/
def execAlmanacCalibration (p : Part) (d : Int) (s : State) : Host.Outcome State Fault Refusal :=
  onPart s p (fun a => if a.aoReset then a else { a with clock := a.clock.calibrate d }) fun g => { g with clock := g.clock.calibrate d }

/-- REPLICA_REALIGN (R228). -/
def execReplicaRealign (s : State) : Host.Outcome State Fault Refusal :=
  onG s fun g => g.realign

/-- SITE_SYNC_MESSAGE (R142). -/
def execSiteSyncMessage (m : PtpMsg) (lock : Bool) (at' : Nat) (s : State) : Host.Outcome State Fault Refusal :=
  onGAt s at' fun g => g.siteMsg m lock

/-- ROOT_SITE_WAIT_EXPIRY (R145). -/
def execRootSiteWaitExpiry (s : State) : Host.Outcome State Fault Refusal :=
  onG s fun g => g.siteWait

/-- PT_STEP_TICK (R144). -/
def execPtStepTick (cutOfs : BitVec 16) (s : State) : Host.Outcome State Fault Refusal :=
  ptStepBoth s cutOfs

/-- ALIGN_SOLVE (R164). -/
def execAlignSolve (job : Nat) (x : AlignIn) (s : State) : Host.Outcome State Fault Refusal :=
  onG s fun g => g.alignStep job x

/-- AL_JT_JOB_WRITE (R166). -/
def execAlJtJobWrite (v : Word) (at' : Nat) (s : State) : Host.Outcome State Fault Refusal :=
  onPins s at' fun a => a.accessWrite (a4 .cmd 0x4028 v.toNat)

/-- FRAME_TICK_HI_WRITE (R167). -/
def execFrameTickHiWrite (v : Word) (at' : Nat) (s : State) : Host.Outcome State Fault Refusal :=
  onPins s at' fun a => a.accessWrite (a4 .cmd 0x4038 v.toNat)

/-- STEP_NUM_LO_WRITE (R337). -/
def execStepNumLoWrite (who : Requester) (v : Word) (at' : Nat) (s : State) : Host.Outcome State Fault Refusal :=
  onPins s at' fun a => a.accessWrite (a4 who 0x114 v.toNat)

/-- STEP_NUM_HI_WRITE (R337). -/
def execStepNumHiWrite (who : Requester) (v : Word) (at' : Nat) (s : State) : Host.Outcome State Fault Refusal :=
  onPins s at' fun a => a.accessWrite (a4 who 0x118 v.toNat)

end Sys2Proof.Machine
end

