-- ==== Sys2Proof/Machine/ExecUpdate.lean ====
section
/-! DEFINITION. The meanings of the commands of update, tokens and attestation. -/
namespace Sys2Proof.Machine
open Sys2Proof

/-- STAGE_CHUNK (R634). -/
def execStageChunk (mseq ofs : Nat) (bs : List Byte) (s : State) : Host.Outcome State Fault Refusal :=
  onG s fun g => g.stageChunk mseq ofs bs

/-- STAGE_END (R634). -/
def execStageEnd (mseq total : Nat) (sigOk nestedOk : Bool) (s : State) : Host.Outcome State Fault Refusal :=
  onG s fun g => g.stageEnd mseq total sigOk nestedOk

/-- SCHEDULE (R636). -/
def execSchedule (mseq : Nat) (p : List Byte) (sigOk : Bool) (s : State) : Host.Outcome State Fault Refusal :=
  onG s fun g => g.scheduleReq mseq p sigOk

/-- SVC_CONFIRM (R640). -/
def execSvcConfirm (mseq : Nat) (b : List Byte) (sigOk : Bool) (s : State) : Host.Outcome State Fault Refusal :=
  onG s fun g => g.svcConfirm mseq b sigOk

/-- SVC_REVERT (R641). -/
def execSvcRevert (mseq : Nat) (b : List Byte) (sigOk : Bool) (s : State) : Host.Outcome State Fault Refusal :=
  onG s fun g => g.svcRevert mseq b sigOk

/-- SVC_TOKEN (R626). -/
def execSvcToken (mseq : Nat) (b : List Byte) (sigOk : Bool) (s : State) : Host.Outcome State Fault Refusal :=
  onG s fun g => g.svcToken mseq b sigOk

/-- SVC_STATUS (R634). -/
def execSvcStatus (mseq : Nat) (s : State) : Host.Outcome State Fault Refusal :=
  onG s fun g => g.svcStatus mseq

/-- ACTIVATION_TICK (R638). -/
def execActivationTick (s : State) : Host.Outcome State Fault Refusal :=
  onG s fun g => g.activationTick

/-- FALLBACK_READY_TIMEOUT (R641). -/
def execFallbackReadyTimeout (s : State) : Host.Outcome State Fault Refusal :=
  onG s fun g => g.fallbackReady

/-- AUTO_REVERT_TIMEOUT (R641). -/
def execAutoRevertTimeout (s : State) : Host.Outcome State Fault Refusal :=
  onG s fun g => g.autoRevertDue

/-- TOKEN_LAPSE (R626). -/
def execTokenLapse (s : State) : Host.Outcome State Fault Refusal :=
  onG s fun g => g.tokenLapse

/-- SPDM_REQUEST (R627). -/
def execSpdmRequest (doe : Bool) (num : Nat) (m : List Byte) (s : State) : Host.Outcome State Fault Refusal :=
  onG s fun g => g.spdm doe num m

/-- BIND (R628). -/
def execBind (num mid : Nat) (s : State) : Host.Outcome State Fault Refusal :=
  onG s fun g => g.spdmBind num mid

/-- AL_MEAS (R631). -/
def execAlMeas (doe : Bool) (num lane : Nat) (s : State) : Host.Outcome State Fault Refusal :=
  onG s fun g => g.alMeas doe num lane

end Sys2Proof.Machine
end

