-- ==== Sys2Proof/Machine/ExecVector.lean ====
section
/-! DEFINITION. The meanings of the commands of Brutu's vector and predicate instructions. -/
namespace Sys2Proof.Machine
open Sys2Proof

/-- VADD (R255). -/
def execVadd (core : Nat) (s : State) : Host.Outcome State Fault Refusal :=
  onCore s core fun g => g.iVadd core

/-- VSUB (R255). -/
def execVsub (core : Nat) (s : State) : Host.Outcome State Fault Refusal :=
  onCore s core fun g => g.iVsub core

/-- VMUL (R255). -/
def execVmul (core : Nat) (s : State) : Host.Outcome State Fault Refusal :=
  onCore s core fun g => g.iVmul core

/-- VFMA (R255). -/
def execVfma (core : Nat) (s : State) : Host.Outcome State Fault Refusal :=
  onCore s core fun g => g.iVfma core

/-- VDIV (R255). -/
def execVdiv (core : Nat) (s : State) : Host.Outcome State Fault Refusal :=
  onCore s core fun g => g.iVdiv core

/-- VSQRT (R255). -/
def execVsqrt (core : Nat) (s : State) : Host.Outcome State Fault Refusal :=
  onCore s core fun g => g.iVsqrt core

/-- VMIN (R248). -/
def execVmin (core : Nat) (s : State) : Host.Outcome State Fault Refusal :=
  onCore s core fun g => g.iVmin core

/-- VMAX (R248). -/
def execVmax (core : Nat) (s : State) : Host.Outcome State Fault Refusal :=
  onCore s core fun g => g.iVmax core

/-- VAND (R255). -/
def execVand (core : Nat) (s : State) : Host.Outcome State Fault Refusal :=
  onCore s core fun g => g.iVand core

/-- VOR (R255). -/
def execVor (core : Nat) (s : State) : Host.Outcome State Fault Refusal :=
  onCore s core fun g => g.iVor core

/-- VXOR (R255). -/
def execVxor (core : Nat) (s : State) : Host.Outcome State Fault Refusal :=
  onCore s core fun g => g.iVxor core

/-- VSLL (R255). -/
def execVsll (core : Nat) (s : State) : Host.Outcome State Fault Refusal :=
  onCore s core fun g => g.iVsll core

/-- VSRL (R255). -/
def execVsrl (core : Nat) (s : State) : Host.Outcome State Fault Refusal :=
  onCore s core fun g => g.iVsrl core

/-- VSRA (R255). -/
def execVsra (core : Nat) (s : State) : Host.Outcome State Fault Refusal :=
  onCore s core fun g => g.iVsra core

/-- VCMP (R255). -/
def execVcmp (core : Nat) (s : State) : Host.Outcome State Fault Refusal :=
  onCore s core fun g => g.iVcmp core

/-- VCVT (R255). -/
def execVcvt (core : Nat) (s : State) : Host.Outcome State Fault Refusal :=
  onCore s core fun g => g.iVcvt core

/-- VBCAST (R253). -/
def execVbcast (core : Nat) (s : State) : Host.Outcome State Fault Refusal :=
  onCore s core fun g => g.iVbcast core

/-- VEXT (R255). -/
def execVext (core : Nat) (s : State) : Host.Outcome State Fault Refusal :=
  onCore s core fun g => g.iVext core

/-- VINS (R255). -/
def execVins (core : Nat) (s : State) : Host.Outcome State Fault Refusal :=
  onCore s core fun g => g.iVins core

/-- VRED (R256). -/
def execVred (core : Nat) (s : State) : Host.Outcome State Fault Refusal :=
  onCore s core fun g => g.iVred core

/-- VSEL (R253). -/
def execVsel (core : Nat) (s : State) : Host.Outcome State Fault Refusal :=
  onCore s core fun g => g.iVsel core

/-- VABS (R253). -/
def execVabs (core : Nat) (s : State) : Host.Outcome State Fault Refusal :=
  onCore s core fun g => g.iVabs core

/-- VNEG (R253). -/
def execVneg (core : Nat) (s : State) : Host.Outcome State Fault Refusal :=
  onCore s core fun g => g.iVneg core

/-- PAND (R253). -/
def execPand (core : Nat) (s : State) : Host.Outcome State Fault Refusal :=
  onCore s core fun g => g.iPand core

/-- POR (R253). -/
def execPor (core : Nat) (s : State) : Host.Outcome State Fault Refusal :=
  onCore s core fun g => g.iPor core

/-- PXOR (R253). -/
def execPxor (core : Nat) (s : State) : Host.Outcome State Fault Refusal :=
  onCore s core fun g => g.iPxor core

/-- PNOT (R253). -/
def execPnot (core : Nat) (s : State) : Host.Outcome State Fault Refusal :=
  onCore s core fun g => g.iPnot core

/-- PFROMG (R253). -/
def execPfromg (core : Nat) (s : State) : Host.Outcome State Fault Refusal :=
  onCore s core fun g => g.iPfromg core

/-- PTOG (R253). -/
def execPtog (core : Nat) (s : State) : Host.Outcome State Fault Refusal :=
  onCore s core fun g => g.iPtog core

/-- VLD (R259). -/
def execVld (core : Nat) (s : State) : Host.Outcome State Fault Refusal :=
  onCore s core fun g => g.iVld core

/-- VST (R259). -/
def execVst (core : Nat) (s : State) : Host.Outcome State Fault Refusal :=
  onCore s core fun g => g.iVst core

/-- VECTOR_ISSUE (R263). -/
def execVectorIssue (core : Nat) (s : State) : Host.Outcome State Fault Refusal :=
  onCore s core fun g => g.vectorIssue core

end Sys2Proof.Machine
end

