-- ==== Sys2Proof/Machine/Dispatch.lean ====
section
/-! DEFINITION. The dispatch: one arm per command. -/
namespace Sys2Proof.Machine
open Sys2Proof

def exec (i : Instr) (s : State) : Host.Outcome State Fault Refusal :=
  match i with
  | .frameBoundary p clr cutOfs => Sys2Proof.Machine.execFrameBoundary p clr cutOfs s
  | .scoringBoundary p => Sys2Proof.Machine.execScoringBoundary p s
  | .sampleBlockCoded => Sys2Proof.Machine.execSampleBlockCoded s
  | .aoPorAssert at' => Sys2Proof.Machine.execAoPorAssert at' s
  | .aoPorRelease hdid at' => Sys2Proof.Machine.execAoPorRelease hdid at' s
  | .mainRstAssert at' => Sys2Proof.Machine.execMainRstAssert at' s
  | .registerWrite p x at' => Sys2Proof.Machine.execRegisterWrite p x at' s
  | .evpIncrement incs at' => Sys2Proof.Machine.execEvpIncrement incs at' s
  | .bankClear bank at' => Sys2Proof.Machine.execBankClear bank at' s
  | .oppPackets ps at' => Sys2Proof.Machine.execOppPackets ps at' s
  | .sensorToggle chan v at' => Sys2Proof.Machine.execSensorToggle chan v at' s
  | .trpRetirement r at' => Sys2Proof.Machine.execTrpRetirement r at' s
  | .stpTransferOpen b at' => Sys2Proof.Machine.execStpTransferOpen b at' s
  | .stpBeat b at' => Sys2Proof.Machine.execStpBeat b at' s
  | .stpTransferClose b at' => Sys2Proof.Machine.execStpTransferClose b at' s
  | .shadowEntryRequest x => Sys2Proof.Machine.execShadowEntryRequest x s
  | .shadowEntryDone at' => Sys2Proof.Machine.execShadowEntryDone at' s
  | .shadowExitRequest at' => Sys2Proof.Machine.execShadowExitRequest at' s
  | .shadowExitDone at' => Sys2Proof.Machine.execShadowExitDone at' s
  | .pwrAbrupt at' => Sys2Proof.Machine.execPwrAbrupt at' s
  | .mbxDoorbell at' => Sys2Proof.Machine.execMbxDoorbell at' s
  | .scrGrant at' => Sys2Proof.Machine.execScrGrant at' s
  | .scrRevoke at' => Sys2Proof.Machine.execScrRevoke at' s
  | .scrGrantFall at' => Sys2Proof.Machine.execScrGrantFall at' s
  | .remapCommit who at' => Sys2Proof.Machine.execRemapCommit who at' s
  | .capCommit at' => Sys2Proof.Machine.execCapCommit at' s
  | .sqcClearWrite p x at' => Sys2Proof.Machine.execSqcClearWrite p x at' s
  | .hclkLost at' => Sys2Proof.Machine.execHclkLost at' s
  | .hclkRecover at' => Sys2Proof.Machine.execHclkRecover at' s
  | .refclkLost at' => Sys2Proof.Machine.execRefclkLost at' s
  | .aoclkRange at' => Sys2Proof.Machine.execAoclkRange at' s
  | .timeExchangeOpen p => Sys2Proof.Machine.execTimeExchangeOpen p s
  | .timeReqRx src => Sys2Proof.Machine.execTimeReqRx src s
  | .timeRspRx p asym cutOfs => Sys2Proof.Machine.execTimeRspRx p asym cutOfs s
  | .lockLossTimeout p => Sys2Proof.Machine.execLockLossTimeout p s
  | .holdExpired p => Sys2Proof.Machine.execHoldExpired p s
  | .almanacCalibration p d => Sys2Proof.Machine.execAlmanacCalibration p d s
  | .replicaRealign => Sys2Proof.Machine.execReplicaRealign s
  | .siteSyncMessage m lock at' => Sys2Proof.Machine.execSiteSyncMessage m lock at' s
  | .rootSiteWaitExpiry => Sys2Proof.Machine.execRootSiteWaitExpiry s
  | .ptStepTick cutOfs => Sys2Proof.Machine.execPtStepTick cutOfs s
  | .tsqHeadRead who q at' => Sys2Proof.Machine.execTsqHeadRead who q at' s
  | .ptLoRead p who at' => Sys2Proof.Machine.execPtLoRead p who at' s
  | .loReadLatch p x at' => Sys2Proof.Machine.execLoReadLatch p x at' s
  | .alignSolve job x => Sys2Proof.Machine.execAlignSolve job x s
  | .alJtJobWrite v at' => Sys2Proof.Machine.execAlJtJobWrite v at' s
  | .frameTickHiWrite v at' => Sys2Proof.Machine.execFrameTickHiWrite v at' s
  | .stepNumLoWrite who v at' => Sys2Proof.Machine.execStepNumLoWrite who v at' s
  | .stepNumHiWrite who v at' => Sys2Proof.Machine.execStepNumHiWrite who v at' s
  | .glTxSlot e at' => Sys2Proof.Machine.execGlTxSlot e at' s
  | .glDataFrameRx e pr f at' => Sys2Proof.Machine.execGlDataFrameRx e pr f at' s
  | .glNullFrameRx e f at' => Sys2Proof.Machine.execGlNullFrameRx e f at' s
  | .glCtlCredit e f at' => Sys2Proof.Machine.execGlCtlCredit e f at' s
  | .glCtlNak e f at' => Sys2Proof.Machine.execGlCtlNak e f at' s
  | .glCtlLane e f at' => Sys2Proof.Machine.execGlCtlLane e f at' s
  | .glCtlRate e f at' => Sys2Proof.Machine.execGlCtlRate e f at' s
  | .glInitRx e f at' => Sys2Proof.Machine.execGlInitRx e f at' s
  | .glReplayTimeout e at' => Sys2Proof.Machine.execGlReplayTimeout e at' s
  | .glNakRepeat e at' => Sys2Proof.Machine.execGlNakRepeat e at' s
  | .glCreditTimer e at' => Sys2Proof.Machine.execGlCreditTimer e at' s
  | .glInitRepeat e at' => Sys2Proof.Machine.execGlInitRepeat e at' s
  | .glTrainStart e => Sys2Proof.Machine.execGlTrainStart e s
  | .glTrainRetry e => Sys2Proof.Machine.execGlTrainRetry e s
  | .glBlockLockLoss e at' => Sys2Proof.Machine.execGlBlockLockLoss e at' s
  | .glCrcSilence e at' => Sys2Proof.Machine.execGlCrcSilence e at' s
  | .stbyFail e => Sys2Proof.Machine.execStbyFail e s
  | .sampleRx lane => Sys2Proof.Machine.execSampleRx lane s
  | .vigilBankRx lane => Sys2Proof.Machine.execVigilBankRx lane s
  | .traceRx lane => Sys2Proof.Machine.execTraceRx lane s
  | .eventRx lane => Sys2Proof.Machine.execEventRx lane s
  | .shardRx lane => Sys2Proof.Machine.execShardRx lane s
  | .segdRx lane => Sys2Proof.Machine.execSegdRx lane s
  | .screenRx lane => Sys2Proof.Machine.execScreenRx lane s
  | .mboxRxGremon lane => Sys2Proof.Machine.execMboxRxGremon lane s
  | .mboxRxAilen => Sys2Proof.Machine.execMboxRxAilen s
  | .cmdRead => Sys2Proof.Machine.execCmdRead s
  | .cmdWrite => Sys2Proof.Machine.execCmdWrite s
  | .cmdUcode => Sys2Proof.Machine.execCmdUcode s
  | .cmdVigilArm => Sys2Proof.Machine.execCmdVigilArm s
  | .cmdScreenStart => Sys2Proof.Machine.execCmdScreenStart s
  | .rspRx lane => Sys2Proof.Machine.execRspRx lane s
  | .enumRx lane => Sys2Proof.Machine.execEnumRx lane s
  | .enumAckRx => Sys2Proof.Machine.execEnumAckRx s
  | .canopyLinkFail a b at' => Sys2Proof.Machine.execCanopyLinkFail a b at' s
  | .stackFail stack at' => Sys2Proof.Machine.execStackFail stack at' s
  | .eccError w fixed at' => Sys2Proof.Machine.execEccError w fixed at' s
  | .hbmScrub line fixed at' => Sys2Proof.Machine.execHbmScrub line fixed at' s
  | .sramScrub w fixed at' => Sys2Proof.Machine.execSramScrub w fixed at' s
  | .illegalOpcode core => Sys2Proof.Machine.execIllegalOpcode core s
  | .nop core => Sys2Proof.Machine.execNop core s
  | .add core => Sys2Proof.Machine.execAdd core s
  | .sub core => Sys2Proof.Machine.execSub core s
  | .and core => Sys2Proof.Machine.execAnd core s
  | .or core => Sys2Proof.Machine.execOr core s
  | .xor core => Sys2Proof.Machine.execXor core s
  | .sll core => Sys2Proof.Machine.execSll core s
  | .srl core => Sys2Proof.Machine.execSrl core s
  | .sra core => Sys2Proof.Machine.execSra core s
  | .min core => Sys2Proof.Machine.execMin core s
  | .max core => Sys2Proof.Machine.execMax core s
  | .cmp core => Sys2Proof.Machine.execCmp core s
  | .mul core => Sys2Proof.Machine.execMul core s
  | .mulh core => Sys2Proof.Machine.execMulh core s
  | .div core => Sys2Proof.Machine.execDiv core s
  | .rem core => Sys2Proof.Machine.execRem core s
  | .lih core => Sys2Proof.Machine.execLih core s
  | .addi core => Sys2Proof.Machine.execAddi core s
  | .andi core => Sys2Proof.Machine.execAndi core s
  | .ori core => Sys2Proof.Machine.execOri core s
  | .xori core => Sys2Proof.Machine.execXori core s
  | .slli core => Sys2Proof.Machine.execSlli core s
  | .srli core => Sys2Proof.Machine.execSrli core s
  | .srai core => Sys2Proof.Machine.execSrai core s
  | .li core => Sys2Proof.Machine.execLi core s
  | .fadd core => Sys2Proof.Machine.execFadd core s
  | .fsub core => Sys2Proof.Machine.execFsub core s
  | .fmul core => Sys2Proof.Machine.execFmul core s
  | .fdiv core => Sys2Proof.Machine.execFdiv core s
  | .fsqrt core => Sys2Proof.Machine.execFsqrt core s
  | .fma core => Sys2Proof.Machine.execFma core s
  | .fmin core => Sys2Proof.Machine.execFmin core s
  | .fmax core => Sys2Proof.Machine.execFmax core s
  | .fcmp core => Sys2Proof.Machine.execFcmp core s
  | .cvt core => Sys2Proof.Machine.execCvt core s
  | .fabs core => Sys2Proof.Machine.execFabs core s
  | .fneg core => Sys2Proof.Machine.execFneg core s
  | .vadd core => Sys2Proof.Machine.execVadd core s
  | .vsub core => Sys2Proof.Machine.execVsub core s
  | .vmul core => Sys2Proof.Machine.execVmul core s
  | .vfma core => Sys2Proof.Machine.execVfma core s
  | .vdiv core => Sys2Proof.Machine.execVdiv core s
  | .vsqrt core => Sys2Proof.Machine.execVsqrt core s
  | .vmin core => Sys2Proof.Machine.execVmin core s
  | .vmax core => Sys2Proof.Machine.execVmax core s
  | .vand core => Sys2Proof.Machine.execVand core s
  | .vor core => Sys2Proof.Machine.execVor core s
  | .vxor core => Sys2Proof.Machine.execVxor core s
  | .vsll core => Sys2Proof.Machine.execVsll core s
  | .vsrl core => Sys2Proof.Machine.execVsrl core s
  | .vsra core => Sys2Proof.Machine.execVsra core s
  | .vcmp core => Sys2Proof.Machine.execVcmp core s
  | .vcvt core => Sys2Proof.Machine.execVcvt core s
  | .vbcast core => Sys2Proof.Machine.execVbcast core s
  | .vext core => Sys2Proof.Machine.execVext core s
  | .vins core => Sys2Proof.Machine.execVins core s
  | .vred core => Sys2Proof.Machine.execVred core s
  | .vsel core => Sys2Proof.Machine.execVsel core s
  | .vabs core => Sys2Proof.Machine.execVabs core s
  | .vneg core => Sys2Proof.Machine.execVneg core s
  | .pand core => Sys2Proof.Machine.execPand core s
  | .por core => Sys2Proof.Machine.execPor core s
  | .pxor core => Sys2Proof.Machine.execPxor core s
  | .pnot core => Sys2Proof.Machine.execPnot core s
  | .pfromg core => Sys2Proof.Machine.execPfromg core s
  | .ptog core => Sys2Proof.Machine.execPtog core s
  | .ld core => Sys2Proof.Machine.execLd core s
  | .st core => Sys2Proof.Machine.execSt core s
  | .vld core => Sys2Proof.Machine.execVld core s
  | .vst core => Sys2Proof.Machine.execVst core s
  | .beq core => Sys2Proof.Machine.execBeq core s
  | .bne core => Sys2Proof.Machine.execBne core s
  | .blt core => Sys2Proof.Machine.execBlt core s
  | .bge core => Sys2Proof.Machine.execBge core s
  | .bp core => Sys2Proof.Machine.execBp core s
  | .jal core => Sys2Proof.Machine.execJal core s
  | .jalr core => Sys2Proof.Machine.execJalr core s
  | .trap core => Sys2Proof.Machine.execTrap core s
  | .rett core => Sys2Proof.Machine.execRett core s
  | .halt core => Sys2Proof.Machine.execHalt core s
  | .mfs core => Sys2Proof.Machine.execMfs core s
  | .mts core => Sys2Proof.Machine.execMts core s
  | .vectorIssue core => Sys2Proof.Machine.execVectorIssue core s
  | .sld core => Sys2Proof.Machine.execSld core s
  | .sst core => Sys2Proof.Machine.execSst core s
  | .sgo core => Sys2Proof.Machine.execSgo core s
  | .swait core => Sys2Proof.Machine.execSwait core s
  | .stest core => Sys2Proof.Machine.execStest core s
  | .streamEnd core sreg => Sys2Proof.Machine.execStreamEnd core sreg s
  | .hins core => Sys2Proof.Machine.execHins core s
  | .hmrg core => Sys2Proof.Machine.execHmrg core s
  | .tkin core => Sys2Proof.Machine.execTkin core s
  | .tkmrg core => Sys2Proof.Machine.execTkmrg core s
  | .ewma core => Sys2Proof.Machine.execEwma core s
  | .cusum core => Sys2Proof.Machine.execCusum core s
  | .tsub core => Sys2Proof.Machine.execTsub core s
  | .twait core => Sys2Proof.Machine.execTwait core s
  | .cenc core => Sys2Proof.Machine.execCenc core s
  | .cdec core => Sys2Proof.Machine.execCdec core s
  | .hinsDone ct => Sys2Proof.Machine.execHinsDone ct s
  | .hmrgDone ct => Sys2Proof.Machine.execHmrgDone ct s
  | .tkinDone ct => Sys2Proof.Machine.execTkinDone ct s
  | .tkmrgDone ct => Sys2Proof.Machine.execTkmrgDone ct s
  | .ewmaDone ct => Sys2Proof.Machine.execEwmaDone ct s
  | .cusumDone ct => Sys2Proof.Machine.execCusumDone ct s
  | .cencDone ct => Sys2Proof.Machine.execCencDone ct s
  | .cdecDone ct => Sys2Proof.Machine.execCdecDone ct s
  | .tsubDone core transients fail => Sys2Proof.Machine.execTsubDone core transients fail s
  | .semp core => Sys2Proof.Machine.execSemp core s
  | .semv core => Sys2Proof.Machine.execSemv core s
  | .bara core => Sys2Proof.Machine.execBara core s
  | .barw core => Sys2Proof.Machine.execBarw core s
  | .evset core => Sys2Proof.Machine.execEvset core s
  | .evclr core => Sys2Proof.Machine.execEvclr core s
  | .evw core => Sys2Proof.Machine.execEvw core s
  | .syrd core => Sys2Proof.Machine.execSyrd core s
  | .fenceL core => Sys2Proof.Machine.execFenceL core s
  | .fenceC core => Sys2Proof.Machine.execFenceC core s
  | .fenceT core => Sys2Proof.Machine.execFenceT core s
  | .fenceX core => Sys2Proof.Machine.execFenceX core s
  | .mbs core => Sys2Proof.Machine.execMbs core s
  | .mbr core => Sys2Proof.Machine.execMbr core s
  | .msnd core => Sys2Proof.Machine.execMsnd core s
  | .trd core => Sys2Proof.Machine.execTrd core s
  | .trdx core => Sys2Proof.Machine.execTrdx core s
  | .waitpt core => Sys2Proof.Machine.execWaitpt core s
  | .waitptRelease core => Sys2Proof.Machine.execWaitptRelease core s
  | .mackRx => Sys2Proof.Machine.execMackRx s
  | .msndUnreach => Sys2Proof.Machine.execMsndUnreach s
  | .periodCloseDeadline rid => Sys2Proof.Machine.execPeriodCloseDeadline rid s
  | .stepCloseWindow rid step => Sys2Proof.Machine.execStepCloseWindow rid step s
  | .reducePrimaryDone rid period wrong at' => Sys2Proof.Machine.execReducePrimaryDone rid period wrong at' s
  | .reduceVerdict rid period bad p q at' => Sys2Proof.Machine.execReduceVerdict rid period bad p q at' s
  | .verdictTimeout rid period => Sys2Proof.Machine.execVerdictTimeout rid period s
  | .rlReduceRx => Sys2Proof.Machine.execRlReduceRx s
  | .retentionEnd rid period => Sys2Proof.Machine.execRetentionEnd rid period s
  | .historyFile => Sys2Proof.Machine.execHistoryFile s
  | .exportPageCopy => Sys2Proof.Machine.execExportPageCopy s
  | .exportAbort at' => Sys2Proof.Machine.execExportAbort at' s
  | .exportCancel who at' => Sys2Proof.Machine.execExportCancel who at' s
  | .kitStart slot => Sys2Proof.Machine.execKitStart slot s
  | .planApplyTimeout slot => Sys2Proof.Machine.execPlanApplyTimeout slot s
  | .phaseDeadline slot phase => Sys2Proof.Machine.execPhaseDeadline slot phase s
  | .kitRestart slot => Sys2Proof.Machine.execKitRestart slot s
  | .kitUnloadDone slot => Sys2Proof.Machine.execKitUnloadDone slot s
  | .rlTxSlot port at' => Sys2Proof.Machine.execRlTxSlot port at' s
  | .rlDataFlitRx port f at' => Sys2Proof.Machine.execRlDataFlitRx port f at' s
  | .rlNullFlitRx port f at' => Sys2Proof.Machine.execRlNullFlitRx port f at' s
  | .rlCtlCredit port f at' => Sys2Proof.Machine.execRlCtlCredit port f at' s
  | .rlCtlNak port f at' => Sys2Proof.Machine.execRlCtlNak port f at' s
  | .rlCtlLane port f at' => Sys2Proof.Machine.execRlCtlLane port f at' s
  | .rlInitRx port f at' => Sys2Proof.Machine.execRlInitRx port f at' s
  | .rlReplayTimeout port at' => Sys2Proof.Machine.execRlReplayTimeout port at' s
  | .rlNakRepeat port at' => Sys2Proof.Machine.execRlNakRepeat port at' s
  | .rlCreditTimer port at' => Sys2Proof.Machine.execRlCreditTimer port at' s
  | .rlTrainStart port at' => Sys2Proof.Machine.execRlTrainStart port at' s
  | .fecWindowEnd port corr uncorr at' => Sys2Proof.Machine.execFecWindowEnd port corr uncorr at' s
  | .rlLaneLockLoss port ln at' => Sys2Proof.Machine.execRlLaneLockLoss port ln at' s
  | .rlPortDown port at' => Sys2Proof.Machine.execRlPortDown port at' s
  | .rlLatencySample port => Sys2Proof.Machine.execRlLatencySample port s
  | .ladderWatch => Sys2Proof.Machine.execLadderWatch s
  | .helloTimer => Sys2Proof.Machine.execHelloTimer s
  | .helloRx => Sys2Proof.Machine.execHelloRx s
  | .treeFormed => Sys2Proof.Machine.execTreeFormed s
  | .joinRx => Sys2Proof.Machine.execJoinRx s
  | .joinAckRx => Sys2Proof.Machine.execJoinAckRx s
  | .rehomeRx => Sys2Proof.Machine.execRehomeRx s
  | .pruneRx => Sys2Proof.Machine.execPruneRx s
  | .rootStale => Sys2Proof.Machine.execRootStale s
  | .staleExpiry => Sys2Proof.Machine.execStaleExpiry s
  | .parentFail => Sys2Proof.Machine.execParentFail s
  | .childPortDown port => Sys2Proof.Machine.execChildPortDown port s
  | .memberDeclareFailed => Sys2Proof.Machine.execMemberDeclareFailed s
  | .rlBcastRx => Sys2Proof.Machine.execRlBcastRx s
  | .backRx => Sys2Proof.Machine.execBackRx s
  | .bcastTimeout => Sys2Proof.Machine.execBcastTimeout s
  | .rlMsgRx => Sys2Proof.Machine.execRlMsgRx s
  | .rlQueryRx => Sys2Proof.Machine.execRlQueryRx s
  | .qansDeadline => Sys2Proof.Machine.execQansDeadline s
  | .rlQansRx => Sys2Proof.Machine.execRlQansRx s
  | .feedPeriod => Sys2Proof.Machine.execFeedPeriod s
  | .rlFeedRx => Sys2Proof.Machine.execRlFeedRx s
  | .rlLadderRx => Sys2Proof.Machine.execRlLadderRx s
  | .rlLanternRx => Sys2Proof.Machine.execRlLanternRx s
  | .rlManifestRx => Sys2Proof.Machine.execRlManifestRx s
  | .hcmdRx => Sys2Proof.Machine.execHcmdRx s
  | .hrspRx => Sys2Proof.Machine.execHrspRx s
  | .hcmdUnreach => Sys2Proof.Machine.execHcmdUnreach s
  | .certreqRx => Sys2Proof.Machine.execCertreqRx s
  | .certRx chainOk sigOk => Sys2Proof.Machine.execCertRx chainOk sigOk s
  | .mcertUnavailable => Sys2Proof.Machine.execMcertUnavailable s
  | .vigilWSample => Sys2Proof.Machine.execVigilWSample s
  | .vigilSnapshotA => Sys2Proof.Machine.execVigilSnapshotA s
  | .vigilTick => Sys2Proof.Machine.execVigilTick s
  | .vigilSnapshotB => Sys2Proof.Machine.execVigilSnapshotB s
  | .gremonVigilTick => Sys2Proof.Machine.execGremonVigilTick s
  | .vigilClose => Sys2Proof.Machine.execVigilClose s
  | .vigilResumeTick => Sys2Proof.Machine.execVigilResumeTick s
  | .lanternRead => Sys2Proof.Machine.execLanternRead s
  | .cktEnable who n v at' => Sys2Proof.Machine.execCktEnable who n v at' s
  | .ckptTriggerEval n => Sys2Proof.Machine.execCkptTriggerEval n s
  | .sdKeySet job at' => Sys2Proof.Machine.execSdKeySet job at' s
  | .scrDoneWrite hcode at' => Sys2Proof.Machine.execScrDoneWrite hcode at' s
  | .screenTimerExpiry => Sys2Proof.Machine.execScreenTimerExpiry s
  | .screenWaitExpiry => Sys2Proof.Machine.execScreenWaitExpiry s
  | .screenLostTimeout lane => Sys2Proof.Machine.execScreenLostTimeout lane s
  | .screenRotation lane => Sys2Proof.Machine.execScreenRotation lane s
  | .stressSessionWrite opens at' => Sys2Proof.Machine.execStressSessionWrite opens at' s
  | .herrWrite v at' => Sys2Proof.Machine.execHerrWrite v at' s
  | .residueMismatch w at' => Sys2Proof.Machine.execResidueMismatch w at' s
  | .coreTestEnd ct core pass => Sys2Proof.Machine.execCoreTestEnd ct core pass s
  | .kitLoad sigOk => Sys2Proof.Machine.execKitLoad sigOk s
  | .kitUnload => Sys2Proof.Machine.execKitUnload s
  | .packInstall sigOk => Sys2Proof.Machine.execPackInstall sigOk s
  | .packGet => Sys2Proof.Machine.execPackGet s
  | .jobkey => Sys2Proof.Machine.execJobkey s
  | .exportHistory => Sys2Proof.Machine.execExportHistory s
  | .mbSend => Sys2Proof.Machine.execMbSend s
  | .mbRecv => Sys2Proof.Machine.execMbRecv s
  | .query => Sys2Proof.Machine.execQuery s
  | .queryClose => Sys2Proof.Machine.execQueryClose s
  | .bcast sigOk => Sys2Proof.Machine.execBcast sigOk s
  | .vigil => Sys2Proof.Machine.execVigil s
  | .seal => Sys2Proof.Machine.execSeal s
  | .restoreOpen sigOk => Sys2Proof.Machine.execRestoreOpen sigOk s
  | .restoreSeal => Sys2Proof.Machine.execRestoreSeal s
  | .sqTailDoorbell q v fs at' => Sys2Proof.Machine.execSqTailDoorbell q v fs at' s
  | .cqHeadDoorbell q v fs at' => Sys2Proof.Machine.execCqHeadDoorbell q v fs at' s
  | .hqCfgWrite who q v at' => Sys2Proof.Machine.execHqCfgWrite who q v at' s
  | .rqHeadDoorbell r v at' => Sys2Proof.Machine.execRqHeadDoorbell r v at' s
  | .msixCoalesce v => Sys2Proof.Machine.execMsixCoalesce v s
  | .mgmtDatagram svc session mseq ofs len bs sigOk nestedOk at' => Sys2Proof.Machine.execMgmtDatagram svc session mseq ofs len bs sigOk nestedOk at' s
  | .mgmtReassemblyTimeout => Sys2Proof.Machine.execMgmtReassemblyTimeout s
  | .mbTxSend who chan at' => Sys2Proof.Machine.execMbTxSend who chan at' s
  | .mbRxAck who at' => Sys2Proof.Machine.execMbRxAck who at' s
  | .pcieReset at' => Sys2Proof.Machine.execPcieReset at' s
  | .fbWrite p x at' => Sys2Proof.Machine.execFbWrite p x at' s
  | .fbUnsetApply p => Sys2Proof.Machine.execFbUnsetApply p s
  | .indDataAccess p who w v at' => Sys2Proof.Machine.execIndDataAccess p who w v at' s
  | .indAccessFail p w at' => Sys2Proof.Machine.execIndAccessFail p w at' s
  | .paritySweep p hit => Sys2Proof.Machine.execParitySweep p hit s
  | .fullResetRequest svc who v at' => Sys2Proof.Machine.execFullResetRequest svc who v at' s
  | .fullReset t => Sys2Proof.Machine.execFullReset t s
  | .cdWatchdogExpiry => Sys2Proof.Machine.execCdWatchdogExpiry s
  | .hostWatchdogExpiry => Sys2Proof.Machine.execHostWatchdogExpiry s
  | .wdtKick v at' => Sys2Proof.Machine.execWdtKick v at' s
  | .powerFailWarning vin commit at' => Sys2Proof.Machine.execPowerFailWarning vin commit at' s
  | .braceExit => Sys2Proof.Machine.execBraceExit s
  | .inputReset vin at' => Sys2Proof.Machine.execInputReset vin at' s
  | .powerGood vin => Sys2Proof.Machine.execPowerGood vin s
  | .porBoot t => Sys2Proof.Machine.execPorBoot t s
  | .hwsetCommit => Sys2Proof.Machine.execHwsetCommit s
  | .pwrTargetWrite who v at' => Sys2Proof.Machine.execPwrTargetWrite who v at' s
  | .idleEntry => Sys2Proof.Machine.execIdleEntry s
  | .guylineEnable => Sys2Proof.Machine.execGuylineEnable s
  | .podReadyTimeout => Sys2Proof.Machine.execPodReadyTimeout s
  | .stageChunk mseq ofs bs => Sys2Proof.Machine.execStageChunk mseq ofs bs s
  | .stageEnd mseq total sigOk nestedOk => Sys2Proof.Machine.execStageEnd mseq total sigOk nestedOk s
  | .schedule mseq p sigOk => Sys2Proof.Machine.execSchedule mseq p sigOk s
  | .svcConfirm mseq b sigOk => Sys2Proof.Machine.execSvcConfirm mseq b sigOk s
  | .svcRevert mseq b sigOk => Sys2Proof.Machine.execSvcRevert mseq b sigOk s
  | .svcToken mseq b sigOk => Sys2Proof.Machine.execSvcToken mseq b sigOk s
  | .svcStatus mseq => Sys2Proof.Machine.execSvcStatus mseq s
  | .updCtlConfirm who key at' => Sys2Proof.Machine.execUpdCtlConfirm who key at' s
  | .updCtlRevert who key at' => Sys2Proof.Machine.execUpdCtlRevert who key at' s
  | .activationTick => Sys2Proof.Machine.execActivationTick s
  | .fallbackReadyTimeout => Sys2Proof.Machine.execFallbackReadyTimeout s
  | .autoRevertTimeout => Sys2Proof.Machine.execAutoRevertTimeout s
  | .tokenLapse => Sys2Proof.Machine.execTokenLapse s
  | .spdmRequest doe num m => Sys2Proof.Machine.execSpdmRequest doe num m s
  | .bind num mid => Sys2Proof.Machine.execBind num mid s
  | .alMeas doe num lane => Sys2Proof.Machine.execAlMeas doe num lane s
  | .erRelWrite who v at' => Sys2Proof.Machine.execErRelWrite who v at' s
  | .erWindowRead p who k at' => Sys2Proof.Machine.execErWindowRead p who k at' s
  | .bbCompaction => Sys2Proof.Machine.execBbCompaction s
  | .bbMirrorCopy => Sys2Proof.Machine.execBbMirrorCopy s
  | .bbCurWrite who lo hi at' => Sys2Proof.Machine.execBbCurWrite who lo hi at' s
  | .traceBranchFlush p src => Sys2Proof.Machine.execTraceBranchFlush p src s
  | .traceSyncTimer p src => Sys2Proof.Machine.execTraceSyncTimer p src s
  | .traceDrain => Sys2Proof.Machine.execTraceDrain s
  | .traceTrigWrite who v at' => Sys2Proof.Machine.execTraceTrigWrite who v at' s
  | .traceTickTrigger => Sys2Proof.Machine.execTraceTickTrigger s
  | .traceStop => Sys2Proof.Machine.execTraceStop s
  | .selfTelemetryLatch power => Sys2Proof.Machine.execSelfTelemetryLatch power s
  | .thermalReading dies stks => Sys2Proof.Machine.execThermalReading dies stks s
  | .pwrEnFall at' => Sys2Proof.Machine.execPwrEnFall at' s
  | .mainRstRelease at' => Sys2Proof.Machine.execMainRstRelease at' s
  | .refclkReturn at' => Sys2Proof.Machine.execRefclkReturn at' s
  | .aoclkRangeClear at' => Sys2Proof.Machine.execAoclkRangeClear at' s
  | .glBlockLockAcquired e pr => Sys2Proof.Machine.execGlBlockLockAcquired e pr s
  | .rlAlignmentLock port lns at' => Sys2Proof.Machine.execRlAlignmentLock port lns at' s
  | .cmdBadOp => Sys2Proof.Machine.execCmdBadOp s
  | .queryDeadline => Sys2Proof.Machine.execQueryDeadline s
  | .hostLinkTrained width rate at' => Sys2Proof.Machine.execHostLinkTrained width rate at' s
  | .wakeComplete at' => Sys2Proof.Machine.execWakeComplete at' s
  | .pwrEnRise => Sys2Proof.Machine.execPwrEnRise s
  | .recoveryCrossing rising vin at' => Sys2Proof.Machine.execRecoveryCrossing rising vin at' s

end Sys2Proof.Machine
end

