-- ==== Sys2Proof/Machine/Step.lean ====
section
/-! DEFINITION. One step: the command at the front of the queue runs on the state with the queue's rest; with no command
waiting, one cycle of the 100 MHz oscillators passes in both parts. -/
namespace Sys2Proof.Machine
open Sys2Proof

/-- One 10 ns cycle of AILEN's oscillator; none is counted while ao_por_n is asserted.
Log: entry 2 (DESIGN CHOICE). -/
def Ailen.idle (a : Ailen) : Ailen := if a.aoReset then a else { a with clock := a.clock.elapse (10 * tickUnit) }

/-- One 10 ns cycle of Gremon's; none without its rails.
Log: entry 2 (DESIGN CHOICE). -/
def Gremon.idle (g : Gremon) : Gremon :=
  if g.sys.pwr.rails then { g with clock := g.clock.elapse (10 * tickUnit) } else g

/-- One step.
Log: entry 2 (DESIGN CHOICE). -/
def step (s : State) : Host.Outcome State Fault Refusal :=
  match s.pending with
  | i :: q => exec i { s with pending := q }
  | [] => .next { s with a := s.a.idle, g := s.g.idle }

/-- The state with the command that a word spells put at the front of its queue: the table gives no command any bits, so no
word spells one.
Log: entry 5 (DESIGN CHOICE). -/
def State.withFetchWord (s : State) (nbits w : Nat) : State :=
  match decodeTableWord nbits w with
  | some i => { s with pending := i :: s.pending }
  | none => s

end Sys2Proof.Machine
end

