-- ==== Sys2Proof/Safety.lean ====
section
/-! DEFINITION. What a safe run is, in the terms that statements use: no step stops, nothing is left half done between
commands, and memory keeps its one form; and the words in which statements say what a command does. -/
namespace Sys2Proof.Machine
open Sys2Proof

/-- Nothing is left half done between commands: no halted core waits for its kit, no event waits to be offered.
Log: entry 8 (DESIGN CHOICE). -/
def Gremon.quiet (g : Gremon) : Bool := g.halted.isEmpty && g.log.offers.isEmpty

/-- IDLE is left at the first work (18 R602): a Gremon with its rails on that is in IDLE has no RUNNING kit, no query part under
way and no export. -/
def Gremon.restful (g : Gremon) : Bool := !(g.sys.pwr.rails && decide (g.sys.pwr.pstate = 1) && g.working)

/-- What holds between commands.
Log: entry 8 (DESIGN CHOICE). -/
def State.Inv (s : State) : Prop := s.g.quiet = true ∧ s.g.restful = true

/-! ### What a command leaves -/

/-- The state after a command whose own effect on Gremon leaves `h`: the step ends by settling it (07 R269, 12 R403, 20 R647).
AILEN and the queue stay as they were. -/
def State.withG (s : State) (h : Gremon) : State := { s with g := h.settle }

/-- The state after a command whose effect on AILEN leaves `a`. Gremon and the queue stay as they were. -/
def State.withA (s : State) (a : Ailen) : State := { s with a := a }

/-- `i` answers a next state of which `P` holds. -/
def Completes (i : Instr) (s : State) (P : State → Prop) : Prop := ∃ t, exec i s = .next t ∧ P t

/-- `i` answers a next state; its own effect on Gremon, before the step settles it, leaves a Gremon of which `P` holds. -/
def DoneG (i : Instr) (s : State) (P : Gremon → Prop) : Prop := ∃ h, exec i s = .next (s.withG h) ∧ P h

/-- `i` answers a next state in which AILEN alone has changed, and `P` holds of AILEN. -/
def DoneA (i : Instr) (s : State) (P : Ailen → Prop) : Prop := ∃ a, exec i s = .next (s.withA a) ∧ P a

/-- Gremon without what the end of a step may still change: its recorder, host side, Sync Hub objects, reductions, kits, HBM, and
the counters and records of their own, among them TD's POISON count, which a lost trace chunk raises. Everything else stays as a
command's own effect leaves it. -/
def Gremon.kept (g : Gremon) : Gremon :=
  { g with
    regs := { g.regs with vals := g.regs.vals.filter fun e => decide (e.1 ≠ kDieStat 31) }, redOld := []
    log := Recorder.reset, host := HostSide.reset, sync := [], reds := [], redNext := [], seed := 0, kits := [], halted := []
    mem := g.mem.filter fun e => decide (e.1 < 2 ^ 47), poison := g.poison.filter fun l => decide (l < 2 ^ 41)
    sys := { g.sys with tel := Sys.reset.tel, bb := Sys.reset.bb, trc := Sys.reset.trc
                        pwr := { g.sys.pwr with pstate := 0, podSent := none } }
    svc := { g.svc with missed := [] } }

/-- AILEN's recorder stores an event as its next entry (20 R651). -/
structure Ailen.Recorded (a b : Ailen) (ev : Ev) (st : Stamp) (data : List Byte) : Prop where
  count : b.recWr = a.recWr + 1
  entry : Tbl.find b.recSlots (a.recWr % 1024) = some ⟨BitVec.ofNat 32 a.recWr, BitVec.ofNat 16 ev.code, st, padTo 44 data⟩

/-- AILEN's recorder has room: fewer than 1,024 entries are unacknowledged. -/
def Ailen.roomy (a : Ailen) : Bool := decide (a.recWr - a.recAck < 1024)

/-- Gremon's recorder files a record of its own as its next entry (20 R643, R646). -/
structure Gremon.Filed (g h : Gremon) (ev : Ev) (job : Nat) (data : List Byte) : Prop where
  count : h.log.wr = (g.log.wr + 1) % 2 ^ 32
  entry : ∃ e, Tbl.find h.log.slots (g.log.wr % 16384) = some e ∧ e.code = BitVec.ofNat 16 ev.code ∧
    e.job = BitVec.ofNat 16 job ∧ e.src = BitVec.ofNat 32 (eidGremon g.gid) ∧ e.data = padTo 40 data

/-- Gremon's recorder has a free slot. -/
def Gremon.roomy (g : Gremon) : Bool := decide ((g.log.wr + 2 ^ 32 - g.log.rel) % 2 ^ 32 < 16384)

/-! ### Brutu -/

/-- Core `n` of a Gremon with its rails on can take, in cycle `cy`, the instruction at its PC: a well-formed word of opcode `op`. -/
structure State.Issues (s : State) (n op cy : Nat) : Prop where
  rails  : s.g.sys.pwr.rails = true
  core   : n < 512
  can    : (s.g.core n).canIssue = true
  clean  : s.g.linePoison (spadCna n (s.g.core n).pc.toNat) 8 = false
  opcode : wOp (s.g.fetchWord n) = op
  formed : wordOk (s.g.fetchWord n) = true
  cycle  : (s.g.core n).issueAt (s.g.fetchWord n) = some cy

/-- The same, and the next instruction lies in the code window. -/
structure State.Flows (s : State) (n op cy : Nat) : Prop where
  issues : s.Issues n op cy
  next   : (s.g.core n).inCode ((s.g.core n).pc.toNat + 8) = true

/-- Core `c` after instruction `w` has retired: the cycle of the next issue, and the address control passes to. -/
def BCore.ended (c : BCore) (w cycle t : Nat) : BCore := { c.retire w with cycle := cycle, pc := BitVec.ofNat 22 t }

/-- Gremon `h` is `g` with core `n` left as `d`. No other core, no byte of a scratchpad or CT buffer and nothing else that the
end of the step leaves alone differs. -/
structure Gremon.OnlyCore (g h : Gremon) (n : Nat) (d : BCore) : Prop where
  core  : h.core n = d
  cores : ∀ m, m ≠ n → h.core m = g.core m
  mem   : ∀ a, a < 2 ^ 47 → h.byte a = g.byte a
  rest  : { h with cores := [] }.kept = { g with cores := [] }.kept

/-- State `t` is `s` with core `n` left as `d`; AILEN and the queue are as they were. -/
structure State.OnlyCore (s t : State) (n : Nat) (d : BCore) : Prop where
  gremon : s.g.OnlyCore t.g n d
  ailen  : t.a = s.a
  queue  : t.pending = s.pending

/-- Instruction `i` completes on core `n` and leaves it as `d`, and nothing else changes. -/
def State.LeavesCore (s : State) (i : Instr) (n : Nat) (d : BCore) : Prop := Completes i s fun t => s.OnlyCore t n d

/-- `i` writes `v`, extended as R254 says for format `f`, to the g register in D, raises the flags `fl`, and the next instruction
follows one cycle later. -/
def State.Scalar (s : State) (i : Instr) (n cy f v fl : Nat) : Prop :=
  let c := s.g.core n
  let w := s.g.fetchWord n
  s.LeavesCore i n
    (((c.wgAt (wD w) (extend f v) (cy + scalarLat (wOp w) (wFmt w) (wSub w))).flag fl).ended w (cy + 1) (c.pc.toNat + 8))

/-- Core `c` after the instruction `w`, whose wait ended in cycle `k`, with the value `v` for g[D], if it has one. -/
def BCore.waited (c : BCore) (w k : Nat) (v : Option Nat) : BCore :=
  (match v with
    | some x => c.wgAt (wD w) x (k + 1)
    | none => c).ended w (k + 1) (c.pc.toNat + 8)

/-- A comparison of two integers under a condition of Table 7.8. -/
def condHolds (cond : Nat) (x y : Int) : Bool :=
  match cond with
  | 0 => decide (x = y) | 1 => decide (x ≠ y) | 2 => decide (x < y) | 3 => decide (x ≤ y) | 4 => decide (x > y) | _ => decide (x ≥ y)

/-- Core `c` after it has taken the trap `code` at an instruction that issued in cycle `cy` (R268). -/
def BCore.trapped (c : BCore) (cy code tval : Nat) : BCore :=
  { c with badPc := none, epc := c.pc, cause := BitVec.ofNat 8 code, tval := BitVec.ofNat 64 tval, inTrap := true, pc := c.tvec
           cycle := max cy c.vdone + 3 }

/-- The vector unit issues the head of core `n`'s queue, `w` with `e` its entry: the core runs, is not halted by a cut and no
fetch trap waits. -/
structure Gremon.VectorHead (g : Gremon) (n : Nat) (e : VqEntry) (rest : List VqEntry) (op : Nat) : Prop where
  rails  : g.sys.pwr.rails = true
  core   : n < 512
  queue  : (g.core n).vq = e :: rest
  runs   : (g.core n).run = true
  free   : (g.core n).frozen = false
  inWin  : (g.core n).badPc = none
  opcode : wOp e.word.toNat = op
  formed : wordOk e.word.toNat = true

/-- What an active lane takes of vector operation `op` (R248–R255) on lanes `a`, `b` and `c` and the g operand `g`, before it is
cut to the format's width, and the flags it raises. -/
def laneResult (op f rm a b c g : Nat) : Nat × Nat :=
  match op with
  | 0x40 => elemAdd f rm a b
  | 0x41 => elemSub f rm a b
  | 0x42 => elemMul f rm a b
  | 0x43 => fpFma f rm (fpDecode f a) (fpDecode f b) (fpDecode f c)
  | 0x44 => elemDiv f rm a b
  | 0x45 => fpSqrt f rm (fpDecode f a)
  | 0x46 => elemMinMax f false a b
  | 0x47 => elemMinMax f true a b
  | 0x48 => (a &&& b, 0)
  | 0x49 => (a ||| b, 0)
  | 0x4A => (a ^^^ b, 0)
  | 0x4B => (a * 2 ^ (b % fmtWidth f), 0)
  | 0x4C => (a / 2 ^ (b % fmtWidth f), 0)
  | 0x4D => (((toInt (fmtWidth f) a / 2 ^ (b % fmtWidth f)) % 2 ^ fmtWidth f).toNat, 0)
  | 0x50 => (g, 0)
  | 0x54 => (a, 0)
  | 0x55 => (elemAbs f a, 0)
  | _ => (elemNeg f a, 0)

/-- A command's end (08 R286, Table 8.5): `h` is `g` without command `e`, with RESULT, DONE and COUNT in its STATUS. -/
structure Gremon.EngineEnds (g h : Gremon) (e : EngCmd) (result count : Nat) : Prop where
  gone   : h.eng = g.eng.filter fun x => decide (¬(x.core = e.core ∧ x.engine = e.engine ∧ x.seq = e.seq))
  status : h.rd (spadCna e.core (e.addr + 56)) 8 = result + 256 + 2 ^ 32 * (count % 2 ^ 32)

/-- Core `n` names an object of its kit, of the right kind, that nobody waits on (08 R293). -/
structure State.HubReady (s : State) (n kind o : Nat) : Prop where
  object  : (s.g.core n).hubObj (s.g.fetchWord n) = o
  known   : o ≤ 16383
  kind    : (s.g.obj o).kind = kind
  kit     : (s.g.obj o).kit = (s.g.core n).grants.kit
  alone   : (s.g.obj o).waiters = []

/-- A Sync Hub instruction ends: the object is left as `x`, the core as its wait's end leaves it, and no other object or core changes. -/
def State.HubDone (s : State) (i : Instr) (n o : Nat) (x : SyncObj) (v : Option Nat) : Prop :=
  ∃ k, max (s.g.core n).cycle (s.g.core n).vdone ≤ k ∧
    DoneG i s fun h => h.obj o = x ∧ (∀ q, q ≠ o → h.obj q = s.g.obj q) ∧
      s.g.OnlyCore h n ((s.g.core n).waited (s.g.fetchWord n) k v)

/-! ### Time -/

/-- Clock `d` is `c` after an accepted exchange with offset θ, in sixteenths of a nanosecond (R149, Table 4.10): it leaves UNSET,
turns its rate and may lock, or beyond STEP_THR counts the exchange and at the second in a row steps. -/
structure Clock.Disciplined (c d : Clock) (theta : Int) (iNs ppm : Nat) : Prop where
  heard  : d.waiting = false ∧ d.lastOk = c.lmNs ∧ d.lm = c.lm
  unset  : c.own = .unset → d.own = .free ∧ d.pt = (((c.lm / 2 ^ 36 : Nat) : Int) - theta).toNat * 2 ^ 36
  near   : c.own ≠ .unset → -16000 ≤ theta → theta ≤ 16000 →
    let yInt := c.yInt - floorDiv (theta * (10 * 2 ^ 40)) ((16 * 256 * iNs : Nat) : Int)
    d.pt = c.pt ∧ d.yInt = yInt ∧ d.y = clampY yInt (yInt - floorDiv (theta * (10 * 2 ^ 40)) ((16 * 8 * iNs : Nat) : Int)) ppm ∧
    d.own = (if -128 ≤ theta ∧ theta ≤ 128 ∧ 7 ≤ c.okRun then .locked else c.own)
  first  : c.own ≠ .unset → (theta < -16000 ∨ 16000 < theta) → c.stepRun = 0 → d.pt = c.pt ∧ d.own = c.own ∧ d.stepRun = 1
  second : c.own ≠ .unset → (theta < -16000 ∨ 16000 < theta) → c.stepRun ≠ 0 →
    d.own = .free ∧ d.pt = ((c.pt : Int) - theta * 2 ^ 36).toNat

/-- θ and D of an exchange on clock `c`, its response received at `t4` (R147). -/
def Clock.theta (c : Clock) (t2 t3 : Stamp) (t4 : Nat) (asym : Int) : Int :=
  floorDiv ((t4 - t3.sixteenths : Int) - (t2.sixteenths - c.t1) + asym) 2
def Clock.trip (c : Clock) (t2 t3 : Stamp) (t4 : Nat) : Int := (t4 - c.t1 : Int) - (t3.sixteenths - t2.sixteenths)

/-- The exchange is accepted: the parent's time is set, no measuring exchange is due, and the round trip is within 2 ns of the
least of the last sixteen (R146, R148, R149). -/
def Clock.accepts (c : Clock) (t2 t3 : Stamp) (t4 : Nat) : Prop :=
  t3.qual ≠ .unset ∧ c.measure = 0 ∧ 0 ≤ c.trip t2 t3 t4 ∧
    ∀ d ∈ (c.hist ++ [(c.trip t2 t3 t4).toNat]).drop (c.hist.length + 1 - 16), c.trip t2 t3 t4 ≤ d + 32

/-! ### Registers -/

/-- A plain register of a part: one that is stored as written and has no behaviour of its own. -/
def plainReg (p : Part) (k : Nat) : Bool :=
  match p with
  | .ailen => (decide (0x1000 ≤ k) && decide (k ≠ 0x1004) && decide (k < 0x4000)) || decide (k = 0x4018) || decide (k = 0x401C) ||
      decide (k = 0x4030) || decide (k = 0x4034) || (decide (0x5000 ≤ k) && decide (k < 0x5040)) ||
      (decide (0x6000 ≤ k) && decide (k < 0x7020)) || (decide (0x8000 ≤ k) && decide (k < 0x8020)) || decide (k = 0x8048)
  | .gremon => decide (k = 0x300004) || (decide (0x300200 ≤ k) && decide (k < 0x300218)) ||
      (decide (0x100000 ≤ k) && decide (k < 0x101000) && decide (k % 0x40 < 16)) || decide (k = 0x10204) || decide (k = 0x2000008)

/-! ### Guyline -/

/-- One end of a link, the part that has it, and whether it takes events: AILEN's out of reset with its reference clock, Gremon's
with the rails on. -/
def State.link (s : State) (e : GlEnd) : GlLink :=
  match e with
  | .ailen => s.a.gl
  | .lane n => s.g.lane n
/-- AILEN when an event reaches it at `ns`, if its command names a time; and that end of the link then. -/
def State.ailenAt (s : State) (ns : Option Nat) : Ailen :=
  match ns with
  | some n => s.a.moveTo n
  | none => s.a
def State.linkAt (s : State) (e : GlEnd) (ns : Nat) : GlLink :=
  match e with
  | .ailen => (s.ailenAt (some ns)).gl
  | .lane n => s.g.lane n
def linkPart (e : GlEnd) : Part :=
  match e with
  | .ailen => .ailen
  | .lane _ => .gremon
def State.linkUp (s : State) (e : GlEnd) : Prop :=
  match e with
  | .ailen => s.a.aoReset = false ∧ s.a.refLost = false
  | .lane n => s.g.sys.pwr.rails = true ∧ n < 512

/-- A link event completes and leaves that end of which `P` holds; no other lane, no byte of memory and nothing of capture
changes, and a `quiet` event changes nothing beside the link and, in AILEN, what its recorder has seen acknowledged. -/
def DoneL (i : Instr) (s : State) (e : GlEnd) (ns : Option Nat) (quiet : Bool) (P : GlLink → Prop) : Prop :=
  match e with
  | .ailen => DoneA i s fun b => P b.gl ∧ b.cap = (s.ailenAt ns).cap ∧
      (quiet = true → b = { s.ailenAt ns with gl := b.gl, recAck := b.recAck })
  | .lane n => DoneG i s fun h => P (h.lane n) ∧ (∀ m, m ≠ n → h.lane m = s.g.lane m) ∧ h.mem = s.g.mem ∧
      (quiet = true → h = { s.g.moveTo (ns.getD 0) with lanes := h.lanes })

/-- A frame that passes CRC and header checks, of a kind, that acknowledges nothing (R172). -/
def goodFrame (f : List Byte) (kind : Nat) : Prop := frCrcOk f = true ∧ frHdrOk f = true ∧ frKind f = kind ∧ frAckv f = false
/-! ### Host commands -/

/-- With its rails on a Gremon that has not failed holds, of opcode `o`, the waiting host command `c` first; `r` are the others.
Log: entry 11 (DESIGN CHOICE). -/
def State.HasCmd (s : State) (o : Nat) (c : HostCmd) (r : List HostCmd) : Prop :=
  s.g.sys.pwr.rails = true ∧ s.g.failed = false ∧ takeFirst (fun x => decide (x.opc = o)) s.g.host.cmds = some (c, r)

/-- Gremon once it has taken the command. -/
def State.took (s : State) (r : List HostCmd) : Gremon := { s.g with host := { s.g.host with cmds := r } }

/-- `i` completes the host command `c` with STATUS, DETAIL, RESULT and reply, as its own effect; `P` holds of Gremon before the
completion is written. -/
def DoneC (i : Instr) (s : State) (c : HostCmd) (status detail : Nat) (result reply : List Byte) (P : Gremon → Prop) : Prop :=
  DoneG i s fun h => ∃ x : Gremon, h = x.complete c status detail result reply ∧ P x
/-- Among the messages queued in class `c` of port `p` is one of these bytes. -/
def Gremon.queued (g : Gremon) (p c : Nat) (bytes : List Byte) : Prop :=
  ∃ x ∈ ((g.port p).classes.getD c RlClass.reset).q, x.bytes = bytes
/-- A flit that passes CRC and header checks, of a kind, that acknowledges nothing (13 R416). -/
def goodFlit (f : List Byte) (kind : Nat) : Prop := flCrcOk f = true ∧ flHdrOk f = true ∧ flKind f = kind ∧ flAckv f = false
/-! ### Messages between Gremons -/

/-- With its rails on Gremon holds, of type `ty`, the received message `m` first; `r` are the others.
Log: entry 11 (DESIGN CHOICE). -/
def State.HasRl (s : State) (ty : Nat) (m : RlMsgIn) (r : List RlMsgIn) : Prop :=
  s.g.sys.pwr.rails = true ∧ takeFirst (fun x => decide (leAt x.bytes 0 1 = ty)) s.g.rlIn = some (m, r)
/-- The same of a JOIN message of a kind.
Log: entry 11 (DESIGN CHOICE). -/
def State.HasJoin (s : State) (kind : Nat) (m : RlMsgIn) (r : List RlMsgIn) : Prop :=
  s.g.sys.pwr.rails = true ∧
    takeFirst (fun x => decide (leAt x.bytes 0 1 = 0x02) && decide (leAt x.bytes 18 1 = kind)) s.g.rlIn = some (m, r)
/-- Gremon once it has taken the message. -/
def State.heardRl (s : State) (r : List RlMsgIn) : Gremon := { s.g with rlIn := r }
/-- The tree makes this Gremon its root (13 R430, R433). -/
def Gremon.heads (g : Gremon) : Prop := g.tree.root = g.gid ∧ g.tree.phase ≠ 3 ∧ g.tree.none = false
/-- A hop-by-hop message of type `ty` waits in class `c` of port `p` for the neighbour there. -/
def Gremon.hopped (g h : Gremon) (p c ty : Nat) (body : List Byte) : Prop :=
  h.queued p c (g.rlMsg ty 0 ((g.neighbour p).getD 0x3FF) 0 0 body)
/-- A message of type `ty` is on its way to Gremon `dst`: it waits on the port toward it, or has come in at this Gremon itself. -/
def Gremon.toward (g h : Gremon) (dst c ty : Nat) (body : List Byte) : Prop :=
  if dst = g.gid then ∃ x ∈ h.rlIn, x.bytes = g.rlMsg ty 0 dst 0 0 body
  else ∃ p, g.routeTo dst = some p ∧ h.queued p c (g.rlMsg ty 0 dst 0 0 body)

end Sys2Proof.Machine
end

