-- ==== Sys2Proof/Certificates/Slice0/Obligations.lean ====
section
/-! DEFINITION. The statements for the provers. -/
open Sys2Proof Sys2Proof.Machine

/-! ### The machine as a whole -/

/-- A step runs the command at the front of the queue, with the queue's rest. -/
def Obligations.StepRunsFront : Prop :=
  ∀ (c : Instr) (q : List Instr) (s : State), step { s with pending := c :: q } = exec c { s with pending := q }

/-- With no command waiting a step lets one 10 ns cycle of each part's oscillator pass and changes nothing else: LM advances by it,
and nothing moves in a part that ao_por_n or its rails hold (the model's choice, log entry 2).
The model's choices in it: log entry 2. -/
def Obligations.EmptyQueueIdles : Prop :=
  ∀ s : State, s.pending = [] → ∃ t, step s = .next t ∧ t.pending = [] ∧
    { t.a with clock := s.a.clock } = s.a ∧ { t.g with clock := s.g.clock } = s.g ∧
    (s.a.aoReset = true → t.a = s.a) ∧ (s.a.aoReset = false → t.a.clock.lm = s.a.clock.lm + 10 * 2 ^ 40) ∧
    (s.g.sys.pwr.rails = false → t.g = s.g) ∧ (s.g.sys.pwr.rails = true → t.g.clock.lm = s.g.clock.lm + 10 * 2 ^ 40)

/-- The state after reset (04 Table 4.6, 05, 07, 13, 16, 18 R592, 20): the invariant holds, nothing waits, memory lists nothing, PT is UNSET and
reads 0, LM reads 0, every Gremon register reads its reset value, links are DOWN, and no die, kit, host command or record is held.
What the spec gives no reset value is the model's choice (log entry 1).
The model's choices in it: log entries 1, 6. -/
def Obligations.ResetState : Prop :=
  let a := State.reset.a
  let g := State.reset.g
  State.reset.Inv ∧ State.reset.pending = [] ∧ Memory.wf g.mem = true ∧ (∀ x, g.byte x = 0) ∧
  a.clock.own = .unset ∧ a.now = 0 ∧ a.clock.lmNs = 0 ∧ g.clock.own = .unset ∧ g.now = 0 ∧ g.clock.lmNs = 0 ∧
  (∀ k, g.regs.get .gremon k = rstWord .gremon k) ∧ (∀ k, k ≠ 0x10 → a.regs.get .ailen k = rstWord .ailen k) ∧
  a.frameNs = 100000 ∧ a.scoreNs = 1000000 ∧ g.frameUs = 100 ∧ g.frameN = 10 ∧
  a.gl.st = .down ∧ (∀ n, (g.lane n).st = .down) ∧ a.recWr = 0 ∧ g.log.wr = 0 ∧ g.log.rel = 0 ∧ a.pwr = .active ∧
  (∀ l, (g.die l).accepted = false) ∧ (∀ k, (g.kit k).state = 0) ∧ (∀ n, (g.core n).run = false) ∧ g.host.cmds = []

/-- Whatever the state and the command, a step that answers a next state from one in which nothing is left half done, and in which
a Gremon in IDLE has no work (18 R602), answers one of which the same holds.
The model's choices in it: log entry 8. -/
def Obligations.StepKeepsInv : Prop :=
  ∀ s t : State, s.Inv → step s = .next t → t.Inv

/-- No step stops: every command in every state answers a next state, and the queue is left as it was without the front command.
The model's choices in it: log entry 12. -/
def Obligations.NoStepStops : Prop :=
  (∀ s : State, ∃ t, step s = .next t ∧ t.pending = s.pending.drop 1) ∧ ∀ (c : Instr) (s : State), ∃ t, exec c s = .next t ∧ t.pending = s.pending

/-- AILEN and Gremon have no state in common (01, 02): but for the PT step that both take at one tick, a command changes one of them
alone.
The model's choices in it: log entry 3. -/
def Obligations.OnePartPerCommand : Prop :=
  ∀ (c : Instr) (s t : State), (∀ x, c ≠ .ptStepTick x) → exec c s = .next t → t.a = s.a ∨ t.g = s.g

/-! ### Brutu cores (07) -/

/-- Integer register instructions (07 R248, R253, R254): on U64, I64, U32 and I32 the result written to g[D] is, in the format's
width, the sum, difference, bitwise combination, shift by g[B] modulo the width, lesser or greater, comparison, or half of the
product; no flag is raised, g0 discards the write, and nothing but the core changes.
Immediates (07 R253, R254): g[A] in the format with the immediate sign-extended to 64 bits; shifts by IMM[5:0]; LI and LIH.
The model's choices in it: log entry 32. -/
def Obligations.BrutuIntegers : Prop :=
  (∀ (s : State) (n cy : Nat),
    let c := s.g.core n
    let w := s.g.fetchWord n
    let f := wFmt w
    let W := fmtWidth f
    let a := c.opA w
    let b := c.opB w
    let x := elemInt f a
    let y := elemInt f b
    (s.Flows n 0x01 cy → s.LeavesCore (.nop n) n (c.ended w (cy + 1) (c.pc.toNat + 8))) ∧
    (s.Flows n 0x02 cy → s.Scalar (.add n) n cy f ((x + y) % 2 ^ W).toNat 0) ∧
    (s.Flows n 0x03 cy → s.Scalar (.sub n) n cy f ((x - y) % 2 ^ W).toNat 0) ∧
    (s.Flows n 0x04 cy → s.Scalar (.and n) n cy f (a &&& b) 0) ∧
    (s.Flows n 0x05 cy → s.Scalar (.or n) n cy f (a ||| b) 0) ∧
    (s.Flows n 0x06 cy → s.Scalar (.xor n) n cy f (a ^^^ b) 0) ∧
    (s.Flows n 0x07 cy → s.Scalar (.sll n) n cy f (a * 2 ^ (b % W) % 2 ^ W) 0) ∧
    (s.Flows n 0x08 cy → s.Scalar (.srl n) n cy f (a / 2 ^ (b % W)) 0) ∧
    (s.Flows n 0x09 cy → s.Scalar (.sra n) n cy f ((toInt W a / 2 ^ (b % W)) % 2 ^ W).toNat 0) ∧
    (s.Flows n 0x0A cy → s.Scalar (.min n) n cy f (if x ≤ y then a else b) 0) ∧
    (s.Flows n 0x0B cy → s.Scalar (.max n) n cy f (if x ≥ y then a else b) 0) ∧
    (s.Flows n 0x0C cy → s.Scalar (.cmp n) n cy 0 (b2n (condHolds (wSub w) x y)) 0) ∧
    (s.Flows n 0x0E cy → s.Scalar (.mul n) n cy f ((x * y) % 2 ^ W).toNat 0) ∧
    (s.Flows n 0x0F cy → s.Scalar (.mulh n) n cy f ((x * y / 2 ^ W) % 2 ^ W).toNat 0)) ∧
  (∀ (s : State) (n cy : Nat),
    let c := s.g.core n
    let w := s.g.fetchWord n
    let f := wFmt w
    let W := fmtWidth f
    let a := c.opA w
    let x := elemInt f a
    let i := wImm w
    let u := ofInt 64 i
    (s.Flows n 0x17 cy → s.Scalar (.lih n) n cy 1 (c.rg (wA w) % 2 ^ 37 + bits w 26 0 * 2 ^ 37) 0) ∧
    (s.Flows n 0x18 cy → s.Scalar (.addi n) n cy f ((x + i) % 2 ^ W).toNat 0) ∧
    (s.Flows n 0x19 cy → s.Scalar (.andi n) n cy f (a &&& u) 0) ∧
    (s.Flows n 0x1A cy → s.Scalar (.ori n) n cy f ((a ||| u) % 2 ^ W) 0) ∧
    (s.Flows n 0x1B cy → s.Scalar (.xori n) n cy f ((a ^^^ u) % 2 ^ W) 0) ∧
    (s.Flows n 0x1C cy → s.Scalar (.slli n) n cy f (a * 2 ^ bits w 5 0 % 2 ^ W) 0) ∧
    (s.Flows n 0x1D cy → s.Scalar (.srli n) n cy f (a / 2 ^ bits w 5 0) 0) ∧
    (s.Flows n 0x1E cy → s.Scalar (.srai n) n cy f ((toInt W a / 2 ^ bits w 5 0) % 2 ^ W).toNat 0) ∧
    (s.Flows n 0x1F cy → s.Scalar (.li n) n cy 1 (i % 2 ^ 64).toNat 0))

/-- DIV and REM (07 R250): the quotient truncates toward zero and the remainder takes the dividend's sign; division by zero
answers all ones and the dividend, and raises DZ; the most negative value divided by −1 is itself, with remainder 0 and no
flag. Both hold the divider for their latency. -/
def Obligations.BrutuDivision : Prop :=
  ∀ (s : State) (n cy : Nat),
    let c := s.g.core n
    let w := s.g.fetchWord n
    let f := wFmt w
    let W := fmtWidth f
    let a := c.opA w
    let x := elemInt f a
    let y := elemInt f (c.opB w)
    let lat := scalarLat (wOp w) f (wSub w)
    let done := fun (i : Instr) (v fl : Nat) =>
      s.LeavesCore i n (((({ c with divFree := cy + lat } : BCore).wgAt (wD w) (extend f v) (cy + lat)).flag fl).ended w
        (cy + 1) (c.pc.toNat + 8))
    (s.Flows n 0x10 cy → y ≠ 0 → done (.div n) (Int.tdiv x y % 2 ^ W).toNat 0) ∧
    (s.Flows n 0x10 cy → y = 0 → done (.div n) (2 ^ W - 1) fDZ) ∧
    (s.Flows n 0x10 cy → fmtSigned f = true → x = -2 ^ (W - 1) → y = -1 → done (.div n) (2 ^ (W - 1)) 0) ∧
    (s.Flows n 0x11 cy → y ≠ 0 → done (.rem n) (Int.tmod x y % 2 ^ W).toNat 0) ∧
    (s.Flows n 0x11 cy → y = 0 → done (.rem n) a fDZ) ∧
    (s.Flows n 0x11 cy → fmtSigned f = true → x = -2 ^ (W - 1) → y = -1 → done (.rem n) 0 0)

/-- Floating point and LQ16 (07 R239–R249): the value and the flags of each operation on the operands' exact values, rounded once
under RM; comparison and conversion write g[D] as R254 says for their result's format.
FABS and FNEG change only the sign bit, of a NaN too, and raise no flag (07 R240); on LQ16 they clear and invert the sign of a
code that is neither zero nor NaN (R245).
What the formats' arithmetic answers for a NaN (07 R240, R241): the canonical NaN of the format, and NV where an input is a
signalling NaN; FP8 has no signalling NaN and no infinity, and a finite FP8 result beyond ±448 is ±448.
The model's choices in it: log entry 32. -/
def Obligations.BrutuFloats : Prop :=
  (∀ (s : State) (n cy : Nat),
    let c := s.g.core n
    let w := s.g.fetchWord n
    let f := wFmt w
    let rm := wRm w
    let a := c.opA w
    let b := c.opB w
    let x := fpDecode f a
    let y := fpDecode f b
    let lat := scalarLat (wOp w) f (wSub w)
    let divided := fun (i : Instr) (r : Nat × Nat) =>
      s.LeavesCore i n (((({ c with divFree := cy + lat } : BCore).wgAt (wD w) (extend f r.1) (cy + lat)).flag r.2).ended w
        (cy + 1) (c.pc.toNat + 8))
    (s.Flows n 0x20 cy → s.Scalar (.fadd n) n cy f (fpAdd f rm x y).1 (fpAdd f rm x y).2) ∧
    (s.Flows n 0x21 cy → s.Scalar (.fsub n) n cy f (fpAdd f rm x y.neg).1 (fpAdd f rm x y.neg).2) ∧
    (s.Flows n 0x22 cy → fmtFp f = true → s.Scalar (.fmul n) n cy f (fpMul f rm x y).1 (fpMul f rm x y).2) ∧
    (s.Flows n 0x22 cy → fmtLq f = true → s.Scalar (.fmul n) n cy f (lqMul a b).1 (lqMul a b).2) ∧
    (s.Flows n 0x23 cy → fmtFp f = true → divided (.fdiv n) (fpDiv f rm x y)) ∧
    (s.Flows n 0x23 cy → fmtLq f = true → s.Scalar (.fdiv n) n cy f (lqDiv a b).1 (lqDiv a b).2) ∧
    (s.Flows n 0x24 cy → divided (.fsqrt n) (fpSqrt f rm x)) ∧
    (s.Flows n 0x25 cy → s.Scalar (.fma n) n cy f (fpFma f rm x y (fpDecode f (c.opC w))).1 (fpFma f rm x y (fpDecode f (c.opC w))).2) ∧
    (s.Flows n 0x26 cy → s.Scalar (.fmin n) n cy f (elemMinMax f false a b).1 (elemMinMax f false a b).2) ∧
    (s.Flows n 0x27 cy → s.Scalar (.fmax n) n cy f (elemMinMax f true a b).1 (elemMinMax f true a b).2) ∧
    (s.Flows n 0x28 cy → s.Scalar (.fcmp n) n cy 0 (b2n (elemCmp f (wSub w) a b).1) (elemCmp f (wSub w) a b).2) ∧
    (s.Flows n 0x29 cy → s.Scalar (.cvt n) n cy (wSub w) (elemCvt f (wSub w) rm a).1 (elemCvt f (wSub w) rm a).2)) ∧
  (∀ (s : State) (n cy : Nat),
    let c := s.g.core n
    let w := s.g.fetchWord n
    let f := wFmt w
    let a := c.opA w
    let top := 2 ^ (fmtWidth f - 1)
    (s.Flows n 0x2A cy → fmtFp f = true → s.Scalar (.fabs n) n cy f (a % top) 0) ∧
    (s.Flows n 0x2B cy → fmtFp f = true → s.Scalar (.fneg n) n cy f (if a < top then a + top else a - top) 0) ∧
    (s.Flows n 0x2A cy → fmtLq f = true → s.Scalar (.fabs n) n cy f (if a = 0x8000 then a else a % 2 ^ 15) 0) ∧
    (s.Flows n 0x2B cy → fmtLq f = true →
      s.Scalar (.fneg n) n cy f (if a = 0 ∨ a = 0x8000 then a else if a < 2 ^ 15 then a + 2 ^ 15 else a - 2 ^ 15) 0)) ∧
  ((∀ f rm a b, (Val.isNan a = true ∨ Val.isNan b = true) →
    fpAdd f rm a b = (canonNan f, if a.isSnan || b.isSnan then fNV else 0) ∧
    fpMul f rm a b = (canonNan f, if a.isSnan || b.isSnan then fNV else 0) ∧
    fpDiv f rm a b = (canonNan f, if a.isSnan || b.isSnan then fNV else 0)) ∧
  (∀ f rm sn, fpSqrt f rm (.nan sn) = (canonNan f, if sn then fNV else 0)) ∧
  (∀ x, x < 256 → (fpDecode 8 x).isSnan = false ∧ ((fpDecode 8 x).isNan = true ↔ x = 0x7F ∨ x = 0xFF)) ∧
  (∀ s m e rm, e = (-9 : Int) → 480 * 2 ^ 9 ≤ m →
    fpRound 8 rm s m e false = ((if s then 0x80 else 0) + 0x7E, fOF + fNX)))

/-- LD and ST (07 R254, R258, R259): the bytes of the format's width at g[A] + OFS in the core's own scratchpad, aligned to their
width. LD extends as R254 says, a byte that no unfinished stream or command writes as it stands (08 R299); ST changes those bytes
and no other byte of any scratchpad or CT buffer.
The traps of loads and stores (07 R258–R260, R268): an address that is not a multiple of the width traps ALIGN (2), one at or
above 0x20_0000 ACCESS (3), and a store into the code window STORE_CODE (5), each with the address in TVAL; the instruction has
no other effect.
The model's choices in it: log entry 32. -/
def Obligations.BrutuMemory : Prop :=
  (∀ (s : State) (n cy : Nat),
    let c := s.g.core n
    let w := s.g.fetchWord n
    let k := fmtWidth (wFmt w) / 8
    let a := c.addrM w
    let at' := spadCna n a
    (s.Flows n 0x60 cy → a % k = 0 → a < 0x200000 → s.g.linePoison at' k = false →
      (∃ v, v < 2 ^ (8 * k) ∧ s.Scalar (.ld n) n cy (wFmt w) v 0) ∧
      ((∀ x, at' ≤ x → x < at' + k → s.g.writing none x = false) → s.Scalar (.ld n) n cy (wFmt w) (s.g.rd at' k) 0)) ∧
    (s.Flows n 0x61 cy → a % k = 0 → a < 0x200000 → c.inCode a = false →
      Completes (.st n) s fun t =>
        t.g.core n = c.ended w (cy + 1) (c.pc.toNat + 8) ∧
        (∀ m, m ≠ n → t.g.core m = s.g.core m) ∧
        (∀ x, x < 2 ^ 47 → t.g.byte x =
          if at' ≤ x ∧ x < at' + k then BitVec.ofNat 8 (c.rg (wB w) / 256 ^ (x - at')) else s.g.byte x) ∧
        (∀ r, r ≠ kDieStat 31 → t.g.reg r = s.g.reg r) ∧ t.a = s.a ∧ t.pending = s.pending)) ∧
  (∀ (s : State) (n cy : Nat) (i : Instr) (op k : Nat) (store : Bool),
    let c := s.g.core n
    let w := s.g.fetchWord n
    let a := c.addrM w
    (i, op, k, store) ∈ [(Instr.ld n, 0x60, fmtWidth (wFmt w) / 8, false), (.st n, 0x61, fmtWidth (wFmt w) / 8, true),
        (.vld n, 0x62, 64, false), (.vst n, 0x63, 64, true)] →
    s.Issues n op cy → c.vq = [] → c.tvec ≠ 0 → c.inTrap = false →
    (a % k ≠ 0 → s.LeavesCore i n (c.trapped cy 2 a)) ∧
    (a % k = 0 → a ≥ 0x200000 → s.LeavesCore i n (c.trapped cy 3 a)) ∧
    (a % k = 0 → a < 0x200000 → store = true → c.inCode a = true → s.LeavesCore i n (c.trapped cy 5 a)))

/-- Branches and jumps (07 R257): the target is computed from the instruction's own address; a jump writes PC + 8 to g[D], which
g0 discards; RETT clears IN_TRAP and goes to EPC. A transfer takes three cycles, a branch that falls through one.
TRAP, HALT and what a trap does (07 R267–R269): EPC, CAUSE and TVAL are saved, IN_TRAP is set and control passes to TVEC; a
trap inside a trap halts the core with DOUBLE, one without a handler with NO_HANDLER. An unassigned or malformed word traps
ILLEGAL with the word in TVAL (R252); HALT stops the core.
The model's choices in it: log entry 32. -/
def Obligations.BrutuControl : Prop :=
  (∀ (s : State) (n cy : Nat),
    let c := s.g.core n
    let w := s.g.fetchWord n
    let f := wFmt w
    let x := elemInt f (c.opA w)
    let y := elemInt f (c.opB w)
    let target := (((c.pc.toNat : Int) + 8 * wImm w) % 2 ^ 64).toNat
    let reg := (((c.rg (wA w) : Int) + wImm w) % 2 ^ 64).toNat
    let lanes := 2 ^ nLanes f
    let p := c.rp (wA w) % lanes
    let branch := fun (i : Instr) (op : Nat) (taken : Bool) =>
      let to' := if taken then target else c.pc.toNat + 8
      s.Issues n op cy → c.inCode to' = true → s.LeavesCore i n (c.ended w (cy + if taken then 3 else 1) to')
    branch (.beq n) 0x70 (decide (x = y)) ∧ branch (.bne n) 0x71 (decide (x ≠ y)) ∧
    branch (.blt n) 0x72 (decide (x < y)) ∧ branch (.bge n) 0x73 (decide (x ≥ y)) ∧
    branch (.bp n) 0x74 (if wB w = 0 then decide (p ≠ 0) else if wB w = 1 then decide (p = 0) else decide (p = lanes - 1)) ∧
    (s.Issues n 0x75 cy → c.inCode target = true →
      s.LeavesCore (.jal n) n ((c.wgAt (wD w) (c.pc.toNat + 8) (cy + 1)).ended w (cy + 3) target)) ∧
    (s.Issues n 0x76 cy → reg % 8 = 0 → c.inCode reg = true →
      s.LeavesCore (.jalr n) n ((c.wgAt (wD w) (c.pc.toNat + 8) (cy + 1)).ended w (cy + 3) reg)) ∧
    (s.Issues n 0x76 cy → reg % 8 ≠ 0 → c.vq = [] → c.tvec ≠ 0 → c.inTrap = false →
      s.LeavesCore (.jalr n) n (c.trapped cy 2 reg)) ∧
    (s.Issues n 0x78 cy → c.epc.toNat % 8 = 0 → c.inCode c.epc.toNat = true →
      s.LeavesCore (.rett n) n (({ c with inTrap := false } : BCore).ended w (cy + 3) c.epc.toNat))) ∧
  (∀ (s : State) (n cy : Nat),
    let c := s.g.core n
    let w := s.g.fetchWord n
    let illegal := s.g.sys.pwr.rails = true ∧ n < 512 ∧ c.canIssue = true ∧
      s.g.linePoison (spadCna n c.pc.toNat) 8 = false ∧ wordOk w = false ∧ c.vq = []
    let halted := fun (code tval reason cy : Nat) => ({ c with
      badPc := none, epc := c.pc, cause := BitVec.ofNat 8 code, tval := BitVec.ofNat 64 tval, cycle := max cy c.vdone + 3
      run := false, halt := BitVec.ofNat 4 reason, vq := [], streams := c.streams.map fun t => { t with after := 0 } } : BCore)
    (s.Issues n 0x77 cy → c.tvec ≠ 0 → c.inTrap = false → s.LeavesCore (.trap n) n (c.trapped cy 6 (bits w 11 0))) ∧
    (s.Issues n 0x77 cy → c.inTrap = true → s.LeavesCore (.trap n) n (halted 6 (bits w 11 0) 2 cy)) ∧
    (s.Issues n 0x77 cy → c.tvec = 0 → c.inTrap = false → s.LeavesCore (.trap n) n (halted 6 (bits w 11 0) 3 cy)) ∧
    (illegal → c.tvec ≠ 0 → c.inTrap = false → s.LeavesCore (.illegalOpcode n) n (c.trapped c.cycle 1 w)) ∧
    (illegal → c.inTrap = true → s.LeavesCore (.illegalOpcode n) n (halted 1 w 2 c.cycle)) ∧
    (illegal → c.tvec = 0 → c.inTrap = false → s.LeavesCore (.illegalOpcode n) n (halted 1 w 3 c.cycle)) ∧
    (s.Issues n 0x79 cy → s.LeavesCore (.halt n) n
      { c.retire w with
        cycle := cy + 1, run := false, badPc := none, epc := c.pc, halt := 1, vq := []
        streams := c.streams.map fun t => { t with after := 0 } }))

/-- MFS and MTS (07 R237, Table 7.2): every special register reads as the table says; MTS writes FFLAGS, TVEC and EPC, and a TVEC
that is neither 0 nor an aligned address of the code window traps ACCESS.
What every one of these statements leaves alone inside the core (07 Table 7.1): a write of g[D] changes no other g register,
g0 stays 0, and no v, p or s register, trap register or window changes with it.
The model's choices in it: log entry 32. -/
def Obligations.BrutuSpecial : Prop :=
  (∀ (s : State) (n cy : Nat),
    let c := s.g.core n
    let w := s.g.fetchWord n
    let k := bits w 11 0
    let v := c.rg (wA w)
    let reads := fun (x : Nat) => s.Scalar (.mfs n) n cy 0 x 0
    let writes := fun (d : BCore) => s.LeavesCore (.mts n) n (d.ended w (cy + 1) (c.pc.toNat + 8))
    (s.Flows n 0x7A cy →
      (k = 0 → reads (n % 32 + 32 * (n / 32) + 2 ^ 16 * s.g.gid)) ∧ (k = 1 → reads c.fflags.toNat) ∧
      (k = 2 → reads c.tvec.toNat) ∧ (k = 3 → reads c.epc.toNat) ∧ (k = 4 → reads (c.cause.toNat + 256 * c.halt.toNat)) ∧
      (k = 5 → reads c.tval.toNat) ∧ (k = 6 → reads cy) ∧ (k = 7 → reads c.retired.toNat) ∧
      (k = 8 → reads c.codeBase.toNat) ∧ (k = 9 → reads c.codeSize.toNat) ∧
      (0x100 ≤ k → k < 0x200 → reads (Tbl.get 0 c.opc (k - 0x100)).toNat)) ∧
    (s.Flows n 0x7B cy →
      (k = 1 → writes { c with fflags := BitVec.ofNat 5 v }) ∧
      (k = 2 → v = 0 ∨ (v % 8 = 0 ∧ c.inCode v = true) → writes { c with tvec := BitVec.ofNat 22 v }) ∧
      (k = 3 → writes { c with epc := BitVec.ofNat 22 v })) ∧
    (s.Issues n 0x7B cy → k = 2 → v ≠ 0 → (v % 8 ≠ 0 ∨ c.inCode v = false) → c.vq = [] → c.tvec ≠ 0 → c.inTrap = false →
      s.LeavesCore (.mts n) n (c.trapped cy 3 v))) ∧
  (∀ (c : BCore) (d v r w cycle t fl i : Nat),
    let e := ((c.wgAt d v r).flag fl).ended w cycle t
    e.rg i = (if i = 0 then 0 else if i = d then v % 2 ^ 64 else c.rg i) ∧
    e.rv i = c.rv i ∧ e.rp i = c.rp i ∧ e.rs i = c.rs i ∧ e.tvec = c.tvec ∧ e.epc = c.epc ∧ e.cause = c.cause ∧
    e.tval = c.tval ∧ e.halt = c.halt ∧ e.inTrap = c.inTrap ∧ e.codeBase = c.codeBase ∧ e.codeSize = c.codeSize ∧
    e.fflags = c.fflags ||| BitVec.ofNat 5 fl ∧ e.retired = c.retired + 1 ∧ e.pc = BitVec.ofNat 22 t ∧
    (∀ k, Tbl.get 0 e.opc k = if k = opcSlot w then Tbl.get 0 c.opc k + 1 else Tbl.get 0 c.opc k))

/-- A vector or predicate instruction enters the vector queue at scalar issue with its word, its address, its g operand and the
cycle, and the next instruction follows (07 R263); VLD and VST enter with their address once it has passed its checks (R258, R259).
The model's choices in it: log entry 33. -/
def Obligations.VectorQueue : Prop :=
  ∀ (s : State) (n cy : Nat) (i : Instr) (op : Nat),
    let c := s.g.core n
    let w := s.g.fetchWord n
    let a := c.addrM w
    let enters := fun (addr : Nat) => s.LeavesCore i n
      (({ c with vq := c.vq ++ [⟨BitVec.ofNat 64 w, c.pc, BitVec.ofNat 64 (c.rg (wA w)), addr, cy⟩] } : BCore).ended w (cy + 1)
        (c.pc.toNat + 8))
    s.Flows n op cy →
    ((i, op) ∈ [(Instr.vadd n, 0x40), (.vsub n, 0x41), (.vmul n, 0x42), (.vfma n, 0x43), (.vdiv n, 0x44), (.vsqrt n, 0x45),
        (.vmin n, 0x46), (.vmax n, 0x47), (.vand n, 0x48), (.vor n, 0x49), (.vxor n, 0x4A), (.vsll n, 0x4B), (.vsrl n, 0x4C),
        (.vsra n, 0x4D), (.vcmp n, 0x4E), (.vcvt n, 0x4F), (.vbcast n, 0x50), (.vext n, 0x51), (.vins n, 0x52), (.vred n, 0x53),
        (.vsel n, 0x54), (.vabs n, 0x55), (.vneg n, 0x56), (.pand n, 0x58), (.por n, 0x59), (.pxor n, 0x5A), (.pnot n, 0x5B),
        (.pfromg n, 0x5C), (.ptog n, 0x5D)] → enters 0) ∧
    ((i, op) ∈ [(Instr.vld n, 0x62), (.vst n, 0x63)] → a % 64 = 0 → a < 0x200000 → (op = 0x62 ∨ c.inCode a = false) → enters a)

/-- VECTOR_ISSUE on lanes (07 R255, R247): an active lane of v[D] takes the operation's result, an inactive one keeps its value or,
with ZM, is 0; the flags are those of the active lanes. Scalar state, memory and every other register are as they were.
VECTOR_ISSUE of the instructions that write g and p registers (07 R253, R255, R256): comparison bits of active lanes only, the
fixed pairwise reduction, one lane read or replaced, predicates combined and moved; p0 and g0 discard the write.
The model's choices in it: log entry 33. -/
def Obligations.VectorLanes : Prop :=
  (∀ (s : State) (n op : Nat) (e : VqEntry) (rest : List VqEntry),
    let c := s.g.core n
    let w := e.word.toNat
    let f := wFmt w
    let rm := wRm w
    let lane := fun (r i : Nat) => elemLane f (c.rv r) i
    let act := fun (i : Nat) => (c.rp (wPredR w)).testBit i
    let old := fun (i : Nat) => if wZmR w then 0 else lane (wD w) i
    s.g.VectorHead n e rest op →
    op ∈ [0x40, 0x41, 0x42, 0x43, 0x44, 0x45, 0x46, 0x47, 0x48, 0x49, 0x4A, 0x4B, 0x4C, 0x4D, 0x50, 0x54, 0x55, 0x56] →
    Completes (.vectorIssue n) s fun t =>
      let d := t.g.core n
      let res := fun i => laneResult op f rm (lane (wA w) i) (lane (wB w) i) (lane (wC w) i) e.gval.toNat
      (∀ i, i < nLanes f → elemLane f (d.rv (wD w)) i =
        if act i then (res i).1 % 2 ^ fmtWidth f else if op = 0x54 then lane (wB w) i else old i) ∧
      d.fflags = c.fflags ||| BitVec.ofNat 5 ((List.range (nLanes f)).foldl (fun x i => if act i then x ||| (res i).2 else x) 0) ∧
      (∀ r, r ≠ wD w → d.rv r = c.rv r) ∧ (∀ r, d.rg r = c.rg r ∧ d.rp r = c.rp r) ∧
      d.vq = rest ∧ d.pc = c.pc ∧ d.retired = c.retired ∧
      (∀ m, m ≠ n → t.g.core m = s.g.core m) ∧ (∀ x, x < 2 ^ 47 → t.g.byte x = s.g.byte x) ∧ t.a = s.a ∧ t.pending = s.pending) ∧
  (∀ (s : State) (n op : Nat) (e : VqEntry) (rest : List VqEntry),
    let c := s.g.core n
    let w := e.word.toNat
    let f := wFmt w
    let D := wD w
    let lane := fun (r i : Nat) => elemLane f (c.rv r) i
    let act := fun (i : Nat) => (c.rp (wPredR w)).testBit i
    let p := c.rp (wA w)
    let q := c.rp (wB w)
    let writesP := fun (v : Nat) => Completes (.vectorIssue n) s fun t =>
      let d := t.g.core n
      (∀ r, d.rp r = if r = D ∧ r ≠ 0 then v else c.rp r) ∧ (∀ r, d.rg r = c.rg r ∧ d.rv r = c.rv r) ∧ d.vq = rest ∧
      (∀ x, x < 2 ^ 47 → t.g.byte x = s.g.byte x)
    let writesG := fun (v : Nat) => Completes (.vectorIssue n) s fun t =>
      let d := t.g.core n
      (∀ r, d.rg r = if r = D ∧ r ≠ 0 then v else c.rg r) ∧ (∀ r, d.rp r = c.rp r ∧ d.rv r = c.rv r) ∧ d.vq = rest ∧
      (∀ x, x < 2 ^ 47 → t.g.byte x = s.g.byte x)
    s.g.VectorHead n e rest op →
    (op = 0x4E → ∃ v, writesP v ∧ ∀ i, v.testBit i =
      (decide (i < nLanes f) && act i && (elemCmp f (wSub w) (lane (wA w) i) (lane (wB w) i)).1)) ∧
    (op = 0x51 → writesG (extend f (lane (wA w) (bits w 36 0)))) ∧
    (op = 0x53 → writesG (extend f (vredFold f (wRm w) (wSub w) 6
      ((List.range (nLanes f)).map fun i => if act i then lane (wA w) i else redIdent f (wSub w), 0)).1)) ∧
    (op = 0x58 → writesP (p &&& q)) ∧ (op = 0x59 → writesP (p ||| q)) ∧ (op = 0x5A → writesP (p ^^^ q)) ∧
    (op = 0x5B → writesP (2 ^ 64 - 1 - p)) ∧ (op = 0x5C → writesP e.gval.toNat) ∧ (op = 0x5D → writesG p))

/-- VECTOR_ISSUE of VINS, VCVT, VLD and VST (07 R255, R259): one lane is replaced; an element converts between lanes as PART
says; the active lanes of the 64 bytes at the address, none of which an unfinished stream or command writes (08 R299), are loaded,
or lanes are stored with every other byte unchanged.
The model's choices in it: log entry 33. -/
def Obligations.VectorMemory : Prop :=
  ∀ (s : State) (n op : Nat) (e : VqEntry) (rest : List VqEntry),
    let c := s.g.core n
    let w := e.word.toNat
    let f := wFmt w
    let k := fmtWidth f / 8
    let at' := spadCna n e.addr
    let lane := fun (r i : Nat) => elemLane f (c.rv r) i
    let act := fun (i : Nat) => (c.rp (wPredM w)).testBit i
    let u := wSub w
    let first := if nLanes f < nLanes u then wPart w * nLanes f else 0
    s.g.VectorHead n e rest op → e.addr < 0x200000 →
    (op = 0x52 → Completes (.vectorIssue n) s fun t => ∀ i, i < nLanes f →
      elemLane f ((t.g.core n).rv (wD w)) i = if i = bits w 36 0 then e.gval.toNat % 2 ^ fmtWidth f else lane (wD w) i) ∧
    (op = 0x4F → Completes (.vectorIssue n) s fun t => ∀ i, i < nLanes u →
      elemLane u ((t.g.core n).rv (wD w)) i =
        if first ≤ i ∧ i < first + min (nLanes f) (nLanes u) then
          if (c.rp (wPredR w)).testBit (i - first) then
            (elemCvt f u (wRm w) (lane (wA w) (i - first + if nLanes u < nLanes f then wPart w * nLanes u else 0))).1 % 2 ^ fmtWidth u
          else if wZmR w then 0 else elemLane u (c.rv (wD w)) i
        else elemLane u (c.rv (wD w)) i) ∧
    (op = 0x62 → s.g.linePoison at' 64 = false → (∀ x, at' ≤ x → x < at' + 64 → s.g.writing none x = false) →
      Completes (.vectorIssue n) s fun t =>
      (∀ i, i < nLanes f → elemLane f ((t.g.core n).rv (wD w)) i =
        if act i then s.g.rd (at' + k * i) k else if wZmM w then 0 else lane (wD w) i) ∧
      (∀ x, x < 2 ^ 47 → t.g.byte x = s.g.byte x)) ∧
    (op = 0x63 → Completes (.vectorIssue n) s fun t =>
      (∀ i j, i < nLanes f → j < k → act i = true →
        t.g.byte (at' + k * i + j) = BitVec.ofNat 8 (lane (wB w) i / 256 ^ j)) ∧
      (∀ x, x < 2 ^ 47 → (x < at' ∨ at' + 64 ≤ x ∨ act ((x - at') / k) = false) → t.g.byte x = s.g.byte x) ∧
      (∀ r, (t.g.core n).rv r = c.rv r ∧ (t.g.core n).rg r = c.rg r ∧ (t.g.core n).rp r = c.rp r))

/-! ### Streams, engines and the Sync Hub (08, 09, 10) -/

/-- Streams (08 R276–R280): SLD reads 56 bytes and clears STATUS, and traps BUSY on an ACTIVE descriptor; SST stores the 64 bytes;
SGO starts a stream whose descriptor passes every check, from memory as the core's earlier stores leave it (R298); SWAIT ends once
its stream has, and STEST reads STATUS. What SLD and an index list read, no unfinished stream or command writes (R299).
STREAM_END of a LINEAR stream of one row that no fault stops and that no other access races with (08 R277, R280, R282, R299):
its bytes stand at the destination and no other byte of a scratchpad or CT buffer changes, STATUS holds DONE and the bytes moved,
and the descriptor is free again.
The model's choices in it: log entries 34, 35. -/
def Obligations.Streams : Prop :=
  (∀ (s : State) (n cy : Nat),
    let c := s.g.core n
    let w := s.g.fetchWord n
    let a := c.addrM w
    let at' := spadCna n a
    let next := c.pc.toNat + 8
    let settled := fun (lo len : Nat) => ∀ x, lo ≤ x → x < lo + len → s.g.writing none x = false
    let d := c.rs (wA w)
    let list := spadCna n (sdIdx d)
    (s.Flows n 0x80 cy → a % 64 = 0 → a < 0x200000 → s.g.linePoison at' 64 = false → settled at' 56 → c.active (wD w) = false →
      s.LeavesCore (.sld n) n (({ c.ws (wD w) (s.g.rdBytes at' 56 ++ leBytes 8 0) with
        sReady := Tbl.set 0 c.sReady (wD w) (cy + 4) } : BCore).ended w (cy + 1) next)) ∧
    (s.Issues n 0x80 cy → a % 64 = 0 → a < 0x200000 → s.g.linePoison at' 64 = false → c.active (wD w) = true → c.vq = [] →
      c.tvec ≠ 0 → c.inTrap = false → s.LeavesCore (.sld n) n (c.trapped cy 7 (streamTval 1 (wD w) 0))) ∧
    (s.Flows n 0x81 cy → a % 64 = 0 → a < 0x200000 → c.inCode a = false →
      Completes (.sst n) s fun t => t.g.core n = c.ended w (cy + 1) next ∧
        (∀ x, x < 2 ^ 47 → t.g.byte x = if at' ≤ x ∧ x < at' + 64 then (c.rs (wB w)).getD (x - at') 0 else s.g.byte x)) ∧
    (s.Flows n 0x82 cy → (sdMode d = 2 → s.g.linePoison list (4 * sdRows d) = false ∧ settled list (4 * sdRows d)) →
      ∀ idx, idx = (if sdMode d = 2 then (List.range (sdRows d)).map fun i => s.g.rd (list + 4 * i) 4 else []) →
      s.g.sgoCheck n c (wA w) d idx = none →
      s.LeavesCore (.sgo n) n (({ c.ws (wA w) (sdSetStatus d 1) with
        streams := c.streams ++ [⟨wA w, d, idx, c.seq, c.vq.length, s.g.mem⟩], seq := c.seq + 1 } : BCore).ended w (cy + 1) next)) ∧
    (s.Flows n 0x83 cy → c.active (wA w) = false → bits (sdStatus (c.rs (wA w))) 1 0 ≠ 3 →
      ∃ k, max c.cycle c.vdone ≤ k ∧ s.LeavesCore (.swait n) n (c.waited w k none)) ∧
    (s.Flows n 0x84 cy → s.Scalar (.stest n) n cy 0 (sdStatus (c.rs (wA w))) 0)) ∧
  (∀ (s : State) (n : Nat) (x : Stream),
    let c := s.g.core n
    let d := x.desc
    let len := sdRowlen d
    let src := sdSrcRow n d x.idx 0
    let dst := sdDstRow n d 0
    s.g.sys.pwr.rails = true → n < 512 → (c.streams.find? fun t => decide (t.s = x.s)) = some x →
    sdMode d = 0 → sdRows d = 1 → (sdSync d).testBit 14 = false → s.g.rowFault n x 0 = none →
    src + len ≤ 2 ^ 48 → dst + len ≤ 2 ^ 47 → (dst + len ≤ src ∨ src + len ≤ dst) →
    x.after = 0 → s.g.flits.contains (n / 32) = false →
    (∀ a, within a src len = true ∨ within a dst len = true → s.g.openByte x.mem (some (n, x.seq)) a = false) →
    Completes (.streamEnd n x.s) s fun t =>
      (∀ a, a < 2 ^ 47 → t.g.byte a = if dst ≤ a ∧ a < dst + len then s.g.byte (src + (a - dst)) else s.g.byte a) ∧
      t.g.core n = ({ c.ws x.s (sdSetStatus (c.rs x.s) (2 + 2 ^ 32 * len)) with
        streams := c.streams.filter fun t => decide (t.s ≠ x.s) } : BCore) ∧
      (∀ m, m ≠ n → t.g.core m = s.g.core m) ∧ t.a = s.a ∧ t.pending = s.pending)

/-- Engine commands (08 R284–R287): a command whose block passes every check waits at its engine behind those issued before it, and
the core goes on after two cycles; TSUB answers the next ticket, TWAIT the RESULT of a ticket whose job has completed, and a ticket
not issued since kit start, or too old, traps. No unfinished stream or command writes the block (R299).
What the end of an engine command does (08 R286): the command leaves its queue, STATUS receives DONE (bit 8), RESULT and COUNT,
and no byte but those eight changes where the command names no object to signal; a scoring job's end is another statement's.
The model's choices in it: log entries 33, 34. -/
def Obligations.EngineIssue : Prop :=
  (∀ (s : State) (n cy : Nat) (i : Instr) (op : Nat),
    let c := s.g.core n
    let w := s.g.fetchWord n
    let a := c.addrM w
    let b := s.g.rdBytes (spadCna n a) 56
    let tk := (c.ticket + 1) % 2 ^ 32
    let next := c.pc.toNat + 8
    let ready := a % 64 = 0 ∧ a < 0x200000 ∧ s.g.linePoison (spadCna n a) 64 = false ∧
      (∀ x, spadCna n a ≤ x → x < spadCna n a + 56 → s.g.writing none x = false) ∧ s.g.engCheck n c op (wFmt w) a b = none
    ((i, op) ∈ [(Instr.hins n, 0x90), (.hmrg n, 0x91), (.tkin n, 0x92), (.tkmrg n, 0x93), (.ewma n, 0x94), (.cusum n, 0x95),
        (.cenc n, 0x98), (.cdec n, 0x99)] → s.Flows n op cy → ready →
      Completes i s fun t => t.g.core n = ({ c with seq := c.seq + 1 } : BCore).ended w (cy + 2) next ∧
        t.g.eng = s.g.eng ++ [⟨n, opEngine op, op, wFmt w, b, a, 0, c.seq, s.g.mem⟩] ∧
        (∀ m, m ≠ n → t.g.core m = s.g.core m) ∧ ∀ x, x < 2 ^ 47 → t.g.byte x = s.g.byte x) ∧
    (i = .tsub n → op = 0x96 → s.Flows n op cy → ready →
      Completes i s fun t =>
        t.g.core n = (({ c with seq := c.seq + 1, ticket := c.ticket + 1, results := Tbl.erase c.results tk } : BCore).wgAt (wD w) tk
          (cy + 4)).ended w (cy + 2) next ∧
        t.g.eng = s.g.eng ++ [⟨n, .tse, op, wFmt w, b, a, tk, c.seq, s.g.mem⟩]) ∧
    (i = .twait n → s.Flows n 0x97 cy → ∀ r, c.ticketOk (c.rg (wA w)) = true → Tbl.find c.results (c.rg (wA w)) = some r →
      ∃ k, max c.cycle c.vdone ≤ k ∧ s.LeavesCore i n (c.waited w k (some r.toNat))) ∧
    (i = .twait n → s.Issues n 0x97 cy → c.ticketOk (c.rg (wA w)) = false → c.tvec ≠ 0 → c.inTrap = false →
      ∃ k, cy ≤ k ∧ s.LeavesCore i n (c.trapped k 8 (syncTval 6 0)))) ∧
  (∀ (g : Gremon) (e : EngCmd) (result count : Nat), result < 256 → e.core < 512 → e.addr + 64 ≤ 0x200000 →
    (cbSync e.block).testBit 14 = false → e.op ≠ 0x96 →
    g.EngineEnds (g.engDone e result count) e result count ∧
    (∀ x, x < 2 ^ 47 → (x < spadCna e.core (e.addr + 56) ∨ spadCna e.core (e.addr + 56) + 8 ≤ x) →
      (g.engDone e result count).byte x = g.byte x) ∧
    (∀ m, (g.engDone e result count).core m = g.core m))

/-- Engine commands end (08 R286; 09 R309–R321; 11 R368, R369): the oldest command of an engine that meets no POISON, and whose
bytes no other access touches while it runs (R299), writes its outputs, and `engDone` writes STATUS, takes it off the engine's queue
and signals its object. A histogram insertion of one value counts it in the total and in its bin. A flit in error on its way
to the CT ends a command that works on the whole of its input POISON before it writes (06 R213).
TSUB_DONE (08 R287, 10 R354): core `n`'s oldest job of the tensor engine leaves the queue, its RESULT is kept under its ticket
for TWAIT, and STATUS says so; a job of no rows ends with RESULT 0. Below NORMAL and IDLE no job runs (10 R357).
The model's choices in it: log entries 33, 35, 36. -/
def Obligations.EngineDone : Prop :=
  (∀ (s : State) (ct op : Nat) (e : EngCmd),
    let g := s.g
    let out := endCna e.core (cbOut e.block)
    let inp := endCna e.core (cbIn e.block)
    let aux := endCna e.core (cbAux e.block)
    let n := cbN e.block
    let p0 := cbP0 e.block
    let old := TkList.ofBytes (g.rdBytes out topkBytes)
    let dir := (cbP1 e.block).testBit 0
    let ends := fun (i : Instr) (h : Gremon) (result count : Nat) => exec i s = .next (s.withG (h.engDone e result count))
    g.sys.pwr.rails = true → ct < 16 → g.engHead ct op = some e →
    (g.engFlit e = true → ∀ i, (i, op) ∈ [(Instr.tkinDone ct, 0x92), (.tkmrgDone ct, 0x93), (.ewmaDone ct, 0x94), (.cusumDone ct, 0x95),
        (.cdecDone ct, 0x99)] → ends i { g with flits := g.flits.erase ct } 4 0) ∧
    (g.engFlit e = false → g.engOpen e = [] → g.engPoison e = false →
    (op = 0x90 → n = 1 → cbAux e.block = 0 → 1 ≤ p0 → g.flowPoison ct inp (fmtWidth e.fmt / 8) = false →
      g.flowPoison ct out histBytes = false → histOk (g.rdBytes out 64) = true → out + histBytes ≤ 2 ^ 48 →
      let bin := out + binOfs (hbin e.fmt (g.engElem e 0) (toInt 16 (g.rd out 2)))
      g.rd (out + 8) 8 + 1 < cntMax → g.rd bin 8 + 1 < cntMax → hNegative e.fmt (g.engElem e 0) = false →
      ∃ h, ends (.hinsDone ct) h (b2n ((g.rd (out + 2) 1).testBit 0)) 0 ∧ h.rd (out + 8) 8 = g.rd (out + 8) 8 + 1 ∧
        h.rd bin 8 = g.rd bin 8 + 1 ∧
        ∀ x, x < 2 ^ 48 → (x < out + 8 ∨ out + 16 ≤ x) → (x < bin ∨ bin + 8 ≤ x) → h.byte x = g.byte x) ∧
    (op = 0x90 → ends (.hinsDone ct) (Gremon.hinsRun e n 0 [] g).1 (Gremon.hinsRun e n 0 [] g).2.1 (Gremon.hinsRun e n 0 [] g).2.2) ∧
    (op = 0x91 → n = 1 → g.flowPoison ct inp histBytes = false → g.flowPoison ct out histBytes = false →
      histOk (g.rdBytes inp histBytes) = true → histOk (g.rdBytes out histBytes) = true →
      let m := histMerge (g.rdBytes out histBytes) (g.rdBytes inp histBytes)
      ends (.hmrgDone ct) (g.wrBytes out m) (b2n ((leAt m 2 1).testBit 0)) 0) ∧
    (op = 0x92 → (old.entries.length = 0 ∨ (old.k = p0 ∧ old.fmt = e.fmt ∧ old.dir = dir)) →
      ends (.tkinDone ct) (g.wrBytes out ((List.range n).foldl
        (fun (t : TkList) i => t.offer (g.engElem e i) (g.rd (aux + 4 * i) 4)) { old with k := p0, fmt := e.fmt, dir := dir }).bytes)
        0 0) ∧
    (op = 0x92 → old.entries.length ≠ 0 → (old.k ≠ p0 ∨ old.fmt ≠ e.fmt ∨ old.dir ≠ dir) → ends (.tkinDone ct) g 5 0) ∧
    (op = 0x93 →
      let m := (List.range n).foldl (fun (t : TkList) i => t.merge (TkList.ofBytes (g.rdBytes (inp + topkBytes * i) topkBytes)))
        { (if old.entries.length = 0 then { old with fmt := e.fmt, dir := dir } else old) with k := p0 }
      ends (.tkmrgDone ct) (g.wrBytes out { m with entries := m.entries.take p0 }.bytes) 0 0) ∧
    (op = 0x94 → ends (.ewmaDone ct) ((List.range n).foldl (fun (h : Gremon) i =>
      h.wrBytes (out + 32 * i) (ewmaStep (h.rdBytes (out + 32 * i) 32) (h.engElem e i) p0 e.fmt)) g) 0 0) ∧
    (op = 0x95 → n = 1 →
      let u := cusumStep (g.rdBytes out 32) (g.rdBytes aux 32) (g.engElem e 0) e.fmt
      ends (.cusumDone ct) ((g.wrBytes out u.1).wr (endCna e.core (cbP1 e.block)) 8 (b2n u.2)) 0 (b2n u.2)) ∧
    (op = 0x98 → p0 % 4 ≠ 3 →
      let b := encodeBlock ((List.range n).map fun i => g.rd (inp + 8 * i) 8) (ctxOfBytes (g.rdBytes aux (64 + 16 * n)) n (p0 % 4))
        (p0.testBit 2)
      (b.length ≤ cbP1 e.block → ends (.cencDone ct) (g.wrBytes out b) 0 b.length) ∧
      (cbP1 e.block < b.length → ends (.cencDone ct) g 3 0)) ∧
    (op = 0x99 → ∀ xs, decodeBlock (g.rdBytes inp (cbP1 e.block)) n (p0.testBit 2) (ctxAll (g.rdBytes aux (64 + 16 * n)) n) = .ok xs →
      ends (.cdecDone ct) (g.wrBytes out (xs.flatMap (leBytes 8))) 0 n))) ∧
  (∀ (s : State) (n : Nat) (e : EngCmd),
    s.g.sys.pwr.rails = true → n < 512 → (s.g.eng.find? fun e => decide (e.core = n) && decide (e.engine = .tse)) = some e →
    (2 ≤ s.g.sys.pwr.pstate → ∀ l f, exec (.tsubDone n l f) s = .next (s.withG s.g)) ∧
    (s.g.sys.pwr.pstate < 2 → cbN e.block = 0 → e.op = 0x96 → (s.g.core n).firstSeq ≤ e.seq → s.g.engFlit e = false →
      s.g.engOpen e = [] → s.g.flowPoison (n / 32) (endCna n (cbIn e.block)) 0 = false →
      (cbSync e.block).testBit 14 = false → e.addr + 64 ≤ 0x200000 →
      DoneG (.tsubDone n [] none) s fun h =>
        s.g.EngineEnds h e 0 0 ∧ Tbl.find (h.core n).results e.ticket = some 0 ∧ (∀ m, m ≠ n → h.core m = s.g.core m)))

/-- The Sync Hub (08 R290–R293): a semaphore gives up its count to SEMP where it covers it and gains SEMV's; a barrier counts an
arrival and answers the generation it was in, and at its last party the next generation begins; an event is set and cleared;
SYRD answers an object's state. Each ends at once where what it waits for holds, and after a wait of no fixed length.
The SYNC trap (08 R293): a number above 16,383, an object of another kit or none, and one of another kind trap with SCODE 1, 2
and 3 and the object in TVAL, in the cycle in which the wait for the Hub's answer ends (R275), and nothing else changes.
The model's choices in it: log entry 34. -/
def Obligations.SyncHub : Prop :=
  (∀ (s : State) (n cy o : Nat),
    let c := s.g.core n
    let w := s.g.fetchWord n
    let x := s.g.obj o
    let k := c.rg (wB w)
    (s.Flows n 0xA0 cy → s.HubReady n 1 o → 1 ≤ k → k ≤ x.count →
      s.HubDone (.semp n) n o { x with state := x.state - BitVec.ofNat 64 k } none) ∧
    (s.Flows n 0xA1 cy → s.HubReady n 1 o → 1 ≤ k → x.count + k < 2 ^ 48 →
      s.HubDone (.semv n) n o { x with state := x.state + BitVec.ofNat 64 k } none) ∧
    (s.Flows n 0xA2 cy → s.HubReady n 2 o → c.streams = [] → (∀ e ∈ s.g.eng, e.core ≠ n) → x.arrived + 1 < x.parties →
      s.HubDone (.bara n) n o { x with state := barState (x.arrived + 1) x.parties x.gen } (some x.gen)) ∧
    (s.Flows n 0xA2 cy → s.HubReady n 2 o → c.streams = [] → (∀ e ∈ s.g.eng, e.core ≠ n) → x.parties ≤ x.arrived + 1 →
      s.HubDone (.bara n) n o { x with state := barState 0 x.parties (x.gen + 1) } (some x.gen)) ∧
    (s.Flows n 0xA3 cy → s.HubReady n 2 o → k % 2 ^ 32 ≠ x.gen → s.HubDone (.barw n) n o x none) ∧
    (s.Flows n 0xA4 cy → s.HubReady n 3 o → s.HubDone (.evset n) n o { x with state := 1 } none) ∧
    (s.Flows n 0xA5 cy → s.HubReady n 3 o → s.HubDone (.evclr n) n o { x with state := 0 } none) ∧
    (s.Flows n 0xA6 cy → s.HubReady n 3 o → x.state.getLsbD 0 = true → s.HubDone (.evw n) n o x none) ∧
    (∀ kind, kind ≠ 0 → s.Flows n 0xA7 cy → s.HubReady n kind o → s.HubDone (.syrd n) n o x (some x.state.toNat))) ∧
  (∀ (s : State) (n cy : Nat) (i : Instr) (op kind : Nat),
    let c := s.g.core n
    let o := c.hubObj (s.g.fetchWord n)
    (i, op, kind) ∈ [(Instr.semp n, 0xA0, 1), (.semv n, 0xA1, 1), (.bara n, 0xA2, 2), (.barw n, 0xA3, 2), (.evset n, 0xA4, 3),
        (.evclr n, 0xA5, 3), (.evw n, 0xA6, 3), (.syrd n, 0xA7, 0)] →
    let traps := fun (scode : Nat) => ∃ k, cy ≤ k ∧ s.LeavesCore i n (c.trapped k 8 (syncTval scode o))
    s.Issues n op cy → c.tvec ≠ 0 → c.inTrap = false →
    (o > 16383 → traps 1) ∧
    (o ≤ 16383 → (s.g.obj o).kind = 0 ∨ (s.g.obj o).kit ≠ c.grants.kit → traps 2) ∧
    (kind ≠ 0 → o ≤ 16383 → (s.g.obj o).kit = c.grants.kit → (s.g.obj o).kind ≠ 0 → (s.g.obj o).kind ≠ kind → traps 3))

/-- Fences (08 R296, R297): FENCE.L ends once no stream or command of the core still writes its scratchpad, FENCE.C once none is
open, FENCE.X once its messages have ended too, FENCE.T once the ingest watermark has reached g[A]; until then the core waits.
Time and mailboxes of a core (08 R300–R303): TRD reads the named time base and keeps the rest of the stamp for TRDX; WAITPT
answers PT at once where it has come, and else when it does; MBS and MBR answer the mailbox status.
The model's choices in it: log entry 34. -/
def Obligations.FencesAndTime : Prop :=
  (∀ (s : State) (n cy : Nat),
    let c := s.g.core n
    let w := s.g.fetchWord n
    let ends := fun (i : Instr) => ∃ k, max c.cycle c.vdone ≤ k ∧ s.LeavesCore i n (c.waited w k none)
    let still := c.streams = [] ∧ ∀ e ∈ s.g.eng, e.core ≠ n
    (s.Flows n 0xB0 cy → (∀ x ∈ c.streams, streamToOwn n x = false) → (∀ e ∈ s.g.eng, e.core = n → cmdToOwn n e = false) →
      ends (.fenceL n)) ∧
    (s.Issues n 0xB0 cy → (∃ x ∈ c.streams, streamToOwn n x = true) → exec (.fenceL n) s = .next (s.withG s.g)) ∧
    (s.Issues n 0xB1 cy → c.streams ≠ [] → exec (.fenceC n) s = .next (s.withG s.g)) ∧
    (s.Flows n 0xB1 cy → still → ends (.fenceC n)) ∧
    (s.Flows n 0xB2 cy → still → ∀ t, s.g.watermark = some t → c.rg (wA w) ≤ t → ends (.fenceT n)) ∧
    (s.Flows n 0xB3 cy → still → (∀ m ∈ s.g.msnd, m.core ≠ n) → ends (.fenceX n))) ∧
  (∀ (s : State) (n cy : Nat),
    let c := s.g.core n
    let w := s.g.fetchWord n
    let a := c.rg (wA w)
    let st : Stamp := if wSub w = 0 then s.g.stampOn (n / 32) else if wSub w = 1 then s.g.lmStamp (n / 32) else s.g.jtStampOn (n / 32) (a % 2 ^ 16)
    let next := c.pc.toNat + 8
    (s.Flows n 0xD0 cy → (wSub w = 2 → a < 2 ^ 16) → s.LeavesCore (.trd n) n
      (((({ c with trd := BitVec.ofNat 64 (leAt st.bytes 8 4) } : BCore).wgAt (wD w) (st.ns.toNat % 2 ^ 64) (cy + 6)).flag 0).ended w
        (cy + 1) next)) ∧
    (s.Flows n 0xD1 cy → s.Scalar (.trdx n) n cy 0 c.trd.toNat 0) ∧
    (∀ p, s.Flows n 0xD2 cy → s.g.corePt n = some p → a ≤ p →
      ∃ k, max c.cycle c.vdone ≤ k ∧ s.LeavesCore (.waitpt n) n (c.waited w k (some p))) ∧
    (s.Issues n 0xD2 cy → (∀ p, s.g.corePt n = some p → p < a) →
      s.LeavesCore (.waitpt n) n { c with wait := some (.pt a (wD w)) }) ∧
    (∀ x d p, s.g.sys.pwr.rails = true → n < 512 → c.wait = some (.pt x d) → c.frozen = false → s.g.corePt n = some p → x ≤ p →
      c.inCode next = true → ∃ k, max c.cycle c.vdone ≤ k ∧
        s.LeavesCore (.waitptRelease n) n (({ c with wait := none } : BCore).waited w k (some p))))

/-- MBS and MBR (08 R300; 16 R548): a send from the kit's MID fills a free channel bound to it and answers OK, and a channel bound to
another MID or to none answers NOT_BOUND; a receive takes the waiting message into the scratchpad, or answers that there is none.
MSND and its end (08 R301; 13 R446): the message takes the next MSEQ of its core and waits for its answer; one for this Gremon
itself arrives at once; MACK and a wait of 10 ms end it, with the RESULT that came, or UNREACH, in its STATUS.
The model's choices in it: log entries 34, 38. -/
def Obligations.CoreMessages : Prop :=
  (∀ (s : State) (n cy t r : Nat),
    let c := s.g.core n
    let w := s.g.fetchWord n
    let a := c.addrM w
    let at' := spadCna n a
    let b := c.rg (wB w)
    let ok := a % 64 = 0 ∧ a < 0x200000 ∧ b < 256
    let answers := fun (i : Instr) (v : Nat) => ∃ k, max c.cycle c.vdone ≤ k ∧ s.LeavesCore i n (c.waited w k (some v))
    (s.Flows n 0xC0 cy → ok → s.g.linePoison at' 64 = false → (∀ u v, s.g.binding b = some (u, v) → u ≠ c.grants.mid) →
      answers (.mbs n) 2) ∧
    (s.Flows n 0xC0 cy → ok → s.g.linePoison at' 64 = false → s.g.binding b = some (c.grants.mid, r) → s.g.midDown r = false →
      (s.g.chan b).full = true → answers (.mbs n) 1) ∧
    (s.Flows n 0xC0 cy → ok → s.g.linePoison at' 64 = false → s.g.binding b = some (c.grants.mid, r) → s.g.midDown r = false →
      (s.g.chan b).full = false → (r = 0 ∨ 0x3FF < r) → (r < 0x800 ∨ 0x9FF < r) →
      (∀ x, at' ≤ x → x < at' + 64 → s.g.writing none x = false) →
      ∃ k, max c.cycle c.vdone ≤ k ∧ DoneG (.mbs n) s fun h =>
        (h.chan b).full = true ∧ (h.chan b).msg = s.g.rdBytes at' 64 ∧ (∀ q, q ≠ b → h.chan q = s.g.chan q) ∧
        s.g.OnlyCore h n (c.waited w k (some 0))) ∧
    (s.Flows n 0xC1 cy → ok → c.inCode a = false → (∀ u v, s.g.binding b = some (u, v) → v ≠ c.grants.mid) → answers (.mbr n) 2) ∧
    (s.Flows n 0xC1 cy → ok → c.inCode a = false → s.g.binding b = some (t, c.grants.mid) → s.g.midDown t = false →
      (s.g.chan b).full = true →
      ∃ k, max c.cycle c.vdone ≤ k ∧ DoneG (.mbr n) s fun h =>
        (h.chan b).full = false ∧ (h.chan b).msgs = min 0xFFFF ((s.g.chan b).msgs + 1) ∧ (∀ q, q ≠ b → h.chan q = s.g.chan q) ∧
        (∀ x, x < 2 ^ 47 → h.byte x = if at' ≤ x ∧ x < at' + 64 then (padTo 64 (s.g.chan b).msg).getD (x - at') 0 else s.g.byte x) ∧
        h.core n = c.waited w k (some 0) ∧ ∀ m, m ≠ n → h.core m = s.g.core m)) ∧
  (∀ (s : State) (n cy : Nat),
    let g := s.g
    let c := g.core n
    let w := g.fetchWord n
    let a := c.addrM w
    let b := g.rdBytes (spadCna n a) 56
    let m : MsndOut := ⟨n, b, a, g.mseqOf n c.mseq, g.gid, g.clk, c.seq⟩
    (s.Flows n 0xC4 cy → a % 64 = 0 → a < 0x200000 → g.linePoison (spadCna n a) 64 = false → g.msCheck n c a b = none →
      bit (msDest b) 10 = false → msDest b % 1024 = g.gid → (∀ e, g.kitOf c.grants.kit = some e → 16 ≤ e.2.pkg.length) →
      cnaReachRange (n / 32) (endCna n (leAt b 8 8)) (msLen b) = true →
      g.flowPoison (n / 32) (endCna n (leAt b 8 8)) (msLen b) = false → (∀ x, g.writing none x = false) →
      DoneG (.msnd n) s fun h => h.msnd = g.msnd ++ [m] ∧
        h.core n = ({ c with mseq := c.mseq + 1, seq := c.seq + 1 } : BCore).ended w (cy + 1) (c.pc.toNat + 8) ∧
        (∃ x : RlMsgIn, h.rlIn = g.rlIn ++ [x] ∧ leAt x.bytes 0 1 = 0x44 ∧ leAt x.bytes 24 8 = m.mseq % 2 ^ 64 ∧
          x.bytes.drop 32 = g.rdBytes (endCna n (leAt b 8 8)) (msLen b)) ∧
        (∀ q, q ≠ n → h.core q = g.core q) ∧ ∀ x, h.byte x = g.byte x) ∧
    (∀ x rest y, g.sys.pwr.rails = true → takeFirst (fun r : RlMsgIn => decide (leAt r.bytes 0 1 = 0x45)) g.rlIn = some (x, rest) →
      (g.msnd.find? fun q => decide (q.mseq = leAt x.bytes 16 8)) = some y →
      exec .mackRx s = .next (s.withG (({ g with rlIn := rest } : Gremon).msDone y (leAt x.bytes 24 1)))) ∧
    (∀ y rest, g.sys.pwr.rails = true → g.msnd = y :: rest →
      exec .msndUnreach s = .next (s.withG ((g.moveTo (y.at' + 10000000)).msDone y 6))) ∧
    (∀ (y : MsndOut) result, result < 256 → (msSync y.block).testBit 14 = false →
      (g.msDone y result).rd (spadCna y.core (y.addr + 56)) 8 = result + 256 ∧
      (g.msDone y result).msnd = g.msnd.filter fun x => decide (¬(x.core = y.core ∧ x.mseq = y.mseq))))

/-! ### AILEN (02, 03, 14, 15, 16) -/

/-- Counting (02 R69, R70, R72; 03 R100–R104): an increment adds to every counter whose applied word selects its line, and to
UNMAPPED where its physical core has no logical one; a bank clear, while the front ends are clocked, restarts the bank's runs alone; an op packet adds to its cell
where its core resolves and passes the cell's filter. Nothing else of AILEN's registers, sensors or time changes.
Sensors (02 R73, R74, R105; 03 R108): a transition holds the new value and its time; one within 200 ns of the last opens a fast
span of 200 ns. No other channel, counter or register changes.
The model's choices in it: log entry 53. -/
def Obligations.AilenCounts : Prop :=
  (∀ (s : State) (ns : Nat),
    let a := s.a.moveTo ns
    let u := a.cap.applied
    let cnt := fun (x : Ailen) (n : Nat) => Tbl.get 0 x.cap.frameCnt n
    let run := fun (x : Ailen) (n : Nat) => Tbl.get 0 x.cap.runCnt n
    let cell := fun (x : Ailen) (n : Nat) => Tbl.get 0 x.cap.opm n
    (a.mainUp = true → a.hclkLost = false → ∀ bank, DoneA (.bankClear bank ns) s fun b =>
      (∀ n, run b n = if n / 64 = bank then 0 else run a n) ∧ b.cap.frameCnt = a.cap.frameCnt ∧
      (a.cap.counting = true → b.cap.clrBanks.contains bank = true) ∧ b.cap.opm = a.cap.opm ∧ b.regs = a.regs ∧ b.clock = a.clock) ∧
    (a.hostCounting = true → Tbl.risingFrom 0 u = true → (∀ e ∈ u, e.1 % 4 = 0) →
    (∀ line (inc : BitVec 4), line < 64 * a.build.evpBanks → bit (a.reg 0x110) 10 = false →
      DoneA (.evpIncrement [⟨line, inc⟩] ns) s fun b =>
        (∀ n, n < 4096 →
          let add : W64 := if a.counterLine (capCnt u n) = some line then inc.setWidth 64 else 0
          cnt b n = cnt a n + add ∧ run b n = run a n + add) ∧
        b.cap.unmapped = a.cap.unmapped + (if a.lineUnmapped line then inc.setWidth 64 else 0) ∧
        b.cap.opm = a.cap.opm ∧ b.cap.sensors = a.cap.sensors ∧ b.regs = a.regs ∧ b.clock = a.clock) ∧
    (∀ (p : OppPkt) l, bit (a.reg 0x4020) 6 = false → a.logicalOf p.core.toNat = some l →
      let n := 16 * p.cls.toNat + p.fmt.toNat
      let pass := !bit (capOpm u n) 0 || decide (bits (capOpm u n) 15 8 = l)
      DoneA (.oppPackets [p] ns) s fun b =>
        (∀ m, cell b m = cell a m + if m = n ∧ pass = true then p.cnt.setWidth 64 else 0) ∧ b.cap.unmapped = a.cap.unmapped ∧
        b.cap.frameCnt = a.cap.frameCnt ∧ b.regs = a.regs) ∧
    (∀ (p : OppPkt), bit (a.reg 0x4020) 6 = false → a.logicalOf p.core.toNat = none →
      DoneA (.oppPackets [p] ns) s fun b => b.cap.opm = a.cap.opm ∧ b.cap.unmapped = a.cap.unmapped + p.cnt.setWidth 64))) ∧
  (∀ (s : State) (k ns : Nat) (v : BitVec 16),
    let a := s.a.moveTo ns
    let old := Tbl.get Sensor.none a.cap.sensors k
    a.aoReset = false → k < a.build.snpChannels →
    DoneA (.sensorToggle k v ns) s fun b =>
      let x := Tbl.get Sensor.none b.cap.sensors k
      x.held = some v ∧ x.lastTgl = some a.clk ∧
      (∀ u, old.lastTgl = some u → a.clk < u + 200 → old.fastTo ≤ a.clk → x.fastFrom = a.clk ∧ x.fastTo = a.clk + 200) ∧
      (∀ u, old.lastTgl = some u → u + 200 ≤ a.clk → x.fastFrom = old.fastFrom ∧ x.fastTo = old.fastTo) ∧
      (∀ j, j ≠ k → Tbl.get Sensor.none b.cap.sensors j = Tbl.get Sensor.none a.cap.sensors j) ∧
      b.cap.frameCnt = a.cap.frameCnt ∧ b.regs = a.regs ∧ b.clock = a.clock)

/-- The frame latch and its block (03 R116, R117, R119, R123): at a boundary with nothing staged, the open frame of a running plan
is latched with the value of every channel, its counts start again from zero, and the next frame is open; coding takes the oldest
latch from the queue and hands Guyline one SAMPLE message, or, where the queue has no room, discards it with CAP_DROP and lets the
next block carry its DISCONTINUITY; while pwr_sack is high a scoring boundary codes one block of the sensor channels.
The model's choices in it: log entry 53. -/
def Obligations.AilenFrames : Prop :=
  ∀ (s : State) (cut : BitVec 16),
    let a := s.a
    let f := a.cap.openFrame
    let t := (f + 1) * a.frameNs
    let u := a.cap.applied
    let steady := a.regs.bad = [] ∧ a.cap.remapPend = [] ∧ a.cap.pend = [] ∧ a.cap.cutAt = none ∧ a.regs.shadow = [] ∧
      a.frameArmed = none ∧ a.ucodeNew = false ∧ a.markHold = none
    (steady → a.aoReset = false → a.clock.own ≠ .unset → a.frameNs ≠ 0 → a.mainUp = true → a.hclkLost = false → a.pwr = .active →
      a.cap.counting = true → (∀ l, a.cap.lastFrame = some l → l < f) → capNch u ≠ 0 → a.reg 0x804C = 0 →
      DoneA (.frameBoundary .ailen [] cut) s fun b =>
        b.clock = (a.moveTo t).clock ∧ b.cap.openFrame = b.now / a.frameNs ∧ b.cap.lastFrame = some f ∧
        (∃ l, b.cap.latched = a.cap.latched ++ [l] ∧ l.frame = f ∧ l.cutOfs = cut ∧ l.values.length = capNch u ∧
          (∀ i, i < capNch u → capKind u i = 0 → capSrc u i < 4096 → bit (capCnt u (capSrc u i)) 22 = false →
            l.values.getD i 0 = Tbl.get 0 a.cap.frameCnt (capSrc u i)) ∧
          (∀ i, i < capNch u → capKind u i = 1 → l.values.getD i 0 = Tbl.get 0 a.cap.opm (capSrc u i))) ∧
        b.cap.frameCnt = [] ∧ b.cap.opm = [] ∧ b.cap.unmapped = 0 ∧ b.cap.runCnt = a.cap.runCnt ∧ b.marksTaken = 0) ∧
    (∀ l r, a.cap.latched = l :: r → a.mainUp = true → a.gl.tx.length = 4 →
      a.gl.sampleBytes + (l.block a.cap.prev a.cap.gap (l.isKey a.cap.gap)).length ≤ 98304 →
      DoneA .sampleBlockCoded s fun b => b.cap.latched = r ∧ b.cap.prev = l.values ∧ b.cap.gap = false ∧
        nth [] b.gl.tx 3 = nth [] a.gl.tx 3 ++ [⟨glMsg 0x01 (l.block a.cap.prev a.cap.gap (l.isKey a.cap.gap)), false, .plain⟩] ∧
        b.regs = a.regs ∧ b.clock = a.clock) ∧
    (∀ l r, a.cap.latched = l :: r → a.mainUp = true → a.roomy = true →
      98304 < a.gl.sampleBytes + (l.block a.cap.prev a.cap.gap (l.isKey a.cap.gap)).length →
      DoneA .sampleBlockCoded s fun b => (l.disc = false → b.cap.latched = r ∧ b.cap.disc = a.cap.disc) ∧
        (l.disc = true → r = [] → b.cap.latched = [] ∧ b.cap.disc = true) ∧
        (∀ m q, l.disc = true → r = m :: q → b.cap.latched = { m with disc := true } :: q) ∧
        b.cap.gap = true ∧ b.cap.prev = a.cap.prev ∧
        a.Recorded b .capDrop a.stamp (leBytes 8 l.frame)) ∧
    (a.aoReset = false → a.sack = true → a.clock.own ≠ .unset → a.scoreNs ≠ 0 → a.frameOpen ≠ 0 → a.frameOpen % a.scoreNs = 0 →
      (∀ l, a.cap.lastFrame = some l → l < f - 1) → a.latchChannels ≠ [] → a.regs.force = [] → a.gl.sampleBytes = 0 →
      a.latchChannels.length ≤ 64 → a.gl.tx.length = 4 →
      DoneA (.scoringBoundary .ailen) s fun b => b.cap.lastFrame = some (f - 1) ∧
        (∃ m, nth [] b.gl.tx 3 = nth [] a.gl.tx 3 ++ [⟨glMsg 0x01 m, false, .plain⟩] ∧ leAt m 0 8 = (f - 1) % 2 ^ 64 ∧
          leAt m 8 2 = a.latchChannels.length) ∧ b.regs = a.regs ∧ b.clock = a.clock)

/-- Trace of the die (02 R75; 20 R660, R661): a retirement of a running, traced stream adds one branch bit while fewer than 30 wait;
1 µs after the newest bit the bits leave as one BRANCH packet, and PT and SYNC packets follow when they are due.
Shard taps (02 R78, R79; 14 R484, R487, R488): a first beat opens a transfer with the beat's fields under the installed key, a
middle beat adds its 64 bytes, and the last one closes it and queues its SHARD message.
The model's choices in it: log entries 4, 50, 54. -/
def Obligations.AilenTraceAndTaps : Prop :=
  (∀ (s : State) (r : TrpRet) (ns i : Nat),
    let a := s.a.moveTo ns
    let x := a.src r.stream
    let y := s.a.src i
    let late := s.a.moveTo (y.bitAt + 1000)
    let later := if y.bytes ≥ 4096 then s.a else s.a.moveTo (y.syncAt + 100000)
    (a.traced r.stream = true → a.hclkLost = false → r.sec = false → r.ind = false → x.secure = false →
      x.due a.clk = false → x.bits.length < 29 →
      DoneA (.trpRetirement r ns) s fun b => (b.src r.stream).bits = x.bits ++ [r.tkn] ∧
        (b.src r.stream).bitAt = a.clk ∧ (b.src r.stream).buf = x.buf ∧
        (∀ j, j ≠ r.stream → b.src j = a.src j) ∧ b.regs = a.regs ∧ b.cap = a.cap) ∧
    (y.bits ≠ [] → s.a.mainUp = true → y.dropped = 0 → y.held + 5 ≤ (late.trcEnv i).room →
      DoneA (.traceBranchFlush .ailen i) s fun b => (b.src i).bits = [] ∧ (b.src i).buf = y.buf ++ [pktBranch y.bits] ∧
        (∀ j, j ≠ i → b.src j = s.a.src j)) ∧
    (y.started = true → s.a.traced i = true → y.bits = [] → y.dropped = 0 → y.held + 26 ≤ (later.trcEnv i).room →
      DoneA (.traceSyncTimer .ailen i) s fun b =>
        (b.src i).buf = y.buf ++ [pktPt later.stamp, pktSync y.lastTgt.toNat 0] ∧ (b.src i).bytes = 0 ∧
        (b.src i).syncAt = later.clk ∧ ∀ j, j ≠ i → b.src j = s.a.src j)) ∧
  (∀ (s : State) (b : StpBeat) (ns : Nat) (t : Transfer) (key : SdKey),
    let a := s.a.moveTo ns
    let tp := nth Tap.reset a.taps b.tap
    let shown := fun (x : Ailen) => nth Tap.reset x.taps b.tap
    b.tap < a.build.stpTaps → b.tap < a.taps.length → a.mainUp = true → a.pwr = .active → tp.ignore = false → b.dat.length = 64 →
    b.nb = 64 →
    (b.sop = true → b.eop = false → tp.openT = none → a.usableKey b.job = some key →
      DoneA (.stpTransferOpen b ns) s fun x => x.recWr = a.recWr ∧ ∃ o, (shown x).openT = some o ∧ o.job = b.job ∧ o.step = b.step ∧
        o.shard = b.shard ∧ o.dir = b.dir ∧ o.seg = b.seg ∧ o.len = 64 ∧ o.malformed = false ∧ o.key = some (key.h, key.k)) ∧
    (b.sop = true → b.eop = false → tp.openT = none → a.usableKey b.job = none → a.roomy = true →
      DoneA (.stpTransferOpen b ns) s fun x => (∃ o, (shown x).openT = some o ∧ o.malformed = true) ∧
        a.Recorded x .stpNokey a.stamp (stpData b.tap b.job.toNat b.step.toNat b.shard.toNat)) ∧
    (b.sop = false → b.eop = false → tp.openT = some t →
      DoneA (.stpBeat b ns) s fun x => x.recWr = a.recWr ∧ (∃ o, (shown x).openT = some o ∧ o.len = t.len + 64 ∧ o.job = t.job ∧
        o.malformed = t.malformed) ∧ x.gl = a.gl ∧ x.regs = a.regs) ∧
    (b.sop = false → b.eop = false → tp.openT = none → tp.noSop = false → a.roomy = true →
      DoneA (.stpBeat b ns) s fun x => (shown x).openT = none ∧ a.Recorded x .stpNoSop a.stamp (stpData b.tap 0 0 0)) ∧
    (b.sop = false → b.eop = true → tp.openT = some t → a.gl.tx.length = 4 →
      DoneA (.stpTransferClose b ns) s fun x => (shown x).openT = none ∧ (shown x).closed = min 0xFFFF (tp.closed + 1) ∧
        ∃ q m, nth [] x.gl.tx 2 = nth [] a.gl.tx 2 ++ q ++ [⟨m, false, .plain⟩] ∧ leAt m 0 1 = 0x11 ∧ leAt m 4 2 = t.job.toNat ∧
          leAt m 6 1 = b.tap % 256 ∧ leAt m 8 8 = t.step.toNat ∧ leAt m 16 4 = t.shard.toNat ∧ leAt m 24 8 = (t.len + 64) % 2 ^ 64))

/-- Islands and resets (02 R54, R57, R59, R81–R83, R98; 03 R122, R129; 05 R194): SHADOW is entered and left in four steps; the open
frame is cut PARTIAL at L(t′), counting stops there, and the first block after SHADOW is KEY and DISCONTINUITY; a reset of the main
island discards counts, transfers and the link, not the handshake; ao_por_n clears all of AILEN, and its release samples hdid and
reports a gln_ref already lost.
Clock checks (02 R92, R98): the loss of hclk stops counting, the loss of gln_ref also takes the link down, and ao_clk out of
range is noted; each writes its event, and each return clears its condition.
The model's choices in it: log entry 55. -/
def Obligations.AilenIslands : Prop :=
  (∀ (s : State) (ns : Nat) (hdid : W64),
    let a := s.a.moveTo ns
    let idle := ∀ n, n < 2 → (nth Tap.reset a.taps n).openT = none
    (∀ cutAt ofs, a.aoReset = false → a.pwr = .active → a.scr.st = .idle → DoneA (.shadowEntryRequest ⟨ns, cutAt, ofs⟩) s fun b =>
      b.pwr = .entering ∧ b.sreq = true ∧ b.cap.counting = a.cap.counting ∧ b.clock = a.clock ∧ b.pwrAt = a.clk ∧
      b.cap.cutAt = some (max a.clk (if a.clock.own ≠ .unset ∧ a.clk < a.frameEnd ∧ a.frameEnd ≤ a.clk + 20 then max a.frameEnd cutAt
        else cutAt), ofs)) ∧
    (∀ t ofs, s.a.cap.cutAt = some (t, ofs) → t ≤ ns → s.a.clock.own ≠ .unset → s.a.frameNs ≠ 0 → t < s.a.frameEnd →
      a.cap.cutAt = none ∧ a.cap.counting = false ∧
      (s.a.hostCounting = true → (∀ l, s.a.cap.lastFrame = some l → l < s.a.cap.openFrame) → capNch s.a.cap.applied ≠ 0 →
        s.a.cap.parityHold = false → ∃ l, a.cap.latched = s.a.cap.latched ++ [l] ∧ l.frame = s.a.cap.openFrame ∧
          l.partialEnd = true ∧ l.cutOfs = ofs)) ∧
    (a.pwr = .entering → a.cap.cutAt = none → (a.gl.shadowRate = true ∨ a.pwrAt + 20000 ≤ a.clk) → a.exitNext = false →
      a.scr.st ≠ .closing → DoneA (.shadowEntryDone ns) s fun b =>
      b.pwr = .shadow ∧ b.gl.shadowRate = true ∧ b.taps = [Tap.reset, Tap.reset] ∧ b.cap.frameCnt = [] ∧ b.cap.runCnt = [] ∧ b.cap.opm = [] ∧ b.cap.unmapped = 0 ∧ b.cap.keyNext = true ∧
      b.gl.stbyOk = false ∧ b.regs = a.regs ∧ b.clock = a.clock) ∧
    (a.pwr = .shadow → DoneA (.shadowExitRequest ns) s fun b =>
      b.pwr = .exiting ∧ b.sreq = false ∧ b.mpg = true ∧ b.ucodeRun = a.ucodeVer ∧ b.regs = a.regs ∧ b.cap = a.cap ∧
      b.pwrAt = a.clk) ∧
    (a.pwr = .entering → DoneA (.shadowExitRequest ns) s fun b => b.pwr = .entering ∧ b.exitNext = true ∧ b.sreq = false) ∧
    (a.pwr = .exiting → a.mainReset = false → (a.gl.shadowRate = false ∨ a.pwrAt + 100000 ≤ a.clk) → a.scr.st = .idle →
      DoneA (.shadowExitDone ns) s fun b => b.pwr = .active ∧ b.gl.shadowRate = false ∧ b.cap.disc = true ∧ b.cap.keyNext = true ∧ b.cap.counting = false ∧ b.regs = a.regs ∧ b.clock = a.clock) ∧
    (a.aoReset = false → a.sack = false → a.pwr ≠ .shadow → idle → a.roomy = true → DoneA (.pwrAbrupt ns) s fun b =>
      b.mpg = false ∧ b.cap.frameCnt = [] ∧ b.cap.opm = [] ∧ b.gl.st = .down ∧ a.Recorded b .pwrAbrupt a.stamp []) ∧
    (a.aoReset = false → a.pwr ≠ .shadow → idle → DoneA (.mainRstAssert ns) s fun b =>
      b.mainReset = true ∧ b.pwr = a.pwr ∧ b.cap.frameCnt = [] ∧ b.cap.runCnt = [] ∧ b.cap.opm = [] ∧ b.cap.latched = [] ∧
      b.cap.applied = a.cap.applied ∧ b.gl.st = .down ∧ b.gl.keeps = false ∧ b.gl.epoch = a.gl.epoch ∧ b.scr.st = .idle ∧ b.clock = a.clock ∧
      b.recWr = a.recWr ∧ b.ucode = a.ucode) ∧
    (a.mainReset = true → a.aoReset = false → a.pwr ≠ .shadow → a.refLost = false → a.scr.st = .idle → DoneA (.mainRstRelease ns) s fun b =>
      b.mainReset = false ∧ b.mpg = true ∧ b.gl.st = .training ∧ b.ucodeRun = a.ucodeVer ∧ b.cap.disc = true ∧ b.regs = a.regs) ∧
    (DoneA (.aoPorAssert ns) s fun b =>
      b.aoReset = true ∧ b.regs = Ailen.reset.regs ∧ b.cap = Ailen.reset.cap ∧ b.clock = Ailen.reset.clock ∧ b.recWr = 0 ∧
      b.gl = { GlLink.reset .ailen with epoch := a.gl.epoch } ∧ b.jt = none ∧ b.sdKey = none ∧ b.ucode = [] ∧ b.build = a.build) ∧
    (a.aoReset = true → hdid ≠ 0 → hdid ≠ BitVec.allOnes 64 → a.refLost = false → DoneA (.aoPorRelease hdid ns) s fun b =>
      b.aoReset = false ∧ b.regs.get .ailen 0x10 = hdid.toNat % 2 ^ 32 ∧ b.regs.get .ailen 0x14 = hdid.toNat / 2 ^ 32 ∧
      b.enumCause = 0 ∧ b.recWr = a.recWr) ∧
    (a.aoReset = true → hdid = 0 ∨ hdid = BitVec.allOnes 64 → a.refLost = false → a.roomy = true →
      DoneA (.aoPorRelease hdid ns) s fun b =>
        b.recWr = a.recWr + 1 ∧ (Tbl.find b.recSlots (a.recWr % 1024)).map (·.code) = some (BitVec.ofNat 16 Ev.hdidInvalid.code)) ∧
    (a.aoReset = true → hdid ≠ 0 → hdid ≠ BitVec.allOnes 64 → a.refLost = true → a.roomy = true →
      DoneA (.aoPorRelease hdid ns) s fun b => b.aoReset = false ∧
        b.recWr = a.recWr + 1 ∧ (Tbl.find b.recSlots (a.recWr % 1024)).map (·.code) = some (BitVec.ofNat 16 Ev.refclkLost.code))) ∧
  (∀ (s : State) (ns : Nat),
    let a := s.a.moveTo ns
    a.aoReset = false → a.roomy = true →
    (a.sack = false → a.hclkLost = false → DoneA (.hclkLost ns) s fun b =>
      b.hclkLost = true ∧ b.cap.counting = false ∧ b.cap.disc = true ∧ a.Recorded b .hclkLost a.stamp [] ∧ b.regs = a.regs) ∧
    (a.hclkLost = true → DoneA (.hclkRecover ns) s fun b =>
      b.hclkLost = false ∧ b.cap.counting = false ∧ b.cap.disc = true ∧ b.recWr = a.recWr ∧ b.regs = a.regs) ∧
    (a.refLost = false → DoneA (.refclkLost ns) s fun b =>
      b.refLost = true ∧ b.gl.st = .down ∧ b.gl.lock = false ∧ b.cap.counting = false ∧ a.Recorded b .refclkLost a.stamp [] ∧
      b.clock = a.clock) ∧
    (a.refLost = true → a.scr.st ≠ .closing → DoneA (.refclkReturn ns) s fun b =>
      b.refLost = false ∧ (({ a with refLost := false } : Ailen).mainUp = true → b.gl.st = .training) ∧ b.regs = a.regs) ∧
    (a.refLost = false → a.aoRange = false → DoneA (.aoclkRange ns) s fun b =>
      b.aoRange = true ∧ b.recWr = a.recWr + 1 ∧ b.regs = a.regs ∧ b.cap = a.cap) ∧
    (a.refLost = false → DoneA (.aoclkRangeClear ns) s fun b => b.aoRange = false ∧ b.recWr = a.recWr ∧ b.regs = a.regs))

/-- The screening controller (15 R500–R503, R506, R509): SCREEN_START asks for the slot, a grant fixes START, DONE compares the
host's result with the expected one, and a revocation, the DUR timer or the WAIT timer ends the screen with its own verdict; a
stress session opens and closes with an event, and a host error is recorded.
The model's choices in it: log entries 4, 56. -/
def Obligations.AilenScreen : Prop :=
  ∀ (s : State) (ns : Nat) (v : Word) (hcode : Byte),
    let a := s.a.moveTo ns
    let same := ∀ w, w < 4 → a.reg (0x8030 + 4 * w) = a.reg (0x8010 + 4 * w)
    let closes := fun (i : Instr) (x : Ailen) (verdict : Nat) => x.scr.gnt = true → DoneA i s fun b =>
      b.scr.st = .closing ∧ b.scr.verdict = verdict ∧ b.scr.req = false ∧ b.scr.stop = x.stamp ∧ b.recWr = x.recWr
    let ends := fun (i : Instr) (x : Ailen) (verdict : Nat) => x.scr.gnt = false → x.gl.tx.length = 4 → DoneA i s fun b =>
      b.scr.st = .idle ∧ b.scr.verdict = verdict ∧ b.scr.req = false ∧ b.recWr = x.recWr ∧
      ∃ m : Screen, nth [] b.gl.tx 2 = nth [] x.gl.tx 2 ++ [⟨m.message, false, .plain⟩] ∧ m.verdict = verdict ∧ m.stop = x.stamp ∧
        m.pack = x.scr.pack ∧ m.core = x.scr.core
    (a.mainUp = true → a.scr.st = .request → a.scr.req = true → a.scr.gnt = false → DoneA (.scrGrant ns) s fun b =>
      b.scr.st = .granted ∧ b.scr.gnt = true ∧ b.scr.start = a.stamp ∧ b.scr.loadSig = a.cap.lastSig ∧ b.regs = a.regs) ∧
    (a.mainUp = true → a.scr.st = .granted → closes (.scrRevoke ns) a 3) ∧
    (a.mainUp = true → a.scr.st = .closing → a.gl.tx.length = 4 → DoneA (.scrGrantFall ns) s fun b =>
      b.scr.st = .idle ∧ b.scr.gnt = false ∧
      nth [] b.gl.tx 2 = nth [] a.gl.tx 2 ++ [⟨({ a.scr with gnt := false } : Screen).message, false, .plain⟩] ∧
      bits (b.regs.get .ailen 0x8020) 11 8 = (a.scr.verdict + 1) % 16) ∧
    (s.a.mainUp = true → s.a.scr.st = .granted → closes .screenTimerExpiry (s.a.moveTo (s.a.scr.reqAt + 1000 * s.a.scr.dur.toNat)) 2) ∧
    (s.a.mainUp = true → s.a.scr.st = .request →
      closes .screenWaitExpiry (s.a.moveTo (s.a.scr.reqAt + 1000000 * s.a.screenWait)) 4 ∧
      ends .screenWaitExpiry (s.a.moveTo (s.a.scr.reqAt + 1000000 * s.a.screenWait)) 4) ∧
    (a.mainUp = true → a.scr.st = .granted → hcode = 0 → same → closes (.scrDoneWrite hcode ns) a 0) ∧
    (a.mainUp = true → a.scr.st = .granted → hcode = 0 → ¬same → closes (.scrDoneWrite hcode ns) a 1) ∧
    (a.mainUp = true → a.scr.st = .granted → hcode ≠ 0 → closes (.scrDoneWrite hcode ns) a 5) ∧
    (a.aoReset = false → a.sack = false → a.scr.st = .idle → a.roomy = true → DoneA (.scrDoneWrite hcode ns) s fun b =>
      a.Recorded b .scrStray a.stamp [] ∧ b.scr = a.scr) ∧
    (a.aoReset = false → a.sack = false → a.scr.session = false → a.roomy = true → DoneA (.stressSessionWrite true ns) s fun b =>
      b.scr.session = true ∧ a.Recorded b .stressOpen a.stamp []) ∧
    (a.aoReset = false → a.sack = false → a.scr.session = true → a.roomy = true → DoneA (.stressSessionWrite false ns) s fun b =>
      b.scr.session = false ∧ a.Recorded b .stressClose a.stamp []) ∧
    (a.aoReset = false → a.sack = false → a.roomy = true → DoneA (.herrWrite v ns) s fun b =>
      a.Recorded b .hostErr a.stamp (leBytes 2 (bits v.toNat 15 0) ++ leBytes 1 (bits v.toNat 23 16) ++ leBytes 1 (bits v.toNat 31 24) ++
        leBytes 2 a.conditions.1.toNat ++ leBytes 2 a.conditions.2.1.toNat ++ leBytes 2 a.conditions.2.2.toNat ++
        leBytes 4 a.cap.lastSig.toNat))

/-- A Vigil cut on the die (14 R460–R464): W is taken 1 µs before the tick and the first guard snapshot at L(t − W); at the tick a
bank is formed, and the interlock pulse driven where it is enabled; at L(t + W) one VIGIL message is queued and the cut is over.
Mailbox of the die (16 R551, R552): a send by SEND or by the doorbell queues one MBOX message while BUSY is set, or ends
ERR_PWRDN on a link that carries nothing; a message is shown when none is, and ACK releases it with an MB_READ event.
The model's choices in it: log entries 38, 56. -/
def Obligations.AilenVigil : Prop :=
  (∀ (s : State) (v : AVigil) (l : Latched),
    let a := s.a
    let t := v.tick.toNat
    let m := a.moveTo (t - 1000)
    (a.vig = some v → v.w = none → v.bank = none → 1000 ≤ t → DoneA .vigilWSample s fun b =>
      b.clock = m.clock ∧ b.vig = some { v with w := some m.uncert } ∧ b.regs = m.regs ∧ b.cap = m.cap) ∧
    (∀ w, a.vig = some v → v.w = some w → v.snapA = none → v.bank = none → guardable w a.clock.reported = true → a.mainUp = true →
      a.hclkLost = false → DoneA .vigilSnapshotA s fun b =>
        let x := a.moveTo ((4 * t - w) / 4)
        b.clock = x.clock ∧ b.cap = x.cap ∧ b.vig = some { v with snapA := some (x.cap.runCnt, x.cap.opmRun, x.cap.unmRun) }) ∧
    (a.vig = some v → v.bank = none → a.frameNs ≠ 0 → a.captureBad = false → a.sack = false → a.mainUp = true → a.hclkLost = false →
      DoneA .vigilTick s fun b => b.clock = (a.moveTo t).clock ∧ (∃ x y, b.vig = some y ∧ y.bank = some x ∧ y.vseq = v.vseq ∧ y.tick = v.tick) ∧
        bits (b.regs.get .ailen 0x11C) 2 0 = 1 ∧ bits (b.regs.get .ailen 0x11C) 31 16 = v.vseq.toNat % 65536 ∧
        (a.build.vigPresent = true → a.parityBad 0x108 = false → bit (a.reg 0x108) 0 = true →
          b.vigPulses = a.vigPulses + 1 ∧ b.vigTag = v.vseq.setWidth 8)) ∧
    (a.vig = some v → v.bank = none → a.frameNs ≠ 0 → a.sack = false → a.mainUp = false → a.roomy = true →
      DoneA .vigilTick s fun b => b.vig = none ∧ b.recWr = a.recWr + 1 ∧ bits (b.regs.get .ailen 0x11C) 2 0 = 3) ∧
    (a.vig = some v → v.bank = some l → a.mainUp = true ∨ (a.sack = true ∧ a.aoReset = false) → a.gl.tx.length = 4 → DoneA .vigilSnapshotB s fun b => b.vig = none ∧
      ∃ m, nth [] b.gl.tx 3 = nth [] a.gl.tx 3 ++ [⟨m, false, .vigil⟩] ∧ leAt m 0 1 = 2 ∧ leAt m 4 4 = v.vseq.toNat ∧ leAt m 8 8 = t ∧
        leAt m 16 2 = l.values.length % 2 ^ 16)) ∧
  (∀ (s : State) (ns : Nat) (chan : Byte),
    let a := s.a.moveTo ns
    let words := (List.range 16).flatMap fun w => leBytes 4 (a.reg (0x5000 + 4 * w))
    let sent := fun (i : Instr) (c : Nat) => a.gl.carries = true → a.gl.tx.length = 4 → DoneA i s fun b =>
      bit (b.regs.get .ailen 0x5044) 0 = true ∧
      nth [] b.gl.tx 1 = nth [] a.gl.tx 1 ++ [⟨glMsg 0x20 (leBytes 1 c ++ leBytes 3 0 ++ words), false, .plain⟩]
    a.aoReset = false → a.sack = false → a.regs.force = [] →
    (a.parityBad 0x50C4 = false → bit (a.reg 0x50C4) 3 = true → bit (a.reg 0x5044) 0 = false →
      sent (.mbxDoorbell ns) (a.fld 0x5040 7 0)) ∧
    (bit (a.reg 0x5044) 0 = false → sent (.mbTxSend .hrp chan ns) chan.toNat) ∧
    (bit (a.reg 0x5044) 0 = false → a.gl.carries = false → DoneA (.mbTxSend .hrp chan ns) s fun b =>
      bits (b.regs.get .ailen 0x5044) 2 0 = 6 ∧ b.gl = a.gl) ∧
    (bit (a.reg 0x50C0) 0 = true → a.mbHold = none → a.roomy = true → DoneA (.mbRxAck .hrp ns) s fun b =>
      bit (b.regs.get .ailen 0x50C0) 0 = false ∧ a.Recorded b .mbRead a.stamp (leBytes 1 (a.fld 0x50C0 15 8))))

/-- Commands to the die (05 R194, R199, R202, R682; 14 R460; 15 R500): the oldest CMD is taken from the queue and answered by one RSP
with its TAG and status; WRITE and READ reach the registers it names, UCODE the microcode store, VIGIL_ARM and SCREEN_START their
own; an unknown operation is BAD_OP; an accepted ENUM_ACK releases what waited for it.
The model's choices in it: log entries 11, 56. -/
def Obligations.AilenCommands : Prop :=
  ∀ (s : State) (m : RxMsg) (rest : List RxMsg),
    let a := s.a
    let x : Ailen := { a with gl := { a.gl with inbox := rest } }
    let b := m.bytes
    let k := leAt b 8 4
    let answered := fun (y : Ailen) (status : Nat) (data : List Nat) =>
      nth [] y.gl.tx 1 = nth [] a.gl.tx 1 ++ [⟨glMsg 0x22 (leBytes 2 (leAt b 4 2) ++ leBytes 1 status ++ leBytes 1 0 ++
        leBytes 4 data.length ++ data.flatMap (leBytes 4)), false, .plain⟩] ∧ y.gl.inbox = rest
    a.aoReset = false → a.refLost = false → a.gl.tx.length = 4 →
    (takeFirst isCmd a.gl.inbox = some (m, rest) → cmdOp b = 1 → cmdCount b = 1 → bit (leAt b 7 1) 0 = false → x.cmdAddrs b = 0 →
      DoneA .cmdRead s fun y => answered y 0 [(x.readReg .cmd k).2] ∧ y.cap = a.cap ∧ y.clock = a.clock) ∧
    (takeFirst isCmd a.gl.inbox = some (m, rest) → cmdOp b = 1 → x.cmdAddrs b ≠ 0 →
      DoneA .cmdRead s fun y => answered y (x.cmdAddrs b) [] ∧ y.regs = a.regs ∧ y.cap = a.cap) ∧
    (takeFirst isCmd a.gl.inbox = some (m, rest) → cmdOp b = 2 → x.cmdAddrs b ≠ 0 →
      DoneA .cmdWrite s fun y => answered y (x.cmdAddrs b) [] ∧ y.regs = a.regs ∧ y.cap = a.cap) ∧
    (∀ d, takeFirst isCmd a.gl.inbox = some (m, rest) → cmdOp b = 2 → cmdCount b = 1 → bit (leAt b 7 1) 0 = false → x.cmdAddrs b = 0 →
      0x6000 ≤ k → k < 0x7000 → regDesc .ailen k = some d →
      DoneA .cmdWrite s fun y => answered y 0 [] ∧ y.regs.get .ailen k = merge (a.regs.get .ailen k) (d.rw ||| d.wo) (leAt b 16 4) ∧
        (∀ j, j ≠ k → y.regs.get .ailen j = a.regs.get .ailen j) ∧ y.cap = a.cap) ∧
    (takeFirst isCmd a.gl.inbox = some (m, rest) → cmdOp b = 3 → DoneA .cmdUcode s fun y => answered y 0 [] ∧
      (∀ i, i < cmdCount b → Tbl.find y.ucode (k + i) = some (BitVec.ofNat 32 (leAt b (16 + 4 * i) 4))) ∧
      y.ucodeVer = a.ucodeLoad ∧ y.ucodeNew = true ∧ y.ucodeRun = a.ucodeRun ∧ y.regs = a.regs) ∧
    (takeFirst isCmd a.gl.inbox = some (m, rest) → cmdOp b = 4 → cmdCount b = 4 → a.clock.reported ≠ .unset → a.vig = none →
      a.gl.bankQueued = false → a.now + 1000 ≤ leAt b 16 8 % 2 ^ 64 →
      DoneA .cmdVigilArm s fun y => answered y 0 [] ∧ ∃ v, y.vig = some v ∧ v.tick.toNat = leAt b 16 8 % 2 ^ 64 ∧
        v.vseq.toNat = leAt b 24 4 % 2 ^ 32 ∧ v.bank = none) ∧
    (takeFirst isCmd a.gl.inbox = some (m, rest) → cmdOp b = 5 → cmdCount b = 2 → a.build.scrPresent = true → a.pwr = .active →
      a.regs.force = [] → a.scr.st = .idle → a.scr.gnt = false → bit (a.reg 0x8004) 0 = false → leAt b 22 2 % 2 ^ 16 ≠ 0 →
      DoneA .cmdScreenStart s fun y => answered y 0 [] ∧ y.scr.st = .request ∧ y.scr.req = true ∧ y.scr.reqAt = a.clk ∧
        y.scr.pack.toNat = leAt b 16 4 % 2 ^ 32 ∧ y.scr.core.toNat = leAt b 20 1 % 256 ∧ y.scr.dur.toNat = leAt b 22 2 % 2 ^ 16) ∧
    (takeFirst isCmd a.gl.inbox = some (m, rest) → cmdFits b = false → DoneA .cmdBadOp s fun y => answered y 2 [] ∧ y.regs = a.regs ∧
      y.cap = a.cap ∧ y.vig = a.vig ∧ y.scr = a.scr) ∧
    (takeFirst (fun r => decide (leAt r.bytes 0 1 = 0x24)) a.gl.inbox = some (m, rest) → leAt b 4 1 = 0 →
      DoneA .enumAckRx s fun y => y.gl.held = false ∧ y.gl.inbox = rest ∧ y.recWr = a.recWr ∧ y.regs = a.regs) ∧
    (∀ c ws, takeFirst (fun r => decide (leAt r.bytes 0 1 = 0x20)) a.gl.inbox = some (m, rest) → bit (a.reg 0x50C0) 0 = false →
      a.regs.force = [] → c = leAt b 4 1 → ws = (List.range 16).map (fun w => BitVec.ofNat 32 (leAt b (8 + 4 * w) 4)) →
      DoneA .mboxRxAilen s fun y => bit (y.regs.get .ailen 0x50C0) 0 = true ∧ bits (y.regs.get .ailen 0x50C0) 15 8 = c % 256 ∧
        (∀ w, w < 16 → y.regs.get .ailen (0x5080 + 4 * w) = leAt b (8 + 4 * w) 4 % 2 ^ 32) ∧ y.gl.inbox = rest)

/-! ### Time (04) -/

/-- The four-timestamp exchange (04 R146–R150): a request carries the next EXID; a node whose PT is set answers with the arrival
stamp; the child takes θ and D from an answer to its latest request and its servo follows, AILEN within 100 µs of its request.
The model's choices in it: log entry 13. -/
def Obligations.TimeExchanges : Prop :=
  ∀ s : State,
    let a := s.a
    let g := s.g
    let x := fun (c : Clock) => { c with exid := c.exid + 1, waiting := false }
    (a.aoReset = false → a.gl.st.open = true →
      DoneA (.timeExchangeOpen .ailen) s fun b =>
        b = { a with clock := x a.clock, gl := a.gl.queue clsTime (glMsg 0x30 (leBytes 2 (a.clock.exid + 1).toNat ++ leBytes 2 0)) }) ∧
    (∀ p, g.sys.pwr.rails = true → g.tree.parent = some p → g.root = false → g.portUp p = true →
      DoneG (.timeExchangeOpen .gremon) s fun h =>
        h = { g with clock := x g.clock }.rlSend p vcTime
          (g.rlMsg 0x10 1 ((g.neighbour p).getD 0x3FF) 0 0 (leBytes 2 (g.clock.exid + 1).toNat ++ leBytes 6 0))) ∧
    (∀ n m r, g.sys.pwr.rails = true → n < 512 → (g.lane n).inbox = m :: r → leAt m.bytes 0 1 = 0x30 →
      DoneG (.timeReqRx (.lane n)) s fun h =>
        let ans := glMsg 0x31 (leBytes 2 (leAt m.bytes 4 2) ++ leBytes 1 (min 7 (bits g.almCfg 7 4)) ++
          leBytes 1 (bits g.almCfg 31 24) ++ m.stamp.bytes ++ leBytes 12 0)
        h = g.setLane n (if g.clock.own = .unset then { g.lane n with inbox := r }
          else ({ g.lane n with inbox := r } : GlLink).queue clsTime ans)) ∧
    (∀ p m r, g.sys.pwr.rails = true → p < 6 → g.rlIn = m :: r → m.port = p → leAt m.bytes 0 1 = 0x10 →
      DoneG (.timeReqRx (.port p)) s fun h =>
        let ans := g.rlMsg 0x11 1 (leAt m.bytes 8 2) 0 0 (leBytes 2 (leAt m.bytes 16 2) ++ leBytes 1 (min 7 (bits g.almCfg 3 0)) ++
          leBytes 1 0 ++ m.stamp.bytes ++ leBytes 12 0 ++ leBytes 4 0)
        h = (if g.clock.own = .unset then { g with rlIn := r } else { g with rlIn := r }.rlSend p vcTime ans)) ∧
    (∀ m r asym cut, a.gl.inbox = m :: r → leAt m.bytes 0 1 = 0x31 → a.aoReset = false → a.clock.waiting = true →
      leAt m.bytes 4 2 = a.clock.exid.toNat → m.stamp.sixteenths ≤ a.clock.t1 + 1600000 →
      a.clock.accepts (.ofBytes m.bytes 8) (.ofBytes m.bytes 20) m.stamp.sixteenths →
      DoneA (.timeRspRx .ailen asym cut) s fun b =>
        a.clock.Disciplined b.clock (a.clock.theta (.ofBytes m.bytes 8) (.ofBytes m.bytes 20) m.stamp.sixteenths asym) a.interval
          (slewPpm (bits g.almCfg 23 16)) ∧
        b.clock.master = (Stamp.ofBytes m.bytes 20).qual ∧ b.clock.uMaster = (Stamp.ofBytes m.bytes 20).unc.toNat ∧
        b.intv = min 7 (leAt m.bytes 6 1 % 16) ∧ b.drift = leAt m.bytes 7 1 ∧
        (a.clock.own ≠ .unset → a.clock.stepRun = 0 →
          b = { a with clock := b.clock, gl := { a.gl with inbox := r }, intv := b.intv, drift := b.drift })) ∧
    (∀ m r asym cut p, g.sys.pwr.rails = true → g.rlIn = m :: r → leAt m.bytes 0 1 = 0x11 → g.root = false →
      g.tree.parent = some p → m.port = p → g.clock.waiting = true → leAt m.bytes 16 2 = g.clock.exid.toNat →
      g.clock.accepts (.ofBytes m.bytes 20) (.ofBytes m.bytes 32) m.stamp.sixteenths →
      DoneG (.timeRspRx .gremon asym cut) s fun h =>
        g.clock.Disciplined h.clock (g.clock.theta (.ofBytes m.bytes 20) (.ofBytes m.bytes 32) m.stamp.sixteenths
          (toInt 16 (g.fld (0x300200 + 4 * p) 15 0))) g.interval (slewPpm (bits g.almCfg 23 16)) ∧
        h.clock.master = (Stamp.ofBytes m.bytes 32).qual ∧ h.clock.uMaster = (Stamp.ofBytes m.bytes 32).unc.toNat ∧
        { h with log := g.log, clock := g.clock, sys := g.sys, regs := g.regs } = { g with rlIn := r } ∧
        (g.clock.own ≠ .unset → h.regs = g.regs))

/-- Holdover (04 R150, R152): eight intervals without an accepted exchange freeze a LOCKED node's rate at y_int and write
HOLDOVER; a U beyond HOLD_MAX leaves the node FREE and writes HOLD_EXPIRED. The root keeps its state.
Pod time (04 R140, R142–R145, R162–R164, 06 R228): calibration is slewed; replicas stand within 0.25 ns of PT; site lock sets
an UNSET root, which otherwise slews by at most 10 ppm; a root without site lock seeds PT after 1,000 ms; an ordered step moves
both parts by one amount at its tick; a solve publishes an alignment or says that the marks are inconsistent.
The model's choices in it: log entries 13, 14, 15. -/
def Obligations.TimeHoldover : Prop :=
  (∀ s : State,
    let a := s.a
    let g := s.g
    let due := fun (c : Clock) (iv : Nat) => max c.lm ((c.lastOk + 8 * iv) * 2 ^ 40)
    (a.aoReset = false → a.clock.own = .locked → a.roomy = true →
      DoneA (.lockLossTimeout .ailen) s fun b =>
        b.clock.own = .holdover ∧ b.clock.y = a.clock.yInt ∧ b.clock.yInt = a.clock.yInt ∧ b.clock.lm = due a.clock a.interval ∧
        b.clock.holdFrom = b.clock.lmNs ∧ a.Recorded b .holdover b.stamp [] ∧ b.regs = a.regs ∧ b.cap = a.cap) ∧
    (a.aoReset = false → a.clock.own = .holdover → a.roomy = true →
      holdMax (bits g.almCfg 15 8) < holdoverU a.clock.uEntry (a.clock.lmNs - a.clock.holdFrom) a.driftA →
      DoneA (.holdExpired .ailen) s fun b =>
        b.clock = { a.clock with own := .free, okRun := 0, stepRun := 0 } ∧ a.Recorded b .holdExpired b.stamp [] ∧
        b.regs = a.regs ∧ b.cap = a.cap) ∧
    (g.sys.pwr.rails = true → g.root = false → g.clock.own = .locked → g.roomy = true →
      DoneG (.lockLossTimeout .gremon) s fun h =>
        h.clock.own = .holdover ∧ h.clock.y = g.clock.yInt ∧ h.clock.yInt = g.clock.yInt ∧ h.clock.lm = due g.clock g.interval ∧
        h.clock.holdFrom = h.clock.lmNs ∧ g.Filed h .holdover 0 [] ∧ { h with log := g.log, clock := g.clock } = g) ∧
    (g.sys.pwr.rails = true → g.root = true → DoneG (.lockLossTimeout .gremon) s fun h => h = g) ∧
    (g.sys.pwr.rails = true → g.clock.own = .holdover → g.roomy = true →
      holdMax (bits g.almCfg 15 8) < holdoverU g.clock.uEntry (g.clock.lmNs - g.clock.holdFrom) 5 →
      DoneG (.holdExpired .gremon) s fun h =>
        h.clock = { g.clock with own := .free, okRun := 0, stepRun := 0 } ∧ g.Filed h .holdExpired 0 [] ∧
        { h with log := g.log, clock := g.clock } = g)) ∧
  (∀ s : State, s.g.sys.pwr.rails = true →
    let a := s.a
    let g := s.g
    (∀ d, a.aoReset = false → a.clock.own ≠ .unset →
      DoneA (.almanacCalibration .ailen d) s fun b => b = { a with clock := { a.clock with slew := a.clock.slew + d * 2 ^ 36 } }) ∧
    (∀ d, g.clock.own ≠ .unset →
      DoneG (.almanacCalibration .gremon d) s fun h => h = { g with clock := { g.clock with slew := g.clock.slew + d * 2 ^ 36 } }) ∧
    DoneG .replicaRealign s (fun h => h = { g with replicas := h.replicas, seed := h.seed } ∧
      ∀ c, -(2 ^ 38 : Int) ≤ Tbl.get 0 h.replicas c ∧ Tbl.get 0 h.replicas c ≤ 2 ^ 38) ∧
    (∀ (m : PtpMsg) lock ns,
      let k := g.moveTo ns
      (g.sys.pwr.ready = false ∨ m.transport = .other ∨ m.domain ≠ g.siteDomain ∨ m.body = .unsupported →
        DoneG (.siteSyncMessage m lock ns) s fun h => h = k) ∧
      (g.sys.pwr.ready = true → m.transport ≠ .other → m.domain = g.siteDomain → k.siteMaster = some m.source →
        (∀ seq origin ivl, m.body = .sync seq false origin ivl → -7 ≤ ivl → ivl ≤ 0 →
          DoneG (.siteSyncMessage m lock ns) s fun h =>
            h.svc.site.dreq = some (g.svc.site.dseq, ⟨m.source, seq, origin, (k.linkStamp 30).sixteenths⟩) ∧
            h.svc.site.dseq = g.svc.site.dseq + 1 ∧ h.clock = k.clock ∧
            ((g.tsq 0).q.length < 64 → (h.tsq 0).q = (g.tsq 0).q ++ [(g.svc.site.dseq.toNat, k.linkStamp 30)])) ∧
        (∀ seq received n (y : PtpSync) t3, m.body = .delayResp seq received → g.svc.site.dreq = some (n, y) → y.source = m.source →
          n.toNat = seq →
          (g.tsq 0).q.find? (fun e => decide (e.1 = n.toNat)) = some (seq, t3) →
          let off : Int := floorDiv (((y.t2 : Int) - y.t1) - ((received : Int) - t3.sixteenths)) 2
          let c := k.clock
          DoneG (.siteSyncMessage m lock ns) s fun h =>
            h.svc.site.dreq = none ∧
            h.svc.site.state = (if lock then 2 else if 2 ≤ g.svc.site.state ∧ g.svc.site.state ≤ 3 then 3 else 1) ∧
            (g.root = false → h.clock = c ∧ h.svc.site.offset = off) ∧
            (g.root = true → lock = true → c.own = .unset → h.clock.own = .locked ∧ h.clock.pt = ((c.own16 : Int) - off).toNat * 2 ^ 36) ∧
            (g.root = true → c.own ≠ .unset → h.svc.site.offset = off ∧ h.clock.pt = c.pt ∧
              (lock = false → h.clock = c) ∧
              (lock = true → h.clock.own = .locked ∧ -(g.siteSlew : Int) ≤ h.clock.y - c.yInt ∧ h.clock.y - c.yInt ≤ g.siteSlew)) ∧
            (g.root = true → c.own ≠ .unset → g.roomy = true → g.svc.site.far = false → (off < -16000000 ∨ 16000000 < off) →
              g.Filed h .siteFar 0 [])))) ∧
    (g.sys.pwr.ready = true → g.root = true → g.svc.site.state ≠ 2 →
      DoneG .rootSiteWaitExpiry s fun h =>
        (g.svc.site.since + 1000000000) * 2 ^ 40 ≤ h.clock.lm ∧ h.clock.own = .locked ∧ h.svc.site.waited = true ∧
        (g.clock.own = .unset → h.clock.pt = g.seedPt * 2 ^ 40 ∧ h.svc.site.state = 0) ∧
        (g.clock.own ≠ .unset → h.svc.site.state = g.svc.site.state ∧ h.regs = g.regs) ∧
        h = { g with clock := h.clock, svc := { g.svc with site := h.svc.site }, regs := h.regs }) ∧
    (∀ cut tick amount, g.nextStep = some (tick, amount) → g.clock.own = .locked → a.aoReset = false → a.clock.own = .locked →
      Completes (.ptStepTick cut) s fun t =>
        t.g.clock.pt = (((g.moveTo tick).clock.pt : Int) + amount * 2 ^ 40).toNat ∧
        t.a.clock.pt = (((a.moveTo tick).clock.pt : Int) + amount * 2 ^ 40).toNat ∧
        t.g.svc.ptSteps = g.svc.ptSteps.filter (fun x => decide (x.1 ≠ tick)) ∧ t.pending = s.pending) ∧
    (∀ job (x : AlignIn),
      let dies := (g.jobDies job).map (·.1)
      let mine := g.svc.marks.filter fun m => decide (m.job = job)
      let solver := x.solver.getD g.tree.root
      DoneG (.alignSolve job x) s fun h =>
        (∀ m, m ∈ h.svc.marks ↔ m ∈ g.svc.marks ∧
          (m.job = job → ambiguous x.win mine m = false ∧ g.clock.pt16 ≤ m.at16 + 16 * x.win)) ∧
        h.svc.ambig = g.svc.ambig + (mine.filter fun m => ambiguous x.win mine m).length ∧ h.clock = g.clock ∧ h.binds = g.binds ∧
        h.svc.minima = g.svc.minima.filter (fun e => decide (e.1 ≠ job)) ∧
        (solver ≠ g.gid → h.svc.aligned = g.svc.aligned) ∧
        (solver = g.gid → dies ≠ [] → ∃ b, h.svc.aligned = (job, b) :: g.svc.aligned.filter fun p => decide (p.1 ≠ job))))

/-! ### Registers (17) -/

/-- AILEN's own registers: AL_JT_JOB installs job and epoch as one unit (R166); AL_FRAME_TICK_HI is refused, arms, or applies NEXT at
once (R167); the step number is written as one (R337); COMMIT holds a copy of the staging table as pending (R94, R111); SET of
AL_SD_CTL installs or clears the shard key (R488).
Register writes (17 R558–R560, R569, 19 R620): a write to a plain register changes its writable bits alone; a register that only
commands may write ignores the host; the host changes no BL bit, and under the lock the attempt on a BL register is recorded; an access of a bad
size or to no register is recorded and changes none.
The model's choices in it: log entries 39, 42. -/
def Obligations.RegisterWrites : Prop :=
  (∀ (s : State) (ns : Nat) (v : Word),
    let a := s.a.moveTo ns
    let n := v.toNat
    let get := fun (b : Ailen) k => b.regs.get .ailen k
    let tick := a.reg 0x4034 + 2 ^ 32 * n
    let word := fun k => (List.range 4).foldl (fun x w => x + a.reg (k + 4 * w) * 2 ^ (32 * w)) 0
    a.aoReset = false →
    DoneA (.alJtJobWrite v ns) s (fun b => b = { a with regs := b.regs, jt := b.jt } ∧ get b 0x4028 = n % 2 ^ 17 ∧
      b.jt = if bit n 16 then some ⟨BitVec.ofNat 16 n, BitVec.ofNat 64 (a.reg 0x4018 + 2 ^ 32 * a.reg 0x401C)⟩ else none) ∧
    (a.frameTickBad n = true → DoneA (.frameTickHiWrite v ns) s fun b => b = a) ∧
    (a.frameTickBad n = false → tick ≠ 0 →
      DoneA (.frameTickHiWrite v ns) s fun b => b = { a with regs := b.regs, frameArmed := some tick } ∧ get b 0x4038 = n) ∧
    (a.frameTickBad n = false → tick = 0 → a.reg 0x4030 ≠ a.reg 0x402C →
      DoneA (.frameTickHiWrite v ns) s fun b => get b 0x402C = a.reg 0x4030 % 2 ^ 32 ∧ b.frameArmed = none ∧ b.cap.disc = true ∧
        b.cap.counting = false ∧ b = { a with regs := b.regs, frameArmed := b.frameArmed, cap := b.cap }) ∧
    (∀ who, who = .cmd ∨ who = .hrp →
      let out := fun (b : Ailen) => { b with hrpErr := a.hrpErr, hrpData := a.hrpData }
      DoneA (.stepNumHiWrite who v ns) s (fun b => out b = { a with stepHi := some (n % 2 ^ 16) }) ∧
      DoneA (.stepNumLoWrite who v ns) s (fun b => out b = { a with regs := b.regs, stepHi := none } ∧ get b 0x114 = n ∧
        get b 0x118 = a.stepHi.getD (a.fld 0x118 15 0) % 2 ^ 16 ∧ ∀ k, k ≠ 0x114 → k ≠ 0x118 → get b k = get a k) ∧
      DoneA (.remapCommit who ns) s fun b => out b = { a with regs := b.regs, cap := b.cap } ∧ bit (get b 0x104) 2 = true ∧
        b.cap = { a.cap with remapPend := commitTo a.cap.remapPend a.clk a.frameEnd (a.regs.vals.filter fun e => decide (0x400 ≤ e.1) && decide (e.1 < 0x800)) } ∧
        ∀ k, k ≠ 0x104 → get b k = get a k) ∧
    DoneA (.capCommit ns) s (fun b => b = { a with regs := b.regs, cap := { a.cap with pend := commitTo a.cap.pend a.clk a.frameEnd a.capStaging } } ∧
      bit (get b 0x1008) 2 = true ∧ ∀ k, k ≠ 0x1008 → get b k = get a k) ∧
    ∀ job, DoneA (.sdKeySet job ns) s fun b =>
      b = { a with regs := b.regs, sdKey := b.sdKey } ∧ get b 0x7020 % 2 ^ 16 = job.toNat ∧
      (word 0x7000 = 0 → b.sdKey = none) ∧
      (word 0x7000 ≠ 0 → ∃ x, b.sdKey = some x ∧ x.h = BitVec.ofNat 128 (word 0x7000) ∧ x.k = BitVec.ofNat 128 (word 0x7010))) ∧
  (∀ (s : State) (ns : Nat), s.g.sys.pwr.rails = true →
    let a := s.a.moveTo ns
    let g := s.g.moveTo ns
    let wr := fun who k (v : Word) => ({ who := who, addr := k, size := 4, data := v.setWidth 64 } : Access)
    let getA := fun (b : Ailen) k => b.regs.get .ailen k
    let getG := fun (h : Gremon) k => h.regs.get .gremon k
    (∀ k v d, a.aoReset = false → plainReg .ailen k = true → regDesc .ailen k = some d → d.sqc = 0 → d.fb = 0 →
      d.admits .cmd = true →
      DoneA (.registerWrite .ailen (wr .cmd k v) ns) s fun b => b = { a with regs := b.regs } ∧
        getA b k = merge (getA a k) (d.rw ||| d.wo) v.toNat % 2 ^ 32 ∧ ∀ j, j ≠ k → getA b j = getA a j) ∧
    (∀ k v d, a.aoReset = false → regDesc .ailen k = some d → d.writer = .cmdOnly → k < 0x10000 →
      DoneA (.registerWrite .ailen (wr .hrp k v) ns) s fun b => b.regs = a.regs ∧ b.cap = a.cap) ∧
    (∀ k v d, regDesc .gremon k = some d → plainReg .gremon k = true → (d.bl = 0 ∨ g.locked = false) →
      g.regionLocked .pcie k = false →
      DoneG (.registerWrite .gremon (wr .pcie k v) ns) s fun h => getG h k = merge (getG g k) d.rw v.toNat % 2 ^ 32 ∧
        (∀ j, j ≠ k → getG h j = getG g j) ∧ { h with regs := g.regs, sys := g.sys } = g) ∧
    (∀ k v d, regDesc .gremon k = some d → d.bl ≠ 0 → g.locked = true → k % 4 = 0 → k < 0x4000000 → g.roomy = true →
      DoneG (.registerWrite .gremon (wr .pcie k v) ns) s fun h =>
        g.Filed h .lockedWrite 0 (leBytes 4 k) ∧ { h with log := g.log } = g) ∧
    (∀ x : Access, x.who = .pcie → barOk x = false → g.roomy = true → g.badRegAt = none →
      DoneG (.registerWrite .gremon x ns) s fun h => g.Filed h .badReg 0 (leBytes 4 g.badRegs) ∧ h.badRegs = 0 ∧
        h.badRegAt = some g.clk ∧ h.regs = g.regs))

/-- What a register holds back (17 R563, R564, R566, R567): an SQC field clears only under the current SEQ; an FB write is held
with the time of its arrival while the applied copy stays, and with PT UNSET it applies 1 µs later.
Register reads (04 R165, 17 R562, R570, R571): a PT or LO read latches the words that belong to it; a window reaches the register its ADDR names and steps on; a failed access sets ERR with its code.
The model's choices in it: log entry 39. -/
def Obligations.RegisterReads : Prop :=
  (∀ (s : State) (ns : Nat), s.g.sys.pwr.rails = true →
    let a := s.a.moveTo ns
    let g := s.g.moveTo ns
    let wr := fun who k (v : Word) => ({ who := who, addr := k, size := 4, data := v.setWidth 64 } : Access)
    let getA := fun (b : Ailen) k => b.regs.get .ailen k
    let getG := fun (h : Gremon) k => h.regs.get .gremon k
    (∀ k v d, a.aoReset = false → regDesc .ailen k = some d → d.sqc ≠ 0 → d.admits .cmd = true →
      DoneA (.sqcClearWrite .ailen (wr .cmd k v) ns) s fun b => b = { a with regs := b.regs } ∧ (∀ j, j ≠ k → getA b j = getA a j) ∧
        getA b k = if bits v.toNat 31 24 = bits (getA a k) 31 24 then (getA a k - (getA a k &&& d.sqc)) % 2 ^ 32 else getA a k) ∧
    (∀ k v d, regDesc .gremon k = some d → d.sqc ≠ 0 → d.rw = 0 → d.bl = 0 → k % 4 = 0 → k < 0x4000000 → g.regionLocked .pcie k = false →
      DoneG (.sqcClearWrite .gremon (wr .pcie k v) ns) s fun h => h = { g with regs := h.regs } ∧ (∀ j, j ≠ k → getG h j = getG g j) ∧
        getG h k = if bits v.toNat 31 24 = bits (getG g k) 31 24 then (getG g k - (getG g k &&& d.sqc)) % 2 ^ 32 else getG g k) ∧
    (∀ k v d, a.aoReset = false → regDesc .ailen k = some d → d.sqc = 0 → d.fb ≠ 0 → d.admits .cmd = true →
      DoneA (.fbWrite .ailen (wr .cmd k v) ns) s fun b => b = { a with regs := b.regs } ∧ b.regs.vals = a.regs.vals ∧
        Tbl.find b.regs.shadow k = some (BitVec.ofNat 32 (merge (a.regs.getShadow .ailen k) d.fb v.toNat),
          if a.clock.own = .unset then a.clock.lmNs else a.now)) ∧
    (∀ k v d, regDesc .gremon k = some d → d.sqc = 0 → d.fb ≠ 0 → d.bl = 0 → k % 4 = 0 → k < 0x4000000 → g.regionLocked .pcie k = false →
      DoneG (.fbWrite .gremon (wr .pcie k v) ns) s fun h => h = { g with regs := h.regs, sys := h.sys } ∧ h.regs.vals = g.regs.vals ∧
        Tbl.find h.regs.shadow k = some (BitVec.ofNat 32 (merge (g.regs.getShadow .gremon k) d.fb v.toNat),
          if g.clock.own = .unset then g.clock.lmNs else g.now)) ∧
    (∀ k w at', s.a.aoReset = false → s.a.clock.own = .unset → s.a.regs.shadow = [(k, (w, at'))] → k ≠ 0x128 →
      DoneA (.fbUnsetApply .ailen) s fun b => b.regs.shadow = [] ∧ at' + 1000 ≤ b.clock.lmNs ∧
        getA b k = merge (getA s.a k) (fbMask .ailen k) w.toNat % 2 ^ 32 ∧ ∀ j, j ≠ k → j ≠ 0x128 → getA b j = getA s.a j) ∧
    (∀ k w at', s.g.clock.own = .unset → s.g.regs.shadow = [(k, (w, at'))] → fbSet k = 8 → k ≠ 0x10008 → k ≠ 0x1000C → k ≠ 0x10010 →
      DoneG (.fbUnsetApply .gremon) s fun h => h.regs.shadow = [] ∧ at' + 1000 ≤ h.clock.lmNs ∧
        getG h k = merge (getG s.g k) (fbMask .gremon k) w.toNat % 2 ^ 32)) ∧
  (∀ (s : State) (ns : Nat), s.g.sys.pwr.rails = true →
    let a := s.a.moveTo ns
    let g := s.g.moveTo ns
    let getA := fun (b : Ailen) k => b.regs.get .ailen k
    let getG := fun (h : Gremon) k => h.regs.get .gremon k
    (a.aoReset = false → DoneA (.ptLoRead .ailen .cmd ns) s fun b => b = { a with regs := b.regs } ∧ b.regs.vals = a.regs.vals ∧
      b.regs.latched .cmd 0x4008 = some (BitVec.ofNat 32 (a.now / 2 ^ 32)) ∧
      b.regs.latched .cmd 0x4010 = some (BitVec.ofNat 32 a.clock.lmNs)) ∧
    DoneG (.ptLoRead .gremon .pcie ns) s (fun h => h.rdData = BitVec.ofNat 64 (g.stamp.ns.toNat % 2 ^ 32) ∧ h = { g with regs := h.regs, rdData := h.rdData } ∧
      h.regs.latched .pcie 0x300014 = some (BitVec.ofNat 32 (g.stamp.ns.toNat / 2 ^ 32)) ∧
      h.regs.latched .pcie 0x300018 = some (BitVec.ofNat 32 g.stamp.tq) ∧
      h.regs.latched .pcie 0x30001C = some (BitVec.ofNat 32 (g.replicaLm 30)) ∧ h.regs.vals = g.regs.vals) ∧
    (∀ x : Access, a.aoReset = false → x.who = .hrp → x.size = 4 → a.hrpBad x.addr = true →
      DoneA (.loReadLatch .ailen x ns) s fun b => b = { a with hrpErr := true, hrpData := 0 }) ∧
    (∀ k, k = 0x1000C ∨ k = 0x10208 ∨ k = 0x2000014 → g.regs.latched .pcie k = none →
      DoneG (.loReadLatch .gremon { who := .pcie, addr := k, size := 4, data := 0 } ns) s fun h =>
        h = { g with regs := h.regs, rdData := h.rdData } ∧ h.regs.vals = g.regs.vals ∧
        h.regs.latched .pcie (k + 4) = some (BitVec.ofNat 32 (g.live .pcie (k + 4)))) ∧
    (a.aoReset = false → a.reg 0xF000 = 0x30000 → a.reg 0xF008 = 1 → a.sack = false → a.regs.latched (.window 0) (ind 0x30000) = none →
      DoneA (.indDataAccess .ailen .hrp 0 none ns) s fun b => b.hrpErr = false ∧
        b.hrpData = BitVec.ofNat 32 (a.counterWord (ind 0x30000)) ∧ getA b 0xF000 = 0x30004 ∧
        b.regs.latched (.window 0) (ind 0x30004) = some (BitVec.ofNat 32 (a.counterWord (ind 0x30004)))) ∧
    (∀ w k v d, w < 8 → g.reg (kWin w) = k → regDesc .gremon (ind k) = some d → k % 4 = 0 → d.sqc = 0 → d.fb = 0 → d.bl = 0 →
      (0x30000 ≤ k ∧ k < 0x30800) → g.reg (kWin w + 8) = 1 →
      DoneG (.indDataAccess .gremon .pcie w (some v) ns) s fun h =>
        getG h (ind k) = merge (getG g (ind k)) d.rw v.toNat % 2 ^ 32 ∧ getG h (kWin w) = (k + 4) % 2 ^ 32) ∧
    (∀ w, w < 8 → g.winCode w ≠ 0 → g.reg (kWin w + 8) = 1 →
      DoneG (.indDataAccess .gremon .pcie w none ns) s fun h => h.rdData = 0 ∧ bit (getG h (kWin w + 12)) 0 = true ∧
        bits (getG h (kWin w + 12)) 3 2 = g.winCode w ∧ getG h (kWin w) = (g.reg (kWin w) + 4) % 2 ^ 32) ∧
    (∀ w, w < 8 → g.winCode w = 0 →
      DoneG (.indAccessFail .gremon w ns) s fun h => h.rdData = 0 ∧ bit (getG h (kWin w + 12)) 0 = true ∧
        bits (getG h (kWin w + 12)) 3 2 = 3 ∧ h = { g with regs := h.regs, rdData := 0 }) ∧
    (a.aoReset = false → a.windowCode ≠ 0 →
      DoneA (.indAccessFail .ailen 0 ns) s fun b => b.hrpErr = true ∧ b.hrpData = 0 ∧ bit (getA b 0xF00C) 0 = true ∧
        bits (getA b 0xF00C) 3 2 = a.windowCode))

/-- A transmit-timestamp queue's HEAD (04 R158, Tables 4.20 and 4.21): a read pops the oldest entry, answers its ID and TQ with VALID and
latches its NS into NSLO and NSHI; a read of an empty queue answers VALID 0 and pops nothing. -/
def Obligations.TransmitStampQueue : Prop :=
  ∀ (s : State) (ns q : Nat) (who : Requester), s.g.sys.pwr.rails = true → q < 7 → who = .pcie ∨ who = .cd →
    let g := s.g.moveTo ns
    let word := fun (h : Gremon) k => (h.readReg who (k + 16 * q)).2
    DoneG (.tsqHeadRead who q ns) s fun h => match (g.tsq q).q with
      | [] => h = { g with rdData := 0 }
      | (id, st) :: r => h.rdData = BitVec.ofNat 64 (id % 65536 + 2 ^ 16 * st.tq + 2 ^ 31) ∧ (h.tsq q).q = r ∧
          h = { g with rdData := h.rdData, sys := { g.sys with tsq := h.sys.tsq } } ∧
          (g.regs.latched who (0x300104 + 16 * q) = none → word h 0x300104 = st.ns.toNat % 2 ^ 32) ∧
          (g.regs.latched who (0x300108 + 16 * q) = none → word h 0x300108 = st.ns.toNat / 2 ^ 32)

/-- Registers with an effect (17 R574–R577, 18 R589, R591, R603, 20 R648, R649, R652, R658, R665): a parity mismatch is recorded and
noted; GR_GLB_RESET with its key asks for a FULL reset; KICK starts the watchdog anew; TARGET starts a wake or a wait; REL moves
within what is filed; a read of the last word of a recorder window steps the cursor; TRIG_NOW fires the trigger.
The model's choices in it: log entries 39, 40. -/
def Obligations.RegisterEffects : Prop :=
  ∀ (s : State) (ns : Nat) (v : Word), s.g.sys.pwr.rails = true →
    let g := s.g.moveTo ns
    let a := s.a.moveTo ns
    let n := v.toNat
    let entry := fun (isInd : Bool) k (p sh : Bool) (st : Stamp) =>
      leBytes 1 (b2n isInd) ++ leBytes 4 k ++ leBytes 4 n ++ leBytes 1 (b2n p) ++ leBytes 1 (b2n sh) ++ st.bytes
    (∀ p, exec (.paritySweep p none) s = .next s) ∧
    (∀ k d p, regDesc .ailen k = some d → d.data = false → d.rw ||| d.fb ≠ 0 → 0x1000 ≤ k → k < 0x10000 → s.a.aoReset = false →
      s.a.regs.bad.contains k = false → s.a.roomy = true →
      DoneA (.paritySweep .ailen (some ⟨k, false, v, p⟩)) s fun b => s.a.Recorded b .cfgParity s.a.stamp (entry false k p false s.a.stamp) ∧
        k ∈ b.regs.bad ∧ bit (b.regs.get .ailen 0x120) 1 = true ∧ b.regs.get .ailen 0x124 = k ∧ b.cap = s.a.cap ∧ b.clock = s.a.clock) ∧
    (∀ k d p, regDesc .gremon k = some d → d.data = false → d.rw ||| d.fb ||| d.bl ≠ 0 → k < 0x4000000 → gParityOwn k = true →
      s.g.regs.bad.contains k = false → s.g.roomy = true →
      DoneG (.paritySweep .gremon (some ⟨k, false, v, p⟩)) s fun h =>
        s.g.Filed h .cfgParity 0 (entry false k p false s.g.stamp) ∧ k ∈ h.regs.bad ∧ bit (h.regs.get .gremon 0x10014) 1 = true ∧
        (∃ r ∈ h.sys.bb.recs, r.ty = 10 ∧ r.body = entry false k p false s.g.stamp) ∧
        { h with log := s.g.log, regs := s.g.regs, sys := s.g.sys } = s.g) ∧
    (bits n 15 8 = 0xA5 → bit n 0 = true → DoneG (.fullResetRequest false .pcie v ns) s fun h =>
      (if g.sys.pwr.brace then h.sys.pwr.held = some 2 else h.sys.pwr.fullReset = some 2) ∧ h.sys.pwr.reqAt = g.clk ∧
      { h with sys := g.sys } = g) ∧
    (bits n 15 8 ≠ 0xA5 → DoneG (.fullResetRequest false .pcie v ns) s fun h => h = g) ∧
    DoneG (.fullResetRequest true .pcie v ns) s (fun h =>
      (if g.sys.pwr.brace then h.sys.pwr.held = some 5 else h.sys.pwr.fullReset = some 5)) ∧
    DoneG (.wdtKick v ns) s (fun h => h.sys.pwr.wdtAt = g.clk ∧ h.clock = g.clock ∧ h.mem = g.mem) ∧
    (∀ who, who = .pcie ∨ who = .cd → g.regionLocked who 0x10100 = false →
      DoneG (.pwrTargetWrite who v ns) s fun h =>
        h.regs.fld .gremon 0x10100 1 0 = n % 4 ∧
        (g.sys.pwr.brace = true → h.sys.pwr.heldTarget = some (n % 4) ∧ h.sys.pwr.want = g.sys.pwr.want) ∧
        (g.sys.pwr.brace = false → 2 ≤ n % 4 → h.sys.pwr.want = some (n % 4, g.clk)) ∧
        (g.sys.pwr.brace = false → n % 4 < 2 → h.sys.pwr.want = none ∧
          h.sys.pwr.waking = (g.sys.pwr.waking || decide (2 ≤ g.sys.pwr.pstate)))) ∧
    DoneG (.erRelWrite .pcie v ns) s (fun h => h = { g with log := { g.log with rel :=
      if (n + 2 ^ 32 - g.log.rel) % 2 ^ 32 ≤ (g.log.wr + 2 ^ 32 - g.log.rel) % 2 ^ 32 then n else g.log.rel } }) ∧
    (∀ k, k < 4 → g.regs.latched .pcie (0x100017C + 0x100 * k) = none → DoneG (.erWindowRead .gremon .pcie k ns) s fun h =>
      let cur := 0x1000100 + 0x100 * k
      h.rdData = BitVec.ofNat 64 (g.erWord k 15) ∧ h = { g with rdData := h.rdData, regs := h.regs } ∧
      h.regs.get .gremon cur = if g.reg (cur + 4) % 2 = 1 then (g.reg cur + 1) % 2 ^ 32 else g.regs.get .gremon cur) ∧
    (a.aoReset = false → a.reg 0xA010 = 1 → a.regs.latched .hrp 0xA07C = none → DoneA (.erWindowRead .ailen .hrp 0 ns) s fun b =>
      b.hrpErr = false ∧ b.hrpData = BitVec.ofNat 32 (a.live 0xA07C) ∧ b.regs.get .ailen 0xA00C = (a.reg 0xA00C + 1) % 2 ^ 32) ∧
    (∀ hi, DoneG (.bbCurWrite .pcie v hi ns) s fun h => h = { g with regs := h.regs, sys := h.sys } ∧
      h.regs.get .gremon 0x1800004 = n ∧ h.regs.get .gremon 0x1800008 = hi.toNat ∧ h.sys.bb = g.sys.bb) ∧
    (bit n 0 = true → bit n 1 = false → bit (g.reg 0x2000000) 0 = true → g.sys.trc.state = 1 → g.conf = false → g.roomy = true →
      g.regionLocked .pcie 0x2000000 = false → g.regs.force = [] →
      DoneG (.traceTrigWrite .pcie v ns) s fun h => h.sys.trc.state = 2 ∧ h.sys.trc.trigAt = g.clk ∧ g.Filed h .traceTrigger 0 [] ∧
        { h with regs := g.regs, log := g.log, sys := g.sys } = g)

/-! ### The host side (16) -/

/-- Queues, interrupts and management messages (16 R532, R533, R543, R545, R685): a doorbell moves its index or sets ERR; a fetched
command that passes its checks waits for its execution; enabling checks sizes and MID; a held vector fires when its 2 µs are over;
a message runs when whole and is discarded 1 s after its first fragment.
The model's choices in it: log entries 4, 37. -/
def Obligations.HostQueues : Prop :=
  ∀ (s : State) (ns q : Nat) (v : Word), s.g.sys.pwr.rails = true → q < 64 →
    let g := s.g.moveTo ns
    let n := v.toNat % 2 ^ 16
    let cfg := g.reg (kHq q 0x10)
    let p := g.qp q
    let rest := fun (h : Gremon) => { h with host := g.host, log := g.log } = g
    (bit cfg 10 = false → DoneG (.sqTailDoorbell q v [] ns) s fun h => h = g) ∧
    (bit cfg 10 = true → 2 ^ bits cfg 4 0 ≤ n → g.roomy = true → ∀ fs, DoneG (.sqTailDoorbell q v fs ns) s fun h =>
      (h.qp q) = { p with err := 1 } ∧ g.Filed h .hqError 0 [] ∧ rest h) ∧
    (bit cfg 10 = true → n < 2 ^ bits cfg 4 0 → DoneG (.sqTailDoorbell q v [] ns) s fun h => h = g.setQp q { p with tail := n }) ∧
    (∀ f : Fetched, bit cfg 10 = true → n < 2 ^ bits cfg 4 0 → p.sqHead ≠ n → p.err = 0 → g.regs.force = [] → g.conf = false →
      p.busy + (p.cqTail + 2 ^ bits cfg 9 5 - p.cqHead) % 2 ^ bits cfg 9 5 + 1 < 2 ^ bits cfg 9 5 → f.fault = false → g.failed = false →
      let c : HostCmd := { src := .qp q, mid := g.fld (kHq q 0x20) 11 0, desc := f.desc, data := f.data, segs := replyParts f, due := 0 }
      descOk c = true → g.permitted c = true → (opcRoot c.opc = false ∨ g.root = true) →
      DoneG (.sqTailDoorbell q v [f] ns) s fun h => h.host.cmds = g.host.cmds ++ [c] ∧
        h.qp q = { p with tail := n, sqHead := (p.sqHead + 1) % 2 ^ bits cfg 4 0, busy := p.busy + 1 } ∧ { h with host := g.host } = g) ∧
    (let cn := 2 ^ bits cfg 9 5
     bit cfg 10 = true → g.roomy = true → ∀ fs,
      ((cn ≤ n ∨ (p.cqTail + cn - p.cqHead) % cn < (n + cn - p.cqHead) % cn) → DoneG (.cqHeadDoorbell q v fs ns) s fun h =>
        h.qp q = { p with err := 2 } ∧ g.Filed h .hqError 0 [] ∧ rest h) ∧
      (n < cn → (n + cn - p.cqHead) % cn ≤ (p.cqTail + cn - p.cqHead) % cn → DoneG (.cqHeadDoorbell q v [] ns) s fun h =>
        h = g.setQp q { p with cqHead := n })) ∧
    (g.regionLocked .pcie (kHq q 0x10) = false → bit cfg 10 = false → bit v.toNat 10 = true → g.roomy = true →
      let ok := 4 ≤ bits v.toNat 4 0 ∧ bits v.toNat 4 0 ≤ 16 ∧ 4 ≤ bits v.toNat 9 5 ∧ bits v.toNat 9 5 ≤ 16 ∧
        1 ≤ g.fld (kHq q 0x20) 11 0 ∧ g.fld (kHq q 0x20) 11 0 ≤ 0x3FF
      DoneG (.hqCfgWrite .pcie q v ns) s fun h => h.regs.get .gremon (kHq q 0x10) = v.toNat % 2 ^ 19 ∧
        (ok → h.qp q = { QPair.reset with busy := p.busy } ∧ h.log = g.log) ∧
        (¬ok → h.qp q = { QPair.reset with busy := p.busy, err := 3 } ∧
          g.Filed h .hqError 0 [])) ∧
    (g.regionLocked .pcie (kHq q 0x10) = false → bit v.toNat 10 = false → DoneG (.hqCfgWrite .pcie q v ns) s fun h =>
      (h.qp q).err = 0 ∧ h.feeds = g.feeds.filter (fun f => decide (f.src ≠ some q)) ∧ h.host.cmds = g.host.cmds) ∧
    (∀ vec t, (Tbl.get Vector.none s.g.host.vecs vec) = { last := some t, held := true } →
      DoneG (.msixCoalesce vec) s fun h =>
        let g1 := s.g.moveTo (t + 2000)
        h = { g1 with host := { g1.host with msix := g1.host.msix ++ [vec],
                                             vecs := Tbl.put g1.host.vecs vec { last := some g1.clk, held := false } } }) ∧
    (∀ session mseq ofs len bs, bs.length ≤ 8000 → ofs + bs.length < len → (∀ x ∈ g.host.mgmt, x.session ≠ session) →
      (∃ x ∈ g.sessionsUp, x.doe = false ∧ x.num = session) →
      DoneG (.mgmtDatagram false session mseq ofs len bs false false ns) s fun h =>
        h = { g.heard' false session with host := { g.host with mgmt := g.host.mgmt ++
          [{ svc := false, session := session, mseq := mseq, len := len, parts := [(ofs, bs)], first := g.clk }] } }) ∧
    (∀ session mseq bs, 1 ≤ bs.length → bs.length ≤ 8000 → (∀ x ∈ g.host.mgmt, x.session ≠ session) → g.failed = false →
      (∃ x ∈ g.sessionsUp, x.doe = false ∧ x.num = session) → leAt bs 0 1 ≠ 0x01 → leAt bs 0 1 ≠ 0x06 →
      let c : HostCmd := { src := .mgmt session mseq, mid := 0xF00 + session, desc := bs.take 64, data := bs.drop 64, segs := [], due := 0 }
      descOk c = true → g.permitted c = true → (opcRoot c.opc = false ∨ g.root = true) →
      DoneG (.mgmtDatagram false session mseq 0 bs.length bs false false ns) s fun h =>
        h = { g.heard' false session with host := { g.host with cmds := g.host.cmds ++ [c] } }) ∧
    (∀ x, s.g.host.mgmt = [x] → x.first + 1000000000 < 2 ^ 64 → s.g.clock.pt < 2 ^ 104 → DoneG .mgmtReassemblyTimeout s fun h =>
      h.host.mgmt = [] ∧ x.first + 1000000000 ≤ h.clk ∧ h = { s.g.moveTo (x.first + 1000000000) with host := h.host })

/-- A result queue's HEAD (16 R685): a write of an index outside the ring, or of one that would free slots not yet written, is
ignored and raises HQ_ERROR naming the queue; any other sets HEAD. One slot always stays empty. -/
def Obligations.ResultQueueHead : Prop :=
  ∀ (s : State) (ns r : Nat) (v : Word), s.g.sys.pwr.rails = true → r < 16 →
    let g := s.g.moveTo ns
    let q := g.rq r
    let size := 2 ^ g.fld (kRq r 8) 4 0
    let new := v.toNat % 2 ^ 20
    let far := size ≤ new ∨ (q.tail + size - q.head) % size < (new + size - q.head) % size
    (far → g.roomy = true → DoneG (.rqHeadDoorbell r v ns) s fun h =>
      h.rq r = q ∧ g.Filed h .hqError 0 (leBytes 1 r) ∧ { h with log := g.log } = g) ∧
    (¬far → DoneG (.rqHeadDoorbell r v ns) s fun h => h = g.setRq r { q with head := new }) ∧
    (g.fld (kRq r 8) 5 5 = 0 → bit v.toNat 5 = true → g.regionLocked .pcie (kRq r 8) = false →
      DoneG (.registerWrite .gremon { who := .pcie, addr := kRq r 8, size := 4, data := v.setWidth 64 } ns) s fun h =>
        (h.rq r).head = 0 ∧ (h.rq r).tail = 0 ∧ h.regs.get .gremon (kRq r 8) % 2 ^ 15 = v.toNat % 2 ^ 15) ∧
    (q.head < size → q.tail < size → (q.free size : Int) = ((q.head : Int) - q.tail - 1) % size) ∧
    (q.head = q.tail → q.tail < size → q.free size = size - 1)

/-- Sealed records of a bounce-buffer queue pair (16 R553, R555, R556, 19 R628): a command with a buffer, list or ring outside the bounce
region ends BAD_DESC; a data-in record whose SEQ is the next one expected and whose tag
verifies under the live session bound to its MID is accepted and its command waits; any other ends BAD_TAG with no effect, and BOUNCE_BAD is written. -/
def Obligations.BounceRecords : Prop :=
  ∀ (s : State) (ns q : Nat) (v : Word) (f : Fetched), s.g.sys.pwr.rails = true → q < 64 →
    let g := s.g.moveTo ns
    let n := v.toNat % 2 ^ 16
    let cfg := g.reg (kHq q 0x10)
    let p := g.qp q
    let cn := 2 ^ bits cfg 9 5
    let mid := g.fld (kHq q 0x20) 11 0
    let din := leAt f.desc 16 4
    let c : HostCmd := { src := .qp q, mid := mid, desc := f.desc, data := f.data, segs := replyParts f, due := 0 }
    let took := g.setQp q { p with tail := n, sqHead := (p.sqHead + 1) % 2 ^ bits cfg 4 0, busy := p.busy + 1 }
    let good := f.seq = Tbl.get 0 g.host.sealIn mid ∧ f.tagOk = true ∧ ∃ x ∈ g.sessionsUp, x.doe = true ∧ x.mid = some mid
    let inside := g.inBounce q (hostBuffers f ++ g.ringsOf mid)
    bit cfg 10 = true → n < 2 ^ bits cfg 4 0 → p.sqHead ≠ n → p.err = 0 → g.regs.force = [] →
    p.busy + (p.cqTail + cn - p.cqHead) % cn + 1 < cn → f.fault = false →
    g.conf = true → bit (g.reg (kHq q 0x20)) 12 = true → din ≠ 0 →
    (inside = false → DoneG (.sqTailDoorbell q v [f] ns) s fun h => h = took.complete c 2 0 [] []) ∧
    (inside = true → good → g.failed = false → descOk c = true → g.permitted c = true → (opcRoot c.opc = false ∨ g.root = true) →
      DoneG (.sqTailDoorbell q v [f] ns) s fun h => h.host.cmds = g.host.cmds ++ [c] ∧ Tbl.get 0 h.host.sealIn mid = f.seq + 1 ∧
        h.qp q = took.qp q ∧ { h with host := g.host } = g) ∧
    (inside = true → ¬good → g.roomy = true → DoneG (.sqTailDoorbell q v [f] ns) s fun h => ∃ x : Gremon, h = x.complete c 9 0 [] [] ∧
      g.Filed x .bounceBad 0 [] ∧ { x with log := g.log } = took)

/-- The end of a host command (16 R532, R544, Table 16.4): reply, then completion entry, then the interrupt if its queue asks for
one; a reply beyond the buffer is OVERFLOW with the length needed; a management command is answered in its session,
a forwarded one with an HRSP to its Gremon (R535, R545).
The model's choices in it: log entry 37. -/
def Obligations.HostCompletions : Prop :=
  ∀ (g : Gremon) (c : HostCmd) (status detail : Nat) (result reply : List Byte),
    let entry := fun st ph hd n dt res => cqEntry c.tag st ph hd n dt res
    (∀ q, c.src = .qp q →
      let p := g.qp q
      let n := 2 ^ g.fld (kHq q 0x10) 9 5
      let place := g.reg64 (kHq q 8) + 32 * p.cqTail
      let wrap := p.cqTail + 1 ≥ n
      let moved := fun (h : Gremon) => h.qp q = { p with
        cqTail := if wrap then 0 else p.cqTail + 1, phase := if wrap then !p.phase else p.phase, busy := p.busy - 1 }
      let h := g.complete c status detail result reply
      (g.conf = false → reply.length ≤ c.cap → ∃ out, h.host.dma = g.host.dma ++ out ++
          [(place, entry status (b2n p.phase) p.sqHead reply.length detail result)] ∧ (out.flatMap (·.2)) = reply) ∧
      (g.conf = false → c.cap < reply.length → h.host.dma = g.host.dma ++ [(place, entry 5 (b2n p.phase) p.sqHead reply.length 0 [])]) ∧
      moved h ∧ h.mem = g.mem ∧ h.log = g.log ∧
      (g.conf = false → bit (g.reg (kHq q 0x10)) 11 = false → h.host.msix = g.host.msix) ∧
      (g.conf = false → bit (g.reg (kHq q 0x10)) 11 = true → bit (leAt c.desc 1 1) 0 = false →
        (Tbl.get Vector.none g.host.vecs (g.fld (kHq q 0x10) 18 12)).last = none →
        h.host.msix = g.host.msix ++ [g.fld (kHq q 0x10) 18 12])) ∧
    (∀ x m, c.src = .mgmt x m →
      let answer := fun e => { g with host := { g.host with mgmtOut := g.host.mgmtOut ++ [(x, m, e)] } }
      (reply.length ≤ leAt c.desc 32 4 →
        g.complete c status detail result reply = answer (entry status 0 0 reply.length detail result ++ reply)) ∧
      (leAt c.desc 32 4 < reply.length → g.complete c status detail result reply = answer (entry 5 0 0 reply.length 0 []))) ∧
    (∀ o q, c.src = .hcmd o q → reply.length ≤ 4194248 → g.complete c status detail result reply =
      g.rlTo o vcBulk 0x27 0 (leBytes 2 o ++ leBytes 1 q ++ leBytes 1 0 ++ leBytes 2 c.tag ++ leBytes 2 0 ++
        entry status 0 0 reply.length detail result ++ reply))

/-- Screening packs, job keys, exports, mailboxes (11 R382, 14 R488, 15 R497, R499, 16 R548).
On a Gremon whose module has failed every host command ends FAILED and has no other effect (16 R536).
Commands of the root (13 R441, R443, R447, 14 R457, R490, R492, 16 R534, R537, R540): a query or a seal is recorded and goes to
every child that serves a part; a broadcast is numbered, forwarded, delivered here and completes when every member has answered; a
Vigil request is numbered and completes at once; a restore opens once its manifest verifies.
The model's choices in it: log entries 20, 23, 27, 28, 29, 37. -/
def Obligations.HostCommands : Prop :=
  (∀ (s : State) (c : HostCmd) (r : List HostCmd),
    let y := s.took r
    (∀ sigOk, s.g.sys.pwr.brace = true → s.g.sys.pwr.rails = true → DoneG (.packInstall sigOk) s fun h => h = s.g) ∧
    (∀ sigOk, s.HasCmd 0x03 c r → y.sys.pwr.brace = false →
      let why := y.packReason c.data sigOk
      (why = 0 → DoneC (.packInstall sigOk) s c 0 0 (leBytes 4 (packId c.data)) [] fun x =>
        (∀ n, Tbl.find x.svc.scr.staged n = if n = packNum c.data then some c.data else Tbl.find y.svc.scr.staged n) ∧
        x.svc.scr.packs = y.svc.scr.packs ∧ x.log = y.log) ∧
      (why ≠ 0 → y.roomy = true → DoneC (.packInstall sigOk) s c 1 (0x140 + why) [] [] fun x =>
        y.Filed x .packRefused 0 (leBytes 1 why) ∧ { x with log := y.log } = y)) ∧
    (s.HasCmd 0x04 c r → match Tbl.find y.svc.scr.packs (c.param 0 2) with
      | some p => DoneC .packGet s c 0 0 (leBytes 4 (packId p)) p fun x => x = y
      | none => DoneC .packGet s c 2 0 [] [] fun x => x = y) ∧
    (s.HasCmd 0x05 c r → y.jobInfo c.job = none → DoneC .jobkey s c 2 0 [] [] fun x => x = y) ∧
    (∀ j, s.HasCmd 0x05 c r → y.jobInfo c.job = some j → DoneC .jobkey s c 0 0 [] [] fun x =>
      x.jobInfo c.job = some { j with key := some c.data } ∧ (∀ k, k ≠ c.job → x.jobInfo k = y.jobInfo k) ∧ x.mem = y.mem ∧
      (∀ l, (∀ b ∈ y.binds, b.job = c.job → b.pda ≠ 512 * y.gid + l) → l < 512 → x.lane l = y.lane l) ∧
      ∀ b ∈ y.binds, b.job = c.job → (b.state = 1 ∨ b.state = 2) → b.pda / 512 = y.gid → (y.die (b.pda % 512)).waiting ≠ (x.die (b.pda % 512)).waiting) ∧
    (s.HasCmd 0x06 c r →
      let first := c.param 0 8
      let n := c.param 8 8
      let range := 1 ≤ n ∧ first + n ≤ 1290 * 2 ^ 18
      (¬range → DoneC .exportHistory s c 2 0 [] [] fun x => x = y) ∧
      (range → y.sys.pwr.pstate = 3 → DoneC .exportHistory s c 1 8 [] [] fun x => x = y) ∧
      (range → y.sys.pwr.pstate ≠ 3 → y.svc.hist.exp ≠ none → DoneC .exportHistory s c 1 0x121 [] [] fun x => x = y) ∧
      (range → y.sys.pwr.pstate ≠ 3 → y.svc.hist.exp = none → c.isQp = true → c.cap < 4096 * n → DoneG .exportHistory s fun h =>
        h = y.post c 5 0 (4096 * n) [] []) ∧
      (range → y.sys.pwr.pstate ≠ 3 → y.svc.hist.exp = none → (c.isQp = false ∨ 4096 * n ≤ c.cap) → DoneG .exportHistory s fun h =>
        (∃ e, h.svc.hist.exp = some e ∧ e.cmd = c ∧ e.first = first ∧ e.pages = n ∧ e.next = first ∧ e.kept = [] ∧ e.sent = []) ∧
        h.regs.fld .gremon kExp 1 0 = 1 ∧ h.regs.fld .gremon kExp 7 4 = 0 ∧ h.regs.fld .gremon kExp 23 8 = (y.fld kExp 23 8 + 1) % 65536 ∧
        h.mem = y.mem ∧ h.host = y.host)) ∧
    (s.HasCmd 0x07 c r →
      let n := c.param 0 1
      let answer := fun st P => DoneC .mbSend s c 0 0 (leBytes 1 st) [] P
      ((∀ dst, y.binding n ≠ some (c.mid, dst)) → answer 2 fun x => x = y) ∧
      ∀ dst, y.binding n = some (c.mid, dst) →
        (y.midDown dst = true → answer 3 fun x => x = y) ∧
        (y.midDown dst = false → (y.chan n).full = true → answer 1 fun x => x = y) ∧
        (y.midDown dst = false → (y.chan n).full = false → answer 0 fun x => (x.chan n).full = true ∧ (x.chan n).msg = padTo 64 c.data ∧
          (∀ k, k ≠ n → (x.chan k).full = (y.chan k).full) ∧ x.mem = y.mem ∧ x.log = y.log)) ∧
    (s.HasCmd 0x08 c r →
      let n := c.param 0 1
      let answer := fun st msg P => DoneC .mbRecv s c 0 0 (leBytes 1 st) msg P
      ((∀ from', y.binding n ≠ some (from', c.mid)) → answer 2 [] fun x => x = y) ∧
      ∀ from', y.binding n = some (from', c.mid) →
        (y.midDown from' = true → answer 3 [] fun x => x = y) ∧
        (y.midDown from' = false → (y.chan n).full = false → answer 1 [] fun x => x = y) ∧
        (y.midDown from' = false → (y.chan n).full = true → answer 0 (y.chan n).msg fun x =>
          x = y.setChan n { full := false, msg := [], msgs := sat 0xFFFF ((y.chan n).msgs + 1), sent := false }))) ∧
  (∀ (s : State) (o : Nat) (c : HostCmd) (r : List HostCmd) (i : Instr),
    s.g.sys.pwr.rails = true → s.g.failed = true → takeFirst (fun x => decide (x.opc = o)) s.g.host.cmds = some (c, r) →
    (s.g.sys.pwr.brace = true → o ≠ 0x03) →
    ((∃ ok, (o, i) ∈ [(0x01, Instr.kitLoad ok), (0x03, .packInstall ok), (0x12, .bcast ok), (0x15, .restoreOpen ok)]) ∨
      (o, i) ∈ [(0x02, Instr.kitUnload), (0x04, .packGet), (0x05, .jobkey), (0x06, .exportHistory), (0x07, .mbSend), (0x08, .mbRecv),
        (0x10, .query), (0x11, .queryClose), (0x13, .vigil), (0x14, .seal), (0x16, .restoreSeal)]) →
    DoneC i s c 8 0 [] [] fun x => x = s.took r) ∧
  (∀ (s : State) (c : HostCmd) (r : List HostCmd), s.g.root = true →
    let y := s.took r
    let qid := y.gid + 1024 * y.queryNext
    let msg := fun deadline hop (desc : List Byte) => y.rlMsg 0x40 0 y.gid 0 0 (leBytes 8 qid ++ leBytes 8 deadline ++ leBytes 2 hop ++
      leBytes 2 c.job ++ leBytes 4 desc.length ++ leBytes 24 0 ++ desc)
    let down := fun m => y.childPorts.filter fun p => (y.behind p).any fun i => y.targets m i
    let issued := fun (i : Instr) deadline hop desc => DoneG i s fun h =>
      let m := msg deadline hop desc
      h.queryNext = y.queryNext + 1 ∧ (∃ q ∈ h.queries, q.qid = BitVec.ofNat 64 qid ∧ q.msg = m ∧ q.deadline = deadline) ∧
      ∀ p ∈ down m, h.queued p vcControl (y.rlMsg 0x40 0 ((y.neighbour p).getD 0x3FF) 0 0 (m.drop 16))
    let fresh := ∀ q ∈ y.queries, q.qid ≠ BitVec.ofNat 64 qid
    (s.HasCmd 0x10 c r →
      (qdOk c.data = false → DoneC .query s c 2 0 [] [] fun x => x = y) ∧
      (qdOk c.data = true → eidsOk (qdEids c.data) = false → DoneC .query s c 1 0x151 [] [] fun x => x = y) ∧
      (qdOk c.data = true → eidsOk (qdEids c.data) = true → y.queryAllowed c.mid c.job c.data = false →
        DoneC .query s c 3 0 [] [] fun x => x = y) ∧
      (qdOk c.data = true → eidsOk (qdEids c.data) = true → y.queryAllowed c.mid c.job c.data = true →
        issued .query (c.param 0 8) (c.param 8 2) c.data ∧
        (qdOp c.data = 7 → DoneC .query s c 0 0 (leBytes 8 qid) [] fun x => ∃ f, x.feeds = y.feeds ++ [f] ∧
          f.fid = BitVec.ofNat 64 qid ∧ f.mid = c.mid ∧ f.levels = [] ∧ f.nextAt = y.now / max 1 y.frameNs + 1) ∧
        (qopMerges (qdOp c.data) = true → fresh → down (msg (c.param 0 8) (c.param 8 2) c.data) ≠ [] → DoneG .query s fun h =>
          ∃ q ∈ h.queries, q.qid = BitVec.ofNat 64 qid ∧ q.sent = false ∧ q.cmd = some c ∧
            q.waiting = down (msg (c.param 0 8) (c.param 8 2) c.data)) ∧
        (qopMerges (qdOp c.data) = true → fresh → down (msg (c.param 0 8) (c.param 8 2) c.data) = [] →
          ∃ reply old, DoneC .query s c 0 0 (leBytes 8 qid ++ leBytes 1 old) reply fun x => ∃ q ∈ x.queries, q.qid = BitVec.ofNat 64 qid ∧ q.sent = true ∧ q.cmd = none))) ∧
    (s.HasCmd 0x11 c r →
      let id : W64 := BitVec.ofNat 64 (c.param 0 8)
      match y.feeds.find? fun f => decide (f.fid = id) with
      | none => DoneC .queryClose s c 2 0 [] [] fun x => x = y
      | some f => (f.mid ≠ c.mid → DoneC .queryClose s c 3 0 [] [] fun x => x = y) ∧
          (f.mid = c.mid → DoneC .queryClose s c 0 0 [] [] fun x => x = { y with feeds := y.feeds.filter fun e => decide (e.fid ≠ id) })) ∧
    (∀ sigOk, s.HasCmd 0x12 c r → (c.param 0 2 ≠ 7 ∨ c.mid ≠ 0) →
      let kind := c.param 0 2
      let p := c.data
      let bid := y.gid + 1024 * y.bcastNext
      let body := leBytes 8 bid ++ leBytes 8 y.now ++ leBytes 2 kind ++ leBytes 2 0 ++ leBytes 4 p.length ++ leBytes 4 y.tree.epoch ++
        leBytes 4 0 ++ p
      let delivered := fun (h : Gremon) =>
        (kind = 1 → h.frameNext = some (leAt p 0 4, leAt p 4 4 / max 1 (leAt p 0 4), leAt p 8 8)) ∧
        (kind = 2 → leAt p 2 2 = 1 → ∃ b ∈ h.binds, b.job = leAt p 0 2 ∧ b.lda = leAt p 16 4 ∧ ∃ n ∈ b.next,
          n.pda = bits (leAt p 24 8) 18 0 ∧ n.at' = leAt p 8 8) ∧
        (kind = 4 → h.jobs = y.jobs ++ [{ job := leAt p 0 2, epoch := BitVec.ofNat 64 (leAt p 8 8), owner := c.mid, key := none }]) ∧
        (kind = 5 → h.svc.ptSteps = y.svc.ptSteps ++ [(leAt p 0 8, toInt 64 (leAt p 8 8))])
      (∀ st dt, y.bcastRefusal c = some (st, dt) → DoneC (.bcast sigOk) s c st dt [] [] fun x => x = y) ∧
      (y.bcastRefusal c = none → p.length < 2 ^ 32 → (∀ b ∈ y.bcasts, b.bid ≠ BitVec.ofNat 64 bid) →
        (∀ m ∈ y.tree.joinedAs, m.1 = y.gid) →
        DoneC (.bcast sigOk) s c 0 0 (leBytes 8 bid) (idSet [y.gid] ++ idSet []) fun x => delivered x ∧ x.bcastNext = y.bcastNext + 1) ∧
      (y.bcastRefusal c = none → p.length < 2 ^ 32 → (∀ b ∈ y.bcasts, b.bid ≠ BitVec.ofNat 64 bid) →
        (∃ m ∈ y.tree.joinedAs, m.1 ≠ y.gid) → DoneG (.bcast sigOk) s fun h => delivered h ∧
          (∃ b ∈ h.bcasts, b.bid = BitVec.ofNat 64 bid ∧ b.ended = false ∧ b.acks = [y.gid] ∧ b.cmd = some c) ∧
          ∀ q ∈ y.childPorts, h.queued q vcControl (y.rlMsg 0x20 0 ((y.neighbour q).getD 0x3FF) 0 0 body))) ∧
    (∀ sigOk, s.HasCmd 0x12 c r → c.param 0 2 = 7 → c.mid = 0 →
      let why := y.schedReason c.data sigOk
      (why ≠ 0 → DoneC (.bcast sigOk) s c 1 why [] [] fun x => x = y) ∧
      (why = 0 → DoneC (.bcast sigOk) s c 0 0 [] [] fun x => x = y.schedIssue c.data)) ∧
    (s.HasCmd 0x13 c r → c.mid = 0 → c.data.length = 16 →
      let tick := leAt c.data 0 8
      let job := leAt c.data 12 2
      let vfl := leAt c.data 14 2
      let near := ∃ x ∈ y.svc.vig.root, gapOf tick x.tick < 1000000 ∧ y.now < max tick x.tick
      ((4 ≤ vfl ∨ vfl = 3) → DoneC .vigil s c 2 0 [] [] fun x => x = y) ∧
      (vfl < 3 → (vfl < 2 → leAt c.data 8 4 = 0) → tick < y.now + 200000 → DoneC .vigil s c 1 0x101 [] [] fun x => x = y) ∧
      (vfl < 2 → leAt c.data 8 4 = 0 → y.now + 200000 ≤ tick → near → DoneC .vigil s c 1 0x102 [] [] fun x => x = y) ∧
      (vfl < 2 → leAt c.data 8 4 = 0 → y.now + 200000 ≤ tick → ¬near → job ≠ 0 → y.jobInfo job = none →
        DoneC .vigil s c 1 0x103 [] [] fun x => x = y) ∧
      (vfl < 2 → leAt c.data 8 4 = 0 → y.now + 200000 ≤ tick → ¬near → (job = 0 ∨ y.jobInfo job ≠ none) →
        DoneC .vigil s c 0 0 (leBytes 4 y.svc.vig.next) [] fun x =>
          x.svc.vig.root = y.svc.vig.root ++ [{ vseq := y.svc.vig.next, tick := tick, job := job, halt := bit vfl 0, resumed := false }] ∧
          x.svc.vig.next = nextVseq y.svc.vig.next) ∧
      (∀ x, vfl = 2 → y.now + 200000 ≤ tick → ¬near → (job = 0 ∨ y.jobInfo job ≠ none) →
        y.svc.vig.root.find? (fun x => decide (x.vseq = leAt c.data 8 4) && x.halt) = some x →
        ((x.resumed = true ∨ tick < x.tick) → DoneC .vigil s c 1 0x104 [] [] fun z => z = y) ∧
        (x.resumed = false → x.tick ≤ tick → DoneC .vigil s c 0 0 (leBytes 4 x.vseq) [] fun z =>
          ∃ e ∈ z.svc.vig.root, e = { x with resumed := true }))) ∧
    (s.HasCmd 0x14 c r →
      let bad := c.data ≠ [] ∨ c.job = 0 ∨ c.param 16 4 = 0 ∨ 2 ^ 48 ≤ c.param 0 8
      (bad → DoneC .seal s c 2 0 [] [] fun x => x = y) ∧
      (¬bad → issued .seal (c.param 8 8) 0 (sealDesc qopSeal (c.param 16 4) (c.param 0 8) 0))) ∧
    (∀ sigOk, s.HasCmd 0x15 c r →
      let who := pmRoot c.data
      let cert := who = y.gid ∨ (y.sys.prot.certs.any fun x => decide (x.1 = who)) = true
      let busy := ∃ x ∈ y.svc.cont.restores, x.job = c.job
      let ok := pmOk c.data = true ∧ pmJob c.data = c.job
      (¬ok → DoneC (.restoreOpen sigOk) s c 2 0 [] [] fun x => x = y) ∧
      (ok → ((cert ∧ sigOk = false) ∨ (¬cert ∧ 1024 ≤ who)) → DoneC (.restoreOpen sigOk) s c 1 0x131 [] [] fun x => x = y) ∧
      (ok → cert → sigOk = true → busy → DoneC (.restoreOpen sigOk) s c 1 0x132 [] [] fun x => x = y) ∧
      (ok → cert → sigOk = true → ¬busy → DoneC (.restoreOpen sigOk) s c 0 0 [] [] fun x =>
        x = y.onCont fun k => { k with restores := k.restores ++ [{ job := c.job, openAt := y.now, manifest := c.data }] }) ∧
      (ok → ¬cert → who < 1024 → DoneG (.restoreOpen sigOk) s fun h =>
        h.svc.cont.waits = y.svc.cont.waits ++ [{ cmd := c, at' := y.clk }] ∧ h.host = y.host ∧ h.svc.cont.restores = y.svc.cont.restores)) ∧
    (s.HasCmd 0x16 c r → match y.svc.cont.restores.find? fun x => decide (x.job = c.job) with
      | none => DoneC .restoreSeal s c 2 0 [] [] fun x => x = y
      | some x => (c.data ≠ [] → DoneC .restoreSeal s c 2 0 [] [] fun z => z = y) ∧
          (c.data = [] → issued .restoreSeal (c.param 0 8) 0 (sealDesc qopRestore 0 0 x.openAt))))

/-! ### Guyline and the dies (05, 12) -/

/-- Frames and retry (05 R172, R175–R179, R182, R190): a slot sends new data under the next SEQ and spends a credit, resends from
where a replay stands, or sends NULL; a frame in sequence is accepted, acknowledged and its buffer freed, and a whole message is
handed on; one out of sequence is answered by one NAK; a bad CRC is counted; an ACK retires what it names; CREDIT adds what has been
freed since; a NAK or a time-out goes back; LANE moves transmission; timers repeat what is owed.
The model's choices in it: log entries 4, 16. -/
def Obligations.GuylineFrames : Prop :=
  ∀ (s : State) (e : GlEnd) (ns : Nat) (f : List Byte), s.linkUp e →
    let l := s.linkAt e ns
    let c := frClass f
    ((e = .ailen → s.a.pwr = .active ∧ s.a.trc = []) → l.st = .up → l.replayAt = none → l.ctl = [] →
      (∀ k, l.pickClass = some k → DoneL (.glTxSlot e ns) s e (some ns) false fun m =>
        m.nextSeq = l.nextSeq + 1 ∧ nth 0 m.credits k + 1 = nth 0 l.credits k ∧
        ∃ t, m.replay = l.replay ++ [t] ∧ t.cls = k ∧ t.seq = l.nextSeq ∧ m.wire = l.dataFrame t ∧
          m.line = (lineBlocks l.scrTx m.wire).1) ∧
      (l.pickClass = none → DoneL (.glTxSlot e ns) s e (some ns) true fun m =>
        m = l.put (glFrame l.ackBits []) false)) ∧
    (∀ i t, (e = .ailen → s.a.pwr = .active) → l.st = .up → l.replayAt = some i → l.replay[i]? = some t →
      DoneL (.glTxSlot e ns) s e (some ns) true fun m =>
        m = ({ l with replayAt := if i + 1 < l.replay.length then some (i + 1) else none } : GlLink).put (l.dataFrame t) false) ∧
    (∀ r : List Byte, r.length = 64 → (lineBlocks l.scrTx r).1.map (·.1) = [2, 1, 1, 1, 1, 1, 1, 1]) ∧
    (l.st = .up → goodFrame f 1 → frSeq f = l.expect → frSom f = true → frEom f = true → nth none l.rx c = none →
      glMsgOk (linkPart e) c ((f.drop 4).take (min 56 (frLen f + 1))) = true →
      DoneL (.glDataFrameRx e l.active f ns) s e (some ns) true fun m =>
        m.expect = l.expect + 1 ∧ m.ack = frSeq f ∧ m.ackv = true ∧ m.nakOpen = false ∧ m.freed = setNth l.freed c (nth 0 l.freed c + 1) ∧
        (∃ x, m.inbox = l.inbox ++ [x] ∧ x.bytes = (f.drop 4).take (min 56 (frLen f + 1))) ∧ m.tx = l.tx ∧ m.credits = l.credits ∧
        m.replay = l.replay ∧ m.st = l.st) ∧
    (l.st = .up → goodFrame f 1 → frSeq f ≠ l.expect → l.nakOpen = false →
      DoneL (.glDataFrameRx e l.active f ns) s e (some ns) true fun m => 
        m = { l with nakOpen := true, ctl := l.ctl ++ [ctlNak l.expect], farOpen := true }) ∧
    (l.st = .up → goodFrame f 1 → frSeq f ≠ l.expect → l.nakOpen = true →
      DoneL (.glDataFrameRx e l.active f ns) s e (some ns) true fun m => m = { l with farOpen := true }) ∧
    (l.st ≠ .refused → frCrcOk f = false → ∀ pr, DoneL (.glDataFrameRx e pr f ns) s e (some ns) true fun m => m = { l with crcErr := l.crcErr + 1 }) ∧
    (∀ k, l.st = .up → frCrcOk f = true → frHdrOk f = true → frKind f = 0 → frAckv f = true → ackCount (frAck f) l.replay = some k →
      l.replayAt = none →
      DoneL (.glNullFrameRx e f ns) s e (some ns) true fun m => m = { l with replay := l.replay.drop k, goBacks := 0 }) ∧
    (l.st ≠ .refused → goodFrame f 0 → DoneL (.glNullFrameRx e f ns) s e (some ns) true fun m => m = l) ∧
    (l.st = .up → goodFrame f 2 → leAt f 4 1 = 1 → leAt f 7 1 = 0 → DoneL (.glCtlCredit e f ns) s e (some ns) true fun m =>
      m = { l with credits := m.credits, freedSeen := m.freedSeen, farOpen := true } ∧
      ∀ k, k < 4 → nth 0 m.freedSeen k = BitVec.ofNat 16 (leAt f (8 + 2 * k) 2) ∧
        nth 0 m.credits k = nth 0 l.credits k + (BitVec.ofNat 16 (leAt f (8 + 2 * k) 2) - nth 0 l.freedSeen k).toNat) ∧
    (l.st = .up → l.replay ≠ [] → l.goBacks < 15 →
      let back := { l with replayAt := some 0, goBacks := l.goBacks + 1, goBackCnt := l.goBackCnt + 1 }
      (goodFrame f 2 → leAt f 4 1 = 2 → leAt f 7 1 = 0 → DoneL (.glCtlNak e f ns) s e (some ns) true fun m =>
        m = { back with farOpen := true }) ∧
      DoneL (.glReplayTimeout e ns) s e (some ns) true fun m => m = back) ∧
    (l.st = .up → l.replay ≠ [] → 15 ≤ l.goBacks → l.stbyOk = true → DoneL (.glReplayTimeout e ns) s e (some ns) false fun m =>
      m.active = otherPair l.active ∧ m.replayAt = some 0 ∧ m.st = .up ∧ m.ctl = l.ctl ++ [ctlLane (otherPair l.active)]) ∧
    (l.st = .up → goodFrame f 2 → leAt f 4 1 = 3 → leAt f 7 1 = 0 → leAt f 5 1 = pairCode (otherPair l.active) →
      (l.shadowRate = true → DoneL (.glCtlLane e f ns) s e (some ns) true fun m => m = { l with farOpen := true }) ∧
      (l.shadowRate = false → DoneL (.glCtlLane e f ns) s e (some ns) false fun m => m.active = otherPair l.active ∧ m.replay = l.replay ∧
        m.replayAt = (if l.replay = [] then none else some 0))) ∧
    (l.st = .up → l.nakOpen = true → DoneL (.glNakRepeat e ns) s e (some ns) true fun m => m = { l with ctl := l.ctl ++ [ctlNak l.expect] }) ∧
    (l.st = .up → l.freed ≠ l.freedSent →
      DoneL (.glCreditTimer e ns) s e (some ns) true fun m => m = { l with ctl := l.ctl ++ [ctlCredit l], freedSent := l.freed }) ∧
    (∀ r n ep, (l.st = .init ∨ (l.st.open = true ∧ l.farOpen = false)) → l.initSent = some (r, n, ep) →
      DoneL (.glInitRepeat e ns) s e (some ns) true fun m => m = { l with ctl := l.ctl ++ [initFrame (linkPart e) r n ep] })

/-- Training, INIT and loss (05 R181, R185, R187–R191, R193): a lane that is down trains; lock sends INIT and lock of the other pair
makes a standby; the eighth failure in a row writes TRAIN_FAIL; INIT resumes where both sides kept their state and the epoch, and
starts fresh otherwise; RATE changes and resumes; loss of the pair in use takes the standby over or retrains; loss of the standby
is recorded.
The model's choices in it: log entries 16, 42. -/
def Obligations.GuylineTraining : Prop :=
  ∀ (s : State) (e : GlEnd) (ns : Nat) (f : List Byte), s.linkUp e →
    let l := s.link e
    let w := s.linkAt e ns
    let live := fun (p : Pair) => ∀ n, e = .lane n → s.g.fld (kDieStat (pdOf n p)) 1 0 ≠ 3
    (l.st = .down → s.a.mainReset = false → s.g.sys.pwr.glOn = true →
      DoneL (.glTrainStart e) s e none true fun m => m = { l with st := .training, lock := false, stbyOk := false }) ∧
    (l.st = .training → s.g.sys.pwr.glOn = true → l.stbyOk = true → DoneL (.glTrainRetry e) s e none true fun m =>
      m.st = .init ∧ m.active = otherPair l.active ∧ m.stbyOk = false ∧ m.trainFails = 0) ∧
    (l.st = .training → s.g.sys.pwr.glOn = true → l.stbyOk = false → l.trainFails ≠ 7 →
      DoneL (.glTrainRetry e) s e none true fun m => m = { l with trainFails := min 255 (l.trainFails + 1) }) ∧
    (∀ n, e = .lane n → l.st = .training → s.g.sys.pwr.glOn = true → l.stbyOk = false → l.trainFails = 7 → s.g.roomy = true →
      DoneG (.glTrainRetry e) s fun h => (h.lane n).trainFails = 8 ∧ s.g.Filed h .trainFail 0 (leBytes 2 n)) ∧
    (l.st = .training → live l.active → DoneL (.glBlockLockAcquired e l.active) s e none (decide (e ≠ .ailen)) fun m =>
      m.st = .init ∧ m.lock = true ∧ m.trainFails = 0 ∧ m.eqSaved = true ∧ m.initSeen = false ∧
      m.ctl = [initFrame (linkPart e) l.keeps l.expect m.epoch] ∧ m.epoch = (if l.keeps then l.epoch else l.epoch + 1) ∧ m.ackv = false ∧
      m.replay = l.replay ∧ m.tx = l.tx) ∧
    (l.st = .up → l.shadowRate = false → live (otherPair l.active) → s.a.build.standby = true → (∀ n, bit (s.g.die n).cfgid.toNat 10 = true) →
      DoneL (.glBlockLockAcquired e (otherPair l.active)) s e none true fun m => m = { l with stbyOk := true }) ∧
    (∀ nx ep, w.st = .init → w.initSeen = false → w.initSent = some (true, nx, ep) → goodFrame f 3 → leAt f 4 1 = b2n (decide (e = .ailen)) →
      leAt f 7 1 = 0 → leAt f 5 1 = 1 → BitVec.ofNat 32 (leAt f 8 4) = w.farEpoch → w.replay = [] → w.rest ≠ .refused →
      DoneL (.glInitRx e f ns) s e (some ns) true fun m => m = { w with st := w.resumed, initSeen := true, replayAt := none }) ∧
    (∀ nx ep, w.st = .init → w.initSeen = false → w.initSent = some (false, nx, ep) → goodFrame f 3 → leAt f 4 1 = b2n (decide (e = .ailen)) →
      leAt f 7 1 = 0 →
      DoneL (.glInitRx e f ns) s e (some ns) false fun m => m.st = .enum ∧ m.nextSeq = 0 ∧ m.expect = 0 ∧ m.replay = [] ∧ m.freed = [0, 0, 0, 0] ∧
        m.credits = (List.range 4).map (fun c => leAt f (12 + c) 1) ∧ m.farEpoch = BitVec.ofNat 32 (leAt f 8 4) ∧ m.msgs = 0) ∧
    (∀ n, e = .lane n → w.st = .up → goodFrame f 2 → leAt f 4 1 = 4 → leAt f 6 1 = 0 → leAt f 7 1 = 0 →
      DoneL (.glCtlRate e f ns) s e (some ns) false fun m => m.shadowRate = decide (leAt f 5 1 = 1) ∧ m.st = .init ∧ m.stbyOk = false ∧
        m.ctl.head? = some (ctlRate (decide (leAt f 5 1 = 1)) true)) ∧
    (e = .ailen → (w.st = .up ∨ w.st = .shadow) → goodFrame f 2 → leAt f 4 1 = 4 → leAt f 6 1 = 1 → leAt f 7 1 = 0 →
      DoneL (.glCtlRate e f ns) s e (some ns) true fun m => m.shadowRate = decide (leAt f 5 1 = 1) ∧ m.st = .init ∧ m.stbyOk = false) ∧
    (w.st = .up → ∀ i, i = .glBlockLockLoss e ns ∨ i = .glCrcSilence e ns →
      (w.stbyOk = true → DoneL i s e (some ns) false fun m => m.active = otherPair w.active ∧ m.st = .up ∧ m.stbyOk = false ∧
        m.ctl = w.ctl ++ [ctlLane (otherPair w.active)] ∧ m.replay = w.replay) ∧
      (w.stbyOk = false → DoneL i s e (some ns) false fun m =>
        m = { w with st := .training, lock := false, initSeen := false, goBacks := 0 })) ∧
    (∀ n, e = .lane n → l.stbyOk = true → s.g.roomy = true → DoneG (.stbyFail e) s fun h =>
      h.lane n = { l with stbyOk := false } ∧ s.g.Filed h .stbyFail 0 []) ∧
    (e = .ailen → DoneL (.stbyFail e) s e none true fun m => m = { l with stbyOk := false })

/-- Samples, banks, trace, events and shards (12 R393, 14 R466, R489, 20 R647, R663): each takes the oldest message of its type
from the lane. A sample renews its die's stream and waits to be filed; a bank joins its open cut or is LATE_INPUT; packets queue for
the collector; an event is filed once under the die's PDA; segment digests wait for their shard, which enters the log.
Enumeration, responses, screens and mailboxes (05 R199, R202, R203, 15 R502, R511, R514, 16 R548): a die is accepted or refused
with the first reason that applies, and DEFAULTED records name what its reset reverted (18 R599, R600); a response frees its command; a verdict ends the open screen and enters its correlation record;
a die's message is a send from its MID, answered with the status.
The model's choices in it: log entries 11, 22, 27, 28, 42. -/
def Obligations.DieMessages : Prop :=
  (∀ (s : State) (lane : Nat) (m : RxMsg) (g : Gremon), s.g.sys.pwr.rails = true → lane < 512 →
    let b := m.bytes
    (s.g.takeLane lane 1 = some (m, g) →
      let d := Tbl.get HistDie.none g.svc.hist.dies lane
      (g.sys.pwr.pstate = 3 ∨ blkValues (b.drop 4) d.prev = none → DoneG (.sampleRx lane) s fun h => h = g) ∧
      ∀ vs, g.deadLinks = [] → g.sys.pwr.pstate ≠ 3 → g.sys.pwr.pstate ≠ 2 → blkValues (b.drop 4) d.prev = some vs →
        let c := b.drop 4
        let vals := (g.blkIndex c).zip vs
        let keep := vals.filter fun v => ((g.histPlan lane).map (·.chan)).contains v.1
        DoneG (.sampleRx lane) s fun h =>
          (∀ n, Tbl.get HistDie.none h.svc.hist.dies n =
            if n = lane then { d with prev := vs, gen := some (blkGen c), last := some (blkFrame c), seen := (blkFrame c :: d.seen).take 256 } else Tbl.get HistDie.none g.svc.hist.dies n) ∧
          h.svc.hist.waiting = g.svc.hist.waiting ++ (if keep.isEmpty then [] else
            [{ lane := lane, frame := blkFrame c, disc := blkDisc c || blkStep c
               newgen := decide (d.gen.isSome ∧ d.gen ≠ some (blkGen c)), vals := keep }]) ∧
          h.mem = (g.resident.foldl (fun (x : Gremon) k => x.ingestKit lane k.2 c vals) g).mem ∧
          { h with svc := g.svc, feeds := g.feeds, mem := g.mem, poison := g.poison } = g) ∧
    (s.g.takeLane lane 2 = some (m, g) →
      let bank := b.drop (20 + 4 * ((leAt b 16 2 + 31) / 32))
      let mine := fun (c : Cut) => decide (c.vseq = leAt b 4 4 ∧ c.state ≠ 2) && c.lanes.any fun e => decide (e.lane = lane)
      (g.sys.pwr.pstate = 3 → DoneG (.vigilBankRx lane) s fun h => h = g) ∧
      (g.sys.pwr.pstate ≠ 3 → (∀ c ∈ g.svc.vig.cuts, mine c = false) → g.roomy = true → DoneG (.vigilBankRx lane) s fun h =>
        g.Filed h .lateInput 0 (leBytes 4 0xF0000001 ++ leBytes 8 (leAt b 4 4) ++ leBytes 4 (eidPhys (g.pda lane))) ∧
        { h with log := g.log } = g) ∧
      (∀ c, g.sys.pwr.pstate ≠ 3 → g.svc.vig.cuts = [c] → mine c = true → DoneG (.vigilBankRx lane) s fun h =>
        ∃ c' : Cut, h = g.onVig (fun v => { v with cuts := [c'] }) ∧ { c' with lanes := c.lanes } = c ∧ c'.lanes.length = c.lanes.length ∧
          ∀ (i : Nat) (e : LaneCut), c.lanes[i]? = some e →
            (e.lane ≠ lane → c'.lanes[i]? = some e) ∧
            (e.lane = lane → ∃ e' : LaneCut, c'.lanes[i]? = some e' ∧ e'.lane = lane ∧ e'.res = (if blkShadow bank then 2 else 1) ∧
              e'.qual = blkQual bank ∧ e'.bank = b.drop 4))) ∧
    (s.g.takeLane lane 3 = some (m, g) → DoneG (.traceRx lane) s fun h =>
      h = if g.trcOn = true ∧ bit (g.reg 0x2000084) 0 = true ∧ g.sys.pwr.pstate ≠ 3 then
          g.onTrc fun t => t.dieChunk (0x1000 + 8 * lane + leAt b 4 1 % 8) ((b.drop 8).take (leAt b 6 2))
        else g) ∧
    (∀ (t : TraceCol) src (pk : List Byte), Tbl.get 0 t.dieLost src = 0 → t.dieQ = [] → pk.length ≤ 4096 → (t.dieChunk src pk).dieQ = [(src, pk)]) ∧
    (s.g.takeLane lane 0x10 = some (m, g) →
      let d := g.die lane
      let rseq := leAt b 4 4
      (∀ hi, d.rseqHi = some hi → rseq ≤ hi → d.resend ≠ 1 → DoneG (.eventRx lane) s fun h =>
        h = g.setDie lane { d with resend := d.resend - 1 }) ∧
      ((∀ hi, d.rseqHi = some hi → hi < rseq) → g.roomy = true → DoneG (.eventRx lane) s fun h =>
        (h.die lane).rseqHi = some rseq ∧ (h.die lane).resend = d.resend - 1 ∧
        ∃ e, Tbl.find h.log.slots (g.log.wr % 16384) = some e ∧ e.code = BitVec.ofNat 16 (leAt b 8 2) ∧
          e.job = BitVec.ofNat 16 (g.jobOf (g.pda lane)) ∧ e.stamp = Stamp.ofBytes b 12 ∧
          e.src = BitVec.ofNat 32 (eidPhys (g.pda lane)) ∧ e.data = padTo 40 ((b.drop 24).take 40))) ∧
    (s.g.takeLane lane 0x12 = some (m, g) → DoneG (.segdRx lane) s fun h =>
      h = g.onCont fun c => { c with segs := c.segs ++ [(lane, b)] }) ∧
    (∀ r, (s.g.lane lane).inbox = m :: r → leAt b 0 1 = 0x11 → g = s.g.setLane lane { s.g.lane lane with inbox := r } →
      let job := leAt b 4 2
      let dirIn := bit (leAt b 7 1) 0
      let mine := fun (e : ShardEnt) => decide (e.job = job ∧ e.dirIn = dirIn)
      DoneG (.shardRx lane) s fun h =>
        (∃ e ∈ h.svc.cont.log, e.job = job ∧ e.dirIn = dirIn ∧ e.step = leAt b 8 6 ∧ e.close = leAt b 64 8 ∧
          (∀ x, g.bindOf (g.pda lane) = some x → e.lda = x.lda) ∧
          ((∀ x ∈ g.svc.cont.segs, x.1 ≠ lane) → e.bytes = shardBytes e.lda (g.pda lane) b [])) ∧
        h.svc.cont.log.filter (fun e => !mine e) = g.svc.cont.log.filter (fun e => !mine e) ∧
        ((h.svc.cont.log.filter mine).map (·.step)).eraseDups.length ≤ 8 ∧
        h.svc.cont.segs = g.svc.cont.segs.filter (fun x => decide (x.1 ≠ lane)) ∧
        { h with svc := g.svc, seed := g.seed } = g)) ∧
  (∀ (s : State) (lane : Nat) (m : RxMsg) (g : Gremon), s.g.sys.pwr.rails = true → lane < 512 →
    let b := m.bytes
    let d := g.die lane
    (s.g.takeLane lane 0x23 = some (m, g) →
      let hdid : W64 := BitVec.ofNat 64 (leAt b 16 8)
      let twice := ∃ e ∈ g.dies, e.1 ≠ lane ∧ e.2.accepted = true ∧ e.2.hdid = hdid
      let bad := hdid = 0 ∨ hdid = BitVec.allOnes 64 ∨ twice
      let part := bits (leAt b 4 4) 15 8 = 4
      let proto := leAt b 10 2 = 4
      (∀ why, g.roomy = true → ((why = 1 ∧ ¬part) ∨ (why = 2 ∧ part ∧ ¬proto) ∨ (why = 3 ∧ part ∧ proto ∧ bad)) →
        DoneG (.enumRx lane) s fun h => (h.lane lane).st = .refused ∧ (h.lane lane).rest = .refused ∧ (h.die lane).accepted = false ∧
          (d.accepted = false → g.Filed h .glRefused 0 (leBytes 1 why) ∧ { h with log := g.log, lanes := g.lanes, dies := g.dies } = g) ∧
          ∀ x ∈ (h.lane lane).inbox, leAt x.bytes 0 1 = 0x23 ∨ leAt x.bytes 0 1 = 0x30) ∧
      (part → proto → ¬bad → DoneG (.enumRx lane) s fun h =>
        let e := h.die lane
        (h.lane lane).st = (if (g.lane lane).shadowRate then .shadow else .up) ∧ e.accepted = true ∧ e.hdid = hdid ∧
        e.alId.toNat = leAt b 4 4 ∧ e.alVer.toNat = leAt b 8 4 ∧ e.cfgid.toNat = leAt b 12 4 ∧ e.ucode.toNat = leAt b 26 2 ∧
        e.capGen.toNat = leAt b 28 1 ∧ e.phash.toNat = leAt b 32 4 ∧ e.resend = leAt b 36 2 ∧ e.cause = leAt b 24 1 ∧
        e.rseqHi = (if leAt b 24 1 = 0 then none else d.rseqHi) ∧ h.mem = g.mem ∧ h.regs = g.regs ∧ h.kits = g.kits ∧
        h.sys.pwr.defaulted = (if leAt b 24 1 = 0 then loop (fun n => sat 0xFFFF (n + 1)) 6 g.sys.pwr.defaulted
          else if leAt b 24 1 = 1 ∧ (g.scrDie lane).session = true then sat 0xFFFF (g.sys.pwr.defaulted + 1)
          else g.sys.pwr.defaulted) ∧
        ∀ n, n ≠ lane → h.lane n = g.lane n)) ∧
    (s.g.takeLane lane 0x22 = some (m, g) →
      let find := d.waiting.find? fun w => decide (w.1.toNat = leAt b 4 2)
      let freed := fun (w : BitVec 16 × List Byte) => { d with waiting := d.waiting.filter fun y => decide (y.1 ≠ w.1) }
      let read := leAt b 12 4
      (find = none → DoneG (.rspRx lane) s fun h => h = g) ∧
      ∀ w, find = some w →
        let op := leAt w.2 6 1
        let addr := leAt w.2 8 4
        let st := leAt b 6 1
        (¬(op = 1 ∧ addr = 0x1008 ∧ st = 0) → ¬(op = 2 ∧ addr = 0x4038 ∧ st = 2) → ¬(op = 3 ∧ st = 0) →
          DoneG (.rspRx lane) s fun h => h = g.setDie lane (freed w)) ∧
        (op = 2 → addr = 0x4038 → st = 2 → DoneG (.rspRx lane) s fun h =>
          (∀ f n tick, g.frameNext = some (f, n, tick) → h = (g.setDie lane (freed w)).framePush lane f n 0) ∧
          (g.frameNext = none → h = (g.setDie lane (freed w)).framePush lane g.frameUs g.frameN 0)) ∧
        (op = 1 → addr = 0x1008 → st = 0 → bit read 2 = true → DoneG (.rspRx lane) s fun h =>
          h = (g.setDie lane (freed w)).command lane 1 0 0x1008 2 []) ∧
        (op = 1 → addr = 0x1008 → st = 0 → bit read 2 = false → bits read 1 0 ≠ 1 → DoneG (.rspRx lane) s fun h =>
          h.die lane = { freed w with capGen := BitVec.ofNat 8 (bits read 23 16), phash := BitVec.ofNat 32 (leAt b 16 4) } ∧
          { h with dies := g.dies, sys := g.sys } = g)) ∧
    (∀ o, s.g.takeLane lane 0x13 = some (m, g) →
      (((g.scrDie lane).cur = none ∨ ((g.scrDie lane).cur = some o ∧ ¬(leAt b 4 4 = o.pack ∧ leAt b 8 1 = o.core))) →
        DoneG (.screenRx lane) s fun h => h = g) ∧
      ((g.scrDie lane).cur = some o → leAt b 4 4 = o.pack → leAt b 8 1 = o.core → leAt b 9 1 % 16 ≤ 1 →
        let fail := decide (leAt b 9 1 % 16 = 1)
        DoneG (.screenRx lane) s fun h =>
          (∃ c ∈ (h.scrDie lane).corr, c.core = o.core ∧ c.pack = o.pack / 65536 ∧ c.ver = o.pack % 65536 ∧ c.res.length ≤ 64 ∧
            c.res.getLast? = some { fail := fail, band := g.scrBand (leAt b 10 2), sig := leAt b 16 4 }) ∧
          (fail = true → o.kind ≠ 0 → o.stress = false →
            ∃ c ∈ (h.scrDie lane).cls, c.core = o.core ∧ c.pack = o.pack) ∧
          (∀ n, n ≠ lane → h.scrDie n = g.scrDie n) ∧ h.mem = g.mem ∧ h.kits = g.kits)) ∧
    (s.g.takeLane lane 0x20 = some (m, g) →
      let n := leAt b 4 1
      let me := 0x800 + lane
      let reply := fun (x : Gremon) code => x.cmdWord lane 0x5044 (2 * code)
      ((∀ r, g.binding n ≠ some (me, r)) → DoneG (.mboxRxGremon lane) s fun h => h = reply g 2) ∧
      ∀ r, g.binding n = some (me, r) →
        (g.midDown r = true → DoneG (.mboxRxGremon lane) s fun h => h = reply g 3) ∧
        (g.midDown r = false → (g.chan n).full = true → DoneG (.mboxRxGremon lane) s fun h => h = reply g 1) ∧
        (g.midDown r = false → (g.chan n).full = false → DoneG (.mboxRxGremon lane) s fun h => ∃ x, h = reply x 0 ∧
          (x.chan n).full = true ∧ (x.chan n).msg = padTo 64 ((b.drop 8).take 64) ∧ (∀ k, k ≠ n → (x.chan k).full = (g.chan k).full) ∧
          x.mem = g.mem ∧ x.log = g.log)))

/-! ### The package (06, 15, 21) -/

/-- Failures and corrected errors (06 R213, R221, 15 R518, R519, R523, 20 R666): a failed link or stack is recorded once and carries
POISON from then on; an uncorrectable line reads POISON; a corrected error counts and changes no value; a residue mismatch ends the
engine's command or halts the core POISON before its result; a tested core rejoins the spares or is retired; an error that AILEN's
checks of its counters, coder or digest engines find is recorded and marks the block or the transfer (Table 15.15).
Thermal protection (21 R675, R676): a condition enters at its threshold and leaves below its release level; a warm CT's ceiling
falls by 100 MHz a millisecond to 1.2 GHz and rises again; a reading beyond a trip level for 1 ms commits the black-box record and
takes the rails away.
The model's choices in it: log entries 51, 52, 61. -/
def Obligations.PackageFaults : Prop :=
  ((∀ (s : State) (ns : Nat), s.g.sys.pwr.rails = true →
    let g := s.g.moveTo ns
    let counted := fun (h : Gremon) chan => { h with sys := g.sys } = g ∧
      h.sys = { g.sys with tel := { g.sys.tel with counts := Tbl.upd 0 g.sys.tel.counts chan (· + 1) } }
    let grade := fun (h : Gremon) ct p => h.regs.fld .gremon (kCoreErr ct p) 1 0
    let cores := fun (h : Gremon) n => h.cores = (g.setCore n { g.core n with
      run := false, badPc := none, epc := (g.core n).pc, halt := 4, vq := [] }).cores
    (∀ a b, a < b → b < 32 →
      let known := g.exclLinks.contains (a, b) || g.deadLinks.contains (a, b)
      ((known = true ∨ b ∉ meshNext [] a) → DoneG (.canopyLinkFail a b ns) s fun h => h = g) ∧
      (known = false → b ∈ meshNext [] a → g.roomy = true → DoneG (.canopyLinkFail a b ns) s fun h =>
        h = { g with deadLinks := g.deadLinks ++ [(a, b)], log := h.log } ∧ g.Filed h .canopyLinkFail 0 [])) ∧
    (∀ k, k < 24 →
      (k ∈ g.deadStacks → DoneG (.stackFail k ns) s fun h => h = g) ∧
      (k ∉ g.deadStacks → g.roomy = true → DoneG (.stackFail k ns) s fun h =>
        h = { g with deadStacks := g.deadStacks ++ [k], log := h.log } ∧ g.Filed h .stackFail 0 [] ∧
        ∀ src x, cnaHbm x = true → stackOf (cnaHpa x) = k → h.lost src x 1 = true)) ∧
    (∀ x, x < 2 ^ 48 → DoneG (.eccError (.line x) false ns) s fun h => h = { g with poison := h.poison } ∧
      (∀ n, n > 0 → h.linePoison (64 * (x / 64)) n = true) ∧ ∀ l, l ∈ h.poison ↔ l = x / 64 ∨ l ∈ g.poison) ∧
    (∀ w, eccNamed w = true → (∃ x, w = .line x ∨ w = .tse x ∨ w = .sync x) ∨ w = .mram → DoneG (.eccError w true ns) s fun h => counted h 305) ∧
    (∀ w, eccNamed w = false → ∀ fixed, DoneG (.eccError w fixed ns) s (fun h => h = g) ∧ DoneG (.sramScrub w fixed ns) s fun h => h = g) ∧
    (∀ x, x < 16 → DoneG (.eccError (.canopy x) true ns) s (fun h => h = g) ∧
      DoneG (.eccError (.tse x) false ns) s (fun h => h = if ∃ e ∈ g.eng, e.core / 32 = x ∧ e.engine = .tse then
        g.setTse x { g.tseOf x with retry := true } else g) ∧
      DoneG (.eccError .mram false ns) s fun h => h = g) ∧
    (∀ d, d < 32 → g.ctBusy d = true → DoneG (.eccError (.canopy d) false ns) s fun h => d ∈ h.flits ∧ h = { g with flits := h.flits }) ∧
    (∀ d, d < 32 → g.ctBusy d = false → DoneG (.eccError (.canopy d) false ns) s fun h =>
      h.regs.fld .gremon (kDieStat d) 31 16 = sat 0xFFFF (g.fld (kDieStat d) 31 16 + 1) ∧ { h with regs := g.regs, sys := g.sys } = g) ∧
    (∀ o n k, o < 16384 → g.kitOf (g.obj o).kit = some (n, k) → (g.kit n).state = 3 → g.roomy = true → DoneG (.eccError (.sync o) false ns) s fun h =>
      (h.kit n).state = 5 ∧ (h.kit n).cause = 4 ∧ g.Filed h .kitFault 0 [] ∧ { h with kits := g.kits, log := g.log } = g) ∧
    (∀ n, n < 512 → (g.core n).run = true → g.servedBy (n / 32) (n % 32) = none → DoneG (.eccError (.coreRegs n) false ns) s fun h =>
      cores h n ∧ h.halted = g.halted ++ [n] ∧ h.mem = g.mem) ∧
    (∀ n p, n < 512 → p < 34 → g.servedBy (n / 32) (n % 32) = some p →
      let note := g.coreNote (n / 32) p
      let k := (if note.hour = g.now / 3600000000000 then note.ce else 0) + 1
      DoneG (.eccError (.coreRegs n) true ns) s fun h => h.regs.fld .gremon (kCoreErr (n / 32) p) 31 24 = sat 255 k ∧ h.cores = g.cores ∧
        (h.coreNote (n / 32) p).ce = k ∧ (k ≤ g.fld (ind 0xD0004) 23 8 → grade h (n / 32) p = g.regs.fld .gremon (kCoreErr (n / 32) p) 1 0) ∧
        (g.fld (ind 0xD0004) 23 8 < k → g.fld (kCoreErr (n / 32) p) 1 0 = 0 → bit (g.reg (kCtMap (n / 32) p)) 5 = true → grade h (n / 32) p = 1 ∧
          (h.coreNote (n / 32) p).move = true)) ∧
    (∀ line, DoneG (.hbmScrub line false ns) s fun h => h = g) ∧
    (∀ line, g.sys.pwr.brace = false → g.sys.pwr.pstate ≠ 3 → cnaHbm line = true → line < 2 ^ 48 →
      DoneG (.hbmScrub line true ns) s fun h => counted h 305) ∧
    (∀ line, g.sys.pwr.brace = true → DoneG (.hbmScrub line true ns) s fun h => h = g) ∧
    (∀ w, eccNamed w = true → (∃ x, w = .tse x ∨ w = .sync x ∨ (w = .line x ∧ cnaHbm x = false)) →
      DoneG (.sramScrub w true ns) s (fun h => counted h 305) ∧ DoneG (.sramScrub w false ns) s fun h => h = g) ∧
    (∀ ct u e, g.roomy = true → ct < 16 → u < 3 →
      g.eng.find? (fun e => decide (e.core / 32 = ct) && decide (e.engine = if u = 0 then .sketch else if u = 1 then .topk else .baseline))
        = some e → e.op ≠ 0x96 →
      DoneG (.residueMismatch (.engine ct u) ns) s fun h =>
        h.eng = g.eng.filter (fun x => decide (¬(x.core = e.core ∧ x.engine = e.engine ∧ x.seq = e.seq))) ∧
        h.mem = memPut g.mem (spadCna e.core (e.addr + 56)) (leBytes 8 260) ∧
        ((cbSync e.block).testBit 14 = false → g.Filed h .residueErr 0 (leBytes 1 ct ++ leBytes 1 (0x80 + u)) ∧ h.cores = g.cores)) ∧
    (∀ n p, g.roomy = true → (g.core n).run = true → g.servedBy (n / 32) (n % 32) = some p →
      g.fld (kCoreErr (n / 32) p) 1 0 = 0 → bit (g.reg (kCtMap (n / 32) p)) 5 = true → p < 34 → n < 512 →
      DoneG (.residueMismatch (.core n) ns) s fun h => cores h n ∧ grade h (n / 32) p = 1 ∧
        h.regs.fld .gremon (kCoreErr (n / 32) p) 15 8 = sat 255 (g.fld (kCoreErr (n / 32) p) 15 8 + 1) ∧
        (h.coreNote (n / 32) p).move = true ∧ (h.coreNote (n / 32) p).lastRes = some g.clk ∧
        g.Filed h .residueErr 0 (leBytes 1 (n / 32) ++ leBytes 1 p) ∧ h.mem = g.mem) ∧
    (∀ ct p, ct < 16 → p < 34 →
      let note := s.g.coreNote ct p
      (note.testEnd = none → ∀ pass, DoneG (.coreTestEnd ct p pass) s fun h => h = s.g) ∧
      (∀ t, note.testEnd = some t →
        DoneG (.coreTestEnd ct p true) s (fun h => grade h ct p = 0 ∧ h.coreNote ct p = { note with testEnd := none } ∧
          h.regs.get .gremon (kCtMap ct p) = s.g.regs.get .gremon (kCtMap ct p) ∧ h.log = s.g.log) ∧
        (s.g.roomy = true → DoneG (.coreTestEnd ct p false) s fun h => grade h ct p = 3 ∧ h.regs.get .gremon (kCtMap ct p) = 64 ∧
          (h.coreNote ct p).testEnd = none ∧ s.g.Filed h .coreRetired 0 [] ∧
          ∃ r ∈ h.sys.bb.recs, r.ty = 7 ∧ r.body.take 2 = leBytes 1 ct ++ leBytes 1 p)))) ∧
  ∀ (s : State) (ns : Nat),
    let a := s.a.moveTo ns
    a.mainUp = true →
    (∀ b, b < 64 → a.cap.latched = [] → a.roomy = true →
      DoneA (.residueMismatch (.counters b) ns) s fun x => a.Recorded x .cntErr a.stamp [] ∧ x.cap.disc = true ∧ x.cap.latched = [] ∧
        ∀ k, (k / 64 = b → Tbl.get 0 x.cap.frameCnt k = 0 ∧ Tbl.get 0 x.cap.runCnt k = 0) ∧
          (k / 64 ≠ b → Tbl.get 0 x.cap.frameCnt k = Tbl.get 0 a.cap.frameCnt k)) ∧
    (∀ b l m r, b < 64 → a.cap.latched = l :: m :: r →
      DoneA (.residueMismatch (.counters b) ns) s fun x => x.cap.latched = { m with disc := true } :: r ∧ x.cap.gap = true) ∧
    (∀ l r, a.cap.latched = l :: r → a.roomy = true → DoneA (.residueMismatch .coder ns) s fun x =>
      x.cap = { a.cap with latched := { l with raw := true } :: r } ∧ a.Recorded x .coderErr a.stamp []) ∧
    (∀ p t, p < a.build.stpTaps → p < a.taps.length → (nth Tap.reset a.taps p).openT = some t → a.roomy = true →
      DoneA (.residueMismatch (.digest p) ns) s fun x => (nth Tap.reset x.taps p).openT = some { t with malformed := true } ∧
        a.Recorded x .sdErr a.stamp [])) ∧
  (∀ (s : State) (dies stks : List (BitVec 16)), s.g.sys.pwr.rails = true →
    let t := (s.g.clock.lmNs / 100000 + 1) * 100000
    let was := s.g.sys.hot
    let die := fun d => (dies.getD d 0).toInt
    let stk := fun k => (stks.getD k 0).toInt
    let beyond := (∃ d, d < 32 ∧ 115 * 64 ≤ die d) ∨ ∃ k, k < 24 ∧ 105 * 64 ≤ stk k
    let cond := fun (now before : Prop) (x : Int) (on off : Int) => now ↔ on * 64 ≤ x ∨ (before ∧ off * 64 ≤ x)
    let due := was.stepAt + 1000000 ≤ t
    let cap := fun d => Tbl.get 20000 was.ceiling d
    ((¬beyond ∨ was.tripAt = none ∨ ∃ t0, was.tripAt = some t0 ∧ t < t0 + 1000000) →
      DoneG (.thermalReading dies stks) s fun h =>
        let hot := h.sys.hot
        h = { s.g with clock := s.g.clock.lmTo t, sys := { s.g.sys with hot := hot } } ∧
        (∀ d, d < 32 → Tbl.get 0 hot.dies d = die d) ∧ (∀ k, k < 24 → Tbl.get 0 hot.stks k = stk k) ∧
        (∀ d, d < 32 → cond (d ∈ hot.warm) (d ∈ was.warm) (die d) (if d < 16 then 100 else 105) (if d < 16 then 95 else 100)) ∧
        (∀ k, k < 24 → cond (32 + k ∈ hot.warm) (32 + k ∈ was.warm) (stk k) 85 82) ∧
        (∀ k, k < 24 → cond (32 + k ∈ hot.hot) (32 + k ∈ was.hot) (stk k) 95 92) ∧
        (∀ d, d < 16 → (d ∈ hot.hot ↔ (d ∈ was.hot ∧ 103 * 64 ≤ die d) ∨ (108 * 64 ≤ die d ∧ min s.g.dvfs (cap d) = 12000))) ∧
        (∀ d, d < 16 → s.g.dvfs = 20000 → 12000 ≤ cap d → cap d ≤ 20000 → Tbl.get 20000 hot.ceiling d =
          if ¬due then cap d else if d ∈ hot.warm then max 12000 (cap d - 1000) else min 20000 (cap d + 1000)) ∧
        hot.tripAt = (if ¬beyond then none else some (was.tripAt.getD t)) ∧
        (h.thermN = false ↔ (∃ d, d < 32 ∧ d ∈ hot.warm) ∨ hot.hot ≠ [])) ∧
    (∀ t0, beyond → was.tripAt = some t0 → t0 + 1000000 ≤ t → s.g.sys.pwr.brace = false →
      DoneG (.thermalReading dies stks) s fun h => h.sys.pwr.rails = false ∧ h.sys.pwr.lostMid = true ∧
        h.sys.pwr.porSrc = 7 ∧ s.g.sys.bb.next < h.sys.bb.next))

/-! ### Services (09, 11, 12, 14, 15) -/

/-- A period of a reduction (09 R324–R335, R684): it closes at its deadline with what was signalled; the merge leaves as PROVISIONAL;
a matching verdict confirms it and a mismatch or a missing verdict retracts it; the third own failure publishes the identity; a
child's record joins its period, is refused, or is late; retention ends 4 F after the close.
The model's choices in it: log entry 30. -/
def Obligations.Reductions : Prop :=
  ∀ (s : State) (rid n ns : Nat) (d : RDecl), s.g.sys.pwr.rails = true → s.g.decl rid = some d → s.g.clock.pt < 2 ^ 104 →
    let g := s.g
    let gm := s.g.moveTo ns
    let all := g.declCts rid
    let old := (g.red rid n).getD (RedPeriod.fresh rid n)
    let closed := fun (h : Gremon) => ∃ r, h.red rid n = some r ∧ r.closedAt = some h.clk ∧ r.out = old.out ∧
      (∀ e, e ∈ r.absentCts ↔ e ∈ all ∧ (e ∉ old.cts ∨ d.takes (g.slotRecord d e.1 e.2) = false)) ∧
      (∀ e ∈ all, e ∈ old.cts → d.takes (g.slotRecord d e.1 e.2) = true →
        ∃ i ∈ r.inputs, i.tray = true ∧ i.state = 1 ∧ i.record = g.slotRecord d e.1 e.2) ∧
      (∀ k ∈ g.redKidsOf rid, (∀ i ∈ old.inputs, i.tray = false → i.src ≠ k.gid) → ∃ b, (k.gid, b) ∈ r.absentKids) ∧ ∀ i ∈ old.inputs, i ∈ r.inputs
    ((d.pkind = 2 ∨ g.clock.own = .unset) → DoneG (.periodCloseDeadline rid) s fun h => h = g) ∧
    (let due := (n + 1) * g.redLen d + d.pNs - g.tree.depth * d.hopNs
     d.pkind ≠ 2 → g.clock.own ≠ .unset → g.redOldest rid = none → n = g.redAt d → due < 2 ^ 64 → DoneG (.periodCloseDeadline rid) s fun h =>
      closed h ∧ due ≤ h.now ∧ Tbl.find h.redNext rid = some (n + 1) ∧ h.cores = g.cores ∧ h.mem = g.mem) ∧
    (∀ t, d.pkind = 2 → old.closedAt = none → old.firstAt = some t → t + d.pNs < 2 ^ 64 →
      DoneG (.stepCloseWindow rid n) s fun h => closed h ∧ t + d.pNs ≤ h.clk ∧ h.cores = g.cores ∧ h.mem = g.mem) ∧
    (∀ r, g.red rid n = some r →
      let ready := r.closedAt ≠ none ∧ r.out = none ∧ r.anyRetracted = false ∧ r.done = false
      let after := fun (h : Gremon) (r' : RedPeriod) => h.red rid n = some r' ∧ ∀ k p, (k ≠ rid ∨ p ≠ n) → h.red k p = g.red k p
      (¬ready → ∀ wrong, DoneG (.reducePrimaryDone rid n wrong ns) s fun h => h = gm) ∧
      (ready → n < 2 ^ 64 → rid < 2 ^ 32 → r.attempt < 256 → ∀ wrong,
        DoneG (.reducePrimaryDone rid n wrong ns) s fun h => ∃ o, after h { r with out := some o, outAt := h.clk, wrong := wrong, verdict := false } ∧
          rrRid o = rid ∧ rrPeriod o = n ∧ rrAttempt o = r.attempt ∧ rrState o = 0 ∧ leAt o 16 4 = eidGremon g.gid % 2 ^ 32 ∧
          (wrong = false → (gm.redMerge d r).1.length < 2 ^ 32 → rrPayload o = (gm.redMerge d r).1 ∧ rrCov o = Coverage.ofBytes (gm.redMerge d r).2.bytes 0)) ∧
      (∀ p q bad, r.out ≠ none → r.verdict = false → r.final = false →
        (bad = false → r.wrong = false → DoneG (.reduceVerdict rid n bad p q ns) s fun h => ∃ r', h.red rid n = some r' ∧ r'.verdict = true ∧
          r'.out = r.out ∧ (r'.done = true ↔ r.done = true ∨ r.allConfirmed = true)) ∧
        ((bad = true ∨ r.wrong = true) → r.done = false → r.fails < 2 → r.attempt < 254 → gm.roomy = true → DoneG (.reduceVerdict rid n bad p q ns) s fun h =>
          (∃ t, after h { r with out := none, wrong := false, verdict := false, done := false, attempt := r.attempt + 1
                                 fails := r.fails + 1, tried := r.tried ++ t }) ∧
          ∃ x y, gm.Filed h .reduceMismatch 0 (leBytes 1 x ++ leBytes 1 y))) ∧
      ((r.out = none ∨ r.verdict = true ∨ r.final = true) → DoneG (.verdictTimeout rid n) s fun h => h = g) ∧
      (r.out ≠ none → r.verdict = false → r.final = false → r.done = false → r.outAt + 2000 < 2 ^ 64 → r.attempt < 254 →
        (r.fails < 2 → DoneG (.verdictTimeout rid n) s fun h => r.outAt + 2000 ≤ h.clk ∧
          after h { r with out := none, wrong := false, verdict := false, done := false, attempt := r.attempt + 1, fails := r.fails + 1 }) ∧
        (2 ≤ r.fails → d.plen < 2 ^ 32 → d.identity.length = d.plen → DoneG (.verdictTimeout rid n) s fun h => ∃ r' o, h.red rid n = some r' ∧ r'.final = true ∧
          r'.done = true ∧ r'.out = some o ∧ rrPayload o = d.identity)) ∧
      (∀ t, r.closedAt = some t → t + 4 * g.frameNs < 2 ^ 64 → DoneG (.retentionEnd rid n) s fun h => t + 4 * g.frameNs ≤ h.clk ∧
        (r.done = true → d.pkind ≠ 2 → h.red rid n = none) ∧
        (r.done = false → ∃ r', h.red rid n = some r' ∧ r'.ended = true ∧ r'.inputs.length = r.inputs.length ∧
          ∀ i ∈ r'.inputs, i.state = 2 → i.gone = true)) ∧
      (r.closedAt = none → DoneG (.retentionEnd rid n) s fun h => h = g)) ∧
    (∀ m rest, takeFirst (fun m => decide (leAt m.bytes 0 1 = 0x30)) g.rlIn = some (m, rest) →
      let b := m.bytes.drop 16
      let kid := leAt m.bytes 8 2
      let fresh : RedIn := { tray := false, src := kid, attempt := rrAttempt b, state := 0, record := b, gone := false }
      let open' := match g.red rid n with
        | some r => r.ended = false ∧ r.closedAt = none ∧ r.early = [] ∧ ∀ i ∈ r.inputs, i.tray = false → i.src ≠ kid
        | none => g.redClosed d n = false
      (g.decl (rrRid b) = none → g.roomy = true → DoneG .rlReduceRx s fun h =>
        g.Filed h .reduceRefused 0 [] ∧ h.reds = g.reds ∧ h.rlIn = rest) ∧
      (rrRid b = rid → rrPeriod b = n → open' → (rrState b = 0 ∨ rrState b = 3) →
        (d.takes b = false → g.roomy = true → DoneG .rlReduceRx s fun h => g.Filed h .reduceRefused 0 [] ∧ h.reds = g.reds) ∧
        (d.takes b = true → DoneG .rlReduceRx s fun h => ∃ r, h.red rid n = some r ∧ fresh ∈ r.inputs ∧
          { rid := rid, gid := kid, expected := (rrCov b).expected, left := false, members := [] } ∈ h.redKids)) ∧
      (∀ r i, rrRid b = rid → rrPeriod b = n → g.red rid n = some r → r.ended = false → r.closedAt = none → r.out = none →
        r.inputs.find? (fun i => !i.tray && decide (i.src = kid)) = some i → i.attempt = rrAttempt b → (rrState b = 1 ∨ rrState b = 2) →
        DoneG .rlReduceRx s fun h => ∃ r', h.red rid n = some r' ∧ r'.out = none ∧ { r' with inputs := r.inputs } = r ∧
          { i with state := rrState b } ∈ r'.inputs) ∧
      (rrRid b = rid → rrPeriod b = n → (∃ r, g.red rid n = some r ∧ r.ended = true) → g.roomy = true → DoneG .rlReduceRx s fun h =>
        g.Filed h .lateInput 0 (leBytes 4 rid ++ leBytes 8 n ++ leBytes 4 (leAt b 16 4)) ∧ h.reds = g.reds))

/-- History (11 R371–R373, R382–R385): the oldest frame that waits is filed, each value next in its open block; the copy pass of an
export sends its next page, the preserved copy of it where one was kept; an abort or a cancel ends it with its reason.
The model's choices in it: log entry 29. -/
def Obligations.HistoryService : Prop :=
  ∀ (s : State) (ns : Nat), s.g.sys.pwr.rails = true →
    let g := s.g
    let gm := s.g.moveTo ns
    let stat := fun (h : Gremon) => h.regs.get .gremon kExp
    (g.svc.hist.waiting = [] → DoneG .historyFile s fun h => h = g) ∧
    (∀ f, (∃ x ∈ g.svc.hist.waiting, x.frame = f) → (∀ x ∈ g.svc.hist.waiting, f ≤ x.frame) → DoneG .historyFile s fun h =>
      h.svc.hist.waiting = g.svc.hist.waiting.filter (fun x => decide (x.frame ≠ f)) ∧
      h.cores = g.cores ∧ h.kits = g.kits ∧ h.reds = g.reds ∧
      ((∀ o ∈ g.svc.hist.opens, o.vals.length < 511) → ∀ x ∈ g.svc.hist.waiting, x.frame = f → x.lane < 512 →
        ∀ e ∈ g.sampleElems x (g.histEnt f) 0, ∃ o ∈ h.svc.hist.opens,
          o.eid = e.eid ∧ o.job = e.job ∧ o.chan = e.chan ∧ o.tier = 0 ∧ o.stat = 0 ∧ o.vals.getLast? = some e.val ∧ o.first + o.vals.length = f + 1)) ∧
    (g.svc.hist.exp = none → DoneG .exportPageCopy s (fun h => h = g) ∧ DoneG (.exportAbort ns) s fun h => h = gm) ∧
    (∀ e, g.svc.hist.exp = some e →
      let a := match Tbl.find e.kept e.next with
        | some i => hbmCna (hpaCow + 4096 * i)
        | none => hbmCna (hpaHist + 4096 * e.next)
      let bs := if g.flowPoison 30 a 4096 then List.replicate 4096 0 else g.rdBytes a 4096
      (e.next + 1 < e.first + e.pages → DoneG .exportPageCopy s fun h =>
        (∃ e', h.svc.hist.exp = some e' ∧ e'.next = e.next + 1 ∧ Tbl.find e'.kept e.next = none ∧
          (e.cmd.isQp = false → e'.sent = e.sent ++ bs) ∧ e'.first = e.first ∧ e'.pages = e.pages) ∧
        (g.flowPoison 30 a 4096 = false → h.log = g.log) ∧
        (g.flowPoison 30 a 4096 = true → g.roomy = true → g.Filed h .lostPage 0 (leBytes 4 e.next)) ∧
        (e.cmd.isQp = true → ∃ segs, h.host.dma = (g.writeReply segs bs).host.dma ∧
          segs = segSlice e.cmd.segs (4096 * (e.next - e.first)) 4096) ∧ h.mem = g.mem) ∧
      (e.first + e.pages ≤ e.next + 1 → DoneG .exportPageCopy s fun h =>
        h.svc.hist.exp = none ∧ bits (stat h) 1 0 = 2 ∧ bits (stat h) 7 4 = 0 ∧ h.mem = g.mem) ∧
      DoneG (.exportAbort ns) s (fun h => h.svc.hist.exp = none ∧ bits (stat h) 1 0 = 3 ∧ bits (stat h) 7 4 = 4 ∧ h.mem = gm.mem ∧
        ∀ q, e.cmd.src = .qp q → (gm.raise .hostDmaErr []).roomy = true →
          (gm.raise .hostDmaErr []).Filed h .exportAbort 0 (leBytes 1 4 ++ leBytes 4 (e.next - e.first))) ∧
      ((∀ o k, e.cmd.src ≠ .hcmd o k) → gm.regionLocked .pcie (ind 0x90044) = false → gm.roomy = true →
        DoneG (.exportCancel .pcie ns) s fun h =>
          h.svc.hist.exp = none ∧ bits (stat h) 1 0 = 3 ∧ bits (stat h) 7 4 = 2 ∧ h.mem = gm.mem ∧
          gm.Filed h .exportAbort 0 (leBytes 1 2 ++ leBytes 4 (e.next - e.first))))

/-- A kit's life (12 R397–R405): it is admitted whole or refused with a record of the first failure; it starts at its boundary with
every core at its ENTRY; a missed barrier counts as an overrun and at the wedge limit faults it; a faulted kit restarts under a new
handle; an unload ends when its streams and commands have.
The model's choices in it: log entry 31. -/
def Obligations.KitLife : Prop :=
  ∀ (s : State) (slot : Nat), s.g.sys.pwr.rails = true → slot < 64 → s.g.clock.pt < 2 ^ 104 →
    let g := s.g
    let k := g.kit slot
    let held := !(g.haltsOf (pkJob k.pkg)).isEmpty
    let running := fun (h : Gremon) => ∀ c ∈ pkCodes k.pkg, (h.core c.core).run = true ∧ (h.core c.core).frozen = held ∧
      ((∀ e ∈ pkCodes k.pkg, e.core = c.core → e = c) → (h.core c.core).pc = BitVec.ofNat 22 c.entry)
    ((k.state ≠ 2 ∨ k.waiting ≠ [] ∨ g.clock.own = .unset ∨ 2 ≤ g.sys.pwr.pstate) → DoneG (.kitStart slot) s fun h => h = g) ∧
    (let at' := if k.start = 0 then g.scoreAfter (g.now + 1000000) else k.start
     k.state = 2 → k.waiting = [] → g.clock.own ≠ .unset → g.sys.pwr.pstate < 2 → at' < 2 ^ 64 → DoneG (.kitStart slot) s fun h =>
      running h ∧ (h.kit slot).state = 3 ∧ (h.kit slot).start = at' ∧ at' ≤ h.now ∧ h.log = g.log ∧
      (∀ n, (∀ c ∈ pkCodes k.pkg, c.core ≠ n) → h.core n = g.core n) ∧ ∀ m, m ≠ slot → h.kit m = g.kit m) ∧
    ((k.state ≠ 2 ∨ k.waiting = []) → DoneG (.planApplyTimeout slot) s fun h => h = g) ∧
    (let t := k.committed + 10000000
     k.state = 2 → k.waiting ≠ [] → t < 2 ^ 64 → DoneG (.planApplyTimeout slot) s fun h =>
      h.kit slot = { k with waiting := [], appliedAt := t, start := g.scoreAfter (t + 1000000), lagging := sat 255 (k.lagging + k.waiting.length) } ∧
      t ≤ h.clk ∧ ∀ l, k.waiting = [l] → g.roomy = true → g.Filed h .planLagging 0 (leBytes 4 (g.pda l))) ∧
    (∀ i ph, k.phases[i]? = some ph →
      let len := if phCad k.pkg i = 0 then g.frameNs else g.scoreNs
      let due := k.start + (ph.next + 1) * len + phDead k.pkg i
      let gen := (g.obj (k.obj0 + phBar k.pkg i)).gen
      let met := (gen + 2 ^ 32 - (ph.next + 1) % 2 ^ 32) % 2 ^ 32 < 2 ^ 31
      let stops := k.state ≠ 3 ∨ 1 < phCad k.pkg i ∨ ∃ n ∈ k.cores, (g.core n).frozen = true
      let late := if g.sys.pwr.brace then ph.late else ph.late + 1
      (stops → DoneG (.phaseDeadline slot i) s fun h => h = g) ∧
      (¬stops → due < 2 ^ 64 → 0 < schedWedge k.pkg →
        (met → DoneG (.phaseDeadline slot i) s fun h => due ≤ h.clk ∧ h.log = g.log ∧
          h.kit slot = { k with phases := k.phases.set i { next := ph.next + 1, late := 0 } }) ∧
        (¬met → late < schedWedge k.pkg → g.roomy = true → DoneG (.phaseDeadline slot i) s fun h => g.Filed h .kitOverrun 0 [] ∧
          h.kit slot = { k with phases := k.phases.set i { next := ph.next + 1, late := late }, overruns := sat 0xFFFF (k.overruns + 1) }) ∧
        (¬met → schedWedge k.pkg ≤ late → DoneG (.phaseDeadline slot i) s fun h => (h.kit slot).state = 5 ∧ (h.kit slot).cause = 1 ∧
          (h.kit slot).haltNow = true ∧ (h.kit slot).faults = sat 255 (k.faults + 1)))) ∧
    ((k.restartAt = none ∨ k.state ≠ 5 ∨ k.unload = true ∨ 2 ≤ g.sys.pwr.pstate ∨ held = true) →
      DoneG (.kitRestart slot) s fun h => h = g) ∧
    (∀ t, k.restartAt = some t → k.state = 5 → k.unload = false → g.sys.pwr.pstate < 2 → held = false → g.scoreAfter t < 2 ^ 64 →
      (∀ n ∈ k.cores, (g.servedBy (n / 32) (n % 32)).all (fun p => !(g.coreNote (n / 32) p).move) = true) →
      let bad := g.placeBad k.pkg k.hbm k.ft || k.cores.any fun n => !g.slotServed (n / 32) (n % 32)
      (bad = true → g.roomy = true → DoneG (.kitRestart slot) s fun h => g.Filed h .kitRestartFail 0 [] ∧
        h.kit slot = { k with haltNow := false, restarts := k.restarts - 1, restartAt := none }) ∧
      (bad = false → DoneG (.kitRestart slot) s fun h => running h ∧ (h.kit slot).handle = g.kitNext ∧ (h.kit slot).state = 3 ∧
        (h.kit slot).restarts = k.restarts - 1 ∧ (h.kit slot).restartAt = none ∧ (h.kit slot).start = g.scoreAfter t ∧
        (h.kit slot).cause = 0 ∧ g.scoreAfter t ≤ h.clk)) ∧
    (let busy := ∃ n ∈ k.cores, (g.core n).streams ≠ [] ∨ (∃ e ∈ g.eng, e.core = n) ∨ ∃ m ∈ g.msnd, m.core = n
     ((k.state ≠ 4 ∨ k.haltNow = true ∨ busy) → DoneG (.kitUnloadDone slot) s fun h => h = g) ∧
     (k.state = 4 → k.haltNow = false → ¬busy → DoneG (.kitUnloadDone slot) s fun h => h.kit slot = KitSlot.empty ∧
      (∀ i, i < k.nobj → h.obj (k.obj0 + i) = SyncObj.free) ∧ (∀ n ∈ k.cores, (h.core n).run = false ∧ (h.core n).grants = BCore.idle.grants) ∧
      (∀ e ∈ h.ens, e.kit ≠ k.handle) ∧ h.mem = g.mem ∧ ∀ m, m ≠ slot → h.kit m = g.kit m)) ∧
    (∀ c r, s.HasCmd 0x02 c r → match g.kitOf (c.param 0 2) with
      | some (n, e) => DoneC .kitUnload s c 0 0 [] [] fun x =>
          x = (s.took r).setKit n { e with state := 4, unload := true, haltNow := true, restartAt := none }
      | none => DoneC .kitUnload s c 2 0 [] [] fun x => x = s.took r) ∧
    (∀ c r sigOk, s.HasCmd 0x01 c r →
      let y := s.took r
      let i := y.kitIntegrity c.data false sigOk
      (i.1 ≠ 0 → DoneC (.kitLoad sigOk) s c 1 i.1 (leBytes 2 0) (refusalRec c.data i.1 i.2.1 i.2.2 0 0 0 0) fun x => x = y) ∧
      (∀ f fs, i.1 = 0 → y.kitResources c.data = f :: fs → f.code ≠ 0 → DoneC (.kitLoad sigOk) s c 1 f.code (leBytes 2 0)
        (refusalRec c.data f.code 255 f.detail ((f :: fs).foldl (fun b x => b ||| 2 ^ (x.code - 16)) 0) f.asked f.free 0) fun x => x = y) ∧
      (i.1 = 0 → y.kitResources c.data = [] → y.placeKit c.data false = none →
        DoneC (.kitLoad sigOk) s c 1 10 (leBytes 2 0) (refusalRec c.data 10 255 0 0 0 0 0) fun x => x = y) ∧
      (∀ n z, i.1 = 0 → y.kitResources c.data = [] → y.placeKit c.data false = some (n, z) →
        DoneC (.kitLoad sigOk) s c 0 0 (leBytes 2 g.kitNext) (refusalRec c.data 0 255 0 0 0 0 g.kitNext) fun x => x = z ∧
          (g.kit n).state = 0 ∧ (x.kit n).state = 2 ∧ (x.kit n).pkg = c.data ∧ (x.kit n).handle = g.kitNext ∧ (x.kit n).boot = false ∧
          ∀ m, m ≠ n → x.kit m = g.kit m))

/-! ### Ridgeline and the pod (13) -/

/-- Flits, replay and credits (13 R416–R419, R421, R422, R428): a slot sends a replay, then a pending CTL flit, then the class that
the function of R422 picks, else NULL, and a port that is open repeats its INIT until it hears the far side open; a flit in sequence is accepted and a whole message handed on, or forwarded with one more hop;
one out of sequence is answered by one NAK; a bad CRC is counted; CREDIT adds what has been freed; a NAK or a time-out goes back, and
the sixteenth takes the port DOWN.
Training, INIT, lanes and observation (13 R413–R415, R419, R424, 06 R229): a port that is DOWN trains, unless its RD has failed; four lanes at lock begin INIT and
fewer leave it FAILED; INIT resumes where both sides kept their state and the epoch, and starts fresh otherwise, also where the far
side no longer resumes; a lane above the
limit, or that loses lock, is asked to be left for the spare; with none left, or taken already, the port is FAILED; a sample adds the depth and the wait
of the head to its window.
The model's choices in it: log entries 4, 17, 18. -/
def Obligations.RidgelineFlits : Prop :=
  (∀ (s : State) (p ns : Nat) (f : List Byte), s.g.sys.pwr.rails = true → p < 6 →
    let g := s.g.moveTo ns
    let x := g.port p
    let leaves := fun (i : Instr) (y : RlPort) => DoneG i s fun h =>
      h.port p = y ∧ (∀ q, q ≠ p → h.port q = g.port q) ∧ { h with ports := g.ports } = g
    let full := g.fillBuckets p g.clk
    let y := full.port p
    let vc := flVc f
    let key := 256 * vc + flTag f
    let bs := (f.drop 8).take (min 244 (flLen f + 1))
    let taken := { x with expect := x.expect + 1, ack := flSeq f, ackv := true, nakOpen := false, farOpen := true
                          freed := setNth x.freed vc (nth 0 x.freed vc + 1) }
    (x.st.isOpen = false → x.st ≠ .init → DoneG (.rlTxSlot p ns) s fun h => h = full) ∧
    (x.st = .init → x.ctl = [] → (x.initSent = none ∨ g.clk < x.initAt + 1000) → DoneG (.rlTxSlot p ns) s fun h =>
      h = full.setPort p { y with wire := rlFlit x.ackBits [] }) ∧
    (∀ r n e, x.st = .init → x.ctl = [] → x.initSent = some (r, n, e) → x.initAt + 1000 ≤ g.clk → DoneG (.rlTxSlot p ns) s fun h =>
      h = full.setPort p { y with initAt := g.clk, wire := rlFlit (3 + x.ackBits) ((rlInit r n e g.gid).drop 1) }) ∧
    (∀ i t, x.st.isOpen = true → x.replayAt = some i → x.replay[i]? = some t → DoneG (.rlTxSlot p ns) s fun h =>
      h = full.setPort p { y with replayAt := if i + 1 < x.replay.length then some (i + 1) else none, wire := x.dataFlit t }) ∧
    (∀ c r, ((x.st.isOpen = true ∧ x.replayAt = none) ∨ x.st = .init) → x.ctl = c :: r → DoneG (.rlTxSlot p ns) s fun h =>
      h = full.setPort p { y with
        ctl := r, wire := rlFlit (leAt c 0 1 + x.ackBits) (c.drop 1), initAt := if leAt c 0 1 = 3 then g.clk else x.initAt }) ∧
    (∀ r n e, x.st.isOpen = true → x.replayAt = none → x.ctl = [] → x.farOpen = false → x.initSent = some (r, n, e) → x.initAt + 1000 ≤ g.clk →
      DoneG (.rlTxSlot p ns) s fun h =>
        h = full.setPort p { y with initAt := g.clk, wire := rlFlit (3 + x.ackBits) ((rlInit r n e g.gid).drop 1) }) ∧
    (x.st.isOpen = true → x.replayAt = none → x.ctl = [] → (x.farOpen = true ∨ x.initSent = none ∨ g.clk < x.initAt + 1000) →
      (y.pick = none → DoneG (.rlTxSlot p ns) s fun h => h = full.setPort p { y with wire := rlFlit x.ackBits [] }) ∧
      ∀ c, y.pick = some c → DoneG (.rlTxSlot p ns) s fun h =>
        let z := h.port p
        let k := y.classes.getD c RlClass.reset
        ∃ m ∈ k.q, ∃ t, z.replay = x.replay ++ [t] ∧ t.vc = vcOf c ∧ t.seq = x.nextSeq ∧ t.som = m.tag.isNone ∧ z.wire = x.dataFlit t ∧
          z.nextSeq = x.nextSeq + 1 ∧ nth 0 z.credits (vcOf c) + 1 = nth 0 x.credits (vcOf c) ∧ z.virt = k.start ∧
          (∀ d, d < 5 → d ≠ c → z.classes.getD d RlClass.reset = y.classes.getD d RlClass.reset) ∧
          (z.classes.getD c RlClass.reset).peak + tokenUnit = k.peak ∧ ∀ q, q ≠ p → h.port q = g.port q) ∧
    (x.st.isOpen = true → goodFlit f 1 → flSeq f = x.expect → flSom f = true → Tbl.find x.rx key = none → rlHdrOk vc bs = true →
      (flEom f = true → flAbort f = false → g.rlRoute bs = none → rlMsgOk vc bs = true → DoneG (.rlDataFlitRx p f ns) s fun h =>
        (∃ e, h.rlIn = g.rlIn ++ [e] ∧ e.port = p ∧ e.bytes = bs) ∧ { h.port p with dropRun := x.dropRun, rxMsgs := x.rxMsgs, rx := x.rx } = taken ∧
        (∀ q, q ≠ p → h.port q = g.port q) ∧ h.log = g.log ∧ h.mem = g.mem) ∧
      (flEom f = true → flAbort f = false → g.rlRoute bs = none → rlMsgOk vc bs = false → g.roomy = true →
        DoneG (.rlDataFlitRx p f ns) s fun h => h.rlIn = g.rlIn ∧ g.Filed h .rlBadMsg 0 [] ∧ (h.port p).badMsg = sat 255 (x.badMsg + 1)) ∧
      (∀ out, g.rlRoute bs = some out → out < 6 → leAt bs 2 1 + 1 < 32 → DoneG (.rlDataFlitRx p f ns) s fun h =>
        h.queued out ((rlTypeClass (leAt bs 0 1) vc).getD vcBulk) (bs.take 2 ++ leBytes 1 (leAt bs 2 1 + 1) ++ bs.drop 3) ∧ h.rlIn = g.rlIn) ∧
      (∀ out, g.rlRoute bs = some out → 32 ≤ leAt bs 2 1 + 1 → g.roomy = true → DoneG (.rlDataFlitRx p f ns) s fun h =>
        h.rlIn = g.rlIn ∧ g.Filed h .rlHops 0 [])) ∧
    (x.st.isOpen = true → goodFlit f 1 → flSeq f ≠ x.expect →
      leaves (.rlDataFlitRx p f ns) (if x.nakOpen then { x with farOpen := true }
        else { x with nakOpen := true, ctl := x.ctl ++ [rlNak x.expect], farOpen := true })) ∧
    ((x.st.isOpen = true ∨ x.st = .init) → flCrcOk f = false →
      leaves (.rlDataFlitRx p f ns) { x with crcErr := x.crcErr + 1 } ∧ leaves (.rlNullFlitRx p f ns) { x with crcErr := x.crcErr + 1 }) ∧
    (goodFlit f 0 → leaves (.rlNullFlitRx p f ns) x) ∧
    (∀ k, x.st.isOpen = true → flCrcOk f = true → flHdrOk f = true → flKind f = 0 → flAckv f = true → rlAckCount (flAck f) x.replay = some k →
      x.replayAt = none → leaves (.rlNullFlitRx p f ns) { x with replay := x.replay.drop k, goBacks := 0 }) ∧
    (x.st.isOpen = true → goodFlit f 2 → leAt f 8 1 = 1 → DoneG (.rlCtlCredit p f ns) s fun h =>
      ∃ cr fr, h.port p = { x with credits := cr, freedSeen := fr, farOpen := true } ∧ { h with ports := g.ports } = g ∧ ∀ k, k < 4 →
        nth 0 fr k = BitVec.ofNat 32 (leAt f (16 + 4 * k) 4) ∧
        nth 0 cr k = nth 0 x.credits k + (BitVec.ofNat 32 (leAt f (16 + 4 * k) 4) - nth 0 x.freedSeen k).toNat) ∧
    (x.st.isOpen = true → x.replay ≠ [] →
      let back := { x with replayAt := some 0, goBacks := x.goBacks + 1, goBackCnt := x.goBackCnt + 1 }
      (x.goBacks < 15 → leaves (.rlReplayTimeout p ns) back ∧ (goodFlit f 2 → leAt f 8 1 = 2 → DoneG (.rlCtlNak p f ns) s fun h =>
        h.port p = { back with farOpen := true })) ∧
      (15 ≤ x.goBacks → DoneG (.rlReplayTimeout p ns) s fun h => (h.port p).st = .down ∧ (h.port p).replay = x.replay ∧ (h.port p).goBacks = 0)) ∧
    (x.st.isOpen = true → x.nakOpen = true → leaves (.rlNakRepeat p ns) { x with ctl := x.ctl ++ [rlNak x.expect] }) ∧
    (x.st.isOpen = true → x.freed ≠ x.freedSent → leaves (.rlCreditTimer p ns) { x with ctl := x.ctl ++ [rlCredit x], freedSent := x.freed })) ∧
  (∀ (s : State) (p ns : Nat) (f : List Byte), s.g.sys.pwr.rails = true → p < 6 →
    let g := s.g.moveTo ns
    let x := g.port p
    let leaves := fun (i : Instr) (y : RlPort) => DoneG i s fun h =>
      h.port p = y ∧ (∀ q, q ≠ p → h.port q = g.port q) ∧ { h with ports := g.ports } = g
    (g.fld (kDieStat (rdOf p)) 1 0 ≠ 3 → (x.st = .down ∨ x.st = .failed) →
      leaves (.rlTrainStart p ns) { x with st := .training, initSeen := false }) ∧
    (g.fld (kDieStat (rdOf p)) 1 0 = 3 → DoneG (.rlTrainStart p ns) s fun h => h = g) ∧
    (∀ lns, x.st = .training →
      let good := (List.range 5).filter lns.contains
      (good.length < 4 → g.roomy = true → DoneG (.rlAlignmentLock p lns ns) s fun h => g.Filed h .rlPortFail 0 [] ∧
        { h with log := g.log } = g.setPort p { x with st := .failed }) ∧
      (4 ≤ good.length → DoneG (.rlAlignmentLock p lns ns) s fun h =>
        let z := h.port p
        z.st = .init ∧ z.active = good.take 4 ∧ z.txActive = good.take 4 ∧ z.spare = good[4]? ∧ z.txSpare = good[4]? ∧ z.eqSaved = true ∧
        let ep := if x.keeps then x.epoch else x.epoch + 1
        z.initSent = some (x.keeps, x.expect, ep) ∧ z.ctl = [rlInit x.keeps x.expect ep g.gid] ∧ z.replay = x.replay ∧
        (∀ q, q ≠ p → h.port q = g.port q) ∧ { h with ports := g.ports } = g)) ∧
    (x.st = .init → x.initSeen = false → goodFlit f 3 → leAt f 9 1 = 0 → leAt f 32 8 < 1024 →
      let resume := (∃ next ep, x.initSent = some (true, next, ep)) ∧ leAt f 8 1 = 1 ∧ BitVec.ofNat 32 (leAt f 12 4) = x.farEpoch
      DoneG (.rlInitRx p f ns) s fun h =>
        let z := h.port p
        let kept := x.takeAck true (BitVec.ofNat 12 (leAt f 10 2) - 1)
        z.st = .up ∧ z.initSeen = true ∧ z.neighbour = some (leAt f 32 8) ∧
        (resume → z.replay = kept.replay ∧ z.expect = x.expect ∧ z.nextSeq = x.nextSeq ∧ z.credits = x.credits ∧ z.rx = x.rx ∧
          z.replayAt = (if kept.replay.isEmpty then none else some 0)) ∧
        (¬resume → z.farEpoch = BitVec.ofNat 32 (leAt f 12 4) ∧ z.replay = [] ∧ z.expect = 0 ∧ z.nextSeq = 0 ∧ z.ackv = false ∧ z.rx = [] ∧
          ∀ k, k < 4 → nth 0 z.credits k = leAt f (16 + 4 * k) 4)) ∧
    (x.st.isOpen = true → x.initSeen = true → goodFlit f 3 → leAt f 9 1 = 0 → leAt f 32 8 < 1024 →
      let kept := ∃ next ep, x.initSent = some (true, next, ep)
      (kept → leAt f 8 1 = 0 → DoneG (.rlInitRx p f ns) s fun h =>
        let z := h.port p
        z.st = .up ∧ z.replay = [] ∧ z.expect = 0 ∧ z.nextSeq = 0 ∧ z.epoch = x.epoch + 1 ∧ z.farEpoch = BitVec.ofNat 32 (leAt f 12 4)) ∧
      (¬kept ∨ leAt f 8 1 = 1 → leaves (.rlInitRx p f ns)
        { x with farOpen := false, farEpoch := if leAt f 8 1 = 1 then x.farEpoch else BitVec.ofNat 32 (leAt f 12 4) })) ∧
    (∀ lane, x.st.isOpen = true → goodFlit f 2 → leAt f 8 1 = 3 → lane < 8 →
      (leAt f 9 1 = lane → x.txActive.contains lane = true → x.txSpare ≠ none → x.laneMove = none → DoneG (.rlCtlLane p f ns) s fun h =>
        (h.port p) = { x with laneMove := some (lane, g.boundaryAfter 5000), farOpen := true }) ∧
      (∀ sp, leAt f 9 1 = 128 + lane → x.active.contains lane = true → x.spare = some sp → DoneG (.rlCtlLane p f ns) s fun h =>
        (h.port p) = { x with active := sp :: x.active.filter (· ≠ lane), spare := none, st := .up
                              lost := lane :: x.lost.filter (· ≠ lane), farOpen := true })) ∧
    (∀ corr uncorr, DoneG (.fecWindowEnd p corr uncorr ns) s fun h =>
      let z := h.port p
      let lossy := fun l => x.active.contains l = true ∧ 100000 < corr.getD l 0
      (∀ l, l < 5 → z.corr.getD l 0 = sat 0xFFFFFF (corr.getD l 0) ∧ z.uncorr.getD l 0 = sat 255 (x.uncorr.getD l 0 + uncorr.getD l 0)) ∧
      (∀ l, l < 5 → lossy l → (∀ m, m < l → ¬lossy m) → x.st = .up → x.spare ≠ none → z.st = .laneWait ∧ z.ctl = x.ctl ++ [rlLane l false 0]) ∧
      ((∀ l, l < 5 → ¬lossy l) → z.st = x.st ∧ z.ctl = x.ctl)) ∧
    (∀ l, x.st = .laneWait → (x.active.contains l = true ∨ x.spare = some l) →
      (x.lost.contains l = true → DoneG (.rlLaneLockLoss p l ns) s fun h => h = g) ∧
      (x.lost.contains l = false → g.roomy = true → DoneG (.rlLaneLockLoss p l ns) s fun h =>
        (h.port p).st = .failed ∧ (h.port p).replay = x.replay ∧ g.Filed h .rlPortFail 0 [])) ∧
    (∀ l, x.st ≠ .laneWait → (x.spare = some l → leaves (.rlLaneLockLoss p l ns) { x with lost := l :: x.lost.filter (· ≠ l), spare := none }) ∧
      (x.spare ≠ some l → (x.active.contains l = false ∨ x.st.isOpen = false) → DoneG (.rlLaneLockLoss p l ns) s fun h => h = g) ∧
      (x.spare ≠ some l → x.spare ≠ none → x.active.contains l = true → x.st.isOpen = true → leaves (.rlLaneLockLoss p l ns)
        { x with lost := l :: x.lost.filter (· ≠ l), st := .laneWait, ctl := x.ctl ++ [rlLane l false 0] }) ∧
      (x.spare = none → x.active.contains l = true → x.st.isOpen = true → g.roomy = true → DoneG (.rlLaneLockLoss p l ns) s fun h =>
        (h.port p).st = .failed ∧ (h.port p).replay = x.replay ∧ g.Filed h .rlPortFail 0 [])) ∧
    (x.st.isOpen = true → DoneG (.rlPortDown p ns) s fun h => (h.port p).st = .down ∧ (h.port p).replay = x.replay ∧
      (h.port p).initSeen = false ∧ (h.port p).rx = [] ∧ h.log = g.log) ∧
    (x.st.isOpen = false → DoneG (.rlPortDown p ns) s fun h => h = g) ∧
    (s.g.clk / 1000000 = (s.g.port p).sampleAt → DoneG (.rlLatencySample p) s fun h =>
      ∀ c, c < 3 → c < (s.g.port p).classes.length →
        let k := (s.g.port p).classes.getD c RlClass.reset
        let z := (h.port p).classes.getD c RlClass.reset
        let d := match k.q.find? RlOut.avail with
          | some m => s.g.clk - m.at'
          | none => 0
        z.samples = k.samples + 1 ∧ z.delaySum = k.delaySum + d ∧ z.delayMax = max k.delayMax d ∧ z.depthMax = max k.depthMax k.depth ∧
          z.beyond = k.beyond + b2n (decide ((if c = 0 then 2000 else 10000) < d)) ∧ z.q = k.q) ∧
    (s.g.clk / 1000000 ≠ (s.g.port p).sampleAt → DoneG (.rlLatencySample p) s fun h => ∀ c, c < 3 →
      let k := (s.g.port p).classes.getD c RlClass.reset
      let b := 0x3000300 + 0x1000 * p + 8 * c
      (h.port p).sampleAt = s.g.clk / 1000000 ∧
      h.regs.get .gremon b = sat 0xFFFF (k.delayMax / 10) + 65536 * sat 0xFFFF ((if k.samples = 0 then 0 else k.delaySum / k.samples) / 10) ∧
      h.regs.get .gremon (b + 4) = sat 0xFFFF k.depthMax + 65536 * sat 0xFFFF k.beyond))

/-- Forming the tree (13 R429–R433): the election takes the least root vector heard; a HELLO is heard, one of the own ID reported;
2 ms without a change form the tree and a JOIN goes up; the root accepts a new ID, saying with MEMBER that one declared failed is back, and refuses one that is held, of which both
sides write DUP_GREMON_ID (R21); members are recorded
under the port their JOIN came on.
Loss and repair (13 R435–R440): a silent PARENT is replaced by the ALT_PARENT, which hears REHOME, or else the old root is stale
and the tree forms again without it; REHOME moves a subtree and brings it the broadcasts held; a lost CHILD port, and PRUNE, take
members out; 50 ms after its pruning a member is declared failed to the pod.
The model's choices in it: log entries 11, 19. -/
def Obligations.PodTree : Prop :=
  (∀ (s : State) (m : RlMsgIn) (r : List RlMsgIn),
    let g := s.g
    let b := m.bytes
    let y := s.heardRl r
    let id := leAt b 16 2
    let ser := BitVec.ofNat 64 (leAt b 24 8)
    let ack := fun (h : Gremon) (v epoch : Nat) => h.queued m.port vcControl (g.rlMsg 0x03 0 id 0 0
      (leBytes 1 v ++ leBytes 1 (leAt b 2 1 + 1) ++ leBytes 2 0 ++ leBytes 4 epoch))
    (let best := g.elect.1.key
     lexLt [g.prio, g.gid, 0, g.gid, 7] best = false ∧
     ∀ e ∈ g.heard, e.2.sender ≠ g.gid → (∀ x ∈ g.tree.stale, x.1 ≠ e.2.root) → g.gid ∉ e.2.path → e.2.depth < 15 →
       lexLt [e.2.rootPrio, e.2.root, e.2.depth + 1, e.2.sender, e.1] best = false) ∧
    (g.sys.pwr.rails = true →
      let beat := if g.root then (g.tree.beat + 1) % 2 ^ 32 else g.tree.beat
      DoneG .helloTimer s fun h => h.tree = { g.tree with beat := beat } ∧ h.clock = g.clock ∧ h.log = g.log ∧
        ∀ p, p < 6 → g.portUp p = true → h.queued p vcControl (g.rlMsg 0x01 1 ((g.neighbour p).getD ((g.port p).neighbour.getD 0)) 0 0
          ({ g with tree := { g.tree with beat := beat } } : Gremon).helloBody)) ∧
    (s.HasRl 0x01 m r →
      let x := Hello.ofMsg b g.clk
      let t := { y with tree := { y.tree with hellos := Tbl.put y.tree.hellos m.port x } }
      (x.sender = g.gid → g.roomy = true → DoneG .helloRx s fun h => { h with log := g.log } = y ∧
        y.Filed h .dupGremonId 0 []) ∧
      (x.sender ≠ g.gid → m.port < 6 → DoneG .helloRx s fun h => h.tree.hellos = Tbl.put y.tree.hellos m.port x ∧
        (h.port m.port).helloAt = some g.clk ∧ (∀ q, q ≠ m.port → h.port q = g.port q) ∧
        (g.tree.phase = 1 → t.elect.2 = false → h.tree.root = t.elect.1.root ∧ h.tree.depth = t.elect.1.depth ∧ h.tree.phase = 1 ∧
          h.tree.parent = (if t.elect.1.port = 7 then none else some t.elect.1.port)) ∧
        (g.tree.phase = 1 → t.elect.2 = true → t.elect.1.root = g.gid → h.tree.phase = 3 ∧ h.tree.parent = none) ∧
        (g.tree.phase = 2 → t.elect.1.root = g.tree.root → h.tree.phase = 2 ∧ h.tree.parent = g.tree.parent ∧ h.tree.root = g.tree.root) ∧
        (g.tree.phase = 2 → t.elect.1.root ≠ g.tree.root → (t.elect.2 = false ∨ t.elect.1.root ≠ g.gid) → h.tree.phase = 1 ∧
          h.tree.root = t.elect.1.root ∧ h.tree.joined = false))) ∧
    (g.sys.pwr.rails = true → g.tree.phase = 1 → DoneG .treeFormed s fun h => h.tree.phase = 2 ∧
      (g.heads → h.tree.joined = true ∧ (g.gid, g.serial) ∈ h.tree.joinedAs ∧ h.ports = g.ports) ∧
      (¬g.heads → ∀ p, g.tree.parent = some p →
        h.queued p vcControl (g.rlMsg 0x02 0 g.tree.root 0 0 (g.joinBody 0 [(g.gid, g.tree.moves)])))) ∧
    (s.HasJoin 0 m r →
      let held := ∃ x ∈ g.tree.joinedAs, x.1 = id ∧ x.2 ≠ ser
      (g.root = true → (id = g.gid ∨ held) → g.roomy = true → DoneG .joinRx s fun h =>
        h.tree = { g.tree with epoch := (g.tree.epoch + 1) % 2 ^ 32 } ∧ ack h 1 ((g.tree.epoch + 1) % 2 ^ 32) ∧ y.Filed h .dupGremonId 0 []) ∧
      (g.root = true → id ≠ g.gid → ¬held → (∃ e ∈ joinList b, e.1 = id) → DoneG .joinRx s fun h =>
        h.tree.joinedAs = (id, ser) :: g.tree.joinedAs.filter (fun x => decide (x.1 ≠ id)) ∧
        h.tree.epoch = (g.tree.epoch + 1) % 2 ^ 32 ∧ (∀ e ∈ joinList b, ∃ x ∈ h.tree.subtree, x.gid = e.1 ∧ x.port = m.port) ∧
        (g.heads → (∀ x ∈ g.tree.joinedAs, x.1 ≠ id) → id ∉ h.tree.failed ∧ (id ∈ g.tree.failed → h.bcastNext = g.bcastNext + 1)) ∧
        ack h 0 ((g.tree.epoch + 1) % 2 ^ 32)) ∧
      (g.root = false → ∀ p, g.tree.parent = some p → leAt b 2 1 < 31 → DoneG .joinRx s fun h =>
        (∀ e ∈ joinList b, ∃ x ∈ h.tree.subtree, x.gid = e.1 ∧ x.port = m.port) ∧ h.tree.joinedAs = g.tree.joinedAs ∧
        h.queued p vcControl (b.take 2 ++ leBytes 1 (leAt b 2 1 + 1) ++ b.drop 3))) ∧
    (s.HasRl 0x03 m r →
      (leAt b 16 1 = 0 → DoneG .joinAckRx s fun h =>
        h.tree = { g.tree with joined := true, none := false, epoch := leAt b 20 4 } ∧ h.mem = g.mem ∧ h.reds = g.reds) ∧
      (leAt b 16 1 ≠ 0 → DoneG .joinAckRx s fun h =>
        h.tree = { g.tree with joined := false, none := true, parent := none, alt := none } ∧ h.ports = g.ports ∧
        (leAt b 16 1 ≠ 1 → h.log = g.log) ∧ (leAt b 16 1 = 1 → g.roomy = true → y.Filed h .dupGremonId 0 [])))) ∧
  (∀ (s : State) (m : RlMsgIn) (r : List RlMsgIn), s.g.sys.pwr.rails = true →
    let g := s.g
    let b := m.bytes
    let stale := fun (h : Gremon) (root : Nat) => (∃ t, (root, t) ∈ h.tree.stale) ∧ (root ≠ g.gid → h.tree.root ≠ root) ∧
      (h.tree.phase = 1 ∨ h.tree.phase = 3) ∧ h.tree.joined = false
    let none' := fun (i : Instr) => DoneG i s fun h => h = g
    (g.tree.parent = none → none' .rootStale) ∧
    (g.tree.parent ≠ none → DoneG .rootStale s fun h => stale h g.tree.root ∧ (∀ x ∈ h.bcasts, x.bid.toNat % 1024 ≠ g.tree.root) ∧
      (∀ x ∈ h.queries, x.qid.toNat % 1024 ≠ g.tree.root) ∧ ∀ x ∈ h.feeds, x.fid.toNat % 1024 ≠ g.tree.root) ∧
    (g.tree.stale = [] → none' .staleExpiry) ∧
    (∀ x ∈ g.tree.stale, (∀ e ∈ g.tree.stale, x.2 ≤ e.2) → DoneG .staleExpiry s fun h =>
      h.tree.stale = g.tree.stale.filter fun e => decide ((g.moveTo (x.2 + 100000000)).clk < e.2 + 100000000)) ∧
    (∀ p, g.tree.parent = some p →
      (∀ a, g.tree.alt = some a → g.portUp a = true → DoneG .parentFail s fun h => h.tree.parent = some a ∧
        h.tree.root = g.tree.root ∧ h.tree.moves = (g.tree.moves + 1) % 256 ∧ h.tree.subtree = g.tree.subtree ∧
        h.queued a vcControl (g.rlMsg 0x02 0 g.tree.root 0 0
          (g.joinBody 1 ((g.gid, (g.tree.moves + 1) % 256) :: g.tree.subtree.map fun x => (x.gid, x.moves))))) ∧
      ((g.tree.alt = none ∨ ∃ a, g.tree.alt = some a ∧ g.portUp a = false) → DoneG .parentFail s fun h => stale h g.tree.root)) ∧
    (s.HasJoin 1 m r →
      let y := s.heardRl r
      let l := g.tree.rehomeList (joinList b)
      (DoneG .rehomeRx s fun h => (∀ e ∈ l, ∃ x ∈ h.tree.subtree, x.gid = e.1 ∧ x.port = m.port ∧ x.rehomed = true) ∧
        (∀ x ∈ g.tree.subtree, (∀ e ∈ l, e.1 ≠ x.gid) → x ∈ h.tree.subtree) ∧ (∀ e ∈ l, ∀ x ∈ h.tree.pruned, x.1 ≠ e.1) ∧
        (¬g.heads → ∀ p, g.tree.parent = some p → leAt b 2 1 < 31 →
          h.queued p vcControl (b.take 2 ++ leBytes 1 (leAt b 2 1 + 1) ++ b.drop 3)) ∧
        (leAt b 2 1 = 0 → (∀ x ∈ g.bcasts, g.clk < x.seenAt + 1000000000 → y.hopped h m.port vcControl 0x20 (x.msg.drop 16))))) ∧
    (s.HasJoin 2 m r →
      let out := fun (x : Member) => ∃ e ∈ joinList b, e.1 = x.gid ∧ (x.moves < e.2 ∨ (e.2 = x.moves ∧ x.rehomed = false))
      DoneG .pruneRx s fun h => (∀ x, x ∈ h.tree.subtree ↔ x ∈ g.tree.subtree ∧ ¬out x) ∧
        (g.heads → ∀ x ∈ g.tree.subtree, out x → ∃ k, (x.gid, k, g.clk) ∈ h.tree.pruned) ∧
        (¬g.heads → ∀ p, g.tree.parent = some p → leAt b 2 1 < 31 →
          h.queued p vcControl (b.take 2 ++ leBytes 1 (leAt b 2 1 + 1) ++ b.drop 3))) ∧
    (∀ p, p < 6 → g.portUp p = false → g.tree.parent ≠ some p →
      let mine := (g.tree.subtree.filter fun x => decide (x.port = p)).map fun x => (x.gid, x.moves)
      DoneG (.childPortDown p) s fun h => h.tree.subtree = g.tree.subtree.filter (fun x => decide (x.port ≠ p)) ∧ h.tree.parent = g.tree.parent ∧
        (g.heads → ∀ e ∈ mine, ∃ k, (e.1, k, g.clk) ∈ h.tree.pruned) ∧
        (¬g.heads → mine ≠ [] → ∀ q, g.tree.parent = some q →
          h.queued q vcControl (g.rlMsg 0x02 0 g.tree.root 0 0 (g.joinBody 2 mine)))) ∧
    ((g.tree.pruned = [] ∨ g.root = false) → none' .memberDeclareFailed) ∧
    (∀ l x, g.tree.pruned = l ++ [x] → g.root = true → x.1 < 65536 → DoneG .memberDeclareFailed s fun h =>
      x.1 ∈ h.tree.failed ∧ (∀ e ∈ h.tree.joinedAs, e.1 ≠ x.1) ∧ (∀ e ∈ h.tree.pruned, e.1 ≠ x.1) ∧ h.bcastNext = g.bcastNext + 1 ∧
      ∃ t, ∀ c ∈ g.childPorts, g.hopped h c vcControl 0x20 (leBytes 8 (g.gid + 1024 * g.bcastNext) ++ leBytes 8 t ++ leBytes 2 3 ++ leBytes 2 0 ++
        leBytes 4 8 ++ leBytes 4 g.tree.epoch ++ leBytes 4 0 ++ (leBytes 2 x.1 ++ leBytes 1 1 ++ leBytes 1 0 ++ leBytes 4 g.tree.epoch))))

/-- Broadcasts (13 R441–R443): a new one is forwarded to every CHILD, delivered and acknowledged for; one seen before is answered and
not delivered again; acknowledgements gather, and at the root end the command once they cover the pod, or at 100 ms as INCOMPLETE.
Messages to kits and forwarded commands (13 R445, R446, 16 R535, 14 R477, 19 R632): a message enters its ring and is acknowledged, or is answered
NORING, and one of another Gremon's services is taken (01 R21, 05 R204, 04 R162, 03 R114); a command from another Gremon starts at the root; the root's answer ends the waiting one, or its time does; advisories reach
the root's books; certificates are asked for, sent and held, and a restore waits 100 ms for one.
The model's choices in it: log entries 11, 20, 21. -/
def Obligations.PodMessages : Prop :=
  (∀ (s : State) (m : RlMsgIn) (r : List RlMsgIn) (q : BcastRec), s.g.sys.pwr.rails = true →
    let g := s.g
    let b := m.bytes
    let y := (s.heardRl r)
    let bid := BitVec.ofNat 64 (leAt b 16 8)
    let kept := fun (x : BcastRec) => g.clk < x.seenAt + 1000000000 ∨ (x.cmd ≠ none ∧ x.ended = false)
    let back := fun (x : BcastRec) => leBytes 8 x.bid.toNat ++ leBytes 2 g.gid ++ leBytes 6 0 ++ idSet x.acks ++ idSet (if g.root then x.fails else [])
    (s.HasRl 0x20 m r → g.bidRec bid = some q → kept q → DoneG .rlBcastRx s fun h => y.hopped h m.port vcControl 0x21 (back q) ∧
      h.tree = g.tree ∧ h.jobs = g.jobs ∧ h.svc = g.svc ∧ h.mem = g.mem) ∧
    (s.HasRl 0x20 m r → (∀ x ∈ g.bcasts, x.bid ≠ bid) →
      let p := (b.drop 48).take (leAt b 36 4)
      DoneG .rlBcastRx s fun h => (∀ c ∈ g.childPorts, y.hopped h c vcControl 0x20 (b.drop 16)) ∧
        (∃ x, h.bidRec bid = some x ∧ x.msg = b ∧ x.done = true ∧ x.acks = [g.gid]) ∧
        (leAt b 32 2 = 1 → h.frameNext = some (leAt p 0 4, leAt p 4 4 / max 1 (leAt p 0 4), leAt p 8 8)) ∧
        (leAt b 32 2 = 3 → (leAt p 0 2 ∈ h.tree.failed ↔ leAt p 2 1 = 1)) ∧
        (leAt b 32 2 = 4 → g.jobInfo (leAt p 0 2) = none → ∃ j, h.jobInfo (leAt p 0 2) = some j ∧ j.epoch = BitVec.ofNat 64 (leAt p 8 8)) ∧
        (leAt b 32 2 = 5 → h.svc.ptSteps = g.svc.ptSteps ++ [(leAt p 0 8, toInt 64 (leAt p 8 8))]) ∧
        (g.root = false → ¬g.heads → g.childPorts = [] → ∀ up, g.tree.parent = some up →
          y.hopped h up vcControl 0x21 (leBytes 8 bid.toNat ++ leBytes 2 g.gid ++ leBytes 6 0 ++ idSet [g.gid] ++ idSet []))) ∧
    (s.HasRl 0x21 m r → g.bidRec bid = some q →
      let acks := (q.acks ++ idsOf (leAt b 32 128)).eraseDups
      let covers := ∀ i ∈ q.expect, i ∈ acks ∨ i ∈ q.fails
      ((g.root = false ∨ q.ended = true ∨ ¬covers) → DoneG .backRx s fun h => ∃ x, h.bidRec bid = some x ∧ x.acks = acks ∧
        m.port ∈ x.answered ∧ x.ended = q.ended ∧ x.cmd = q.cmd) ∧
      (g.root = true → q.ended = false → covers → ∀ c, q.cmd = some c → DoneC .backRx s c 0 0 (leBytes 8 bid.toNat) (idSet acks ++ idSet q.fails) fun x =>
        ∃ z, x.bidRec bid = some z ∧ z.ended = true ∧ z.cmd = none)) ∧
    ((∀ x ∈ g.bcasts, x.expect = [] ∨ x.ended = true) → DoneG .bcastTimeout s fun h => h = g) ∧
    (g.bcasts.find? (fun x => decide (x.expect ≠ []) && !x.ended) = some q → g.bidRec q.bid = some q → ∀ c, q.cmd = some c →
      DoneC .bcastTimeout s c 6 0 (leBytes 8 q.bid.toNat) (idSet q.acks ++ idSet q.fails) fun x =>
        x.bidRec q.bid = some { q with ended := true, cmd := none } ∧ x.clock = g.clock.moveTo (q.issued + 100000000) ∧ x.tree = g.tree)) ∧
  (∀ (s : State) (m : RlMsgIn) (r : List RlMsgIn), s.g.sys.pwr.rails = true →
    let g := s.g
    let b := m.bytes
    let y := (s.heardRl r)
    let reach := fun (d : Nat) => d = g.gid ∨ g.routeTo d ≠ none
    let mack := fun (h : Gremon) v => y.toward h (leAt b 8 2) vcControl 0x45 (leBytes 8 (leAt b 24 8) ++ leBytes 1 v ++ leBytes 7 0)
    (∀ k, s.HasRl 0x44 m r → ownKind b = some k →
      let d := b.drop 36
      let keeps := fun (v : Svc) => DoneG .rlMsgRx s fun h => h = { y with svc := v }
      (k = 1 → DoneG .rlMsgRx s fun h => h.mem = g.mem ∧ h.tree = g.tree ∧ h.svc.hdids = (if leAt d 4 8 = 0 then Tbl.erase g.svc.hdids (leAt d 0 4)
        else Tbl.put g.svc.hdids (leAt d 0 4) (BitVec.ofNat 64 (leAt d 4 8)))) ∧
      (k = 2 → keeps { g.svc with marks := g.svc.marks ++ [{ job := leAt d 0 2, id := leAt d 2 2, lda := leAt d 4 4, recv := bit (leAt d 8 1) 0
                                                             unc := leAt d 10 2, at16 := leAt d 12 10 }] }) ∧
      (k = 3 → keeps { g.svc with minima := g.svc.minima ++ [(leAt d 0 2, leAt d 2 4, leAt d 6 4, toInt 64 (leAt d 10 8))] }) ∧
      (k = 4 → keeps { g.svc with plans := Tbl.put g.svc.plans (leAt d 0 2) (leAt d 2 4) }) ∧
      (k = 0 ∨ 4 < k → keeps g.svc)) ∧
    (s.HasRl 0x44 m r → ownKind b = none → reach (leAt b 8 2) →
      (g.ringFor b = none → DoneG .rlMsgRx s fun h => mack h 7 ∧ h.mem = g.mem) ∧
      ∀ k d, g.ringFor b = some (k, d) →
        let base := g.rd (d + 8) 8
        let esize := g.rd (d + 16) 4
        let count := g.rd (d + 20) 4
        let used := (g.rd base 8 + 2 ^ 64 - g.rd (base + 8) 8) % 2 ^ 64
        let e := base + 64 + (g.rd base 8 % max 1 count) * esize
        let entry := leBytes 2 (leAt b 8 2) ++ leBytes 2 0 ++ leBytes 4 (b.length - 32) ++ leBytes 8 (leAt b 24 8) ++ m.stamp.bytes ++
          leBytes 4 0 ++ b.drop 32
        (bit (g.rd d 4) 0 = false → DoneG .rlMsgRx s fun h => mack h 7 ∧ h.mem = g.mem) ∧
        (bit (g.rd d 4) 0 = true → (esize < 32 + (b.drop 32).length ∨ count ≤ used) → base + 64 < 2 ^ 48 → DoneG .rlMsgRx s fun h =>
          mack h 7 ∧ h.rd (base + 16) 8 = (g.rd (base + 16) 8 + 1) % 2 ^ 64 ∧
          ∀ a, a < 2 ^ 48 → (a < base + 16 ∨ base + 24 ≤ a) → h.byte a = g.byte a) ∧
        (bit (g.rd d 4) 0 = true → 32 + (b.drop 32).length ≤ esize → used < count → 32 ≤ b.length → e + esize < 2 ^ 48 →
          DoneG .rlMsgRx s fun h =>
          mack h 0 ∧ h.rd base 8 = (g.rd base 8 + 1) % 2 ^ 64 ∧ h.rdBytes e entry.length = entry ∧
          ∀ a, a < 2 ^ 48 → (a < base ∨ base + 8 ≤ a) → (a < e ∨ e + entry.length ≤ a) → h.byte a = g.byte a)) ∧
    (s.HasRl 0x26 m r →
      let c : HostCmd := { src := .hcmd (leAt b 16 2) (leAt b 18 1), mid := leAt b 22 2, desc := (b.drop 24).take 64, data := b.drop 88
                           segs := [], due := 0 }
      (g.root = false → DoneG .hcmdRx s fun h => h = y) ∧
      (g.root = true → g.failed = true → DoneC .hcmdRx s c 8 0 [] [] fun x => x = y) ∧
      (g.root = true → g.failed = false → descOk c = false → DoneC .hcmdRx s c 2 0 [] [] fun x => x = y) ∧
      (g.root = true → g.failed = false → descOk c = true → g.permitted c = false → DoneC .hcmdRx s c 3 0 [] [] fun x => x = y) ∧
      (g.root = true → g.failed = false → descOk c = true → g.permitted c = true → DoneG .hcmdRx s fun h =>
        h = { y with host := { y.host with cmds := y.host.cmds ++ [c] } })) ∧
    (s.HasRl 0x27 m r →
      let mine := fun (c : HostCmd) => decide (c.tag = leAt b 20 2) && decide (g.clk ≤ c.due) && (match c.src with
        | .qp n => decide (n = leAt b 18 1)
        | _ => decide (leAt b 18 1 = 0xFF))
      (takeFirst mine g.host.fwd = none → DoneG .hrspRx s fun h => h = y) ∧
      ∀ c l, takeFirst mine g.host.fwd = some (c, l) →
        DoneC .hrspRx s c (leAt b 26 1) (leAt b 36 4) ((b.drop 40).take 16) (b.drop 56) fun x =>
          { x with regs := y.regs } = { y with host := { y.host with fwd := l } } ∧ (leAt b 26 1 ≠ 1 ∨ leAt b 18 1 ≠ 0xFF → x.regs = y.regs)) ∧
    (g.host.fwd = [] → DoneG .hcmdUnreach s fun h => h = g) ∧
    (∀ l c t, g.host.fwd = l ++ c :: t → (∀ x ∈ l, c.due < x.due) → (∀ x ∈ t, c.due ≤ x.due) → DoneC .hcmdUnreach s c 7 0 [] [] fun x =>
      x = { g.moveTo c.due with host := { g.host with fwd := l ++ t } }) ∧
    (s.HasRl 0x22 m r →
      let a := (b.drop 16).take 48
      (g.root = false → DoneG .rlLanternRx s fun h => h = y) ∧
      (g.root = true → DoneG .rlLanternRx s fun h =>
        (∃ e ∈ h.svc.lan.root, e.eid = leAt a 0 4 ∧ e.leid = leAt a 4 4 ∧ e.job = leAt a 8 2 ∧ e.level = leAt a 10 1 ∧ e.risk = leAt a 12 2) ∧
        (∀ x ∈ h.svc.lan.root, (bits x.eid 31 30 = 1 ∨ bits x.eid 31 30 = 2) → x.level ≤ h.svc.lan.podLevel ∧ x.risk ≤ h.svc.lan.podRisk) ∧
        ∀ x ∈ g.svc.lan.root, x.eid ≠ leAt a 0 4 → x ∈ h.svc.lan.root)) ∧
    (s.HasRl 0x28 m r → reach (leAt b 8 2) → DoneG .certreqRx s fun h => ∃ chain : List Byte, 1 ≤ chain.length ∧ chain.length ≤ 4096 ∧
      y.toward h (leAt b 8 2) vcBulk 0x29
        (leBytes 8 g.serial.toNat ++ leBytes 2 g.gid ++ leBytes 6 0 ++ leBytes 4 chain.length ++ leBytes 4 0 ++ chain)) ∧
    (s.HasRl 0x29 m r → ∀ sigOk, DoneG (.certRx false sigOk) s (fun h => h = y) ∧ DoneG (.certRx true sigOk) s fun h =>
      (leAt b 24 2, BitVec.ofNat 64 (leAt b 16 8), b.drop 40) ∈ h.sys.prot.certs ∧
      (∀ x ∈ g.sys.prot.certs, x.1 ≠ leAt b 24 2 → x ∈ h.sys.prot.certs) ∧
      h.svc.cont.waits = g.svc.cont.waits.filter (fun w => decide (pmRoot w.cmd.data ≠ leAt b 24 2)) ∧
      (sigOk = false → h.svc.cont.restores = g.svc.cont.restores) ∧
      (sigOk = true → ∀ w ∈ g.svc.cont.waits, pmRoot w.cmd.data = leAt b 24 2 → ∃ x ∈ h.svc.cont.restores, x.job = w.cmd.job)) ∧
    (g.svc.cont.waits = [] → DoneG .mcertUnavailable s fun h => h = g) ∧
    (∀ w t, g.svc.cont.waits = w :: t → g.roomy = true → DoneC .mcertUnavailable s w.cmd 1 0x131 [] [] fun x =>
      (g.moveTo (w.at' + 100000000)).Filed x .mcertUnavailable 0 [] ∧ x.svc.cont.waits = t ∧ x.mem = g.mem))

/-- Queries (13 R447–R449, 14 R490): a QUERY goes to the children that hold a target and is answered by what this Gremon holds; answers gather,
late ones are reported; at its deadline a merging query is closed with what has come and an assembled one ends with the parts that came.
Feeds and the ladder (13 R450–R453, 16 R540): the feed whose period is due first is sent to the root at its level; a FEED record goes to the
queues of the MID that opened it, after the record of a period that its sender discarded; a LADDER is recorded and passed to every CHILD; a window above 75 % twice running, or a FEED that
waited two frames, asks for the next level, and a hundred below 25 % for the one before.
The model's choices in it: log entries 23, 24. -/
def Obligations.QueriesAndFeeds : Prop :=
  (∀ (s : State) (m : RlMsgIn) (r : List RlMsgIn) (q : QueryRec), s.g.sys.pwr.rails = true →
    let g := s.g
    let b := m.bytes
    let y := (s.heardRl r)
    let id := BitVec.ofNat 64 (leAt b 16 8)
    let op := qdOp (qmDesc b)
    let down := g.childPorts.filter fun p => (g.behind p).any fun i => g.targets b i
    let late := fun (i : Instr) => DoneG i s fun h => { h with log := g.log } = y ∧
      y.Filed h .lateInput 0 (leBytes 8 (leAt b 16 8) ++ leBytes 4 (eidGremon (leAt b 24 2)))
    let merged := (sortBy (fun (p : Nat × Nat × List Byte) => [p.1]) q.parts).foldl (fun a p => opcMerge (qdOp (qmDesc q.msg)) (qdFmt (qmDesc q.msg)) a p.2.2) q.answer
    let ended := fun (h : Gremon) => ∀ x ∈ h.queries, x.qid = q.qid → x.sent = true ∧ x.parts = []
    let part := fun (i : Instr) => DoneG i s fun h => h.query id = some { q with
      parts := q.parts ++ [(leAt b 24 2, leAt b 26 2, b.drop 64)]
      covs := if bit (leAt b 28 1) 0 then q.covs ++ [(leAt b 24 2, (b.drop 40).take 24)] else q.covs
      waiting := if bit (leAt b 28 1) 0 then q.waiting.filter (fun w => decide (w ≠ leAt b 24 2)) else q.waiting
      old := q.old || (bit (leAt b 28 1) 0 && bit (leAt b 28 1) 2) }
    let more := q.waiting.filter (fun w => decide (w ≠ leAt b 24 2)) ≠ [] ∨ (bit (leAt b 28 1) 0 = false ∧ q.waiting ≠ [])
    (s.HasRl 0x40 m r → g.query id = some q → q.sent = false → DoneG .rlQueryRx s fun h => h.query id = some q ∧ h.ports = g.ports ∧ h.mem = g.mem) ∧
    (s.HasRl 0x40 m r → (∀ x ∈ g.queries, x.qid ≠ id) → DoneG .rlQueryRx s fun h =>
      (∀ p ∈ down, y.hopped h p vcControl 0x40 (b.drop 16)) ∧ h.query id ≠ none ∧
      (op = 7 → ∃ f ∈ h.feeds, f.fid = id ∧ f.msg = b ∧ f.levels = [] ∧ f.nextAt = g.now / max 1 g.frameNs + 1) ∧
      (qopMerges op = true → op ≠ 8 → down = [] → g.root = false → ∀ up, g.tree.parent = some up → ∃ cov : List Byte, cov.length = 24 ∧
        y.hopped h up vcBulk 0x41 (qansBody id g.gid 0 (qfl true false (y.queryAge.qOld b)) cov (y.queryAge.qOwn b).1)) ∧
      (qopMerges op = true → down ≠ [] → ∃ x, h.query id = some x ∧ x.sent = false ∧ x.waiting = down ∧ x.msg = b) ∧
      ((op = 0 ∨ op = 9) → g.root = false → g.targets b g.gid = true → (id.toNat % 1024 = g.gid ∨ g.routeTo (id.toNat % 1024) ≠ none) →
        ∃ (cov : List Byte) (n : Nat) (old : Bool), cov.length = 24 ∧
          y.toward h (id.toNat % 1024) vcBulk 0x41 (qansBody id g.gid n (qfl true true old) cov []))) ∧
    (s.HasRl 0x41 m r → g.roomy = true → (g.query id = none ∨ (g.query id = some q ∧ q.sent = true)) → late .rlQansRx) ∧
    (s.HasRl 0x43 m r → g.roomy = true → (g.query id = none ∨ (g.query id = some q ∧ q.sent = true)) → late .rlManifestRx) ∧
    (s.HasRl 0x41 m r → g.query id = some q → q.sent = false →
      (qopMerges (qdOp (qmDesc q.msg)) = true → (∀ x ∈ q.covs, x.1 ≠ leAt b 24 2) → q.waiting.filter (fun p => decide (p ≠ m.port)) ≠ [] →
        DoneG .rlQansRx s fun h => h.query id = some { q with
          parts := q.parts ++ [(leAt b 24 2, 0, b.drop 64)], covs := q.covs ++ [(leAt b 24 2, (b.drop 40).take 24)]
          waiting := q.waiting.filter (fun p => decide (p ≠ m.port)), old := q.old || bit (leAt b 28 1) 2 }) ∧
      (qopMerges (qdOp (qmDesc q.msg)) = true → (∀ x ∈ q.covs, x.1 ≠ leAt b 24 2) → q.waiting.filter (fun p => decide (p ≠ m.port)) = [] →
        DoneG .rlQansRx s ended) ∧
      (qopMerges (qdOp (qmDesc q.msg)) = false → bit (leAt b 28 1) 1 = true → more → part .rlQansRx)) ∧
    (s.HasRl 0x43 m r → g.query id = some q → q.sent = false → more → part .rlManifestRx) ∧
    (g.queryFirst true (fun x => x.deadline - g.tree.depth * qmHop x.msg) = none → DoneG .qansDeadline s fun h => h = g) ∧
    (g.queryFirst false (·.deadline) = none → DoneG .queryDeadline s fun h => h = g) ∧
    (let gm := g.moveTo (q.deadline - g.tree.depth * qmHop q.msg)
     g.queryFirst true (fun x => x.deadline - g.tree.depth * qmHop x.msg) = some q → qdOp (qmDesc q.msg) ≠ 8 →
      (g.root = false → ∀ up, g.tree.parent = some up → DoneG .qansDeadline s fun h => ended h ∧ ∃ cov : List Byte, cov.length = 24 ∧
        gm.hopped h up vcBulk 0x41 (qansBody q.qid g.gid 0 (qfl true false q.old) cov merged)) ∧
      (g.root = true → ∀ c, q.cmd = some c → DoneG .qansDeadline s fun h => ∃ (x : Gremon) (cov : List Byte), cov.length = 24 ∧ ended x ∧
        h = x.complete c 0 0 q.result (cov ++ leBytes 8 0 ++ merged))) ∧
    (g.queryFirst false (·.deadline) = some q → ∀ c, q.cmd = some c → DoneG .queryDeadline s fun h =>
      ∃ (x : Gremon) (res reply : List Byte), h = x.complete c 0 0 res reply ∧ ended x ∧
        ((qdOp (qmDesc q.msg) = 0 ∨ qdOp (qmDesc q.msg) = 9) → res = q.result) ∧
        (qdOp (qmDesc q.msg) = 0 →
          let body := (sortBy (fun i => [i]) (q.covs.map (·.1))).map fun i =>
            (i, if i = g.gid then partsOf q i else seriesUnwire ((partsOf q i).length + 1) (partsOf q i))
          reply.drop 32 = (sortBy (fun (e : List Byte) => [leAt e 0 4, leAt e 4 2, leAt e 8 8])
            (body.flatMap fun e => seriesSplit (e.2.length + 1) e.2)).flatten))) ∧
  (∀ (s : State) (m : RlMsgIn) (r : List RlMsgIn) (f : FeedRec), s.g.sys.pwr.rails = true →
    let g := s.g
    let b := m.bytes
    let y := (s.heardRl r)
    let fid := BitVec.ofNat 64 (leAt b 16 8)
    let ladder := fun (b h : Gremon) (id : W64) (frame level who : Nat) => ∀ c ∈ g.childPorts, b.hopped h c vcControl 0x23
      (leBytes 8 id.toNat ++ leBytes 8 frame ++ leBytes 1 level ++ leBytes 1 0 ++ leBytes 2 who ++ leBytes 4 0)
    ((g.feedsHere = [] ∨ g.sys.pwr.pstate = 3) → DoneG .feedPeriod s fun h => h = g) ∧
    (∀ l t, g.feedsHere = l ++ f :: t → (∀ x ∈ l, g.feedDue f < g.feedDue x) → (∀ x ∈ t, g.feedDue f ≤ g.feedDue x) → g.sys.pwr.pstate < 2 →
      (f.fid.toNat % 1024 = g.gid ∨ g.routeTo (f.fid.toNat % 1024) ≠ none) → DoneG .feedPeriod s fun h =>
        (g.moveTo (g.feedDue f)).toward h (f.fid.toNat % 1024) vcBulk 0x42 (leBytes 8 f.fid.toNat ++ leBytes 8 f.nextAt ++ leBytes 2 g.gid ++
          leBytes 1 f.level ++ leBytes 1 0 ++ leBytes 4 (g.feedData f).length ++ (g.feedCov f).bytes ++ g.feedData f) ∧
        ∀ x ∈ h.feeds, x.fid = f.fid → x.nextAt = f.nextAt + f.frames ∧ ∀ e ∈ x.got, f.nextAt + f.frames ≤ e.frame) ∧
    (s.HasRl 0x42 m r → (g.root = false ∨ ∀ x ∈ g.feeds, x.fid ≠ fid) → DoneG .rlFeedRx s fun h => h = y) ∧
    (s.HasRl 0x42 m r → g.root = true → g.feeds.find? (fun x => decide (x.fid = fid)) = some f →
      let out := fun (x : Gremon) (body : List Byte) =>
        let o : OutRec := { kind := 7, prov := false, job := qmJob f.msg, body := body }
        ((List.range 16).filter fun k => x.rqTakes k o && decide (x.reg (kRq k 0x1C) = f.mid)).foldl (fun x k => x.deliverTo k o) x
      let i := leAt b 32 2
      let set := fun (x : Gremon) => ({ x with feeds := x.feeds.map fun z => if z.fid = fid then { z with
        heard := (i, leAt b 24 8 + (if leAt b 34 1 = 2 then 10 else 1)) :: z.heard.filter fun e => decide (e.1 ≠ i) } else z } : Gremon)
      DoneG .rlFeedRx s fun h =>
        ((∀ e ∈ f.heard, e.1 = i → leAt b 24 8 ≤ e.2) → h = out (set y) (b.drop 16)) ∧
        ∀ n, f.heard.find? (fun e => decide (e.1 = i)) = some (i, n) → n < leAt b 24 8 → leAt b 24 8 ≤ n + 10 →
          h = out (set (out y (y.feedLost f i n))) (b.drop 16)) ∧
    (s.HasRl 0x23 m r → DoneG .rlLadderRx s fun h =>
      h.feeds = g.feeds.map (fun x => if x.fid = fid then { x with levels := x.levels ++ [(leAt b 34 2, leAt b 32 1, leAt b 24 8)] } else x) ∧
      ladder y h fid (leAt b 24 8) (leAt b 32 1) (leAt b 34 2)) ∧
    (g.tree.parent = none → DoneG .ladderWatch s fun h => h = g) ∧
    (∀ p, g.tree.parent = some p → (g.feeds.map (·.fid)).Nodup → f ∈ g.feeds →
      let gm := g.moveTo ((g.clk / 1000000 + 1) * 1000000)
      let k := (g.port p).classes.getD vcBulk RlClass.reset
      let waited := ∃ x ∈ k.q, x.tag = none ∧ leAt x.bytes 0 1 = 0x42 ∧ x.at' + 2 * g.frameNs < gm.clk
      let high := if 1536 < k.depthMax then f.high + 1 else 0
      let low := if k.depthMax < 512 then f.low + 1 else 0
      let own := ((f.levels.filter fun e => decide (e.1 = g.gid)).getLast?.map (·.2.1)).getD 0
      let frame := (gm.now + 50000 + g.frameNs - 1) / max 1 g.frameNs
      let becomes := fun (h : Gremon) (x : FeedRec) => ∀ z ∈ h.feeds, z.fid = f.fid → z = x
      ((2 ≤ high ∨ waited) → own < 2 → DoneG .ladderWatch s fun h => ladder gm h f.fid frame (own + 1) g.gid ∧
        becomes h { f with high := 0, low := 0, levels := f.levels ++ [(g.gid, own + 1, frame)] }) ∧
      (((high < 2 ∧ ¬waited) ∨ 2 ≤ own) → 100 ≤ low → 0 < own → DoneG .ladderWatch s fun h => ladder gm h f.fid frame (own - 1) g.gid ∧
        becomes h { f with high := high, low := 0, levels := f.levels ++ [(g.gid, own - 1, frame)] }) ∧
      (((high < 2 ∧ ¬waited) ∨ 2 ≤ own) → (low < 100 ∨ own = 0) → DoneG .ladderWatch s fun h => becomes h { f with high := high, low := low })))

/-- Vigil at Gremon (14 R465–R471): at its tick a cut is stamped and counts what came before it, and a HALT cut stops the kits in its
scope unless the module is confidential; it closes once every bank has come, or VWIN after its tick, with a record and coverage; a
RESUME ends its halt, and kits that no other halt holds go on.
The Lantern service and the checkpoint trigger (14 R474–R482): once a scoring period the block of the period before is read; a
usable one sets risk and level of every entity it names, the third miss in a row raises LANTERN_STALE; each millisecond a slot compares
its job's level, steps and time, and fires or, while PENDING, fires again on a rise to 3 or at RETRY; enabling a slot starts its time.
The model's choices in it: log entries 25, 26. -/
def Obligations.VigilAndLantern : Prop :=
  (∀ (s : State) (c : Cut), s.g.sys.pwr.rails = true →
    let g := s.g
    let cuts := g.svc.vig.cuts
    let gm := g.moveTo c.tick
    let win := max 1 (min 100 (g.fld (ind 0xC0004) 6 0))
    let here := c.lanes.all fun e => decide (e.res = 1 ∨ e.res = 2)
    ((∀ x ∈ cuts, x.state ≠ 0) → DoneG .gremonVigilTick s fun h => h = g) ∧
    (cuts.find? (fun x => decide (x.state = 0)) = some c → DoneG .gremonVigilTick s fun h =>
      (∃ x ∈ h.svc.vig.cuts, x.vseq = c.vseq ∧ x.state = 1 ∧ x.stamp = gm.stamp ∧ x.lanes = c.lanes ∧
        (∀ l, l < 512 → Tbl.get 0 x.rx l = g.laneBefore l c.tick) ∧
        (∀ i, i < 24 → x.ports[i]? = some (g.portBefore (i / 4) (i % 4) c.tick, (g.port (i / 4)).txMsgs.getD (i % 4) 0)) ∧
        x.denied = (c.denied || (c.halt && g.conf)) ∧
        x.halted = (if c.halt = true ∧ g.conf = false then decide (g.sys.pwr.pstate ≠ 3) else c.halted)) ∧
      (c.halt = true → g.conf = false → h.svc.vig.halts = g.svc.vig.halts ++ [{ vseq := c.vseq, job := c.job, resume := none }] ∧
        ∀ e ∈ g.vigKits c.job, ∀ n ∈ e.2.cores, (h.core n).frozen = true) ∧
      ((c.halt = false ∨ g.conf = true) → h.cores = g.cores ∧ h.svc.vig.halts = g.svc.vig.halts) ∧ h.clock = gm.clock ∧ h.mem = g.mem) ∧
    ((∀ x ∈ cuts, x.state ≠ 1) → DoneG .vigilClose s fun h => h = g) ∧
    (cuts.find? (fun x => decide (x.state = 1)) = some c → (cuts.map (·.vseq)).Nodup → (cuts.filter fun x => decide (x.state = 2)).length < 16 →
      let missing := (c.lanes.filter fun e => decide (2 < e.res)).map fun e => g.cutUnit c.job e.lane
      DoneG .vigilClose s fun h => ∃ x ∈ h.svc.vig.cuts, x.vseq = c.vseq ∧ x.state = 2 ∧ x.lanes = c.lanes ∧
        x.record = g.cutRecord c (Coverage.of 0 c.lanes.length missing false 0).bytes) ∧
    (cuts.find? (fun x => decide (x.state = 1)) = some c → DoneG .vigilClose s fun h =>
      h.clock = if here then g.clock else g.clock.moveTo (c.tick + 100000 * win)) ∧
    ((∀ x ∈ g.svc.vig.halts, x.resume = none) → DoneG .vigilResumeTick s fun h => h = g) ∧
    (∀ x t, x ∈ g.svc.vig.halts → x.resume = some t → (∀ y ∈ g.svc.vig.halts, y ≠ x → ∀ u, y.resume = some u → t < u) → DoneG .vigilResumeTick s fun h =>
      h.svc.vig.halts = g.svc.vig.halts.filter (fun y => decide (y ≠ x)) ∧ h.clock = g.clock.moveTo t ∧
      ∀ e ∈ g.vigKits x.job, (∀ y ∈ h.svc.vig.halts, y.job ≠ 0 ∧ y.job ≠ pkJob e.2.pkg) → ∀ n ∈ e.2.cores, (h.core n).frozen = false)) ∧
  (∀ (s : State) (n ns : Nat) (v : Word), s.g.sys.pwr.rails = true →
    let g := s.g
    let lan := g.svc.lan
    let en := bit (g.reg kLan) 0 = true ∧ g.clock.own ≠ .unset
    let d := 10000 * g.fld kLan 15 8
    let k := match lan.lastK with
      | some k => k + 1
      | none => (g.now - d + max 1 g.scoreNs - 1) / max 1 g.scoreNs
    (¬en → DoneG .lanternRead s fun h => h = { g with svc := { g.svc with lan := { lan with lastK := none } } }) ∧
    (en → DoneG .lanternRead s fun h => h.svc.lan.lastK = some k) ∧
    (en → g.lanBad = true → DoneG .lanternRead s fun h => h.svc.lan.stale = true ∧ h.svc.lan.ents = lan.ents) ∧
    (en → g.lanBad = false → g.lanBlock k = none → DoneG .lanternRead s fun h => h.svc.lan.missed = lan.missed + 1 ∧ h.svc.lan.ents = lan.ents ∧
      h.svc.lan.stale = (lan.stale || decide (2 ≤ lan.missed)) ∧ (2 ≤ lan.missed → lan.stale = false → g.roomy = true → g.Filed h .lanternStale 0 []) ∧
      ((lan.missed < 2 ∨ lan.stale = true) → h.log = g.log)) ∧
    (∀ es, en → g.lanBad = false → g.lanBlock k = some es → DoneG .lanternRead s fun h => h.svc.lan.missed = 0 ∧ h.svc.lan.stale = false ∧
      ((es.map (·.1)).Nodup → ∀ e ∈ es, g.lanOwn e.1 = true →
        let old := ((lan.ents.find? fun x => decide (x.eid = e.1)).map (·.level)).getD 0
        ∃ x, h.svc.lan.ents.find? (fun x => decide (x.eid = e.1)) = some x ∧ x.risk = g.lanRisk e.2 ∧ x.level = g.lanLevel old (g.lanRisk e.2)) ∧
      (∀ e, es = [e] → g.lanOwn e.1 = false → h.svc.lan.badEnt = sat 0xFFFF (lan.badEnt + 1) ∧ h.svc.lan.ents = lan.ents)) ∧
    (let gm := g.moveTo ((g.now + 999999) / 1000000 * 1000000)
     let x := g.ckpt n
     let es := g.ckptEnts (g.fld (kCkt n) 15 0)
     let top := es.foldl (fun m e => max m e.level) 0
     let kmax := max 1 (g.fld (kCkt n + 8) 15 0)
     let kmin := min kmax (max 1 (g.fld (kCkt n + 8) 31 16))
     let keff := if top = 0 then kmax else if top = 1 then max kmin (kmax / 2) else if top = 2 then kmin else 0
     let steps := top < 3 ∧ ∃ a c, x.n = some a ∧ x.c = some c ∧ c + keff ≤ a
     let timer := x.tc + 1000000000 * g.fld (kCkt n + 0xC) 15 0 ≤ gm.now
     let again := (top = 3 ∧ x.level < 3 ∧ x.drained = false) ∨ x.lastFire + 1000000000 * g.fld (kCkt n + 0xC) 31 16 ≤ gm.now
     let fires := fun (h : Gremon) => (h.ckpt n).pending = true ∧ (h.ckpt n).fires = sat 0xFFFF (x.fires + 1) ∧ (h.ckpt n).lastFire = gm.now ∧
       (h.ckpt n).level = top ∧ (h.ckpt n).c = x.c ∧ (h.ckpt n).tc = x.tc
     n < 1024 →
       ((g.ckptOn n = false ∨ g.clock.own = .unset) → DoneG (.ckptTriggerEval n) s fun h => h = gm) ∧
       (g.ckptOn n = true → g.clock.own ≠ .unset →
         (x.pending = false → (steps ∨ timer ∨ top = 3) → DoneG (.ckptTriggerEval n) s fun h => fires h ∧
           (¬timer → (h.ckpt n).cause = if top = 3 then 8 else if keff < kmax then 4 else 1)) ∧
         (x.pending = true → again → DoneG (.ckptTriggerEval n) s fires) ∧
         ((x.pending = false ∧ ¬steps ∧ ¬timer ∧ top ≠ 3) ∨ (x.pending = true ∧ ¬again) → DoneG (.ckptTriggerEval n) s fun h =>
           h = gm.setCkpt n { x with level := top }))) ∧
    (let gm := g.moveTo ns
     ∀ who, n < 1024 → (gm.regionLocked who (kCkt n) = true → g.roomy = true → DoneG (.cktEnable who n v ns) s fun h =>
         { h with log := g.log } = gm ∧ g.Filed h .lockedWrite 0 (leBytes 4 (0xB0000 + 32 * n))) ∧
       (gm.regionLocked who (kCkt n) = false → bit (g.reg (kCkt n)) 16 = false → DoneG (.cktEnable who n v ns) s fun h =>
         h.ckpt n = { CkptSlot.reset with tc := gm.now, fires := (g.ckpt n).fires } ∧ h.regs.get .gremon (kCkt n) = v.toNat % 2 ^ 16 + 2 ^ 16 ∧
         h.log = g.log ∧ ∀ m, m ≠ n → h.ckpt m = g.ckpt m)))

/-- Screens of a die (15 R502, R507, R508, R511): one that is not answered in time is LOST, and a step of a classification is tried again; the
rotation screens the next core with the next pack when its time has come and nothing else waits.
The model's choices in it: log entry 28. -/
def Obligations.ScreenSchedule : Prop :=
  ∀ (s : State) (lane : Nat), s.g.sys.pwr.rails = true → lane < 512 →
    let g := s.g
    let d := g.scrDie lane
    let empty := d.cls = [] ∧ d.cond = [] ∧ d.stress = []
    (d.cur = none → DoneG (.screenLostTimeout lane) s fun h => h = g) ∧
    (∀ o, d.cur = some o →
      let gm := g.moveTo o.due
      (o.kind ≠ 0 → empty → (gm.setScr lane { d with cur := none }).rotDue lane = false →
        ((o.kind ≠ 2 ∨ d.session = false) → DoneG (.screenLostTimeout lane) s fun h => h = gm.setScr lane { d with cur := none }) ∧
        (o.kind = 2 → d.session = true → g.roomy = true → DoneG (.screenLostTimeout lane) s fun h =>
          h.scrDie lane = { d with cur := none } ∧ gm.Filed h .stressDone 0 [] ∧ h.lanes = g.lanes)) ∧
      (∀ c t, o.kind = 0 → d.cls = c :: t → c.tries < 3 → DoneG (.screenLostTimeout lane) s fun h =>
        (h.scrDie lane).cls = { c with tries := c.tries + 1 } :: t ∧ (h.scrDie lane).corr = d.corr) ∧
      (∀ c t, o.kind = 0 → d.cls = c :: t → 3 ≤ c.tries → DoneG (.screenLostTimeout lane) s fun h => (h.scrDie lane).cls = t ∧
        ∃ x ∈ h.sys.bb.recs, x.ty = 8 ∧ leAt x.body 0 4 = g.pda lane % 2 ^ 32 ∧ leAt x.body 8 1 = c.core % 256 ∧ leAt x.body 9 1 = 4)) ∧
    ((g.fld kScr 15 0 = 0 ∨ d.session = true ∨ g.scrBad = true) → DoneG (.screenRotation lane) s fun h => h = g) ∧
    (let gm := if d.started then g.moveTo d.nextAt else g
     ∀ num core p, gm.scrFree lane = true → empty → gm.rotDue lane = true → g.rotNext lane = some (num, core) → Tbl.find g.svc.scr.packs num = some p →
       DoneG (.screenRotation lane) s fun h =>
         let x := h.scrDie lane
         x.cur = some { kind := 3, pack := packId p, core := core, corner := 0, stress := false, image := p
                        due := gm.clk + g.scrWait + 1000 * packDur p + 10000000 } ∧
         x.started = true ∧ x.rotPack = num ∧ x.rotCore = core ∧ x.nextAt = max d.nextAt gm.clk + 1000000000 * g.fld kScr 15 0 ∧
         (h.die lane).waiting.length = (g.die lane).waiting.length + 3 ∧ (∀ l, l ≠ lane → h.lane l = g.lane l ∧ h.scrDie l = g.scrDie l) ∧ h.log = g.log)

/-- A frame boundary in Gremon (01 R25, R39, R40, R42; 15 R498; 17 R565; 18 R603): PT reaches the next multiple of F; a due frame
length, binding, pack or frame-buffered word takes effect; a power state that waits is entered. A scoring boundary is the frame boundary
that is a multiple of S. With PT UNSET, or before boot, none falls.
The model's choices in it: log entry 57. -/
def Obligations.GremonBoundaries : Prop :=
  ∀ (s : State) (clr : List Nat) (cut : BitVec 16), s.g.sys.pwr.rails = true →
    let g := s.g
    let t := (g.now / g.frameNs + 1) * g.frameNs
    let i : Instr := .frameBoundary .gremon clr cut
    let falls := g.clock.own ≠ .unset ∧ g.frameNs ≠ 0 ∧ g.sys.pwr.ready = true
    (¬falls → DoneG i s fun h => h = g) ∧
    (falls → DoneG i s fun h =>
      (h.frameUs, h.frameN, h.frameNext) = (match g.frameNext with
        | some (f, n, tick) => if tick ≤ t then (f, n, none) else (g.frameUs, g.frameN, g.frameNext)
        | none => (g.frameUs, g.frameN, none)) ∧
      h.regs.force = g.regs.bad ∧
      ((g.svc.scr.staged.map (·.1)).Nodup → h.svc.scr.staged = [] ∧ ∀ k, Tbl.find h.svc.scr.packs k = match Tbl.find g.svc.scr.staged k with
        | some p => some p
        | none => Tbl.find g.svc.scr.packs k) ∧
      ((g.binds.map fun b => (b.job, b.lda)).Nodup → ∀ b ∈ g.binds, ∃ y ∈ h.binds, y.job = b.job ∧ y.lda = b.lda ∧
        y.next = b.next.filter (fun x => decide (t < x.at')) ∧ ((∀ x ∈ b.next, t < x.at') → y = b) ∧
        ∀ x, b.next = [x] → x.at' ≤ t → y.pda = x.pda ∧ y.state = x.state ∧ y.ever = (b.ever || decide (x.state = 1)) ∧
          y.gen = (if b.ever = true ∧ x.state = 1 ∧ (x.pda ≠ b.pda ∨ (b.state ≠ 1 ∧ b.state ≠ 2)) then b.gen + 1 else b.gen)) ∧
      ((g.regs.shadow.map (·.1)).Nodup → ∀ k w a, Tbl.find g.regs.shadow k = some (w, a) → fbSet k = 8 → fbMask .gremon k ≠ 0 →
        if a + 1000 < t then h.regs.get .gremon k = merge (g.regs.get .gremon k) (fbMask .gremon k) w.toNat ∧ Tbl.find h.regs.shadow k = none
        else Tbl.find h.regs.shadow k = some (w, a)) ∧
      (∀ st a, g.sys.pwr.want = some (st, a) → g.sys.pwr.brace = false → g.sys.pwr.waking = false →
        (t < a + 10000 → h.sys.pwr.want = some (st, a) ∧ h.sys.pwr.pstate = g.sys.pwr.pstate) ∧
        (a + 10000 ≤ t → (st = 3 → g.svc.hist.exp = none) → h.sys.pwr.want = none ∧ h.sys.pwr.pstate = st))) ∧
    ((g.scoreNs = 0 ∨ g.frameNs = 0 ∨ t % g.scoreNs ≠ 0) → DoneG (.scoringBoundary .gremon) s fun h => h = g) ∧
    (g.scoreNs ≠ 0 → g.frameNs ≠ 0 → t % g.scoreNs = 0 → exec (.scoringBoundary .gremon) s = exec i s)

/-! ### Power, boot, update and records (18, 19, 20, 21) -/

/-- BRACE and the host link (18 R585–R588, R590, R591, R596, R600; 20 R654): a power warning starts BRACE and commits the host-write set with a
COMMIT; recovery for 1 ms ends it and performs what it held; a watchdog asks for a FULL reset; a PCIe reset disables every queue.
The model's choices in it: log entries 4, 41, 43. -/
def Obligations.BraceAndHost : Prop :=
  ∀ (s : State) (ns vin : Nat), s.g.sys.pwr.rails = true →
    let g := s.g.moveTo ns
    let p := g.sys.pwr
    let sampled := fun (b : Bool) (v : Nat) => if b then min v vin else v
    let closed := fun (h : Gremon) => h.sys.pwr.hwDirty = false ∧ h.sys.pwr.hwCommitted = p.hwSet ∧
      ∃ r, h.sys.bb.recs.getLast? = some r ∧ r.ty = 2
    let asks := fun (i : Instr) (src due : Nat) => DoneG i s fun h => closed h ∧ h.sys.pwr.reqAt = (s.g.moveTo due).clk ∧
      (p.brace = true → h.sys.pwr.held = some src ∧ h.sys.pwr.fullReset = p.fullReset) ∧
      (p.brace = false → h.sys.pwr.fullReset = some src ∧ h.sys.pwr.held = p.held) ∧ { h with sys := s.g.sys } = s.g.moveTo due
    (∀ commit, p.brace = true → DoneG (.powerFailWarning vin commit ns) s fun h =>
      h.sys.pwr = { p with vin := vin, vmin := min p.vmin vin } ∧ { h with sys := g.sys } = g) ∧
    (∀ commit, p.brace = false → g.roomy = true → DoneG (.powerFailWarning vin commit ns) s fun h => h.sys.pwr.brace = true ∧ h.sys.pwr.braceAt = g.clk ∧
      h.sys.pwr.vin = vin ∧ h.sys.pwr.vmin = vin ∧ h.sys.pwr.braceCommit = commit ∧ g.Filed h .braceEnter 0 [] ∧ (commit = true → closed h) ∧
      (commit = false → h.sys.bb = g.sys.bb) ∧ { h with sys := g.sys, log := g.log } = g) ∧
    (∀ up, DoneG (.recoveryCrossing up vin ns) s fun h => { h with sys := g.sys } = g ∧ h.sys.pwr = { p with
      vin := vin, vmin := sampled p.brace p.vmin, recoverAt := if p.brace then (if up then some g.clk else none) else p.recoverAt }) ∧
    ((p.brace = false ∨ p.recoverAt = none) → (p.brace = false → s.g.updState ≠ 5 ∧ s.g.sys.upd.waits = []) →
      DoneG .braceExit s fun h => h = s.g) ∧
    (∀ t, p.brace = true → p.recoverAt = some t → g.roomy = true →
      let gm := s.g.moveTo (t + 1000000)
      let dur := sat 0xFFFF ((gm.clk - p.braceAt) / 100000)
      DoneG .braceExit s fun h => h.sys.pwr.brace = false ∧ h.sys.pwr.recoverAt = none ∧ h.sys.pwr.held = none ∧ h.sys.pwr.fullReset = p.held ∧
        h.sys.pwr.heldTarget = none ∧ gm.Filed h .braceExit 0 (leBytes 2 p.vmin ++ leBytes 2 dur) ∧
        h.regs.fld .gremon 0x10110 15 0 = sat 0xFFFF p.vmin ∧ h.regs.fld .gremon 0x10110 31 16 = dur ∧
        h.regs.fld .gremon 0x10114 15 0 = sat 0xFFFF (g.fld 0x10114 15 0 + 1) ∧ (∃ r ∈ h.sys.bb.recs, r.ty = 6) ∧
        (∀ v, p.heldTarget = some v → 2 ≤ v → h.sys.pwr.want = some (v, gm.clk)) ∧
        (s.g.updState = 5 → h.regs.fld .gremon kUpd 2 0 = 0 ∧ h.sys.upd.otherOk = false) ∧ h.sys.upd.waits = [] ∧
        (∀ w, s.g.sys.upd.waits = [w] → gm.stageReason (gm.sys.upd.buf.take w.total) w.total w.sigOk w.nestedOk = 0 →
          h.sys.upd.other = gm.sys.upd.buf.take w.total ∧ h.sys.upd.otherOk = true ∧ h.regs.fld .gremon kUpd 2 0 = 2)) ∧
    ((p.ready = false → DoneG .cdWatchdogExpiry s fun h => h = s.g) ∧
      (p.ready = true → asks .cdWatchdogExpiry 3 (p.silentAt + 1000000000))) ∧
    (let per := s.g.fld 0x10108 15 0
     ((per = 0 ∨ p.ready = false) → DoneG .hostWatchdogExpiry s fun h => h = s.g) ∧
     (per ≠ 0 → p.ready = true → asks .hostWatchdogExpiry 4 (p.wdtAt + 1000000 * per) ∧
       DoneG .hostWatchdogExpiry s fun h => h.sys.pwr.wdtAt = p.wdtAt + 1000000 * per)) ∧
    ((p.hwDirty = false → DoneG .hwsetCommit s fun h => h = s.g) ∧
      (p.hwDirty = true → DoneG .hwsetCommit s fun h => closed h ∧ { h with sys := s.g.sys } = s.g)) ∧
    (∀ w r, let on := { g with host := { g.host with linkUp := true, d0 := true } }
      (16 ≤ w → 64 ≤ r → DoneG (.hostLinkTrained w r ns) s fun h => h = on) ∧
      ((w < 16 ∨ r < 64) → g.roomy = true → DoneG (.hostLinkTrained w r ns) s fun h =>
        { h with log := g.log } = on ∧ g.Filed h .hostLinkDegraded 0 [])) ∧
    DoneG (.pcieReset ns) s (fun h => h.host.linkUp = false ∧ h.kits = g.kits ∧ h.lanes = g.lanes ∧ h.clock = g.clock ∧ h.mem = g.mem ∧
      (∀ q, q < 64 → bit (h.reg (kHq q 0x10)) 10 = false) ∧ (∀ r, r < 16 → bit (h.reg (kRq r 8)) 5 = false) ∧
      ((∀ q, q < 64 → bit (g.reg (kHq q 0x10)) 10 = false) → (∀ r, r < 16 → bit (g.reg (kRq r 8)) 5 = false) → g.roomy = true →
        g.Filed h .hostReset 0 [] ∧ h.feeds = g.feeds))

/-- Rails, resets and boot (18 R584, R592, R597, R602, R603, R610–R616; 21 R673): loss of the input or PWR_EN takes the rails and everything that POR
loses; power good and PWR_EN bring them back; a boot counts, records its reset, applies the image or falls back to the factory values, locks
protection and forms a tree of one; a FULL reset keeps PT, LM, the job epochs and the history; IDLE is entered with no work.
The model's choices in it: log entries 1, 9, 44, 45. -/
def Obligations.RailsAndBoot : Prop :=
  ∀ (s : State) (ns vin : Nat) (t : SelfTest),
    let g := s.g.moveTo ns
    let p := s.g.sys.pwr
    let gone := fun (h : Gremon) (src : Nat) => h.sys.pwr.rails = false ∧ h.sys.pwr.porSrc = src ∧ h.sys.pwr.ready = false ∧ h.mem = [] ∧ h.kits = [] ∧
      h.cores = [] ∧ h.jobs = [] ∧ h.log = Recorder.reset ∧ h.clock = Clock.reset ∧ h.svc.hist = History.reset ∧ h.sys.bb = s.g.sys.bb ∧
      h.sys.pwr.copyA = p.copyA ∧ h.sys.pwr.copyB = p.copyB ∧ h.regs.fld .gremon kModule 31 16 = s.g.bootCount
    let booted := fun (h : Gremon) (cls src : Nat) => h.sys.pwr.cls = cls ∧ h.sys.pwr.src = src ∧ h.sys.pwr.prevBoot = s.g.bootCount ∧
      (∃ r ∈ h.sys.bb.recs, r.ty = 5 ∧ leAt r.body 0 4 = cls + 2 * src + 65536 * s.g.bootCount) ∧
      (t.ready = false → h.sys.pwr.ready = false ∧ h.kits = []) ∧
      (t.ready = true → h.sys.pwr.ready = true ∧ h.tree.phase = 0 ∧ h.tree.root = h.gid ∧ h.tree.joined = true ∧ h.failed = meshSplit h.exclLinks ∧
        bit (h.regs.get .gremon kProtCtl) 0 = true ∧ h.sys.pwr.hwCommitted = [] ∧
        (p.choose t = 2 → h.regs.fld .gremon kModule 9 0 = 1023 ∧ h.sys.pwr.image = 2))
    (p.rails = true → DoneG (.inputReset vin ns) s fun h => gone h (if vin ≤ 4000 then 1 else 7) ∧ h.sys.pwr.pwrEn = p.pwrEn ∧
      h.sys.pwr.lostMid = (!p.brace || !p.braceCommit)) ∧
    (p.rails = true → DoneG (.pwrEnFall ns) s fun h => gone h 0 ∧ h.sys.pwr.pwrEn = false ∧ h.sys.pwr.lostMid = false) ∧
    (p.rails = false → DoneG (.pwrEnFall ns) s fun h => h = { g with sys := { g.sys with pwr := { g.sys.pwr with pwrEn := false } } }) ∧
    DoneG .pwrEnRise s (fun h => h = { s.g with sys := { s.g.sys with pwr := { p with pwrEn := true } } }) ∧
    ((p.rails = true ∨ p.pwrEn = false) → DoneG (.powerGood vin) s fun h => h = s.g) ∧
    (p.rails = false → p.pwrEn = true → DoneG (.powerGood vin) s fun h =>
      h = { s.g with sys := { s.g.sys with pwr := { p with rails := true, vin := vin, goodAt := s.g.clock.lmNs } } }) ∧
    ((p.rails = false ∨ p.ready = true ∨ p.step ≠ 0) → DoneG (.porBoot t) s fun h => h = s.g) ∧
    (p.rails = true → p.ready = false → p.step = 0 → s.g.kits = [] → s.g.regs.force = [] → s.g.tree.none = false → p.porSrc < 8 →
      DoneG (.porBoot t) s fun h => booted h 0 p.porSrc) ∧
    ((p.rails = false ∨ p.fullReset = none) → DoneG (.fullReset t) s fun h => h = s.g) ∧
    (∀ src, p.rails = true → p.fullReset = some src → src < 8 → src ≠ 6 → s.g.svc.hist.exp = none → DoneG (.fullReset t) s fun h => booted h 1 src ∧
      h.clock.pt = s.g.clock.pt ∧ h.clock.lm = s.g.clock.lm ∧ h.jobs = s.g.jobs.map (fun j => { j with key := none }) ∧ h.sys.pwr.fullReset = none ∧
      h.host.cmds = [] ∧ h.queries = [] ∧ h.bcasts = [] ∧ h.svc.hist.rings = s.g.svc.hist.rings ∧
      ∀ a, cnaHbm a = true → hpaHist ≤ cnaHpa a → cnaHpa a < hpaEnd → t.kits = [] → h.byte a = s.g.byte a) ∧
    (p.rails = true →
      (let idle := p.ready = true ∧ p.pstate = 0 ∧ 1 ≤ s.g.fld 0x10100 1 0 ∧ s.g.working = false
       (idle → DoneG .idleEntry s fun h => h = { s.g with sys := { s.g.sys with pwr := { p with pstate := 1 } } }) ∧
       (¬idle → DoneG .idleEntry s fun h => h = s.g)) ∧
      (p.waking = true → DoneG (.wakeComplete ns) s fun h => h = { g with sys := { g.sys with pwr := { g.sys.pwr with waking := false, pstate := 0 } } }) ∧
      (p.waking = false → DoneG (.wakeComplete ns) s fun h => h = g) ∧
      ((p.ready = false ∨ p.glOn = true) → DoneG .guylineEnable s fun h => h = s.g) ∧
      (p.ready = true → p.glOn = false → DoneG .guylineEnable s fun h => h.sys.pwr = { p with glOn := true, step := max p.step 4 } ∧
        h.clock = (if s.g.quality = .locked then s.g.clock else s.g.clock.lmTo (p.goodAt + 3000000000)) ∧
        { h with sys := s.g.sys, clock := s.g.clock } = s.g) ∧
      (let may := s.g.root = true ∧ p.podReady = false ∧ p.podPartial = false ∧ p.ready = true
       (¬may → DoneG .podReadyTimeout s fun h => h = s.g) ∧
       (may → s.g.roomy = true → DoneG .podReadyTimeout s fun h => h.sys.pwr.podPartial = true ∧ h.clock = s.g.clock.lmTo (p.goodAt + 5000000000) ∧
         ((∀ r ∈ s.g.reds, r.rid ≠ 0xF0000002) →
           let all := (s.g.gid :: s.g.tree.joinedAs.map (·.1)).eraseDups
           s.g.Filed h .podReadyPartial 0 (Coverage.of 2 all.length (all.map eidGremon) false 0).bytes) ∧
         ∀ r o l, s.g.reds = l ++ [r] → r.rid = 0xF0000002 → r.out = some o → s.g.Filed h .podReadyPartial 0 ((o.drop 24).take 24))))

/-- Firmware update (19 R633–R641): chunks gather, an image is staged or refused with its reason; the root schedules what its checks
pass; at its tick an activation asks for a FULL reset with source 6, or is put off while BRACE or a cut is open; a CONFIRM burns the
counters and a REVERT, a silent new image or the end of its window goes back; the reset itself exchanges the banks.
The model's choices in it: log entries 46, 47. -/
def Obligations.FirmwareUpdate : Prop :=
  ∀ (s : State) (mseq ofs : Nat) (bs p : List Byte) (ok : Bool), s.g.sys.pwr.rails = true →
    let g := s.g
    let st := g.updState
    let u := g.sys.upd
    let said := fun (h : Gremon) code => h.host.mgmtOut = g.host.mgmtOut ++ [(svcSession, mseq, leBytes 4 code)]
    let state := fun (h : Gremon) => h.regs.fld .gremon kUpd 2 0
    let reason := fun (h : Gremon) => h.regs.fld .gremon kUpd 15 8
    let asked := fun (h : Gremon) => if g.sys.pwr.brace then h.sys.pwr.held = some 6 else h.sys.pwr.fullReset = some 6
    let confirmed := fun (h : Gremon) => (g.sys.pwr.brace = true → state h = 5 ∧ h.sys.upd.otherOk = u.otherOk) ∧
      (g.sys.pwr.brace = false → state h = 0 ∧ h.sys.upd.otherOk = false ∧ fwSvn u.running % 64 ≤ h.regs.fld .gremon 0x10220 5 0 ∧
        g.fld 0x10220 5 0 ≤ h.regs.fld .gremon 0x10220 5 0 ∧ ∃ r ∈ h.sys.bb.recs, r.ty = 12 ∧ leAt r.body 0 1 = 3)
    let big := imgMax < ofs + bs.length ∨ 1048576 < bs.length
    (big → DoneG (.stageChunk mseq ofs bs) s fun h => said h 1 ∧ reason h = 1 ∧ { h with regs := g.regs, host := g.host } = g) ∧
    (¬big → DoneG (.stageChunk mseq ofs bs) s fun h => said h 0 ∧ state h = (if st = 0 ∨ st = 2 then 1 else g.regs.fld .gremon kUpd 2 0) ∧
      (let old := if st = 1 ∨ 3 ≤ st then u.buf else []
       h.sys.upd.buf = padTo ofs (old.take ofs) ++ bs ++ old.drop (ofs + bs.length)) ∧ h.sys.upd.otherOk = (u.otherOk && decide (3 ≤ st)) ∧
      h.sys.upd.running = u.running ∧ h.mem = g.mem) ∧
    (∀ total nest, (g.sys.pwr.brace = true → DoneG (.stageEnd mseq total ok nest) s fun h =>
        h = { g with sys := { g.sys with upd := { u with waits := u.waits ++ [{ mseq := mseq, total := total, sigOk := ok, nestedOk := nest }] } } }) ∧
      (g.sys.pwr.brace = false →
        let b := u.buf.take total
        let why := g.stageReason b total ok nest
        (why = 0 → DoneG (.stageEnd mseq total ok nest) s fun h => said h 0 ∧ state h = 2 ∧ h.sys.upd = { u with
          buf := [], other := b, otherOk := true, otherDigest := sha384 b } ∧ ∃ r ∈ h.sys.bb.recs, r.ty = 12 ∧ leAt r.body 0 1 = 1) ∧
        (why ≠ 0 → DoneG (.stageEnd mseq total ok nest) s fun h => said h why ∧ reason h = why ∧ h.sys.upd = { u with buf := [] } ∧
          state h = if st = 1 then 0 else g.regs.fld .gremon kUpd 2 0))) ∧
    (let c : HostCmd := { src := .mgmt svcSession mseq, mid := 0, data := p, segs := [], due := 0
                          desc := leBytes 1 0x12 ++ leBytes 1 0 ++ leBytes 2 mseq ++ leBytes 12 0 ++ leBytes 4 p.length ++ leBytes 20 0 ++
                            leBytes 2 7 ++ leBytes 22 0 }
     let why := g.schedReason p ok
     (g.root = true → why = 0 → DoneC (.schedule mseq p ok) s c 0 0 [] [] fun x => x.bcastNext = g.bcastNext + 1 ∧
       x.sys.upd.schedules = u.schedules.filter (fun e => decide (g.now < e.1)) ++ [(leAt p 0 8, p)]) ∧
     (g.root = true → why ≠ 0 → DoneC (.schedule mseq p ok) s c 1 why [] [] fun x => x.regs.fld .gremon kUpd 15 8 = why ∧ { x with regs := g.regs } = g) ∧
     (g.root = false → g.failed = true → DoneC (.schedule mseq p ok) s c 8 0 [] [] fun x => x = g) ∧
     (g.root = false → g.failed = false → p.length < 2 ^ 32 → g.tree.parent = none → DoneC (.schedule mseq p ok) s c 7 0 [] [] fun x => x = g) ∧
     (g.root = false → g.failed = false → p.length < 2 ^ 32 → g.tree.parent ≠ none → DoneG (.schedule mseq p ok) s fun h =>
       h.host.fwd = g.host.fwd ++ [{ c with due := g.clk + 1000000000 }] ∧ h.host.mgmtOut = g.host.mgmtOut)) ∧
    (let cfm := g.cfmOk p ok
     (cfm = false → DoneG (.svcConfirm mseq p ok) s (fun h => said h 1 ∧ { h with host := g.host } = g) ∧
       DoneG (.svcRevert mseq p ok) s fun h => said h 1 ∧ { h with host := g.host } = g) ∧
     (cfm = true → DoneG (.svcConfirm mseq p ok) s (fun h => said h 0 ∧ confirmed h) ∧
       DoneG (.svcRevert mseq p ok) s fun h => said h 0 ∧ asked h)) ∧
    (∀ ns, (st ≠ 4 → ∀ key, DoneG (.updCtlConfirm .pcie key ns) s (fun h => h = g.moveTo ns) ∧
        DoneG (.updCtlRevert .pcie key ns) s fun h => h = g.moveTo ns) ∧
      (∀ key, key.toNat ≠ 0xC3 → DoneG (.updCtlConfirm .pcie key ns) s (fun h => h = g.moveTo ns) ∧
        DoneG (.updCtlRevert .pcie key ns) s fun h => h = g.moveTo ns) ∧
      (st = 4 → DoneG (.updCtlConfirm .pcie 0xC3 ns) s confirmed ∧ DoneG (.updCtlRevert .pcie 0xC3 ns) s asked)) ∧
    DoneG (.svcStatus mseq) s (fun h => { h with host := g.host } = g ∧ h.host.mgmtOut = g.host.mgmtOut ++
      [(svcSession, mseq, leBytes 4 (g.reg kUpd) ++ leBytes 4 (g.reg 0x10220) ++ leBytes 8 (g.reg64 0x10208))]) ∧
    (let gm := g.moveTo u.tick
     let cut := ∃ c ∈ g.svc.vig.cuts, c.state ≠ 2 ∧ c.tick ≤ u.tick
     ((st ≠ 3 ∨ u.tick = 0) → DoneG .activationTick s fun h => h = g) ∧
     (st = 3 → u.tick ≠ 0 → g.sys.pwr.brace = false → ¬cut → DoneG .activationTick s fun h => asked h ∧ h.sys.pwr.reqAt = gm.clk ∧ state h = g.regs.fld .gremon kUpd 2 0) ∧
     (st = 3 → u.tick ≠ 0 → (g.sys.pwr.brace = true ∨ cut) → DoneG .activationTick s fun h => state h = 3 ∧ h.regs.fld .gremon kUpd 4 4 = 1 ∧
       h.sys.upd.tick = (gm.now / 1000000000 + 1) * 1000000000 ∧ h.sys.pwr = g.sys.pwr ∧
       (g.sys.pwr.brace = true → u.deferred = false → g.roomy = true → gm.Filed h .activateDeferred 0 []))) ∧
    ((st = 4 → g.sys.pwr.ready = false → DoneG .fallbackReadyTimeout s fun h => asked h ∧ h.sys.pwr.reqAt = (g.moveTo (u.activatedAt + 10000000000)).clk) ∧
     ((st ≠ 4 ∨ g.sys.pwr.ready = true) → DoneG .fallbackReadyTimeout s fun h => h = g)) ∧
    (let due := st = 4 ∧ u.autoRevert = true ∧ u.confirmWin ≠ 0
     (due → DoneG .autoRevertTimeout s fun h => asked h ∧ h.sys.pwr.reqAt = (g.moveTo (u.activatedAt + 1000000000 * u.confirmWin)).clk) ∧
     (¬due → DoneG .autoRevertTimeout s fun h => h = g)) ∧
    (∀ t, g.sys.pwr.fullReset = some 6 → (g.regs.vals.map (·.1)).Nodup → g.regs.force = [] → t.ready = false →
      (st = 3 → DoneG (.fullReset t) s fun h => state h = 4 ∧ h.sys.upd.running = u.other ∧ h.sys.upd.other = u.running ∧
        h.regs.fld .gremon kUpd 3 3 = 1 - g.fld kUpd 3 3 ∧ h.sys.upd.activatedAt = h.clk) ∧
      (st = 4 → DoneG (.fullReset t) s fun h => state h = 0 ∧ h.sys.upd.running = u.other ∧ h.sys.upd.other = u.running ∧
        h.regs.fld .gremon kUpd 3 3 = 1 - g.fld kUpd 3 3 ∧ h.regs.fld .gremon kUpd 5 5 = 1))

/-- Tokens and attestation (19 R626–R631): a token that passes its checks opens its scope until its time and retires the nonce; FINISH
opens a session and END_SESSION ends it, a KEY_UPDATE or BIND restarts the bounce sequence; measurements and a die's record are answered from what
is held; without firmware the answer is Busy, and outside a session an AL_MEAS is refused.
The model's choices in it: log entries 10, 47, 48. -/
def Obligations.TokensAndAttestation : Prop :=
  ∀ (s : State) (mseq num mid lane : Nat) (b : List Byte) (ok doe : Bool), s.g.sys.pwr.rails = true →
    let g := s.g
    let said := fun (h : Gremon) code => h.host.mgmtOut = g.host.mgmtOut ++ [(svcSession, mseq, leBytes 4 code)]
    let code := leAt b 1 1
    let reply := fun (h : Gremon) (d : Bool) c x y bs => h.sys.prot.spdmOut = g.sys.prot.spdmOut ++ [(d, num, [0x13] ++ leBytes 1 c ++ leBytes 1 x ++ leBytes 1 y ++ bs)]
    let only := fun (h : Gremon) => { h with sys := g.sys } = g ∧ h.sys.prot.sessions = g.sys.prot.sessions
    let why := g.tokReason b ok
    (why ≠ 0 → DoneG (.svcToken mseq b ok) s fun h => said h why ∧ { h with host := g.host } = g) ∧
    (why = 0 → DoneG (.svcToken mseq b ok) s fun h => said h 0 ∧ h.sys.prot.token = some (leAt b 4 4, leAt b 32 8) ∧
      (∀ l, l < 512 → (g.die l).accepted = true → (h.die l).waiting.length = (g.die l).waiting.length + 1) ∧
      ∀ l, l < 512 → (g.die l).accepted = false → h.lane l = g.lane l) ∧
    ((g.sys.prot.token = none ∨ g.clock.own = .unset) → DoneG .tokenLapse s fun h => h = g) ∧
    (∀ t, g.sys.prot.token = some t → g.clock.own ≠ .unset → DoneG .tokenLapse s fun h => h.sys.prot.token = none ∧
      h.clock = g.clock.moveTo (1000000000 * t.2) ∧ h.log = g.log ∧ h.mem = g.mem) ∧
    (g.spdmBusy = true → DoneG (.spdmRequest doe num b) s (fun h => only h ∧ reply h doe 0x7F 3 g.busyFor []) ∧
      DoneG (.bind num mid) s (fun h => only h ∧ reply h true 0x7F 3 g.busyFor []) ∧
      DoneG (.alMeas doe num lane) s fun h => only h ∧ reply h doe 0x7F 3 g.busyFor []) ∧
    (g.spdmBusy = false →
      (code ∉ spdmCodes → DoneG (.spdmRequest doe num b) s fun h => only h ∧ reply h doe 0x7F 7 code []) ∧
      (code = 0xE5 → num < 16 → g.session doe num = none → DoneG (.spdmRequest doe num b) s fun h => reply h doe 0x65 0 0 [] ∧
        ∃ x, h.session doe num = some x ∧ x.mid = none ∧ x.beat = g.clk) ∧
      (code = 0xEC → DoneG (.spdmRequest doe num b) s fun h => reply h doe 0x6C 0 0 [] ∧ h.session doe num = none ∧
        ∀ d n, (d, n) ≠ (doe, num) → h.session d n = g.session d n) ∧
      (∀ x m, code = 0xE9 → g.session doe num = some x → x.mid = some m → DoneG (.spdmRequest doe num b) s fun h => reply h doe 0x69 0 0 [] ∧
        Tbl.get 0 h.host.sealIn m = 0 ∧ Tbl.get 0 h.host.sealOut m = 0 ∧ ∀ k, k ≠ m → Tbl.get 0 h.host.sealIn k = Tbl.get 0 g.host.sealIn k) ∧
      (∀ x, code = 0xE0 → leAt b 3 1 ≠ 0xFF → leAt b 3 1 ≠ 0 → g.measure (leAt b 3 1) = some x → DoneG (.spdmRequest doe num b) s fun h =>
        reply h doe 0x60 0 0 (leBytes 1 (leAt b 3 1) ++ leBytes 1 x.1 ++ leBytes 2 x.2.length ++ x.2)) ∧
      (code ∈ spdmCodes → code ≠ 0xE5 → code ≠ 0xEC → code ≠ 0xE9 → code ≠ 0xE0 → code ≠ 0x84 → DoneG (.spdmRequest doe num b) s fun h =>
        reply h doe (code - 0x80) 0 0 [] ∧ h.host = g.host) ∧
      (g.session true num = none → DoneG (.bind num mid) s fun h => only h ∧ reply h true 0x7F 6 0 []) ∧
      (∀ x, g.session true num = some x →
        let conf := ∃ q, q < 64 ∧ g.fld (kHq q 0x20) 11 0 = mid ∧ bit (g.reg (kHq q 0x20)) 12 = true
        let taken := ∃ y ∈ g.sessionsUp, y.mid = some mid ∧ y.num ≠ num
        ((¬conf ∨ taken ∨ mid = 0) → DoneG (.bind num mid) s fun h => only h ∧ reply h true 0x7F 1 0 []) ∧
        (conf → ¬taken → mid ≠ 0 → DoneG (.bind num mid) s fun h => reply h true 0x7E 0 0 [] ∧
          h.session true num = some { x with mid := some mid, beat := g.clk } ∧ Tbl.get 0 h.host.sealIn mid = 0 ∧ Tbl.get 0 h.host.sealOut mid = 0)) ∧
      (g.session doe num = none → DoneG (.alMeas doe num lane) s fun h => only h ∧ reply h doe 0x7F 6 0 []) ∧
      (g.session doe num ≠ none → 512 ≤ lane → DoneG (.alMeas doe num lane) s fun h => only h ∧ reply h doe 0x7F 1 0 []) ∧
      (g.session doe num ≠ none → lane < 512 → DoneG (.alMeas doe num lane) s fun h => only h ∧ reply h doe 0x7E 0 0 (g.measRecord lane true)))

/-- Black-box record, trace and self-telemetry (20 R656, R657, R660, R661, R663–R665, R667): compaction keeps every live record and invents none;
the mirror takes every committed group; a chunk of the source of highest priority goes to the sink; a trigger tick fires, and DELAY after it
collection stops; once a millisecond the counts are latched.
The model's choices in it: log entries 49, 50, 58. -/
def Obligations.GremonRecords : Prop :=
  ∀ (s : State) (n : Nat), s.g.sys.pwr.rails = true →
    let g := s.g
    let bb := g.sys.bb
    let t := g.sys.trc
    let x := Tbl.get TrcSrc.reset t.srcs n
    let src1 := fun (h : Gremon) => Tbl.get TrcSrc.reset h.sys.trc.srcs n
    (g.sys.pwr.brace = true → DoneG .bbCompaction s (fun h => h = g) ∧ DoneG .bbMirrorCopy s fun h => h = g) ∧
    (g.sys.pwr.brace = false → DoneG .bbMirrorCopy s fun h => h = { g with sys := { g.sys with bb := { bb with mirrored := bb.next } } }) ∧
    (g.sys.pwr.brace = false → (bb.recs.map (·.bseq)).Nodup → DoneG .bbCompaction s fun h => { h with sys := g.sys } = g ∧
      (∀ r ∈ bb.recs, bb.live r = true → ∃ y ∈ h.sys.bb.recs, { y with ext := r.ext } = r) ∧
      ∀ y ∈ h.sys.bb.recs, ∃ r ∈ bb.recs, { y with ext := r.ext } = r) ∧
    ((g.trcOn = false ∨ t.waiting = []) → DoneG .traceDrain s fun h => h = g) ∧
    (∀ src, g.trcOn = true → g.trcNext = some src →
      let pk := match takeFirst (fun (e : Nat × List Byte) => decide (e.1 = src)) t.dieQ with
        | some (e, _) => e.2
        | none => (takePackets 4096 (Tbl.get TrcSrc.reset t.srcs src).buf).1.flatten
      let chunk := leBytes 2 src ++ leBytes 2 pk.length ++ leBytes 4 (Tbl.get 0 t.cseq src) ++ padTo ((pk.length + 7) / 8 * 8) pk
      src ∈ t.waiting ∧ (∀ o ∈ t.waiting, g.trcPrio o ≤ g.trcPrio src) ∧
      (bit (g.reg 0x2000000) 1 = false → DoneG .traceDrain s fun h => h.sys.trc.port = t.port ++ chunk ∧ h.sys.trc.turn = src ∧
        Tbl.get 0 h.sys.trc.cseq src = (Tbl.get 0 t.cseq src + 1) % 2 ^ 32 ∧ { h with sys := g.sys } = g) ∧
      (bit (g.reg 0x2000000) 1 = true → t.wp + chunk.length ≤ trcReserve → g.lost 31 (hbmCna (hpaTrace + t.wp)) chunk.length = false → DoneG .traceDrain s fun h =>
        h.rdBytes (hbmCna (hpaTrace + t.wp)) chunk.length = chunk ∧ h.sys.trc.wp = t.wp + chunk.length ∧ h.sys.trc.turn = src ∧ h.log = g.log)) ∧
    (let fires := bit (g.reg 0x2000000) 5 = true ∧ t.state = 1 ∧ g.clock.own ≠ .unset
     (¬fires → DoneG .traceTickTrigger s fun h => h = g) ∧
     (fires → g.conf = true → DoneG .traceTickTrigger s fun h => h = g.moveTo (g.reg64 0x200000C)) ∧
     (fires → g.conf = false → (bit (g.reg 0x2000000) 1 = false ∨ bit (g.reg 0x2000000) 2 = true) → g.roomy = true →
       DoneG .traceTickTrigger s fun h => h.sys.trc.state = 2 ∧ h.sys.trc.trigAt = (g.moveTo (g.reg64 0x200000C)).clk ∧ g.Filed h .traceTrigger 0 [])) ∧
    (t.state ≠ 2 → DoneG .traceStop s fun h => h = g) ∧
    (t.state = 2 → DoneG .traceStop s fun h => h.sys.trc.state = 3 ∧ h.clock = (g.moveTo (t.trigAt + 1000 * g.reg 0x2000008)).clock ∧
      ((bit (g.reg 0x2000000) 1 = false ∨ bit (g.reg 0x2000000) 2 = true) → g.roomy = true → g.Filed h .traceStop 0 [])) ∧
    (x.bits = [] → DoneG (.traceBranchFlush .gremon n) s fun h => h = g) ∧
    (x.started = false → DoneG (.traceSyncTimer .gremon n) s fun h => h = g) ∧
    (g.coreTraced n = true →
      (x.bits ≠ [] → DoneG (.traceBranchFlush .gremon n) s fun h => { h with sys := g.sys } = g.moveTo (x.bitAt + 1000) ∧
        (src1 h).bits = [] ∧ (x.dropped = 0 → x.held + 5 ≤ 4096 → (src1 h).buf = x.buf ++ [pktBranch x.bits])) ∧
      (x.started = true → DoneG (.traceSyncTimer .gremon n) s fun h =>
        { h with sys := g.sys } = (if 4096 ≤ x.bytes then g else g.moveTo (x.syncAt + 100000)) ∧
        (src1 h).bits = [] ∧ (src1 h).bytes = 0 ∧ (src1 h).started = true ∧ (src1 h).syncAt = h.clk)) ∧
    (∀ power,
      let gm := { g with sys := { g.sys with tel := { g.sys.tel with power := power } } }.moveTo ((g.now / 1000000 + 1) * 1000000)
      DoneG (.selfTelemetryLatch power) s fun h => h.sys.tel.last = gm.telValues.map (·.toNat) ∧ h.sys.tel.power = power ∧ h.sys.tel.vinMin = g.sys.pwr.vin ∧
        (∀ i, i < 336 → telDelta i = true → Tbl.get 0 h.sys.tel.base i = gm.telCount i) ∧ h.clock = gm.clock)

/-! ### Forms that complete -/

/-- Vector and predicate instructions, VLD and VST, from scalar issue to their result (07 R253, R255, R256, R258, R259, R263): with
the vector queue empty each enters it, and the VECTOR_ISSUE that follows leaves the result the instruction's own registers and, for
VLD, the 64 bytes at its address give; p0 and g0 discard the write, and no byte of memory changes but the stored lanes.
The model's choices in it: log entry 33. -/
def Obligations.VectorResults : Prop :=
  ∀ (s : State) (n cy : Nat) (i : Instr) (op : Nat),
    let c := s.g.core n
    let w := s.g.fetchWord n
    let f := wFmt w
    let D := wD w
    let gv := c.rg (wA w)
    let lane := fun (r l : Nat) => elemLane f (c.rv r) l
    let act := fun (l : Nat) => (c.rp (wPredR w)).testBit l
    let actM := fun (l : Nat) => (c.rp (wPredM w)).testBit l
    let u := wSub w
    let k := fmtWidth f / 8
    let a := c.addrM w
    let at' := spadCna n a
    let first := if nLanes f < nLanes u then wPart w * nLanes f else 0
    let ends := fun (P : State → Prop) => Completes i s fun t => Completes (.vectorIssue n) t fun v =>
      P v ∧ (v.g.core n).vq = [] ∧ (v.g.core n).pc = BitVec.ofNat 22 (c.pc.toNat + 8) ∧ v.a = s.a ∧ v.pending = s.pending
    let still := fun (v : State) => ∀ x, x < 2 ^ 47 → v.g.byte x = s.g.byte x
    let toV := fun (m : Nat) (x : Nat → Nat) => ends fun v => (∀ l, l < nLanes m → elemLane m ((v.g.core n).rv D) l = x l) ∧
      (∀ r, r ≠ D → (v.g.core n).rv r = c.rv r) ∧ (∀ r, (v.g.core n).rg r = c.rg r ∧ (v.g.core n).rp r = c.rp r) ∧ still v
    let toP := fun (x : Nat) => ends fun v => (∀ r, (v.g.core n).rp r = if r = D ∧ r ≠ 0 then x else c.rp r) ∧
      (∀ r, (v.g.core n).rg r = c.rg r ∧ (v.g.core n).rv r = c.rv r) ∧ still v
    let toG := fun (x : Nat) => ends fun v => (∀ r, (v.g.core n).rg r = if r = D ∧ r ≠ 0 then x else c.rg r) ∧
      (∀ r, (v.g.core n).rp r = c.rp r ∧ (v.g.core n).rv r = c.rv r) ∧ still v
    s.Flows n op cy → c.vq = [] →
    ((i, op) ∈ [(Instr.vadd n, 0x40), (.vsub n, 0x41), (.vmul n, 0x42), (.vfma n, 0x43), (.vdiv n, 0x44), (.vsqrt n, 0x45),
        (.vmin n, 0x46), (.vmax n, 0x47), (.vand n, 0x48), (.vor n, 0x49), (.vxor n, 0x4A), (.vsll n, 0x4B), (.vsrl n, 0x4C),
        (.vsra n, 0x4D), (.vbcast n, 0x50), (.vsel n, 0x54), (.vabs n, 0x55), (.vneg n, 0x56)] →
      toV f fun l =>
        if act l then (laneResult op f (wRm w) (lane (wA w) l) (lane (wB w) l) (lane (wC w) l) gv).1 % 2 ^ fmtWidth f
        else if op = 0x54 then lane (wB w) l else if wZmR w then 0 else lane D l) ∧
    (i = .vcmp n → op = 0x4E → ∃ x, toP x ∧ ∀ l, x.testBit l =
      (decide (l < nLanes f) && act l && (elemCmp f u (lane (wA w) l) (lane (wB w) l)).1)) ∧
    (i = .vcvt n → op = 0x4F → toV u fun l =>
      if first ≤ l ∧ l < first + min (nLanes f) (nLanes u) then
        if act (l - first) then
          (elemCvt f u (wRm w) (lane (wA w) (l - first + if nLanes u < nLanes f then wPart w * nLanes u else 0))).1 % 2 ^ fmtWidth u
        else if wZmR w then 0 else elemLane u (c.rv D) l
      else elemLane u (c.rv D) l) ∧
    (i = .vext n → op = 0x51 → toG (extend f (lane (wA w) (bits w 36 0)))) ∧
    (i = .vins n → op = 0x52 → toV f fun l => if l = bits w 36 0 then gv % 2 ^ fmtWidth f else lane D l) ∧
    (i = .vred n → op = 0x53 → toG (extend f (vredFold f (wRm w) u 6
      ((List.range (nLanes f)).map fun l => if act l then lane (wA w) l else redIdent f u, 0)).1)) ∧
    (i = .pand n → op = 0x58 → toP (c.rp (wA w) &&& c.rp (wB w))) ∧
    (i = .por n → op = 0x59 → toP (c.rp (wA w) ||| c.rp (wB w))) ∧
    (i = .pxor n → op = 0x5A → toP (c.rp (wA w) ^^^ c.rp (wB w))) ∧
    (i = .pnot n → op = 0x5B → toP (2 ^ 64 - 1 - c.rp (wA w))) ∧
    (i = .pfromg n → op = 0x5C → toP gv) ∧
    (i = .ptog n → op = 0x5D → toG (c.rp (wA w))) ∧
    (i = .vld n → op = 0x62 → a % 64 = 0 → a < 0x200000 → s.g.linePoison at' 64 = false →
      (∀ x, at' ≤ x → x < at' + 64 → s.g.writing none x = false) →
      toV f fun l => if actM l then s.g.rd (at' + k * l) k else if wZmM w then 0 else lane D l) ∧
    (i = .vst n → op = 0x63 → a % 64 = 0 → a < 0x200000 → c.inCode a = false → ends fun v =>
      (∀ l j, l < nLanes f → j < k → actM l = true → v.g.byte (at' + k * l + j) = BitVec.ofNat 8 (lane (wB w) l / 256 ^ j)) ∧
      (∀ x, x < 2 ^ 47 → (x < at' ∨ at' + 64 ≤ x ∨ actM ((x - at') / k) = false) → v.g.byte x = s.g.byte x) ∧
      (∀ r, (v.g.core n).rv r = c.rv r ∧ (v.g.core n).rg r = c.rg r ∧ (v.g.core n).rp r = c.rp r))

/-- Screening on the die, each event where it takes effect (15 R501–R503, R506, R509; Table 15.3): a grant, a revocation, the fall of
the grant, DONE, the DUR and the WAIT timer, a stress session's two writes and a host error, with the machine each leaves.
Pod time, each event where it takes effect (04 R140, R142–R145, R150, R152, R162, 06 R228), with no need of a free recorder entry:
the loss of lock freezes the rate, holdover ends, calibration is slewed, replicas are set, site time sets an UNSET root, the wait for
it ends, an ordered step moves PT at its tick, and a solve drops the job's old and ambiguous marks.
The model's choices in it: log entries 4, 13, 14, 15, 56. -/
def Obligations.ScreenAndTimeEvents : Prop :=
  (∀ (s : State) (ns : Nat) (v : Word) (hcode : Byte),
    let a := s.a.moveTo ns
    let closed := fun (x : Ailen) (verdict : Nat) (detail : List Byte) => s.withA { x with
      scr := { x.scr with st := .closing, verdict := verdict, detail := detail, stop := x.stamp, req := false } }
    let result := (List.range 4).flatMap fun w => leBytes 4 (a.reg (0x8030 + 4 * w))
    let same := (List.range 4).all fun w => decide (a.reg (0x8030 + 4 * w) = a.reg (0x8010 + 4 * w))
    let dur := s.a.moveTo (s.a.scr.reqAt + 1000 * s.a.scr.dur.toNat)
    let wait := s.a.moveTo (s.a.scr.reqAt + 1000000 * s.a.screenWait)
    (a.mainUp = true → a.scr.st = .request → a.scr.req = true → a.scr.gnt = false →
      exec (.scrGrant ns) s = .next (s.withA { a with scr := { a.scr with
        st := .granted, gnt := true, reqAt := a.clk, start := a.stamp, loadSig := a.cap.lastSig
        temp := a.conditions.1, volt := a.conditions.2.1, freq := a.conditions.2.2 } })) ∧
    (a.mainUp = true → a.scr.st = .granted → a.scr.gnt = true → exec (.scrRevoke ns) s = .next (closed a 3 [])) ∧
    (a.mainUp = true → a.scr.st = .closing → ∃ r, exec (.scrGrantFall ns) s = .next (s.withA { a with
        gl := a.gl.queue clsEvent a.scr.message, scr := { a.scr with st := .idle, gnt := false }, regs := r }) ∧
      bits (r.get .ailen 0x8020) 11 8 = (a.scr.verdict + 1) % 16) ∧
    (s.a.mainUp = true → s.a.scr.st = .granted → dur.scr.gnt = true → exec .screenTimerExpiry s = .next (closed dur 2 [])) ∧
    (s.a.mainUp = true → s.a.scr.st = .request → wait.scr.gnt = false → ∃ r, exec .screenWaitExpiry s = .next (s.withA { wait with
        gl := wait.gl.queue clsEvent
          ({ wait.scr with st := .closing, verdict := 4, detail := [], stop := wait.stamp, req := false } : Screen).message
        scr := { wait.scr with st := .idle, verdict := 4, detail := [], stop := wait.stamp, req := false }, regs := r }) ∧
      bits (r.get .ailen 0x8020) 11 8 = 5) ∧
    (a.mainUp = true → a.scr.st = .granted → a.scr.gnt = true → ∃ b, exec (.scrDoneWrite hcode ns) s = .next (s.withA b) ∧
      b.scr = { a.scr with st := .closing, stop := a.stamp, req := false, detail := result ++ leBytes 1 hcode.toNat
                           verdict := if hcode ≠ 0 then 5 else if same then 0 else 1 }) ∧
    (a.aoReset = false → a.sack = false → a.scr.session = false →
      ∃ b, exec (.stressSessionWrite true ns) s = .next (s.withA b) ∧ b.scr = { a.scr with session := true }) ∧
    (a.aoReset = false → a.sack = false → a.scr.session = true →
      ∃ b, exec (.stressSessionWrite false ns) s = .next (s.withA b) ∧ b.scr = { a.scr with session := false }) ∧
    (a.aoReset = false → a.sack = false → a.roomy = true → ∃ b, exec (.herrWrite v ns) s = .next (s.withA b) ∧
      a.Recorded b .hostErr a.stamp (leBytes 2 (bits v.toNat 15 0) ++ leBytes 1 (bits v.toNat 23 16) ++ leBytes 1 (bits v.toNat 31 24) ++
        leBytes 2 a.conditions.1.toNat ++ leBytes 2 a.conditions.2.1.toNat ++ leBytes 2 a.conditions.2.2.toNat ++
        leBytes 4 a.cap.lastSig.toNat))) ∧
  (∀ s : State,
    let a := s.a
    let g := s.g
    let held := fun (c d : Clock) (iv : Nat) => d.own = .holdover ∧ d.y = c.yInt ∧ d.yInt = c.yInt ∧
      d.lm = max c.lm ((c.lastOk + 8 * iv) * 2 ^ 40) ∧ d.holdFrom = d.lmNs
    let freed := fun (c d : Clock) => d = { c with own := .free, okRun := 0, stepRun := 0 }
    (a.aoReset = false → a.clock.own = .locked →
      ∃ b, exec (.lockLossTimeout .ailen) s = .next (s.withA b) ∧ held a.clock b.clock a.interval) ∧
    (g.sys.pwr.rails = true → g.root = false → g.clock.own = .locked →
      ∃ h, exec (.lockLossTimeout .gremon) s = .next (s.withG h) ∧ held g.clock h.clock g.interval) ∧
    (a.aoReset = false → a.clock.own = .holdover →
      holdMax (bits g.almCfg 15 8) < holdoverU a.clock.uEntry (a.clock.lmNs - a.clock.holdFrom) a.driftA →
      ∃ b, exec (.holdExpired .ailen) s = .next (s.withA b) ∧ freed a.clock b.clock) ∧
    (g.sys.pwr.rails = true → g.clock.own = .holdover →
      holdMax (bits g.almCfg 15 8) < holdoverU g.clock.uEntry (g.clock.lmNs - g.clock.holdFrom) 5 →
      ∃ h, exec (.holdExpired .gremon) s = .next (s.withG h) ∧ freed g.clock h.clock) ∧
    (∀ d, a.aoReset = false → a.clock.own ≠ .unset → exec (.almanacCalibration .ailen d) s =
      .next (s.withA { a with clock := { a.clock with slew := a.clock.slew + d * 2 ^ 36 } })) ∧
    (∀ d, g.sys.pwr.rails = true → g.clock.own ≠ .unset → exec (.almanacCalibration .gremon d) s =
      .next (s.withG { g with clock := { g.clock with slew := g.clock.slew + d * 2 ^ 36 } })) ∧
    (g.sys.pwr.rails = true → ∃ r x, exec .replicaRealign s = .next (s.withG { g with replicas := r, seed := x }) ∧
      ∀ c, -(2 ^ 38 : Int) ≤ Tbl.get 0 r c ∧ Tbl.get 0 r c ≤ 2 ^ 38) ∧
    (∀ (m : PtpMsg) (ns seq received : Nat) (n : BitVec 16) (y : PtpSync) (t3 : Stamp),
      let k := g.moveTo ns
      let off : Int := floorDiv (((y.t2 : Int) - y.t1) - ((received : Int) - t3.sixteenths)) 2
      g.sys.pwr.rails = true → g.sys.pwr.ready = true → g.root = true → k.clock.own = .unset → m.transport ≠ .other →
      m.domain = g.siteDomain → k.siteMaster = some m.source → m.body = .delayResp seq received → g.svc.site.dreq = some (n, y) →
      y.source = m.source → n.toNat = seq → (g.tsq 0).q.find? (fun e => decide (e.1 = n.toNat)) = some (seq, t3) →
      ∃ h, exec (.siteSyncMessage m true ns) s = .next (s.withG h) ∧ h.clock.own = .locked ∧
        h.clock.pt = ((k.clock.own16 : Int) - off).toNat * 2 ^ 36 ∧ h.svc.site.state = 2 ∧ h.svc.site.dreq = none) ∧
    (g.sys.pwr.rails = true → g.sys.pwr.ready = true → g.root = true → g.svc.site.state ≠ 2 → g.clock.own = .unset →
      ∃ h, exec .rootSiteWaitExpiry s = .next (s.withG h) ∧ h.clock.own = .locked ∧ h.clock.pt = g.seedPt * 2 ^ 40 ∧
        h.svc.site.state = 0 ∧ h.svc.site.waited = true) ∧
    (∀ cut tick amount, g.sys.pwr.rails = true → g.nextStep = some (tick, amount) → g.clock.own = .locked →
      ∃ t, exec (.ptStepTick cut) s = .next t ∧ t.g.clock.pt = (((g.moveTo tick).clock.pt : Int) + amount * 2 ^ 40).toNat ∧
        t.g.svc.ptSteps = g.svc.ptSteps.filter fun x => decide (x.1 ≠ tick)) ∧
    (∀ job (x : AlignIn), g.sys.pwr.rails = true → x.solver.getD g.tree.root = g.gid → (g.jobDies job).map (·.1) ≠ [] →
      let mine := g.svc.marks.filter fun m => decide (m.job = job)
      ∃ h b, exec (.alignSolve job x) s = .next (s.withG h) ∧
        h.svc.aligned = (job, b) :: g.svc.aligned.filter (fun p => decide (p.1 ≠ job)) ∧
        (∀ m, m ∈ h.svc.marks ↔ m ∈ g.svc.marks ∧
          (m.job = job → ambiguous x.win mine m = false ∧ g.clock.pt16 ≤ m.at16 + 16 * x.win))))
end

