-- ==== Sys2Proof/Laws/Table.lean ====
section
/-! SUPPORT. Laws of sparse tables: what a table reads after a write, and that its canonical form is kept. -/
namespace Sys2Proof

theorem Tbl.find_erase_same {α : Type} (t : Tbl α) (k : Nat) : Tbl.find (Tbl.erase t k) k = none := by
  induction t with
  | nil => rfl
  | cons e t ih => obtain ⟨j, v⟩ := e; by_cases h : j = k <;> simp [Tbl.erase, Tbl.find, h, ih]

theorem Tbl.find_erase_other {α : Type} (t : Tbl α) {k j : Nat} (h : j ≠ k) :
    Tbl.find (Tbl.erase t k) j = Tbl.find t j := by
  induction t with
  | nil => rfl
  | cons e t ih =>
    obtain ⟨i, v⟩ := e
    by_cases hk : i = k
    · subst hk; simp [Tbl.erase, Tbl.find, ih, Ne.symm h]
    · by_cases hj : i = j
      · subst hj; simp [Tbl.erase, Tbl.find, hk]
      · simp [Tbl.erase, Tbl.find, hk, hj, ih]

theorem Tbl.find_put_same {α : Type} (t : Tbl α) (k : Nat) (v : α) : Tbl.find (Tbl.put t k v) k = some v := by
  induction t with
  | nil => simp [Tbl.put, Tbl.find]
  | cons e t ih =>
    obtain ⟨i, u⟩ := e
    unfold Tbl.put
    split
    · simp [Tbl.find]
    · split
      · simp [Tbl.find]
      · have : ¬ i = k := fun h => by omega
        simp [Tbl.find, this, ih]

theorem Tbl.find_put_other {α : Type} (t : Tbl α) {k j : Nat} (v : α) (h : j ≠ k) :
    Tbl.find (Tbl.put t k v) j = Tbl.find t j := by
  induction t with
  | nil => simp [Tbl.put, Tbl.find, Ne.symm h]
  | cons e t ih =>
    obtain ⟨i, u⟩ := e
    unfold Tbl.put
    split
    · simp [Tbl.find, Ne.symm h]
    · split
      · rename_i _ hk
        subst hk
        simp [Tbl.find, Ne.symm h]
      · by_cases hj : i = j <;> simp [Tbl.find, hj, ih]

/-- A table reads what was last written at the same key. -/
@[simp] theorem Tbl.get_set_same {α : Type} [DecidableEq α] (d : α) (t : Tbl α) (k : Nat) (v : α) :
    Tbl.get d (Tbl.set d t k v) k = v := by
  unfold Tbl.get Tbl.set
  split
  · rename_i h; simp [Tbl.find_erase_same, h]
  · simp [Tbl.find_put_same]

/-- A write leaves every other key as it was. -/
theorem Tbl.get_set_other {α : Type} [DecidableEq α] (d : α) (t : Tbl α) {k j : Nat} (v : α) (h : j ≠ k) :
    Tbl.get d (Tbl.set d t k v) j = Tbl.get d t j := by
  unfold Tbl.get Tbl.set
  split
  · rw [Tbl.find_erase_other t h]
  · rw [Tbl.find_put_other t v h]

theorem Tbl.risingFrom_mono {α : Type} {t : Tbl α} {a b : Nat} (hab : a ≤ b) (h : Tbl.risingFrom b t = true) :
    Tbl.risingFrom a t = true := by
  cases t with
  | nil => rfl
  | cons e t => simp [Tbl.risingFrom] at *; exact ⟨by omega, h.2⟩

theorem Tbl.risingFrom_erase {α : Type} (t : Tbl α) (k : Nat) :
    ∀ lo, Tbl.risingFrom lo t = true → Tbl.risingFrom lo (Tbl.erase t k) = true := by
  induction t with
  | nil => intro lo h; rfl
  | cons e t ih =>
    obtain ⟨i, u⟩ := e
    intro lo h
    simp [Tbl.risingFrom] at h
    by_cases hk : i = k
    · simp [Tbl.erase, hk]
      exact ih lo (Tbl.risingFrom_mono (by omega) h.2)
    · simp [Tbl.erase, hk, Tbl.risingFrom]
      exact ⟨h.1, ih _ h.2⟩

theorem Tbl.risingFrom_put {α : Type} (t : Tbl α) (k : Nat) (v : α) :
    ∀ lo, lo ≤ k → Tbl.risingFrom lo t = true → Tbl.risingFrom lo (Tbl.put t k v) = true := by
  induction t with
  | nil => intro lo hl _; simp [Tbl.put, Tbl.risingFrom, hl]
  | cons e t ih =>
    obtain ⟨i, u⟩ := e
    intro lo hl h
    simp [Tbl.risingFrom] at h
    unfold Tbl.put
    split
    · simp [Tbl.risingFrom, hl, h.2]; omega
    · split
      · rename_i _ hk
        subst hk
        simp [Tbl.risingFrom, hl, h.2]
      · simp [Tbl.risingFrom, h.1]
        exact ih (i + 1) (by omega) h.2

theorem Tbl.mem_erase {α : Type} {t : Tbl α} {k : Nat} {e : Nat × α} (h : e ∈ Tbl.erase t k) : e ∈ t := by
  induction t with
  | nil => simp [Tbl.erase] at h
  | cons x t ih =>
    obtain ⟨i, u⟩ := x
    by_cases hk : i = k
    · simp [Tbl.erase, hk] at h; exact List.mem_cons_of_mem _ (ih h)
    · simp [Tbl.erase, hk] at h
      rcases h with h | h
      · simp [h]
      · exact List.mem_cons_of_mem _ (ih h)

theorem Tbl.mem_put {α : Type} {t : Tbl α} {k : Nat} {v : α} {e : Nat × α} (h : e ∈ Tbl.put t k v) :
    e = (k, v) ∨ e ∈ t := by
  induction t with
  | nil => simpa [Tbl.put] using h
  | cons x t ih =>
    obtain ⟨i, u⟩ := x
    unfold Tbl.put at h
    split at h
    · simpa using h
    · split at h
      · rcases List.mem_cons.mp h with h | h
        · exact .inl h
        · exact .inr (List.mem_cons_of_mem _ h)
      · rcases List.mem_cons.mp h with h | h
        · exact .inr (by simp [h])
        · exact (ih h).imp id (List.mem_cons_of_mem _)

/-- Every write keeps the canonical form. -/
theorem Tbl.wf_set {α : Type} [DecidableEq α] (d : α) (t : Tbl α) (k : Nat) (v : α) (h : Tbl.wf d t = true) :
    Tbl.wf d (Tbl.set d t k v) = true := by
  simp only [Tbl.wf, Bool.and_eq_true, List.all_eq_true, decide_eq_true_eq] at *
  unfold Tbl.set
  split
  · exact ⟨Tbl.risingFrom_erase t k 0 h.1, fun e he => h.2 e (Tbl.mem_erase he)⟩
  · rename_i hv
    refine ⟨Tbl.risingFrom_put t k v 0 (Nat.zero_le _) h.1, fun e he => ?_⟩
    rcases Tbl.mem_put he with rfl | he
    · exact hv
    · exact h.2 e he

@[simp] theorem leBytes_length (n v : Nat) : (leBytes n v).length = n := by
  induction n generalizing v with
  | zero => rfl
  | succ n ih => simp [leBytes, ih]

@[simp] theorem padTo_length (n : Nat) (bs : List Byte) : (padTo n bs).length = n := by
  simp [padTo]; omega

end Sys2Proof
end

