-- ==== Sys2Proof/Laws/Settle.lean ====
section
/-! SUPPORT. What settling can change: the recorder, the host side, signals of input objects, reductions and their notes of
missing units, kits whose cores have halted, telemetry counts, the black-box record, the trace collector, and the two fields
of power that follow work and the pod. Everything else stands as the command left it. -/
namespace Sys2Proof.Machine
open Sys2Proof

theorem foldl_kept {α : Type} (f : Gremon → α → Gremon) (hf : ∀ g x, (f g x).kept = g.kept) (l : List α) :
    ∀ g, (l.foldl f g).kept = g.kept := by
  induction l with
  | nil => intro g; rfl
  | cons x l ih => intro g; rw [List.foldl_cons, ih, hf]

@[simp] theorem Gremon.onHost_kept (g : Gremon) (f) : (g.onHost f).kept = g.kept := rfl
@[simp] theorem Gremon.onBb_kept (g : Gremon) (f) : (g.onBb f).kept = g.kept := rfl
@[simp] theorem Gremon.onTrc_kept (g : Gremon) (f) : (g.onTrc f).kept = g.kept := rfl
@[simp] theorem Gremon.onTel_kept (g : Gremon) (f) : (g.onTel f).kept = g.kept := rfl
@[simp] theorem Gremon.setKit_kept (g : Gremon) (n k) : (g.setKit n k).kept = g.kept := rfl
@[simp] theorem Gremon.setObj_kept (g : Gremon) (n o) : (g.setObj n o).kept = g.kept := rfl

@[simp] theorem Gremon.count_kept (g : Gremon) (c n : Nat) : (g.count c n).kept = g.kept := by
  unfold Gremon.count; split <;> rfl

@[simp] theorem Gremon.file_kept (g : Gremon) (c j st s d) : (g.file c j st s d).kept = g.kept := by
  unfold Gremon.file; dsimp only; split
  · rfl
  · rw [Gremon.count_kept]; rfl

@[simp] theorem Gremon.raise_kept (g : Gremon) (e d) : (g.raise e d).kept = g.kept := g.file_kept ..

@[simp] theorem Gremon.setRed_kept (g : Gremon) (r) : (g.setRed r).kept = g.kept := by
  unfold Gremon.setRed; split <;> rfl

@[simp] theorem Gremon.noteMissed_kept (g : Gremon) (a b c) : (g.noteMissed a b c).kept = g.kept := by
  unfold Gremon.noteMissed Gremon.onSvc Gremon.kept; dsimp only; split <;> rfl

@[simp] theorem Gremon.dmaWrite_kept (g : Gremon) (a b) : (g.dmaWrite a b).kept = g.kept := by
  unfold Gremon.dmaWrite; split <;> rfl

@[simp] theorem Gremon.signalVec_kept (g : Gremon) (v) : (g.signalVec v).kept = g.kept := by
  unfold Gremon.signalVec; dsimp only; repeat' split
  all_goals rfl

@[simp] theorem Gremon.setRq_kept (g : Gremon) (r q) : (g.setRq r q).kept = g.kept := rfl

@[simp] theorem Gremon.ringWrite_kept (g : Gremon) (b n i x) : (g.ringWrite b n i x).kept = g.kept := by
  unfold Gremon.ringWrite; simp

@[simp] theorem Gremon.sealFor_kept (g : Gremon) (m b) : (g.sealFor m b).2.kept = g.kept := rfl

@[simp] theorem Gremon.deliverTo_kept (g : Gremon) (r o) : (g.deliverTo r o).kept = g.kept := by
  unfold Gremon.deliverTo
  dsimp only
  repeat' split
  all_goals simp

@[simp] theorem Gremon.deliver_kept (g : Gremon) (k p j b) : (g.deliver k p j b).kept = g.kept := by
  unfold Gremon.deliver
  exact foldl_kept _ (fun g r => by split <;> simp) _ g

@[simp] theorem Gremon.bbCommit_kept (g : Gremon) (rs) : (g.bbCommit rs).kept = g.kept := by
  unfold Gremon.bbCommit; split <;> rfl

@[simp] theorem Gremon.bbFault_kept (g : Gremon) (e) : (g.bbFault e).kept = g.kept := by
  unfold Gremon.bbFault; simp

/-- Entries that a filter by key drops do not show through it. -/
theorem Tbl.filter_erase {α : Type} (p : Nat → Bool) (t : Tbl α) (k : Nat) (h : p k = false) :
    (Tbl.erase t k).filter (fun e => p e.1) = t.filter fun e => p e.1 := by
  induction t with
  | nil => rfl
  | cons e t ih =>
    obtain ⟨j, u⟩ := e
    by_cases hj : j = k
    · subst hj; simp [Tbl.erase, h, ih]
    · simp [Tbl.erase, hj, List.filter_cons, ih]

theorem Tbl.filter_put {α : Type} (p : Nat → Bool) (v : α) (t : Tbl α) (k : Nat) (h : p k = false) :
    (Tbl.put t k v).filter (fun e => p e.1) = t.filter fun e => p e.1 := by
  induction t with
  | nil => simp [Tbl.put, h]
  | cons e t ih =>
    obtain ⟨j, u⟩ := e
    unfold Tbl.put
    split
    · simp [List.filter_cons, h]
    · split
      · rename_i _ hk; subst hk; simp [h]
      · simp [List.filter_cons, ih]

/-- A filter by key hides nothing of a key it keeps. -/
theorem Tbl.find_filter {α : Type} (p : Nat → Bool) (m : Tbl α) (a : Nat) (hp : p a = true) :
    Tbl.find (m.filter fun e => p e.1) a = Tbl.find m a := by
  induction m with
  | nil => rfl
  | cons e m ih =>
    obtain ⟨j, v⟩ := e
    by_cases hj : j = a
    · subst hj; simp [Tbl.find, hp]
    · cases hl : p j <;> simp [hl, Tbl.find, hj, ih]

theorem Tbl.filter_set {α : Type} [DecidableEq α] (p : Nat → Bool) (d v : α) (t : Tbl α) (k : Nat) (h : p k = false) :
    (Tbl.set d t k v).filter (fun e => p e.1) = t.filter fun e => p e.1 := by
  unfold Tbl.set
  split
  · exact Tbl.filter_erase p t k h
  · exact Tbl.filter_put p v t k h

theorem memPut_filter (bs : List Byte) : ∀ (m : Tbl Byte) (a : Nat), 2 ^ 47 ≤ a → a + bs.length ≤ 2 ^ 48 →
    (memPut m a bs).filter (fun e => decide (e.1 < 2 ^ 47)) = m.filter fun e => decide (e.1 < 2 ^ 47) := by
  induction bs with
  | nil => intro m a _ _; rfl
  | cons b bs ih =>
    intro m a h hl
    simp only [List.length_cons] at hl
    rw [memPut, ih _ _ (by omega) (by omega)]
    exact Tbl.filter_set (fun x => decide (x < 2 ^ 47)) 0 b m (a % 2 ^ 48) (by simp; omega)

/-- A store into HBM changes no byte of a scratchpad or CT buffer. -/
theorem Gremon.wrBytes_kept (g : Gremon) (a : Nat) (bs : List Byte) (h : 2 ^ 47 ≤ a) (hl : a + bs.length ≤ 2 ^ 48) :
    (g.wrBytes a bs).kept = g.kept := by
  have h1 := memPut_filter bs g.mem a h hl
  have h2 : (g.poison.filter fun l => !wholeLine a bs.length l).filter (fun l => decide (l < 2 ^ 41)) =
      g.poison.filter fun l => decide (l < 2 ^ 41) := by
    rw [List.filter_filter]
    refine List.filter_congr fun l _ => ?_
    simp only [wholeLine]
    by_cases hl : l < 2 ^ 41
    · have : ¬ a ≤ 64 * l := by omega
      simp [this]
    · simp only [decide_eq_false hl, Bool.false_and]
  unfold Gremon.wrBytes Gremon.kept
  dsimp only
  rw [h1, h2]

/-- Counting a transfer lost to TD. -/
@[simp] theorem Gremon.poisonAt_kept (g : Gremon) : (g.poisonAt 31).kept = g.kept := by
  have hk : decide (kDieStat 31 ≠ kDieStat 31) = false := by decide
  unfold Gremon.poisonAt
  rw [Gremon.count_kept]
  unfold Gremon.setFld RegFile.setFld RegFile.set Gremon.kept
  dsimp only
  split
  · dsimp only; rw [Tbl.filter_erase (fun k => decide (k ≠ kDieStat 31)) _ _ hk]
  · dsimp only; rw [Tbl.filter_put (fun k => decide (k ≠ kDieStat 31)) _ _ _ hk]

theorem foldl_kept_mem {α : Type} (f : Gremon → α → Gremon) (l : List α) (hf : ∀ x ∈ l, ∀ g, (f g x).kept = g.kept) :
    ∀ g, (l.foldl f g).kept = g.kept := by
  induction l with
  | nil => intro g; rfl
  | cons x l ih =>
    intro g
    rw [List.foldl_cons, ih fun y hy => hf y (List.mem_cons_of_mem _ hy), hf x List.mem_cons_self]

/-- The parts of an access lie in it. -/
theorem hpaParts_bound {hpa n : Nat} {p : Nat × Nat} (h : p ∈ hpaParts hpa n) : hpa ≤ p.1 ∧ p.1 + p.2 ≤ hpa + n := by
  unfold hpaParts at h
  rw [List.mem_filterMap] at h
  obtain ⟨i, -, h⟩ := h
  dsimp only at h
  split at h
  · injection h with h
    subst h
    dsimp only
    omega
  · cases h

/-- A store by TD into HBM changes no byte of a scratchpad or CT buffer, and of the registers TD's POISON count alone. -/
theorem Gremon.wrFrom_kept (g : Gremon) (a : Nat) (bs : List Byte) (h : 2 ^ 47 ≤ a) (hl : a + bs.length ≤ 2 ^ 48)
    (hs : bs.length ≤ 2 ^ 41) : (g.wrFrom 31 a bs).kept = g.kept := by
  unfold Gremon.wrFrom
  split
  · exact g.wrBytes_kept a bs h hl
  · dsimp only
    rw [Gremon.poisonAt_kept]
    refine foldl_kept_mem _ _ (fun p hp g => ?_) g
    split
    · rfl
    · split at hp
      · have hb := hpaParts_bound hp
        have hm : cnaHpa a < 2 ^ 41 := Nat.mod_lt _ (by decide)
        have h1 : ((bs.drop (p.1 - cnaHpa a)).take p.2).length ≤ p.2 := List.length_take_le ..
        refine g.wrBytes_kept _ _ (by unfold hbmCna; omega) ?_
        unfold hbmCna
        omega
      · cases hp

/-- The trigger's chunk changes nothing but the trace collector, its reserve in HBM and TD's POISON count. -/
@[simp] theorem Gremon.trcChunk_kept (g : Gremon) (a : Nat) : (g.trcChunk a pktTrig).kept = g.kept := by
  have hl : (pktTrig).length ≤ 8 := by decide
  unfold Gremon.trcChunk
  dsimp only
  split
  · rfl
  · split
    · simp only [Gremon.trcStop, Gremon.raise_kept, Gremon.onTrc_kept]
    · refine Eq.trans (Gremon.onTrc_kept _ _) ?_
      have ht : hbmCna hpaTrace + trcReserve ≤ 2 ^ 48 := by decide
      have h0 : 2 ^ 47 ≤ hbmCna hpaTrace := by decide
      have hr : (0 : Nat) < trcReserve := by decide
      have h4 : trcReserve ≤ 2 ^ 41 := by decide
      have h5 : (64 : Nat) ≤ trcReserve := by decide
      have hc : ∀ n, hbmCna (hpaTrace + n) = hbmCna hpaTrace + n := by intro n; unfold hbmCna; omega
      have h1 := Nat.mod_lt g.sys.trc.wp hr
      refine (Gremon.wrFrom_kept _ _ _ h0 ?_ ?_).trans ((Gremon.wrFrom_kept _ _ _ ?_ ?_ ?_).trans rfl)
      all_goals
        simp only [List.length_drop, List.length_take, List.length_append, leBytes_length, padTo_length, hc]
        omega

@[simp] theorem Gremon.traceFire_kept (g : Gremon) : g.traceFire.kept = g.kept := by
  unfold Gremon.traceFire; dsimp only; repeat' split
  all_goals simp

@[simp] theorem Gremon.offer_kept (g : Gremon) (e) : (g.offer e).kept = g.kept := by
  unfold Gremon.offer
  simp only [apply_ite Gremon.kept, Gremon.traceFire_kept, Gremon.bbFault_kept, Gremon.deliver_kept, Gremon.count_kept, ite_self]

@[simp] theorem Gremon.offerAll_kept (g : Gremon) : g.offerAll.kept = g.kept := by
  unfold Gremon.offerAll
  exact foldl_kept _ (fun g e => g.offer_kept e) _ _

@[simp] theorem Gremon.kitFault_kept (g : Gremon) (s c) : (g.kitFault s c).kept = g.kept := by
  unfold Gremon.kitFault; dsimp only; split <;> simp

@[simp] theorem Gremon.coreHalted_kept (g : Gremon) (n) : (g.coreHalted n).kept = g.kept := by
  unfold Gremon.coreHalted; repeat' split
  all_goals simp

@[simp] theorem Gremon.haltsSettle_kept (g : Gremon) : g.haltsSettle.kept = g.kept := by
  unfold Gremon.haltsSettle
  exact foldl_kept _ (fun g n => g.coreHalted_kept n) _ _

@[simp] theorem Gremon.putNext_kept (g : Gremon) (a b) : (g.putNext a b).kept = g.kept := rfl

@[simp] theorem Gremon.dropOld_kept (g : Gremon) (a b) : (g.dropOld a b).kept = g.kept := rfl

@[simp] theorem Gremon.absentKid_kept (g : Gremon) (d k) : (g.absentKid d k).2.2.kept = g.kept := by
  unfold Gremon.absentKid; dsimp only
  split <;> rfl

@[simp] theorem Gremon.absentAll_kept (g : Gremon) (d ks) : (g.absentAll d ks).2.2.kept = g.kept := by
  unfold Gremon.absentAll
  suffices ∀ (s : List (Nat × List Byte) × List Nat × Gremon), (ks.foldl (fun s k =>
      let a := s.2.2.absentKid d k
      (s.1 ++ [(k.gid, a.1.bytes)], s.2.1 ++ a.2.1, a.2.2)) s).2.2.kept = s.2.2.kept from this _
  induction ks with
  | nil => intro s; rfl
  | cons k ks ih => intro s; rw [List.foldl_cons, ih]; exact s.2.2.absentKid_kept d k

@[simp] theorem Gremon.redClose_kept (g : Gremon) (d p) : (g.redClose d p).kept = g.kept := by
  have hb : ∀ (l : List (Nat × Nat)) (g : Gremon), (l.foldl (fun g _ => g.raise .reduceRefused []) g).kept = g.kept :=
    fun l => foldl_kept _ (fun g _ => g.raise_kept .reduceRefused []) l
  unfold Gremon.redClose
  simp only [apply_ite Gremon.kept, Gremon.dropOld_kept, Gremon.putNext_kept, Gremon.noteMissed_kept, Gremon.setRed_kept,
    Gremon.absentAll_kept, hb, ite_self]

@[simp] theorem Gremon.redTryClose_kept (g : Gremon) (d p) : (g.redTryClose d p).kept = g.kept := by
  unfold Gremon.redTryClose
  split
  · dsimp only; split <;> simp
  · rfl

@[simp] theorem Gremon.lateInput_kept (g : Gremon) (a b c) : (g.lateInput a b c).kept = g.kept := g.raise_kept ..

@[simp] theorem Gremon.redSignal1_kept (g : Gremon) (a b c d) : (g.redSignal1 a b c d).kept = g.kept := by
  unfold Gremon.redSignal1
  dsimp only
  repeat' split
  all_goals simp only [Gremon.lateInput_kept, Gremon.redTryClose_kept, Gremon.setRed_kept, Gremon.putNext_kept,
    Gremon.setObj_kept]

@[simp] theorem Gremon.redSignals_kept (g : Gremon) : g.redSignals.kept = g.kept := by
  unfold Gremon.redSignals
  refine foldl_kept _ (fun g e => foldl_kept _ (fun g d => foldl_kept _ (fun g i => ?_) _ _) _ _) _ _
  dsimp only
  split
  · exact g.redSignal1_kept ..
  · rfl

@[simp] theorem Gremon.redOwn_kept (g : Gremon) (a b c d) : (g.redOwn a b c d).kept = g.kept := by
  unfold Gremon.redOwn; dsimp only; repeat' split
  all_goals simp

theorem Gremon.podSent_kept (g : Gremon) (x : Option Nat) : (g.onPwr fun p => { p with podSent := x }).kept = g.kept := rfl

theorem Gremon.pstate_kept (g : Gremon) (x : Nat) : (g.onPwr fun p => { p with pstate := x }).kept = g.kept := rfl

@[simp] theorem Gremon.podContribute_kept (g : Gremon) : g.podContribute.kept = g.kept := by
  unfold Gremon.podContribute; dsimp only; split
  · rfl
  · rw [Gremon.redOwn_kept, Gremon.podSent_kept]

@[simp] theorem Gremon.idleExit_kept (g : Gremon) : g.idleExit.kept = g.kept := by
  unfold Gremon.idleExit; split
  · rw [Gremon.pstate_kept]
  · rfl

@[simp] theorem Gremon.clear_kept (g : Gremon) : g.clear.kept = g.kept := rfl

/-- Settling changes nothing but what its blank copy leaves out. -/
@[simp] theorem Gremon.settle_kept (g : Gremon) : g.settle.kept = g.kept := by
  unfold Gremon.settle
  split
  · simp only [Gremon.clear_kept, Gremon.offerAll_kept, Gremon.idleExit_kept, Gremon.podContribute_kept,
      Gremon.redSignals_kept, Gremon.haltsSettle_kept]
  · exact g.clear_kept

/-- Settling leaves nothing half done. -/
theorem Gremon.settle_quiet (g : Gremon) : g.settle.quiet = true := by
  unfold Gremon.settle; split <;> rfl

/-- Settling changes no stored register but TD's POISON count. -/
theorem Gremon.settle_reg (g : Gremon) {k : Nat} (h : k ≠ kDieStat 31) : g.settle.reg k = g.reg k := by
  have hp : ∀ m : Tbl Word, Tbl.find (m.filter fun e => decide (e.1 ≠ kDieStat 31)) k = Tbl.find m k := fun m =>
    Tbl.find_filter (fun x => decide (x ≠ kDieStat 31)) m k (decide_eq_true h)
  have hv := congrArg (fun r : RegFile => Tbl.find r.vals k) (congrArg Gremon.regs g.settle_kept)
  have hf := congrArg RegFile.force (congrArg Gremon.regs g.settle_kept)
  simp only [Gremon.kept, hp] at hv hf
  unfold Gremon.reg RegFile.get
  rw [hv, hf]
@[simp] theorem Gremon.settle_rdData (g : Gremon) : g.settle.rdData = g.rdData := (congrArg Gremon.rdData g.settle_kept :)
@[simp] theorem Gremon.settle_clock (g : Gremon) : g.settle.clock = g.clock := (congrArg Gremon.clock g.settle_kept :)
@[simp] theorem Gremon.settle_replicas (g : Gremon) : g.settle.replicas = g.replicas := (congrArg Gremon.replicas g.settle_kept :)
@[simp] theorem Gremon.settle_root (g : Gremon) : g.settle.root = g.root := (congrArg Gremon.root g.settle_kept :)
@[simp] theorem Gremon.settle_lanes (g : Gremon) : g.settle.lanes = g.lanes := (congrArg Gremon.lanes g.settle_kept :)
@[simp] theorem Gremon.settle_dies (g : Gremon) : g.settle.dies = g.dies := (congrArg Gremon.dies g.settle_kept :)
@[simp] theorem Gremon.settle_binds (g : Gremon) : g.settle.binds = g.binds := (congrArg Gremon.binds g.settle_kept :)
@[simp] theorem Gremon.settle_jobs (g : Gremon) : g.settle.jobs = g.jobs := (congrArg Gremon.jobs g.settle_kept :)
@[simp] theorem Gremon.settle_frameUs (g : Gremon) : g.settle.frameUs = g.frameUs := (congrArg Gremon.frameUs g.settle_kept :)
@[simp] theorem Gremon.settle_frameN (g : Gremon) : g.settle.frameN = g.frameN := (congrArg Gremon.frameN g.settle_kept :)
@[simp] theorem Gremon.settle_frameNext (g : Gremon) : g.settle.frameNext = g.frameNext := (congrArg Gremon.frameNext g.settle_kept :)
@[simp] theorem Gremon.settle_deadStacks (g : Gremon) : g.settle.deadStacks = g.deadStacks := (congrArg Gremon.deadStacks g.settle_kept :)
@[simp] theorem Gremon.settle_deadLinks (g : Gremon) : g.settle.deadLinks = g.deadLinks := (congrArg Gremon.deadLinks g.settle_kept :)
@[simp] theorem Gremon.settle_exclLinks (g : Gremon) : g.settle.exclLinks = g.exclLinks := (congrArg Gremon.exclLinks g.settle_kept :)
@[simp] theorem Gremon.settle_cores (g : Gremon) : g.settle.cores = g.cores := (congrArg Gremon.cores g.settle_kept :)
@[simp] theorem Gremon.settle_eng (g : Gremon) : g.settle.eng = g.eng := (congrArg Gremon.eng g.settle_kept :)
@[simp] theorem Gremon.settle_msnd (g : Gremon) : g.settle.msnd = g.msnd := (congrArg Gremon.msnd g.settle_kept :)
@[simp] theorem Gremon.settle_tse (g : Gremon) : g.settle.tse = g.tse := (congrArg Gremon.tse g.settle_kept :)
@[simp] theorem Gremon.settle_ens (g : Gremon) : g.settle.ens = g.ens := (congrArg Gremon.ens g.settle_kept :)
@[simp] theorem Gremon.settle_ensNext (g : Gremon) : g.settle.ensNext = g.ensNext := (congrArg Gremon.ensNext g.settle_kept :)
@[simp] theorem Gremon.settle_kitNext (g : Gremon) : g.settle.kitNext = g.kitNext := (congrArg Gremon.kitNext g.settle_kept :)
@[simp] theorem Gremon.settle_tree (g : Gremon) : g.settle.tree = g.tree := (congrArg Gremon.tree g.settle_kept :)
@[simp] theorem Gremon.settle_ports (g : Gremon) : g.settle.ports = g.ports := (congrArg Gremon.ports g.settle_kept :)
@[simp] theorem Gremon.settle_rlIn (g : Gremon) : g.settle.rlIn = g.rlIn := (congrArg Gremon.rlIn g.settle_kept :)
@[simp] theorem Gremon.settle_bcasts (g : Gremon) : g.settle.bcasts = g.bcasts := (congrArg Gremon.bcasts g.settle_kept :)
@[simp] theorem Gremon.settle_bcastNext (g : Gremon) : g.settle.bcastNext = g.bcastNext := (congrArg Gremon.bcastNext g.settle_kept :)
@[simp] theorem Gremon.settle_queries (g : Gremon) : g.settle.queries = g.queries := (congrArg Gremon.queries g.settle_kept :)
@[simp] theorem Gremon.settle_queryNext (g : Gremon) : g.settle.queryNext = g.queryNext := (congrArg Gremon.queryNext g.settle_kept :)
@[simp] theorem Gremon.settle_feeds (g : Gremon) : g.settle.feeds = g.feeds := (congrArg Gremon.feeds g.settle_kept :)
@[simp] theorem Gremon.settle_redKids (g : Gremon) : g.settle.redKids = g.redKids := (congrArg Gremon.redKids g.settle_kept :)
@[simp] theorem Gremon.settle_failed (g : Gremon) : g.settle.failed = g.failed := (congrArg Gremon.failed g.settle_kept :)
@[simp] theorem Gremon.settle_badRegAt (g : Gremon) : g.settle.badRegAt = g.badRegAt := (congrArg Gremon.badRegAt g.settle_kept :)
@[simp] theorem Gremon.settle_badRegs (g : Gremon) : g.settle.badRegs = g.badRegs := (congrArg Gremon.badRegs g.settle_kept :)
@[simp] theorem Gremon.settle_pwr_pwrEn (g : Gremon) : g.settle.sys.pwr.pwrEn = g.sys.pwr.pwrEn :=
  (congrArg (fun k : Gremon => k.sys.pwr.pwrEn) g.settle_kept :)
@[simp] theorem Gremon.settle_pwr_rails (g : Gremon) : g.settle.sys.pwr.rails = g.sys.pwr.rails :=
  (congrArg (fun k : Gremon => k.sys.pwr.rails) g.settle_kept :)
@[simp] theorem Gremon.settle_pwr_glOn (g : Gremon) : g.settle.sys.pwr.glOn = g.sys.pwr.glOn :=
  (congrArg (fun k : Gremon => k.sys.pwr.glOn) g.settle_kept :)
@[simp] theorem Gremon.settle_pwr_ready (g : Gremon) : g.settle.sys.pwr.ready = g.sys.pwr.ready :=
  (congrArg (fun k : Gremon => k.sys.pwr.ready) g.settle_kept :)
@[simp] theorem Gremon.settle_pwr_vin (g : Gremon) : g.settle.sys.pwr.vin = g.sys.pwr.vin :=
  (congrArg (fun k : Gremon => k.sys.pwr.vin) g.settle_kept :)
@[simp] theorem Gremon.settle_pwr_want (g : Gremon) : g.settle.sys.pwr.want = g.sys.pwr.want :=
  (congrArg (fun k : Gremon => k.sys.pwr.want) g.settle_kept :)
@[simp] theorem Gremon.settle_pwr_waking (g : Gremon) : g.settle.sys.pwr.waking = g.sys.pwr.waking :=
  (congrArg (fun k : Gremon => k.sys.pwr.waking) g.settle_kept :)
@[simp] theorem Gremon.settle_pwr_brace (g : Gremon) : g.settle.sys.pwr.brace = g.sys.pwr.brace :=
  (congrArg (fun k : Gremon => k.sys.pwr.brace) g.settle_kept :)
@[simp] theorem Gremon.settle_pwr_braceAt (g : Gremon) : g.settle.sys.pwr.braceAt = g.sys.pwr.braceAt :=
  (congrArg (fun k : Gremon => k.sys.pwr.braceAt) g.settle_kept :)
@[simp] theorem Gremon.settle_pwr_vmin (g : Gremon) : g.settle.sys.pwr.vmin = g.sys.pwr.vmin :=
  (congrArg (fun k : Gremon => k.sys.pwr.vmin) g.settle_kept :)
@[simp] theorem Gremon.settle_pwr_recoverAt (g : Gremon) : g.settle.sys.pwr.recoverAt = g.sys.pwr.recoverAt :=
  (congrArg (fun k : Gremon => k.sys.pwr.recoverAt) g.settle_kept :)
@[simp] theorem Gremon.settle_pwr_braceCommit (g : Gremon) : g.settle.sys.pwr.braceCommit = g.sys.pwr.braceCommit :=
  (congrArg (fun k : Gremon => k.sys.pwr.braceCommit) g.settle_kept :)
@[simp] theorem Gremon.settle_pwr_held (g : Gremon) : g.settle.sys.pwr.held = g.sys.pwr.held :=
  (congrArg (fun k : Gremon => k.sys.pwr.held) g.settle_kept :)
@[simp] theorem Gremon.settle_pwr_heldTarget (g : Gremon) : g.settle.sys.pwr.heldTarget = g.sys.pwr.heldTarget :=
  (congrArg (fun k : Gremon => k.sys.pwr.heldTarget) g.settle_kept :)
@[simp] theorem Gremon.settle_pwr_porSrc (g : Gremon) : g.settle.sys.pwr.porSrc = g.sys.pwr.porSrc :=
  (congrArg (fun k : Gremon => k.sys.pwr.porSrc) g.settle_kept :)
@[simp] theorem Gremon.settle_pwr_goodAt (g : Gremon) : g.settle.sys.pwr.goodAt = g.sys.pwr.goodAt :=
  (congrArg (fun k : Gremon => k.sys.pwr.goodAt) g.settle_kept :)
@[simp] theorem Gremon.settle_pwr_fullReset (g : Gremon) : g.settle.sys.pwr.fullReset = g.sys.pwr.fullReset :=
  (congrArg (fun k : Gremon => k.sys.pwr.fullReset) g.settle_kept :)
@[simp] theorem Gremon.settle_pwr_reqAt (g : Gremon) : g.settle.sys.pwr.reqAt = g.sys.pwr.reqAt :=
  (congrArg (fun k : Gremon => k.sys.pwr.reqAt) g.settle_kept :)
@[simp] theorem Gremon.settle_pwr_cls (g : Gremon) : g.settle.sys.pwr.cls = g.sys.pwr.cls :=
  (congrArg (fun k : Gremon => k.sys.pwr.cls) g.settle_kept :)
@[simp] theorem Gremon.settle_pwr_src (g : Gremon) : g.settle.sys.pwr.src = g.sys.pwr.src :=
  (congrArg (fun k : Gremon => k.sys.pwr.src) g.settle_kept :)
@[simp] theorem Gremon.settle_pwr_prevBoot (g : Gremon) : g.settle.sys.pwr.prevBoot = g.sys.pwr.prevBoot :=
  (congrArg (fun k : Gremon => k.sys.pwr.prevBoot) g.settle_kept :)
@[simp] theorem Gremon.settle_pwr_step (g : Gremon) : g.settle.sys.pwr.step = g.sys.pwr.step :=
  (congrArg (fun k : Gremon => k.sys.pwr.step) g.settle_kept :)
@[simp] theorem Gremon.settle_pwr_podReady (g : Gremon) : g.settle.sys.pwr.podReady = g.sys.pwr.podReady :=
  (congrArg (fun k : Gremon => k.sys.pwr.podReady) g.settle_kept :)
@[simp] theorem Gremon.settle_pwr_podPartial (g : Gremon) : g.settle.sys.pwr.podPartial = g.sys.pwr.podPartial :=
  (congrArg (fun k : Gremon => k.sys.pwr.podPartial) g.settle_kept :)
@[simp] theorem Gremon.settle_pwr_image (g : Gremon) : g.settle.sys.pwr.image = g.sys.pwr.image :=
  (congrArg (fun k : Gremon => k.sys.pwr.image) g.settle_kept :)
@[simp] theorem Gremon.settle_pwr_kitsOk (g : Gremon) : g.settle.sys.pwr.kitsOk = g.sys.pwr.kitsOk :=
  (congrArg (fun k : Gremon => k.sys.pwr.kitsOk) g.settle_kept :)
@[simp] theorem Gremon.settle_pwr_kitsRef (g : Gremon) : g.settle.sys.pwr.kitsRef = g.sys.pwr.kitsRef :=
  (congrArg (fun k : Gremon => k.sys.pwr.kitsRef) g.settle_kept :)
@[simp] theorem Gremon.settle_pwr_imgSeq (g : Gremon) : g.settle.sys.pwr.imgSeq = g.sys.pwr.imgSeq :=
  (congrArg (fun k : Gremon => k.sys.pwr.imgSeq) g.settle_kept :)
@[simp] theorem Gremon.settle_pwr_defaulted (g : Gremon) : g.settle.sys.pwr.defaulted = g.sys.pwr.defaulted :=
  (congrArg (fun k : Gremon => k.sys.pwr.defaulted) g.settle_kept :)
@[simp] theorem Gremon.settle_pwr_lostMid (g : Gremon) : g.settle.sys.pwr.lostMid = g.sys.pwr.lostMid :=
  (congrArg (fun k : Gremon => k.sys.pwr.lostMid) g.settle_kept :)
@[simp] theorem Gremon.settle_pwr_wdtAt (g : Gremon) : g.settle.sys.pwr.wdtAt = g.sys.pwr.wdtAt :=
  (congrArg (fun k : Gremon => k.sys.pwr.wdtAt) g.settle_kept :)
@[simp] theorem Gremon.settle_pwr_silentAt (g : Gremon) : g.settle.sys.pwr.silentAt = g.sys.pwr.silentAt :=
  (congrArg (fun k : Gremon => k.sys.pwr.silentAt) g.settle_kept :)
@[simp] theorem Gremon.settle_pwr_hwSet (g : Gremon) : g.settle.sys.pwr.hwSet = g.sys.pwr.hwSet :=
  (congrArg (fun k : Gremon => k.sys.pwr.hwSet) g.settle_kept :)
@[simp] theorem Gremon.settle_pwr_hwDirty (g : Gremon) : g.settle.sys.pwr.hwDirty = g.sys.pwr.hwDirty :=
  (congrArg (fun k : Gremon => k.sys.pwr.hwDirty) g.settle_kept :)
@[simp] theorem Gremon.settle_pwr_hwCommitted (g : Gremon) : g.settle.sys.pwr.hwCommitted = g.sys.pwr.hwCommitted :=
  (congrArg (fun k : Gremon => k.sys.pwr.hwCommitted) g.settle_kept :)
@[simp] theorem Gremon.settle_pwr_lastList (g : Gremon) : g.settle.sys.pwr.lastList = g.sys.pwr.lastList :=
  (congrArg (fun k : Gremon => k.sys.pwr.lastList) g.settle_kept :)
@[simp] theorem Gremon.settle_pwr_copyA (g : Gremon) : g.settle.sys.pwr.copyA = g.sys.pwr.copyA :=
  (congrArg (fun k : Gremon => k.sys.pwr.copyA) g.settle_kept :)
@[simp] theorem Gremon.settle_pwr_copyB (g : Gremon) : g.settle.sys.pwr.copyB = g.sys.pwr.copyB :=
  (congrArg (fun k : Gremon => k.sys.pwr.copyB) g.settle_kept :)
@[simp] theorem Gremon.settle_pwr_drowseList (g : Gremon) : g.settle.sys.pwr.drowseList = g.sys.pwr.drowseList :=
  (congrArg (fun k : Gremon => k.sys.pwr.drowseList) g.settle_kept :)
@[simp] theorem Gremon.settle_pwr_keys (g : Gremon) : g.settle.sys.pwr.keys = g.sys.pwr.keys :=
  (congrArg (fun k : Gremon => k.sys.pwr.keys) g.settle_kept :)
@[simp] theorem Gremon.settle_pwr_bootKits (g : Gremon) : g.settle.sys.pwr.bootKits = g.sys.pwr.bootKits :=
  (congrArg (fun k : Gremon => k.sys.pwr.bootKits) g.settle_kept :)
@[simp] theorem Gremon.settle_pwr_pushList (g : Gremon) : g.settle.sys.pwr.pushList = g.sys.pwr.pushList :=
  (congrArg (fun k : Gremon => k.sys.pwr.pushList) g.settle_kept :)
@[simp] theorem Gremon.settle_upd (g : Gremon) : g.settle.sys.upd = g.sys.upd :=
  (congrArg (fun k : Gremon => k.sys.upd) g.settle_kept :)
@[simp] theorem Gremon.settle_prot (g : Gremon) : g.settle.sys.prot = g.sys.prot :=
  (congrArg (fun k : Gremon => k.sys.prot) g.settle_kept :)
@[simp] theorem Gremon.settle_hot (g : Gremon) : g.settle.sys.hot = g.sys.hot :=
  (congrArg (fun k : Gremon => k.sys.hot) g.settle_kept :)
@[simp] theorem Gremon.settle_tsq (g : Gremon) : g.settle.sys.tsq = g.sys.tsq :=
  (congrArg (fun k : Gremon => k.sys.tsq) g.settle_kept :)
@[simp] theorem Gremon.settle_vig (g : Gremon) : g.settle.svc.vig = g.svc.vig :=
  (congrArg (fun k : Gremon => k.svc.vig) g.settle_kept :)
@[simp] theorem Gremon.settle_lan (g : Gremon) : g.settle.svc.lan = g.svc.lan :=
  (congrArg (fun k : Gremon => k.svc.lan) g.settle_kept :)
@[simp] theorem Gremon.settle_ckpt (g : Gremon) : g.settle.svc.ckpt = g.svc.ckpt :=
  (congrArg (fun k : Gremon => k.svc.ckpt) g.settle_kept :)
@[simp] theorem Gremon.settle_cont (g : Gremon) : g.settle.svc.cont = g.svc.cont :=
  (congrArg (fun k : Gremon => k.svc.cont) g.settle_kept :)
@[simp] theorem Gremon.settle_scr (g : Gremon) : g.settle.svc.scr = g.svc.scr :=
  (congrArg (fun k : Gremon => k.svc.scr) g.settle_kept :)
@[simp] theorem Gremon.settle_hist (g : Gremon) : g.settle.svc.hist = g.svc.hist :=
  (congrArg (fun k : Gremon => k.svc.hist) g.settle_kept :)
@[simp] theorem Gremon.settle_swaps (g : Gremon) : g.settle.svc.swaps = g.svc.swaps :=
  (congrArg (fun k : Gremon => k.svc.swaps) g.settle_kept :)
@[simp] theorem Gremon.settle_marks (g : Gremon) : g.settle.svc.marks = g.svc.marks :=
  (congrArg (fun k : Gremon => k.svc.marks) g.settle_kept :)
@[simp] theorem Gremon.settle_aligned (g : Gremon) : g.settle.svc.aligned = g.svc.aligned :=
  (congrArg (fun k : Gremon => k.svc.aligned) g.settle_kept :)
@[simp] theorem Gremon.settle_ambig (g : Gremon) : g.settle.svc.ambig = g.svc.ambig :=
  (congrArg (fun k : Gremon => k.svc.ambig) g.settle_kept :)
@[simp] theorem Gremon.settle_site (g : Gremon) : g.settle.svc.site = g.svc.site :=
  (congrArg (fun k : Gremon => k.svc.site) g.settle_kept :)
@[simp] theorem Gremon.settle_ptSteps (g : Gremon) : g.settle.svc.ptSteps = g.svc.ptSteps :=
  (congrArg (fun k : Gremon => k.svc.ptSteps) g.settle_kept :)

/-- Settling changes no byte of a scratchpad or CT buffer. -/
theorem Gremon.settle_byte (g : Gremon) (a : Nat) (h : a < 2 ^ 47) : g.settle.byte a = g.byte a := by
  have hf : ∀ m : Tbl Byte, Tbl.find (m.filter fun e => decide (e.1 < 2 ^ 47)) a = Tbl.find m a := fun m =>
    Tbl.find_filter (fun x => decide (x < 2 ^ 47)) m a (decide_eq_true h)
  have hk : g.settle.mem.filter (fun e => decide (e.1 < 2 ^ 47)) = g.mem.filter fun e => decide (e.1 < 2 ^ 47) :=
    congrArg Gremon.mem g.settle_kept
  unfold Gremon.byte Tbl.get
  rw [← hf g.settle.mem, hk, hf]

end Sys2Proof.Machine
end

