-- ==== Sys2Proof/Laws/State.lean ====
section
/-! SUPPORT. One lemma for each field of State that each of the shared updates leaves or sets, so that no proof unfolds a
record update. -/
namespace Sys2Proof.Machine
open Sys2Proof

@[simp] theorem Gremon.setReg_regs (g : Gremon) (k v : Nat) : (g.setReg k v).regs = g.regs.set .gremon k v := rfl
@[simp] theorem Gremon.setReg_rdData (g : Gremon) (k v : Nat) : (g.setReg k v).rdData = g.rdData := rfl
@[simp] theorem Gremon.setReg_clock (g : Gremon) (k v : Nat) : (g.setReg k v).clock = g.clock := rfl
@[simp] theorem Gremon.setReg_replicas (g : Gremon) (k v : Nat) : (g.setReg k v).replicas = g.replicas := rfl
@[simp] theorem Gremon.setReg_root (g : Gremon) (k v : Nat) : (g.setReg k v).root = g.root := rfl
@[simp] theorem Gremon.setReg_lanes (g : Gremon) (k v : Nat) : (g.setReg k v).lanes = g.lanes := rfl
@[simp] theorem Gremon.setReg_dies (g : Gremon) (k v : Nat) : (g.setReg k v).dies = g.dies := rfl
@[simp] theorem Gremon.setReg_binds (g : Gremon) (k v : Nat) : (g.setReg k v).binds = g.binds := rfl
@[simp] theorem Gremon.setReg_jobs (g : Gremon) (k v : Nat) : (g.setReg k v).jobs = g.jobs := rfl
@[simp] theorem Gremon.setReg_frameUs (g : Gremon) (k v : Nat) : (g.setReg k v).frameUs = g.frameUs := rfl
@[simp] theorem Gremon.setReg_frameN (g : Gremon) (k v : Nat) : (g.setReg k v).frameN = g.frameN := rfl
@[simp] theorem Gremon.setReg_frameNext (g : Gremon) (k v : Nat) : (g.setReg k v).frameNext = g.frameNext := rfl
@[simp] theorem Gremon.setReg_log (g : Gremon) (k v : Nat) : (g.setReg k v).log = g.log := rfl
@[simp] theorem Gremon.setReg_host (g : Gremon) (k v : Nat) : (g.setReg k v).host = g.host := rfl
@[simp] theorem Gremon.setReg_mem (g : Gremon) (k v : Nat) : (g.setReg k v).mem = g.mem := rfl
@[simp] theorem Gremon.setReg_poison (g : Gremon) (k v : Nat) : (g.setReg k v).poison = g.poison := rfl
@[simp] theorem Gremon.setReg_deadStacks (g : Gremon) (k v : Nat) : (g.setReg k v).deadStacks = g.deadStacks := rfl
@[simp] theorem Gremon.setReg_deadLinks (g : Gremon) (k v : Nat) : (g.setReg k v).deadLinks = g.deadLinks := rfl
@[simp] theorem Gremon.setReg_exclLinks (g : Gremon) (k v : Nat) : (g.setReg k v).exclLinks = g.exclLinks := rfl
@[simp] theorem Gremon.setReg_flits (g : Gremon) (k v : Nat) : (g.setReg k v).flits = g.flits := rfl
@[simp] theorem Gremon.setReg_cores (g : Gremon) (k v : Nat) : (g.setReg k v).cores = g.cores := rfl
@[simp] theorem Gremon.setReg_sync (g : Gremon) (k v : Nat) : (g.setReg k v).sync = g.sync := rfl
@[simp] theorem Gremon.setReg_eng (g : Gremon) (k v : Nat) : (g.setReg k v).eng = g.eng := rfl
@[simp] theorem Gremon.setReg_msnd (g : Gremon) (k v : Nat) : (g.setReg k v).msnd = g.msnd := rfl
@[simp] theorem Gremon.setReg_tse (g : Gremon) (k v : Nat) : (g.setReg k v).tse = g.tse := rfl
@[simp] theorem Gremon.setReg_ens (g : Gremon) (k v : Nat) : (g.setReg k v).ens = g.ens := rfl
@[simp] theorem Gremon.setReg_ensNext (g : Gremon) (k v : Nat) : (g.setReg k v).ensNext = g.ensNext := rfl
@[simp] theorem Gremon.setReg_kits (g : Gremon) (k v : Nat) : (g.setReg k v).kits = g.kits := rfl
@[simp] theorem Gremon.setReg_kitNext (g : Gremon) (k v : Nat) : (g.setReg k v).kitNext = g.kitNext := rfl
@[simp] theorem Gremon.setReg_halted (g : Gremon) (k v : Nat) : (g.setReg k v).halted = g.halted := rfl
@[simp] theorem Gremon.setReg_sys (g : Gremon) (k v : Nat) : (g.setReg k v).sys = g.sys := rfl
@[simp] theorem Gremon.setReg_svc (g : Gremon) (k v : Nat) : (g.setReg k v).svc = g.svc := rfl
@[simp] theorem Gremon.setReg_tree (g : Gremon) (k v : Nat) : (g.setReg k v).tree = g.tree := rfl
@[simp] theorem Gremon.setReg_ports (g : Gremon) (k v : Nat) : (g.setReg k v).ports = g.ports := rfl
@[simp] theorem Gremon.setReg_rlIn (g : Gremon) (k v : Nat) : (g.setReg k v).rlIn = g.rlIn := rfl
@[simp] theorem Gremon.setReg_bcasts (g : Gremon) (k v : Nat) : (g.setReg k v).bcasts = g.bcasts := rfl
@[simp] theorem Gremon.setReg_bcastNext (g : Gremon) (k v : Nat) : (g.setReg k v).bcastNext = g.bcastNext := rfl
@[simp] theorem Gremon.setReg_queries (g : Gremon) (k v : Nat) : (g.setReg k v).queries = g.queries := rfl
@[simp] theorem Gremon.setReg_queryNext (g : Gremon) (k v : Nat) : (g.setReg k v).queryNext = g.queryNext := rfl
@[simp] theorem Gremon.setReg_feeds (g : Gremon) (k v : Nat) : (g.setReg k v).feeds = g.feeds := rfl
@[simp] theorem Gremon.setReg_reds (g : Gremon) (k v : Nat) : (g.setReg k v).reds = g.reds := rfl
@[simp] theorem Gremon.setReg_redNext (g : Gremon) (k v : Nat) : (g.setReg k v).redNext = g.redNext := rfl
@[simp] theorem Gremon.setReg_redOld (g : Gremon) (k v : Nat) : (g.setReg k v).redOld = g.redOld := rfl
@[simp] theorem Gremon.setReg_redKids (g : Gremon) (k v : Nat) : (g.setReg k v).redKids = g.redKids := rfl
@[simp] theorem Gremon.setReg_failed (g : Gremon) (k v : Nat) : (g.setReg k v).failed = g.failed := rfl
@[simp] theorem Gremon.setReg_badRegAt (g : Gremon) (k v : Nat) : (g.setReg k v).badRegAt = g.badRegAt := rfl
@[simp] theorem Gremon.setReg_badRegs (g : Gremon) (k v : Nat) : (g.setReg k v).badRegs = g.badRegs := rfl
@[simp] theorem Gremon.setReg_seed (g : Gremon) (k v : Nat) : (g.setReg k v).seed = g.seed := rfl
@[simp] theorem Gremon.setFld_regs (g : Gremon) (k hi lo v : Nat) : (g.setFld k hi lo v).regs = g.regs.setFld .gremon k hi lo v := rfl
@[simp] theorem Gremon.setFld_rdData (g : Gremon) (k hi lo v : Nat) : (g.setFld k hi lo v).rdData = g.rdData := rfl
@[simp] theorem Gremon.setFld_clock (g : Gremon) (k hi lo v : Nat) : (g.setFld k hi lo v).clock = g.clock := rfl
@[simp] theorem Gremon.setFld_replicas (g : Gremon) (k hi lo v : Nat) : (g.setFld k hi lo v).replicas = g.replicas := rfl
@[simp] theorem Gremon.setFld_root (g : Gremon) (k hi lo v : Nat) : (g.setFld k hi lo v).root = g.root := rfl
@[simp] theorem Gremon.setFld_lanes (g : Gremon) (k hi lo v : Nat) : (g.setFld k hi lo v).lanes = g.lanes := rfl
@[simp] theorem Gremon.setFld_dies (g : Gremon) (k hi lo v : Nat) : (g.setFld k hi lo v).dies = g.dies := rfl
@[simp] theorem Gremon.setFld_binds (g : Gremon) (k hi lo v : Nat) : (g.setFld k hi lo v).binds = g.binds := rfl
@[simp] theorem Gremon.setFld_jobs (g : Gremon) (k hi lo v : Nat) : (g.setFld k hi lo v).jobs = g.jobs := rfl
@[simp] theorem Gremon.setFld_frameUs (g : Gremon) (k hi lo v : Nat) : (g.setFld k hi lo v).frameUs = g.frameUs := rfl
@[simp] theorem Gremon.setFld_frameN (g : Gremon) (k hi lo v : Nat) : (g.setFld k hi lo v).frameN = g.frameN := rfl
@[simp] theorem Gremon.setFld_frameNext (g : Gremon) (k hi lo v : Nat) : (g.setFld k hi lo v).frameNext = g.frameNext := rfl
@[simp] theorem Gremon.setFld_log (g : Gremon) (k hi lo v : Nat) : (g.setFld k hi lo v).log = g.log := rfl
@[simp] theorem Gremon.setFld_host (g : Gremon) (k hi lo v : Nat) : (g.setFld k hi lo v).host = g.host := rfl
@[simp] theorem Gremon.setFld_mem (g : Gremon) (k hi lo v : Nat) : (g.setFld k hi lo v).mem = g.mem := rfl
@[simp] theorem Gremon.setFld_poison (g : Gremon) (k hi lo v : Nat) : (g.setFld k hi lo v).poison = g.poison := rfl
@[simp] theorem Gremon.setFld_deadStacks (g : Gremon) (k hi lo v : Nat) : (g.setFld k hi lo v).deadStacks = g.deadStacks := rfl
@[simp] theorem Gremon.setFld_deadLinks (g : Gremon) (k hi lo v : Nat) : (g.setFld k hi lo v).deadLinks = g.deadLinks := rfl
@[simp] theorem Gremon.setFld_exclLinks (g : Gremon) (k hi lo v : Nat) : (g.setFld k hi lo v).exclLinks = g.exclLinks := rfl
@[simp] theorem Gremon.setFld_flits (g : Gremon) (k hi lo v : Nat) : (g.setFld k hi lo v).flits = g.flits := rfl
@[simp] theorem Gremon.setFld_cores (g : Gremon) (k hi lo v : Nat) : (g.setFld k hi lo v).cores = g.cores := rfl
@[simp] theorem Gremon.setFld_sync (g : Gremon) (k hi lo v : Nat) : (g.setFld k hi lo v).sync = g.sync := rfl
@[simp] theorem Gremon.setFld_eng (g : Gremon) (k hi lo v : Nat) : (g.setFld k hi lo v).eng = g.eng := rfl
@[simp] theorem Gremon.setFld_msnd (g : Gremon) (k hi lo v : Nat) : (g.setFld k hi lo v).msnd = g.msnd := rfl
@[simp] theorem Gremon.setFld_tse (g : Gremon) (k hi lo v : Nat) : (g.setFld k hi lo v).tse = g.tse := rfl
@[simp] theorem Gremon.setFld_ens (g : Gremon) (k hi lo v : Nat) : (g.setFld k hi lo v).ens = g.ens := rfl
@[simp] theorem Gremon.setFld_ensNext (g : Gremon) (k hi lo v : Nat) : (g.setFld k hi lo v).ensNext = g.ensNext := rfl
@[simp] theorem Gremon.setFld_kits (g : Gremon) (k hi lo v : Nat) : (g.setFld k hi lo v).kits = g.kits := rfl
@[simp] theorem Gremon.setFld_kitNext (g : Gremon) (k hi lo v : Nat) : (g.setFld k hi lo v).kitNext = g.kitNext := rfl
@[simp] theorem Gremon.setFld_halted (g : Gremon) (k hi lo v : Nat) : (g.setFld k hi lo v).halted = g.halted := rfl
@[simp] theorem Gremon.setFld_sys (g : Gremon) (k hi lo v : Nat) : (g.setFld k hi lo v).sys = g.sys := rfl
@[simp] theorem Gremon.setFld_svc (g : Gremon) (k hi lo v : Nat) : (g.setFld k hi lo v).svc = g.svc := rfl
@[simp] theorem Gremon.setFld_tree (g : Gremon) (k hi lo v : Nat) : (g.setFld k hi lo v).tree = g.tree := rfl
@[simp] theorem Gremon.setFld_ports (g : Gremon) (k hi lo v : Nat) : (g.setFld k hi lo v).ports = g.ports := rfl
@[simp] theorem Gremon.setFld_rlIn (g : Gremon) (k hi lo v : Nat) : (g.setFld k hi lo v).rlIn = g.rlIn := rfl
@[simp] theorem Gremon.setFld_bcasts (g : Gremon) (k hi lo v : Nat) : (g.setFld k hi lo v).bcasts = g.bcasts := rfl
@[simp] theorem Gremon.setFld_bcastNext (g : Gremon) (k hi lo v : Nat) : (g.setFld k hi lo v).bcastNext = g.bcastNext := rfl
@[simp] theorem Gremon.setFld_queries (g : Gremon) (k hi lo v : Nat) : (g.setFld k hi lo v).queries = g.queries := rfl
@[simp] theorem Gremon.setFld_queryNext (g : Gremon) (k hi lo v : Nat) : (g.setFld k hi lo v).queryNext = g.queryNext := rfl
@[simp] theorem Gremon.setFld_feeds (g : Gremon) (k hi lo v : Nat) : (g.setFld k hi lo v).feeds = g.feeds := rfl
@[simp] theorem Gremon.setFld_reds (g : Gremon) (k hi lo v : Nat) : (g.setFld k hi lo v).reds = g.reds := rfl
@[simp] theorem Gremon.setFld_redNext (g : Gremon) (k hi lo v : Nat) : (g.setFld k hi lo v).redNext = g.redNext := rfl
@[simp] theorem Gremon.setFld_redOld (g : Gremon) (k hi lo v : Nat) : (g.setFld k hi lo v).redOld = g.redOld := rfl
@[simp] theorem Gremon.setFld_redKids (g : Gremon) (k hi lo v : Nat) : (g.setFld k hi lo v).redKids = g.redKids := rfl
@[simp] theorem Gremon.setFld_failed (g : Gremon) (k hi lo v : Nat) : (g.setFld k hi lo v).failed = g.failed := rfl
@[simp] theorem Gremon.setFld_badRegAt (g : Gremon) (k hi lo v : Nat) : (g.setFld k hi lo v).badRegAt = g.badRegAt := rfl
@[simp] theorem Gremon.setFld_badRegs (g : Gremon) (k hi lo v : Nat) : (g.setFld k hi lo v).badRegs = g.badRegs := rfl
@[simp] theorem Gremon.setFld_seed (g : Gremon) (k hi lo v : Nat) : (g.setFld k hi lo v).seed = g.seed := rfl
@[simp] theorem Gremon.moveTo_regs (g : Gremon) (t : Nat) : (g.moveTo t).regs = g.regs := rfl
@[simp] theorem Gremon.moveTo_rdData (g : Gremon) (t : Nat) : (g.moveTo t).rdData = g.rdData := rfl
@[simp] theorem Gremon.moveTo_clock (g : Gremon) (t : Nat) : (g.moveTo t).clock = g.clock.moveTo t := rfl
@[simp] theorem Gremon.moveTo_replicas (g : Gremon) (t : Nat) : (g.moveTo t).replicas = g.replicas := rfl
@[simp] theorem Gremon.moveTo_root (g : Gremon) (t : Nat) : (g.moveTo t).root = g.root := rfl
@[simp] theorem Gremon.moveTo_lanes (g : Gremon) (t : Nat) : (g.moveTo t).lanes = g.lanes := rfl
@[simp] theorem Gremon.moveTo_dies (g : Gremon) (t : Nat) : (g.moveTo t).dies = g.dies := rfl
@[simp] theorem Gremon.moveTo_binds (g : Gremon) (t : Nat) : (g.moveTo t).binds = g.binds := rfl
@[simp] theorem Gremon.moveTo_jobs (g : Gremon) (t : Nat) : (g.moveTo t).jobs = g.jobs := rfl
@[simp] theorem Gremon.moveTo_frameUs (g : Gremon) (t : Nat) : (g.moveTo t).frameUs = g.frameUs := rfl
@[simp] theorem Gremon.moveTo_frameN (g : Gremon) (t : Nat) : (g.moveTo t).frameN = g.frameN := rfl
@[simp] theorem Gremon.moveTo_frameNext (g : Gremon) (t : Nat) : (g.moveTo t).frameNext = g.frameNext := rfl
@[simp] theorem Gremon.moveTo_log (g : Gremon) (t : Nat) : (g.moveTo t).log = g.log := rfl
@[simp] theorem Gremon.moveTo_host (g : Gremon) (t : Nat) : (g.moveTo t).host = g.host := rfl
@[simp] theorem Gremon.moveTo_mem (g : Gremon) (t : Nat) : (g.moveTo t).mem = g.mem := rfl
@[simp] theorem Gremon.moveTo_poison (g : Gremon) (t : Nat) : (g.moveTo t).poison = g.poison := rfl
@[simp] theorem Gremon.moveTo_deadStacks (g : Gremon) (t : Nat) : (g.moveTo t).deadStacks = g.deadStacks := rfl
@[simp] theorem Gremon.moveTo_deadLinks (g : Gremon) (t : Nat) : (g.moveTo t).deadLinks = g.deadLinks := rfl
@[simp] theorem Gremon.moveTo_exclLinks (g : Gremon) (t : Nat) : (g.moveTo t).exclLinks = g.exclLinks := rfl
@[simp] theorem Gremon.moveTo_flits (g : Gremon) (t : Nat) : (g.moveTo t).flits = g.flits := rfl
@[simp] theorem Gremon.moveTo_cores (g : Gremon) (t : Nat) : (g.moveTo t).cores = g.cores := rfl
@[simp] theorem Gremon.moveTo_sync (g : Gremon) (t : Nat) : (g.moveTo t).sync = g.sync := rfl
@[simp] theorem Gremon.moveTo_eng (g : Gremon) (t : Nat) : (g.moveTo t).eng = g.eng := rfl
@[simp] theorem Gremon.moveTo_msnd (g : Gremon) (t : Nat) : (g.moveTo t).msnd = g.msnd := rfl
@[simp] theorem Gremon.moveTo_tse (g : Gremon) (t : Nat) : (g.moveTo t).tse = g.tse := rfl
@[simp] theorem Gremon.moveTo_ens (g : Gremon) (t : Nat) : (g.moveTo t).ens = g.ens := rfl
@[simp] theorem Gremon.moveTo_ensNext (g : Gremon) (t : Nat) : (g.moveTo t).ensNext = g.ensNext := rfl
@[simp] theorem Gremon.moveTo_kits (g : Gremon) (t : Nat) : (g.moveTo t).kits = g.kits := rfl
@[simp] theorem Gremon.moveTo_kitNext (g : Gremon) (t : Nat) : (g.moveTo t).kitNext = g.kitNext := rfl
@[simp] theorem Gremon.moveTo_halted (g : Gremon) (t : Nat) : (g.moveTo t).halted = g.halted := rfl
@[simp] theorem Gremon.moveTo_sys (g : Gremon) (t : Nat) : (g.moveTo t).sys = g.sys := rfl
@[simp] theorem Gremon.moveTo_svc (g : Gremon) (t : Nat) : (g.moveTo t).svc = g.svc := rfl
@[simp] theorem Gremon.moveTo_tree (g : Gremon) (t : Nat) : (g.moveTo t).tree = g.tree := rfl
@[simp] theorem Gremon.moveTo_ports (g : Gremon) (t : Nat) : (g.moveTo t).ports = g.ports := rfl
@[simp] theorem Gremon.moveTo_rlIn (g : Gremon) (t : Nat) : (g.moveTo t).rlIn = g.rlIn := rfl
@[simp] theorem Gremon.moveTo_bcasts (g : Gremon) (t : Nat) : (g.moveTo t).bcasts = g.bcasts := rfl
@[simp] theorem Gremon.moveTo_bcastNext (g : Gremon) (t : Nat) : (g.moveTo t).bcastNext = g.bcastNext := rfl
@[simp] theorem Gremon.moveTo_queries (g : Gremon) (t : Nat) : (g.moveTo t).queries = g.queries := rfl
@[simp] theorem Gremon.moveTo_queryNext (g : Gremon) (t : Nat) : (g.moveTo t).queryNext = g.queryNext := rfl
@[simp] theorem Gremon.moveTo_feeds (g : Gremon) (t : Nat) : (g.moveTo t).feeds = g.feeds := rfl
@[simp] theorem Gremon.moveTo_reds (g : Gremon) (t : Nat) : (g.moveTo t).reds = g.reds := rfl
@[simp] theorem Gremon.moveTo_redNext (g : Gremon) (t : Nat) : (g.moveTo t).redNext = g.redNext := rfl
@[simp] theorem Gremon.moveTo_redOld (g : Gremon) (t : Nat) : (g.moveTo t).redOld = g.redOld := rfl
@[simp] theorem Gremon.moveTo_redKids (g : Gremon) (t : Nat) : (g.moveTo t).redKids = g.redKids := rfl
@[simp] theorem Gremon.moveTo_failed (g : Gremon) (t : Nat) : (g.moveTo t).failed = g.failed := rfl
@[simp] theorem Gremon.moveTo_badRegAt (g : Gremon) (t : Nat) : (g.moveTo t).badRegAt = g.badRegAt := rfl
@[simp] theorem Gremon.moveTo_badRegs (g : Gremon) (t : Nat) : (g.moveTo t).badRegs = g.badRegs := rfl
@[simp] theorem Gremon.moveTo_seed (g : Gremon) (t : Nat) : (g.moveTo t).seed = g.seed := rfl
@[simp] theorem Gremon.setCore_regs (g : Gremon) (n : Nat) (c : BCore) : (g.setCore n c).regs = g.regs := rfl
@[simp] theorem Gremon.setCore_rdData (g : Gremon) (n : Nat) (c : BCore) : (g.setCore n c).rdData = g.rdData := rfl
@[simp] theorem Gremon.setCore_clock (g : Gremon) (n : Nat) (c : BCore) : (g.setCore n c).clock = g.clock := rfl
@[simp] theorem Gremon.setCore_replicas (g : Gremon) (n : Nat) (c : BCore) : (g.setCore n c).replicas = g.replicas := rfl
@[simp] theorem Gremon.setCore_root (g : Gremon) (n : Nat) (c : BCore) : (g.setCore n c).root = g.root := rfl
@[simp] theorem Gremon.setCore_lanes (g : Gremon) (n : Nat) (c : BCore) : (g.setCore n c).lanes = g.lanes := rfl
@[simp] theorem Gremon.setCore_dies (g : Gremon) (n : Nat) (c : BCore) : (g.setCore n c).dies = g.dies := rfl
@[simp] theorem Gremon.setCore_binds (g : Gremon) (n : Nat) (c : BCore) : (g.setCore n c).binds = g.binds := rfl
@[simp] theorem Gremon.setCore_jobs (g : Gremon) (n : Nat) (c : BCore) : (g.setCore n c).jobs = g.jobs := rfl
@[simp] theorem Gremon.setCore_frameUs (g : Gremon) (n : Nat) (c : BCore) : (g.setCore n c).frameUs = g.frameUs := rfl
@[simp] theorem Gremon.setCore_frameN (g : Gremon) (n : Nat) (c : BCore) : (g.setCore n c).frameN = g.frameN := rfl
@[simp] theorem Gremon.setCore_frameNext (g : Gremon) (n : Nat) (c : BCore) : (g.setCore n c).frameNext = g.frameNext := rfl
@[simp] theorem Gremon.setCore_log (g : Gremon) (n : Nat) (c : BCore) : (g.setCore n c).log = g.log := rfl
@[simp] theorem Gremon.setCore_host (g : Gremon) (n : Nat) (c : BCore) : (g.setCore n c).host = g.host := rfl
@[simp] theorem Gremon.setCore_mem (g : Gremon) (n : Nat) (c : BCore) : (g.setCore n c).mem = g.mem := rfl
@[simp] theorem Gremon.setCore_poison (g : Gremon) (n : Nat) (c : BCore) : (g.setCore n c).poison = g.poison := rfl
@[simp] theorem Gremon.setCore_deadStacks (g : Gremon) (n : Nat) (c : BCore) : (g.setCore n c).deadStacks = g.deadStacks := rfl
@[simp] theorem Gremon.setCore_deadLinks (g : Gremon) (n : Nat) (c : BCore) : (g.setCore n c).deadLinks = g.deadLinks := rfl
@[simp] theorem Gremon.setCore_exclLinks (g : Gremon) (n : Nat) (c : BCore) : (g.setCore n c).exclLinks = g.exclLinks := rfl
@[simp] theorem Gremon.setCore_flits (g : Gremon) (n : Nat) (c : BCore) : (g.setCore n c).flits = g.flits := rfl
@[simp] theorem Gremon.setCore_cores (g : Gremon) (n : Nat) (c : BCore) : (g.setCore n c).cores = Tbl.set BCore.idle g.cores n c := rfl
@[simp] theorem Gremon.setCore_sync (g : Gremon) (n : Nat) (c : BCore) : (g.setCore n c).sync = g.sync := rfl
@[simp] theorem Gremon.setCore_eng (g : Gremon) (n : Nat) (c : BCore) : (g.setCore n c).eng = g.eng := rfl
@[simp] theorem Gremon.setCore_msnd (g : Gremon) (n : Nat) (c : BCore) : (g.setCore n c).msnd = g.msnd := rfl
@[simp] theorem Gremon.setCore_tse (g : Gremon) (n : Nat) (c : BCore) : (g.setCore n c).tse = g.tse := rfl
@[simp] theorem Gremon.setCore_ens (g : Gremon) (n : Nat) (c : BCore) : (g.setCore n c).ens = g.ens := rfl
@[simp] theorem Gremon.setCore_ensNext (g : Gremon) (n : Nat) (c : BCore) : (g.setCore n c).ensNext = g.ensNext := rfl
@[simp] theorem Gremon.setCore_kits (g : Gremon) (n : Nat) (c : BCore) : (g.setCore n c).kits = g.kits := rfl
@[simp] theorem Gremon.setCore_kitNext (g : Gremon) (n : Nat) (c : BCore) : (g.setCore n c).kitNext = g.kitNext := rfl
@[simp] theorem Gremon.setCore_halted (g : Gremon) (n : Nat) (c : BCore) : (g.setCore n c).halted = g.halted := rfl
@[simp] theorem Gremon.setCore_sys (g : Gremon) (n : Nat) (c : BCore) : (g.setCore n c).sys = g.sys := rfl
@[simp] theorem Gremon.setCore_svc (g : Gremon) (n : Nat) (c : BCore) : (g.setCore n c).svc = g.svc := rfl
@[simp] theorem Gremon.setCore_tree (g : Gremon) (n : Nat) (c : BCore) : (g.setCore n c).tree = g.tree := rfl
@[simp] theorem Gremon.setCore_ports (g : Gremon) (n : Nat) (c : BCore) : (g.setCore n c).ports = g.ports := rfl
@[simp] theorem Gremon.setCore_rlIn (g : Gremon) (n : Nat) (c : BCore) : (g.setCore n c).rlIn = g.rlIn := rfl
@[simp] theorem Gremon.setCore_bcasts (g : Gremon) (n : Nat) (c : BCore) : (g.setCore n c).bcasts = g.bcasts := rfl
@[simp] theorem Gremon.setCore_bcastNext (g : Gremon) (n : Nat) (c : BCore) : (g.setCore n c).bcastNext = g.bcastNext := rfl
@[simp] theorem Gremon.setCore_queries (g : Gremon) (n : Nat) (c : BCore) : (g.setCore n c).queries = g.queries := rfl
@[simp] theorem Gremon.setCore_queryNext (g : Gremon) (n : Nat) (c : BCore) : (g.setCore n c).queryNext = g.queryNext := rfl
@[simp] theorem Gremon.setCore_feeds (g : Gremon) (n : Nat) (c : BCore) : (g.setCore n c).feeds = g.feeds := rfl
@[simp] theorem Gremon.setCore_reds (g : Gremon) (n : Nat) (c : BCore) : (g.setCore n c).reds = g.reds := rfl
@[simp] theorem Gremon.setCore_redNext (g : Gremon) (n : Nat) (c : BCore) : (g.setCore n c).redNext = g.redNext := rfl
@[simp] theorem Gremon.setCore_redOld (g : Gremon) (n : Nat) (c : BCore) : (g.setCore n c).redOld = g.redOld := rfl
@[simp] theorem Gremon.setCore_redKids (g : Gremon) (n : Nat) (c : BCore) : (g.setCore n c).redKids = g.redKids := rfl
@[simp] theorem Gremon.setCore_failed (g : Gremon) (n : Nat) (c : BCore) : (g.setCore n c).failed = g.failed := rfl
@[simp] theorem Gremon.setCore_badRegAt (g : Gremon) (n : Nat) (c : BCore) : (g.setCore n c).badRegAt = g.badRegAt := rfl
@[simp] theorem Gremon.setCore_badRegs (g : Gremon) (n : Nat) (c : BCore) : (g.setCore n c).badRegs = g.badRegs := rfl
@[simp] theorem Gremon.setCore_seed (g : Gremon) (n : Nat) (c : BCore) : (g.setCore n c).seed = g.seed := rfl
@[simp] theorem Gremon.setObj_regs (g : Gremon) (n : Nat) (o : SyncObj) : (g.setObj n o).regs = g.regs := rfl
@[simp] theorem Gremon.setObj_rdData (g : Gremon) (n : Nat) (o : SyncObj) : (g.setObj n o).rdData = g.rdData := rfl
@[simp] theorem Gremon.setObj_clock (g : Gremon) (n : Nat) (o : SyncObj) : (g.setObj n o).clock = g.clock := rfl
@[simp] theorem Gremon.setObj_replicas (g : Gremon) (n : Nat) (o : SyncObj) : (g.setObj n o).replicas = g.replicas := rfl
@[simp] theorem Gremon.setObj_root (g : Gremon) (n : Nat) (o : SyncObj) : (g.setObj n o).root = g.root := rfl
@[simp] theorem Gremon.setObj_lanes (g : Gremon) (n : Nat) (o : SyncObj) : (g.setObj n o).lanes = g.lanes := rfl
@[simp] theorem Gremon.setObj_dies (g : Gremon) (n : Nat) (o : SyncObj) : (g.setObj n o).dies = g.dies := rfl
@[simp] theorem Gremon.setObj_binds (g : Gremon) (n : Nat) (o : SyncObj) : (g.setObj n o).binds = g.binds := rfl
@[simp] theorem Gremon.setObj_jobs (g : Gremon) (n : Nat) (o : SyncObj) : (g.setObj n o).jobs = g.jobs := rfl
@[simp] theorem Gremon.setObj_frameUs (g : Gremon) (n : Nat) (o : SyncObj) : (g.setObj n o).frameUs = g.frameUs := rfl
@[simp] theorem Gremon.setObj_frameN (g : Gremon) (n : Nat) (o : SyncObj) : (g.setObj n o).frameN = g.frameN := rfl
@[simp] theorem Gremon.setObj_frameNext (g : Gremon) (n : Nat) (o : SyncObj) : (g.setObj n o).frameNext = g.frameNext := rfl
@[simp] theorem Gremon.setObj_log (g : Gremon) (n : Nat) (o : SyncObj) : (g.setObj n o).log = g.log := rfl
@[simp] theorem Gremon.setObj_host (g : Gremon) (n : Nat) (o : SyncObj) : (g.setObj n o).host = g.host := rfl
@[simp] theorem Gremon.setObj_mem (g : Gremon) (n : Nat) (o : SyncObj) : (g.setObj n o).mem = g.mem := rfl
@[simp] theorem Gremon.setObj_poison (g : Gremon) (n : Nat) (o : SyncObj) : (g.setObj n o).poison = g.poison := rfl
@[simp] theorem Gremon.setObj_deadStacks (g : Gremon) (n : Nat) (o : SyncObj) : (g.setObj n o).deadStacks = g.deadStacks := rfl
@[simp] theorem Gremon.setObj_deadLinks (g : Gremon) (n : Nat) (o : SyncObj) : (g.setObj n o).deadLinks = g.deadLinks := rfl
@[simp] theorem Gremon.setObj_exclLinks (g : Gremon) (n : Nat) (o : SyncObj) : (g.setObj n o).exclLinks = g.exclLinks := rfl
@[simp] theorem Gremon.setObj_flits (g : Gremon) (n : Nat) (o : SyncObj) : (g.setObj n o).flits = g.flits := rfl
@[simp] theorem Gremon.setObj_cores (g : Gremon) (n : Nat) (o : SyncObj) : (g.setObj n o).cores = g.cores := rfl
@[simp] theorem Gremon.setObj_sync (g : Gremon) (n : Nat) (o : SyncObj) : (g.setObj n o).sync = Tbl.set SyncObj.free g.sync n o := rfl
@[simp] theorem Gremon.setObj_eng (g : Gremon) (n : Nat) (o : SyncObj) : (g.setObj n o).eng = g.eng := rfl
@[simp] theorem Gremon.setObj_msnd (g : Gremon) (n : Nat) (o : SyncObj) : (g.setObj n o).msnd = g.msnd := rfl
@[simp] theorem Gremon.setObj_tse (g : Gremon) (n : Nat) (o : SyncObj) : (g.setObj n o).tse = g.tse := rfl
@[simp] theorem Gremon.setObj_ens (g : Gremon) (n : Nat) (o : SyncObj) : (g.setObj n o).ens = g.ens := rfl
@[simp] theorem Gremon.setObj_ensNext (g : Gremon) (n : Nat) (o : SyncObj) : (g.setObj n o).ensNext = g.ensNext := rfl
@[simp] theorem Gremon.setObj_kits (g : Gremon) (n : Nat) (o : SyncObj) : (g.setObj n o).kits = g.kits := rfl
@[simp] theorem Gremon.setObj_kitNext (g : Gremon) (n : Nat) (o : SyncObj) : (g.setObj n o).kitNext = g.kitNext := rfl
@[simp] theorem Gremon.setObj_halted (g : Gremon) (n : Nat) (o : SyncObj) : (g.setObj n o).halted = g.halted := rfl
@[simp] theorem Gremon.setObj_sys (g : Gremon) (n : Nat) (o : SyncObj) : (g.setObj n o).sys = g.sys := rfl
@[simp] theorem Gremon.setObj_svc (g : Gremon) (n : Nat) (o : SyncObj) : (g.setObj n o).svc = g.svc := rfl
@[simp] theorem Gremon.setObj_tree (g : Gremon) (n : Nat) (o : SyncObj) : (g.setObj n o).tree = g.tree := rfl
@[simp] theorem Gremon.setObj_ports (g : Gremon) (n : Nat) (o : SyncObj) : (g.setObj n o).ports = g.ports := rfl
@[simp] theorem Gremon.setObj_rlIn (g : Gremon) (n : Nat) (o : SyncObj) : (g.setObj n o).rlIn = g.rlIn := rfl
@[simp] theorem Gremon.setObj_bcasts (g : Gremon) (n : Nat) (o : SyncObj) : (g.setObj n o).bcasts = g.bcasts := rfl
@[simp] theorem Gremon.setObj_bcastNext (g : Gremon) (n : Nat) (o : SyncObj) : (g.setObj n o).bcastNext = g.bcastNext := rfl
@[simp] theorem Gremon.setObj_queries (g : Gremon) (n : Nat) (o : SyncObj) : (g.setObj n o).queries = g.queries := rfl
@[simp] theorem Gremon.setObj_queryNext (g : Gremon) (n : Nat) (o : SyncObj) : (g.setObj n o).queryNext = g.queryNext := rfl
@[simp] theorem Gremon.setObj_feeds (g : Gremon) (n : Nat) (o : SyncObj) : (g.setObj n o).feeds = g.feeds := rfl
@[simp] theorem Gremon.setObj_reds (g : Gremon) (n : Nat) (o : SyncObj) : (g.setObj n o).reds = g.reds := rfl
@[simp] theorem Gremon.setObj_redNext (g : Gremon) (n : Nat) (o : SyncObj) : (g.setObj n o).redNext = g.redNext := rfl
@[simp] theorem Gremon.setObj_redOld (g : Gremon) (n : Nat) (o : SyncObj) : (g.setObj n o).redOld = g.redOld := rfl
@[simp] theorem Gremon.setObj_redKids (g : Gremon) (n : Nat) (o : SyncObj) : (g.setObj n o).redKids = g.redKids := rfl
@[simp] theorem Gremon.setObj_failed (g : Gremon) (n : Nat) (o : SyncObj) : (g.setObj n o).failed = g.failed := rfl
@[simp] theorem Gremon.setObj_badRegAt (g : Gremon) (n : Nat) (o : SyncObj) : (g.setObj n o).badRegAt = g.badRegAt := rfl
@[simp] theorem Gremon.setObj_badRegs (g : Gremon) (n : Nat) (o : SyncObj) : (g.setObj n o).badRegs = g.badRegs := rfl
@[simp] theorem Gremon.setObj_seed (g : Gremon) (n : Nat) (o : SyncObj) : (g.setObj n o).seed = g.seed := rfl
@[simp] theorem Gremon.setKit_regs (g : Gremon) (n : Nat) (k : KitSlot) : (g.setKit n k).regs = g.regs := rfl
@[simp] theorem Gremon.setKit_rdData (g : Gremon) (n : Nat) (k : KitSlot) : (g.setKit n k).rdData = g.rdData := rfl
@[simp] theorem Gremon.setKit_clock (g : Gremon) (n : Nat) (k : KitSlot) : (g.setKit n k).clock = g.clock := rfl
@[simp] theorem Gremon.setKit_replicas (g : Gremon) (n : Nat) (k : KitSlot) : (g.setKit n k).replicas = g.replicas := rfl
@[simp] theorem Gremon.setKit_root (g : Gremon) (n : Nat) (k : KitSlot) : (g.setKit n k).root = g.root := rfl
@[simp] theorem Gremon.setKit_lanes (g : Gremon) (n : Nat) (k : KitSlot) : (g.setKit n k).lanes = g.lanes := rfl
@[simp] theorem Gremon.setKit_dies (g : Gremon) (n : Nat) (k : KitSlot) : (g.setKit n k).dies = g.dies := rfl
@[simp] theorem Gremon.setKit_binds (g : Gremon) (n : Nat) (k : KitSlot) : (g.setKit n k).binds = g.binds := rfl
@[simp] theorem Gremon.setKit_jobs (g : Gremon) (n : Nat) (k : KitSlot) : (g.setKit n k).jobs = g.jobs := rfl
@[simp] theorem Gremon.setKit_frameUs (g : Gremon) (n : Nat) (k : KitSlot) : (g.setKit n k).frameUs = g.frameUs := rfl
@[simp] theorem Gremon.setKit_frameN (g : Gremon) (n : Nat) (k : KitSlot) : (g.setKit n k).frameN = g.frameN := rfl
@[simp] theorem Gremon.setKit_frameNext (g : Gremon) (n : Nat) (k : KitSlot) : (g.setKit n k).frameNext = g.frameNext := rfl
@[simp] theorem Gremon.setKit_log (g : Gremon) (n : Nat) (k : KitSlot) : (g.setKit n k).log = g.log := rfl
@[simp] theorem Gremon.setKit_host (g : Gremon) (n : Nat) (k : KitSlot) : (g.setKit n k).host = g.host := rfl
@[simp] theorem Gremon.setKit_mem (g : Gremon) (n : Nat) (k : KitSlot) : (g.setKit n k).mem = g.mem := rfl
@[simp] theorem Gremon.setKit_poison (g : Gremon) (n : Nat) (k : KitSlot) : (g.setKit n k).poison = g.poison := rfl
@[simp] theorem Gremon.setKit_deadStacks (g : Gremon) (n : Nat) (k : KitSlot) : (g.setKit n k).deadStacks = g.deadStacks := rfl
@[simp] theorem Gremon.setKit_deadLinks (g : Gremon) (n : Nat) (k : KitSlot) : (g.setKit n k).deadLinks = g.deadLinks := rfl
@[simp] theorem Gremon.setKit_exclLinks (g : Gremon) (n : Nat) (k : KitSlot) : (g.setKit n k).exclLinks = g.exclLinks := rfl
@[simp] theorem Gremon.setKit_flits (g : Gremon) (n : Nat) (k : KitSlot) : (g.setKit n k).flits = g.flits := rfl
@[simp] theorem Gremon.setKit_cores (g : Gremon) (n : Nat) (k : KitSlot) : (g.setKit n k).cores = g.cores := rfl
@[simp] theorem Gremon.setKit_sync (g : Gremon) (n : Nat) (k : KitSlot) : (g.setKit n k).sync = g.sync := rfl
@[simp] theorem Gremon.setKit_eng (g : Gremon) (n : Nat) (k : KitSlot) : (g.setKit n k).eng = g.eng := rfl
@[simp] theorem Gremon.setKit_msnd (g : Gremon) (n : Nat) (k : KitSlot) : (g.setKit n k).msnd = g.msnd := rfl
@[simp] theorem Gremon.setKit_tse (g : Gremon) (n : Nat) (k : KitSlot) : (g.setKit n k).tse = g.tse := rfl
@[simp] theorem Gremon.setKit_ens (g : Gremon) (n : Nat) (k : KitSlot) : (g.setKit n k).ens = g.ens := rfl
@[simp] theorem Gremon.setKit_ensNext (g : Gremon) (n : Nat) (k : KitSlot) : (g.setKit n k).ensNext = g.ensNext := rfl
@[simp] theorem Gremon.setKit_kits (g : Gremon) (n : Nat) (k : KitSlot) : (g.setKit n k).kits = Tbl.set KitSlot.empty g.kits n k := rfl
@[simp] theorem Gremon.setKit_kitNext (g : Gremon) (n : Nat) (k : KitSlot) : (g.setKit n k).kitNext = g.kitNext := rfl
@[simp] theorem Gremon.setKit_halted (g : Gremon) (n : Nat) (k : KitSlot) : (g.setKit n k).halted = g.halted := rfl
@[simp] theorem Gremon.setKit_sys (g : Gremon) (n : Nat) (k : KitSlot) : (g.setKit n k).sys = g.sys := rfl
@[simp] theorem Gremon.setKit_svc (g : Gremon) (n : Nat) (k : KitSlot) : (g.setKit n k).svc = g.svc := rfl
@[simp] theorem Gremon.setKit_tree (g : Gremon) (n : Nat) (k : KitSlot) : (g.setKit n k).tree = g.tree := rfl
@[simp] theorem Gremon.setKit_ports (g : Gremon) (n : Nat) (k : KitSlot) : (g.setKit n k).ports = g.ports := rfl
@[simp] theorem Gremon.setKit_rlIn (g : Gremon) (n : Nat) (k : KitSlot) : (g.setKit n k).rlIn = g.rlIn := rfl
@[simp] theorem Gremon.setKit_bcasts (g : Gremon) (n : Nat) (k : KitSlot) : (g.setKit n k).bcasts = g.bcasts := rfl
@[simp] theorem Gremon.setKit_bcastNext (g : Gremon) (n : Nat) (k : KitSlot) : (g.setKit n k).bcastNext = g.bcastNext := rfl
@[simp] theorem Gremon.setKit_queries (g : Gremon) (n : Nat) (k : KitSlot) : (g.setKit n k).queries = g.queries := rfl
@[simp] theorem Gremon.setKit_queryNext (g : Gremon) (n : Nat) (k : KitSlot) : (g.setKit n k).queryNext = g.queryNext := rfl
@[simp] theorem Gremon.setKit_feeds (g : Gremon) (n : Nat) (k : KitSlot) : (g.setKit n k).feeds = g.feeds := rfl
@[simp] theorem Gremon.setKit_reds (g : Gremon) (n : Nat) (k : KitSlot) : (g.setKit n k).reds = g.reds := rfl
@[simp] theorem Gremon.setKit_redNext (g : Gremon) (n : Nat) (k : KitSlot) : (g.setKit n k).redNext = g.redNext := rfl
@[simp] theorem Gremon.setKit_redOld (g : Gremon) (n : Nat) (k : KitSlot) : (g.setKit n k).redOld = g.redOld := rfl
@[simp] theorem Gremon.setKit_redKids (g : Gremon) (n : Nat) (k : KitSlot) : (g.setKit n k).redKids = g.redKids := rfl
@[simp] theorem Gremon.setKit_failed (g : Gremon) (n : Nat) (k : KitSlot) : (g.setKit n k).failed = g.failed := rfl
@[simp] theorem Gremon.setKit_badRegAt (g : Gremon) (n : Nat) (k : KitSlot) : (g.setKit n k).badRegAt = g.badRegAt := rfl
@[simp] theorem Gremon.setKit_badRegs (g : Gremon) (n : Nat) (k : KitSlot) : (g.setKit n k).badRegs = g.badRegs := rfl
@[simp] theorem Gremon.setKit_seed (g : Gremon) (n : Nat) (k : KitSlot) : (g.setKit n k).seed = g.seed := rfl
@[simp] theorem Gremon.setTse_regs (g : Gremon) (n : Nat) (k : TseCt) : (g.setTse n k).regs = g.regs := rfl
@[simp] theorem Gremon.setTse_rdData (g : Gremon) (n : Nat) (k : TseCt) : (g.setTse n k).rdData = g.rdData := rfl
@[simp] theorem Gremon.setTse_clock (g : Gremon) (n : Nat) (k : TseCt) : (g.setTse n k).clock = g.clock := rfl
@[simp] theorem Gremon.setTse_replicas (g : Gremon) (n : Nat) (k : TseCt) : (g.setTse n k).replicas = g.replicas := rfl
@[simp] theorem Gremon.setTse_root (g : Gremon) (n : Nat) (k : TseCt) : (g.setTse n k).root = g.root := rfl
@[simp] theorem Gremon.setTse_lanes (g : Gremon) (n : Nat) (k : TseCt) : (g.setTse n k).lanes = g.lanes := rfl
@[simp] theorem Gremon.setTse_dies (g : Gremon) (n : Nat) (k : TseCt) : (g.setTse n k).dies = g.dies := rfl
@[simp] theorem Gremon.setTse_binds (g : Gremon) (n : Nat) (k : TseCt) : (g.setTse n k).binds = g.binds := rfl
@[simp] theorem Gremon.setTse_jobs (g : Gremon) (n : Nat) (k : TseCt) : (g.setTse n k).jobs = g.jobs := rfl
@[simp] theorem Gremon.setTse_frameUs (g : Gremon) (n : Nat) (k : TseCt) : (g.setTse n k).frameUs = g.frameUs := rfl
@[simp] theorem Gremon.setTse_frameN (g : Gremon) (n : Nat) (k : TseCt) : (g.setTse n k).frameN = g.frameN := rfl
@[simp] theorem Gremon.setTse_frameNext (g : Gremon) (n : Nat) (k : TseCt) : (g.setTse n k).frameNext = g.frameNext := rfl
@[simp] theorem Gremon.setTse_log (g : Gremon) (n : Nat) (k : TseCt) : (g.setTse n k).log = g.log := rfl
@[simp] theorem Gremon.setTse_host (g : Gremon) (n : Nat) (k : TseCt) : (g.setTse n k).host = g.host := rfl
@[simp] theorem Gremon.setTse_mem (g : Gremon) (n : Nat) (k : TseCt) : (g.setTse n k).mem = g.mem := rfl
@[simp] theorem Gremon.setTse_poison (g : Gremon) (n : Nat) (k : TseCt) : (g.setTse n k).poison = g.poison := rfl
@[simp] theorem Gremon.setTse_deadStacks (g : Gremon) (n : Nat) (k : TseCt) : (g.setTse n k).deadStacks = g.deadStacks := rfl
@[simp] theorem Gremon.setTse_deadLinks (g : Gremon) (n : Nat) (k : TseCt) : (g.setTse n k).deadLinks = g.deadLinks := rfl
@[simp] theorem Gremon.setTse_exclLinks (g : Gremon) (n : Nat) (k : TseCt) : (g.setTse n k).exclLinks = g.exclLinks := rfl
@[simp] theorem Gremon.setTse_flits (g : Gremon) (n : Nat) (k : TseCt) : (g.setTse n k).flits = g.flits := rfl
@[simp] theorem Gremon.setTse_cores (g : Gremon) (n : Nat) (k : TseCt) : (g.setTse n k).cores = g.cores := rfl
@[simp] theorem Gremon.setTse_sync (g : Gremon) (n : Nat) (k : TseCt) : (g.setTse n k).sync = g.sync := rfl
@[simp] theorem Gremon.setTse_eng (g : Gremon) (n : Nat) (k : TseCt) : (g.setTse n k).eng = g.eng := rfl
@[simp] theorem Gremon.setTse_msnd (g : Gremon) (n : Nat) (k : TseCt) : (g.setTse n k).msnd = g.msnd := rfl
@[simp] theorem Gremon.setTse_tse (g : Gremon) (n : Nat) (k : TseCt) : (g.setTse n k).tse = Tbl.set TseCt.off g.tse n k := rfl
@[simp] theorem Gremon.setTse_ens (g : Gremon) (n : Nat) (k : TseCt) : (g.setTse n k).ens = g.ens := rfl
@[simp] theorem Gremon.setTse_ensNext (g : Gremon) (n : Nat) (k : TseCt) : (g.setTse n k).ensNext = g.ensNext := rfl
@[simp] theorem Gremon.setTse_kits (g : Gremon) (n : Nat) (k : TseCt) : (g.setTse n k).kits = g.kits := rfl
@[simp] theorem Gremon.setTse_kitNext (g : Gremon) (n : Nat) (k : TseCt) : (g.setTse n k).kitNext = g.kitNext := rfl
@[simp] theorem Gremon.setTse_halted (g : Gremon) (n : Nat) (k : TseCt) : (g.setTse n k).halted = g.halted := rfl
@[simp] theorem Gremon.setTse_sys (g : Gremon) (n : Nat) (k : TseCt) : (g.setTse n k).sys = g.sys := rfl
@[simp] theorem Gremon.setTse_svc (g : Gremon) (n : Nat) (k : TseCt) : (g.setTse n k).svc = g.svc := rfl
@[simp] theorem Gremon.setTse_tree (g : Gremon) (n : Nat) (k : TseCt) : (g.setTse n k).tree = g.tree := rfl
@[simp] theorem Gremon.setTse_ports (g : Gremon) (n : Nat) (k : TseCt) : (g.setTse n k).ports = g.ports := rfl
@[simp] theorem Gremon.setTse_rlIn (g : Gremon) (n : Nat) (k : TseCt) : (g.setTse n k).rlIn = g.rlIn := rfl
@[simp] theorem Gremon.setTse_bcasts (g : Gremon) (n : Nat) (k : TseCt) : (g.setTse n k).bcasts = g.bcasts := rfl
@[simp] theorem Gremon.setTse_bcastNext (g : Gremon) (n : Nat) (k : TseCt) : (g.setTse n k).bcastNext = g.bcastNext := rfl
@[simp] theorem Gremon.setTse_queries (g : Gremon) (n : Nat) (k : TseCt) : (g.setTse n k).queries = g.queries := rfl
@[simp] theorem Gremon.setTse_queryNext (g : Gremon) (n : Nat) (k : TseCt) : (g.setTse n k).queryNext = g.queryNext := rfl
@[simp] theorem Gremon.setTse_feeds (g : Gremon) (n : Nat) (k : TseCt) : (g.setTse n k).feeds = g.feeds := rfl
@[simp] theorem Gremon.setTse_reds (g : Gremon) (n : Nat) (k : TseCt) : (g.setTse n k).reds = g.reds := rfl
@[simp] theorem Gremon.setTse_redNext (g : Gremon) (n : Nat) (k : TseCt) : (g.setTse n k).redNext = g.redNext := rfl
@[simp] theorem Gremon.setTse_redOld (g : Gremon) (n : Nat) (k : TseCt) : (g.setTse n k).redOld = g.redOld := rfl
@[simp] theorem Gremon.setTse_redKids (g : Gremon) (n : Nat) (k : TseCt) : (g.setTse n k).redKids = g.redKids := rfl
@[simp] theorem Gremon.setTse_failed (g : Gremon) (n : Nat) (k : TseCt) : (g.setTse n k).failed = g.failed := rfl
@[simp] theorem Gremon.setTse_badRegAt (g : Gremon) (n : Nat) (k : TseCt) : (g.setTse n k).badRegAt = g.badRegAt := rfl
@[simp] theorem Gremon.setTse_badRegs (g : Gremon) (n : Nat) (k : TseCt) : (g.setTse n k).badRegs = g.badRegs := rfl
@[simp] theorem Gremon.setTse_seed (g : Gremon) (n : Nat) (k : TseCt) : (g.setTse n k).seed = g.seed := rfl
@[simp] theorem Gremon.setLane_regs (g : Gremon) (n : Nat) (l : GlLink) : (g.setLane n l).regs = g.regs := rfl
@[simp] theorem Gremon.setLane_rdData (g : Gremon) (n : Nat) (l : GlLink) : (g.setLane n l).rdData = g.rdData := rfl
@[simp] theorem Gremon.setLane_clock (g : Gremon) (n : Nat) (l : GlLink) : (g.setLane n l).clock = g.clock := rfl
@[simp] theorem Gremon.setLane_replicas (g : Gremon) (n : Nat) (l : GlLink) : (g.setLane n l).replicas = g.replicas := rfl
@[simp] theorem Gremon.setLane_root (g : Gremon) (n : Nat) (l : GlLink) : (g.setLane n l).root = g.root := rfl
@[simp] theorem Gremon.setLane_lanes (g : Gremon) (n : Nat) (l : GlLink) : (g.setLane n l).lanes = Tbl.set (GlLink.reset .gremon) g.lanes n l := rfl
@[simp] theorem Gremon.setLane_dies (g : Gremon) (n : Nat) (l : GlLink) : (g.setLane n l).dies = g.dies := rfl
@[simp] theorem Gremon.setLane_binds (g : Gremon) (n : Nat) (l : GlLink) : (g.setLane n l).binds = g.binds := rfl
@[simp] theorem Gremon.setLane_jobs (g : Gremon) (n : Nat) (l : GlLink) : (g.setLane n l).jobs = g.jobs := rfl
@[simp] theorem Gremon.setLane_frameUs (g : Gremon) (n : Nat) (l : GlLink) : (g.setLane n l).frameUs = g.frameUs := rfl
@[simp] theorem Gremon.setLane_frameN (g : Gremon) (n : Nat) (l : GlLink) : (g.setLane n l).frameN = g.frameN := rfl
@[simp] theorem Gremon.setLane_frameNext (g : Gremon) (n : Nat) (l : GlLink) : (g.setLane n l).frameNext = g.frameNext := rfl
@[simp] theorem Gremon.setLane_log (g : Gremon) (n : Nat) (l : GlLink) : (g.setLane n l).log = g.log := rfl
@[simp] theorem Gremon.setLane_host (g : Gremon) (n : Nat) (l : GlLink) : (g.setLane n l).host = g.host := rfl
@[simp] theorem Gremon.setLane_mem (g : Gremon) (n : Nat) (l : GlLink) : (g.setLane n l).mem = g.mem := rfl
@[simp] theorem Gremon.setLane_poison (g : Gremon) (n : Nat) (l : GlLink) : (g.setLane n l).poison = g.poison := rfl
@[simp] theorem Gremon.setLane_deadStacks (g : Gremon) (n : Nat) (l : GlLink) : (g.setLane n l).deadStacks = g.deadStacks := rfl
@[simp] theorem Gremon.setLane_deadLinks (g : Gremon) (n : Nat) (l : GlLink) : (g.setLane n l).deadLinks = g.deadLinks := rfl
@[simp] theorem Gremon.setLane_exclLinks (g : Gremon) (n : Nat) (l : GlLink) : (g.setLane n l).exclLinks = g.exclLinks := rfl
@[simp] theorem Gremon.setLane_flits (g : Gremon) (n : Nat) (l : GlLink) : (g.setLane n l).flits = g.flits := rfl
@[simp] theorem Gremon.setLane_cores (g : Gremon) (n : Nat) (l : GlLink) : (g.setLane n l).cores = g.cores := rfl
@[simp] theorem Gremon.setLane_sync (g : Gremon) (n : Nat) (l : GlLink) : (g.setLane n l).sync = g.sync := rfl
@[simp] theorem Gremon.setLane_eng (g : Gremon) (n : Nat) (l : GlLink) : (g.setLane n l).eng = g.eng := rfl
@[simp] theorem Gremon.setLane_msnd (g : Gremon) (n : Nat) (l : GlLink) : (g.setLane n l).msnd = g.msnd := rfl
@[simp] theorem Gremon.setLane_tse (g : Gremon) (n : Nat) (l : GlLink) : (g.setLane n l).tse = g.tse := rfl
@[simp] theorem Gremon.setLane_ens (g : Gremon) (n : Nat) (l : GlLink) : (g.setLane n l).ens = g.ens := rfl
@[simp] theorem Gremon.setLane_ensNext (g : Gremon) (n : Nat) (l : GlLink) : (g.setLane n l).ensNext = g.ensNext := rfl
@[simp] theorem Gremon.setLane_kits (g : Gremon) (n : Nat) (l : GlLink) : (g.setLane n l).kits = g.kits := rfl
@[simp] theorem Gremon.setLane_kitNext (g : Gremon) (n : Nat) (l : GlLink) : (g.setLane n l).kitNext = g.kitNext := rfl
@[simp] theorem Gremon.setLane_halted (g : Gremon) (n : Nat) (l : GlLink) : (g.setLane n l).halted = g.halted := rfl
@[simp] theorem Gremon.setLane_sys (g : Gremon) (n : Nat) (l : GlLink) : (g.setLane n l).sys = g.sys := rfl
@[simp] theorem Gremon.setLane_svc (g : Gremon) (n : Nat) (l : GlLink) : (g.setLane n l).svc = g.svc := rfl
@[simp] theorem Gremon.setLane_tree (g : Gremon) (n : Nat) (l : GlLink) : (g.setLane n l).tree = g.tree := rfl
@[simp] theorem Gremon.setLane_ports (g : Gremon) (n : Nat) (l : GlLink) : (g.setLane n l).ports = g.ports := rfl
@[simp] theorem Gremon.setLane_rlIn (g : Gremon) (n : Nat) (l : GlLink) : (g.setLane n l).rlIn = g.rlIn := rfl
@[simp] theorem Gremon.setLane_bcasts (g : Gremon) (n : Nat) (l : GlLink) : (g.setLane n l).bcasts = g.bcasts := rfl
@[simp] theorem Gremon.setLane_bcastNext (g : Gremon) (n : Nat) (l : GlLink) : (g.setLane n l).bcastNext = g.bcastNext := rfl
@[simp] theorem Gremon.setLane_queries (g : Gremon) (n : Nat) (l : GlLink) : (g.setLane n l).queries = g.queries := rfl
@[simp] theorem Gremon.setLane_queryNext (g : Gremon) (n : Nat) (l : GlLink) : (g.setLane n l).queryNext = g.queryNext := rfl
@[simp] theorem Gremon.setLane_feeds (g : Gremon) (n : Nat) (l : GlLink) : (g.setLane n l).feeds = g.feeds := rfl
@[simp] theorem Gremon.setLane_reds (g : Gremon) (n : Nat) (l : GlLink) : (g.setLane n l).reds = g.reds := rfl
@[simp] theorem Gremon.setLane_redNext (g : Gremon) (n : Nat) (l : GlLink) : (g.setLane n l).redNext = g.redNext := rfl
@[simp] theorem Gremon.setLane_redOld (g : Gremon) (n : Nat) (l : GlLink) : (g.setLane n l).redOld = g.redOld := rfl
@[simp] theorem Gremon.setLane_redKids (g : Gremon) (n : Nat) (l : GlLink) : (g.setLane n l).redKids = g.redKids := rfl
@[simp] theorem Gremon.setLane_failed (g : Gremon) (n : Nat) (l : GlLink) : (g.setLane n l).failed = g.failed := rfl
@[simp] theorem Gremon.setLane_badRegAt (g : Gremon) (n : Nat) (l : GlLink) : (g.setLane n l).badRegAt = g.badRegAt := rfl
@[simp] theorem Gremon.setLane_badRegs (g : Gremon) (n : Nat) (l : GlLink) : (g.setLane n l).badRegs = g.badRegs := rfl
@[simp] theorem Gremon.setLane_seed (g : Gremon) (n : Nat) (l : GlLink) : (g.setLane n l).seed = g.seed := rfl
@[simp] theorem Gremon.setDie_regs (g : Gremon) (n : Nat) (d : DieInfo) : (g.setDie n d).regs = g.regs := rfl
@[simp] theorem Gremon.setDie_rdData (g : Gremon) (n : Nat) (d : DieInfo) : (g.setDie n d).rdData = g.rdData := rfl
@[simp] theorem Gremon.setDie_clock (g : Gremon) (n : Nat) (d : DieInfo) : (g.setDie n d).clock = g.clock := rfl
@[simp] theorem Gremon.setDie_replicas (g : Gremon) (n : Nat) (d : DieInfo) : (g.setDie n d).replicas = g.replicas := rfl
@[simp] theorem Gremon.setDie_root (g : Gremon) (n : Nat) (d : DieInfo) : (g.setDie n d).root = g.root := rfl
@[simp] theorem Gremon.setDie_lanes (g : Gremon) (n : Nat) (d : DieInfo) : (g.setDie n d).lanes = g.lanes := rfl
@[simp] theorem Gremon.setDie_dies (g : Gremon) (n : Nat) (d : DieInfo) : (g.setDie n d).dies = Tbl.set DieInfo.none g.dies n d := rfl
@[simp] theorem Gremon.setDie_binds (g : Gremon) (n : Nat) (d : DieInfo) : (g.setDie n d).binds = g.binds := rfl
@[simp] theorem Gremon.setDie_jobs (g : Gremon) (n : Nat) (d : DieInfo) : (g.setDie n d).jobs = g.jobs := rfl
@[simp] theorem Gremon.setDie_frameUs (g : Gremon) (n : Nat) (d : DieInfo) : (g.setDie n d).frameUs = g.frameUs := rfl
@[simp] theorem Gremon.setDie_frameN (g : Gremon) (n : Nat) (d : DieInfo) : (g.setDie n d).frameN = g.frameN := rfl
@[simp] theorem Gremon.setDie_frameNext (g : Gremon) (n : Nat) (d : DieInfo) : (g.setDie n d).frameNext = g.frameNext := rfl
@[simp] theorem Gremon.setDie_log (g : Gremon) (n : Nat) (d : DieInfo) : (g.setDie n d).log = g.log := rfl
@[simp] theorem Gremon.setDie_host (g : Gremon) (n : Nat) (d : DieInfo) : (g.setDie n d).host = g.host := rfl
@[simp] theorem Gremon.setDie_mem (g : Gremon) (n : Nat) (d : DieInfo) : (g.setDie n d).mem = g.mem := rfl
@[simp] theorem Gremon.setDie_poison (g : Gremon) (n : Nat) (d : DieInfo) : (g.setDie n d).poison = g.poison := rfl
@[simp] theorem Gremon.setDie_deadStacks (g : Gremon) (n : Nat) (d : DieInfo) : (g.setDie n d).deadStacks = g.deadStacks := rfl
@[simp] theorem Gremon.setDie_deadLinks (g : Gremon) (n : Nat) (d : DieInfo) : (g.setDie n d).deadLinks = g.deadLinks := rfl
@[simp] theorem Gremon.setDie_exclLinks (g : Gremon) (n : Nat) (d : DieInfo) : (g.setDie n d).exclLinks = g.exclLinks := rfl
@[simp] theorem Gremon.setDie_flits (g : Gremon) (n : Nat) (d : DieInfo) : (g.setDie n d).flits = g.flits := rfl
@[simp] theorem Gremon.setDie_cores (g : Gremon) (n : Nat) (d : DieInfo) : (g.setDie n d).cores = g.cores := rfl
@[simp] theorem Gremon.setDie_sync (g : Gremon) (n : Nat) (d : DieInfo) : (g.setDie n d).sync = g.sync := rfl
@[simp] theorem Gremon.setDie_eng (g : Gremon) (n : Nat) (d : DieInfo) : (g.setDie n d).eng = g.eng := rfl
@[simp] theorem Gremon.setDie_msnd (g : Gremon) (n : Nat) (d : DieInfo) : (g.setDie n d).msnd = g.msnd := rfl
@[simp] theorem Gremon.setDie_tse (g : Gremon) (n : Nat) (d : DieInfo) : (g.setDie n d).tse = g.tse := rfl
@[simp] theorem Gremon.setDie_ens (g : Gremon) (n : Nat) (d : DieInfo) : (g.setDie n d).ens = g.ens := rfl
@[simp] theorem Gremon.setDie_ensNext (g : Gremon) (n : Nat) (d : DieInfo) : (g.setDie n d).ensNext = g.ensNext := rfl
@[simp] theorem Gremon.setDie_kits (g : Gremon) (n : Nat) (d : DieInfo) : (g.setDie n d).kits = g.kits := rfl
@[simp] theorem Gremon.setDie_kitNext (g : Gremon) (n : Nat) (d : DieInfo) : (g.setDie n d).kitNext = g.kitNext := rfl
@[simp] theorem Gremon.setDie_halted (g : Gremon) (n : Nat) (d : DieInfo) : (g.setDie n d).halted = g.halted := rfl
@[simp] theorem Gremon.setDie_sys (g : Gremon) (n : Nat) (d : DieInfo) : (g.setDie n d).sys = g.sys := rfl
@[simp] theorem Gremon.setDie_svc (g : Gremon) (n : Nat) (d : DieInfo) : (g.setDie n d).svc = g.svc := rfl
@[simp] theorem Gremon.setDie_tree (g : Gremon) (n : Nat) (d : DieInfo) : (g.setDie n d).tree = g.tree := rfl
@[simp] theorem Gremon.setDie_ports (g : Gremon) (n : Nat) (d : DieInfo) : (g.setDie n d).ports = g.ports := rfl
@[simp] theorem Gremon.setDie_rlIn (g : Gremon) (n : Nat) (d : DieInfo) : (g.setDie n d).rlIn = g.rlIn := rfl
@[simp] theorem Gremon.setDie_bcasts (g : Gremon) (n : Nat) (d : DieInfo) : (g.setDie n d).bcasts = g.bcasts := rfl
@[simp] theorem Gremon.setDie_bcastNext (g : Gremon) (n : Nat) (d : DieInfo) : (g.setDie n d).bcastNext = g.bcastNext := rfl
@[simp] theorem Gremon.setDie_queries (g : Gremon) (n : Nat) (d : DieInfo) : (g.setDie n d).queries = g.queries := rfl
@[simp] theorem Gremon.setDie_queryNext (g : Gremon) (n : Nat) (d : DieInfo) : (g.setDie n d).queryNext = g.queryNext := rfl
@[simp] theorem Gremon.setDie_feeds (g : Gremon) (n : Nat) (d : DieInfo) : (g.setDie n d).feeds = g.feeds := rfl
@[simp] theorem Gremon.setDie_reds (g : Gremon) (n : Nat) (d : DieInfo) : (g.setDie n d).reds = g.reds := rfl
@[simp] theorem Gremon.setDie_redNext (g : Gremon) (n : Nat) (d : DieInfo) : (g.setDie n d).redNext = g.redNext := rfl
@[simp] theorem Gremon.setDie_redOld (g : Gremon) (n : Nat) (d : DieInfo) : (g.setDie n d).redOld = g.redOld := rfl
@[simp] theorem Gremon.setDie_redKids (g : Gremon) (n : Nat) (d : DieInfo) : (g.setDie n d).redKids = g.redKids := rfl
@[simp] theorem Gremon.setDie_failed (g : Gremon) (n : Nat) (d : DieInfo) : (g.setDie n d).failed = g.failed := rfl
@[simp] theorem Gremon.setDie_badRegAt (g : Gremon) (n : Nat) (d : DieInfo) : (g.setDie n d).badRegAt = g.badRegAt := rfl
@[simp] theorem Gremon.setDie_badRegs (g : Gremon) (n : Nat) (d : DieInfo) : (g.setDie n d).badRegs = g.badRegs := rfl
@[simp] theorem Gremon.setDie_seed (g : Gremon) (n : Nat) (d : DieInfo) : (g.setDie n d).seed = g.seed := rfl
@[simp] theorem Gremon.setPort_regs (g : Gremon) (n : Nat) (p : RlPort) : (g.setPort n p).regs = g.regs := rfl
@[simp] theorem Gremon.setPort_rdData (g : Gremon) (n : Nat) (p : RlPort) : (g.setPort n p).rdData = g.rdData := rfl
@[simp] theorem Gremon.setPort_clock (g : Gremon) (n : Nat) (p : RlPort) : (g.setPort n p).clock = g.clock := rfl
@[simp] theorem Gremon.setPort_replicas (g : Gremon) (n : Nat) (p : RlPort) : (g.setPort n p).replicas = g.replicas := rfl
@[simp] theorem Gremon.setPort_root (g : Gremon) (n : Nat) (p : RlPort) : (g.setPort n p).root = g.root := rfl
@[simp] theorem Gremon.setPort_lanes (g : Gremon) (n : Nat) (p : RlPort) : (g.setPort n p).lanes = g.lanes := rfl
@[simp] theorem Gremon.setPort_dies (g : Gremon) (n : Nat) (p : RlPort) : (g.setPort n p).dies = g.dies := rfl
@[simp] theorem Gremon.setPort_binds (g : Gremon) (n : Nat) (p : RlPort) : (g.setPort n p).binds = g.binds := rfl
@[simp] theorem Gremon.setPort_jobs (g : Gremon) (n : Nat) (p : RlPort) : (g.setPort n p).jobs = g.jobs := rfl
@[simp] theorem Gremon.setPort_frameUs (g : Gremon) (n : Nat) (p : RlPort) : (g.setPort n p).frameUs = g.frameUs := rfl
@[simp] theorem Gremon.setPort_frameN (g : Gremon) (n : Nat) (p : RlPort) : (g.setPort n p).frameN = g.frameN := rfl
@[simp] theorem Gremon.setPort_frameNext (g : Gremon) (n : Nat) (p : RlPort) : (g.setPort n p).frameNext = g.frameNext := rfl
@[simp] theorem Gremon.setPort_log (g : Gremon) (n : Nat) (p : RlPort) : (g.setPort n p).log = g.log := rfl
@[simp] theorem Gremon.setPort_host (g : Gremon) (n : Nat) (p : RlPort) : (g.setPort n p).host = g.host := rfl
@[simp] theorem Gremon.setPort_mem (g : Gremon) (n : Nat) (p : RlPort) : (g.setPort n p).mem = g.mem := rfl
@[simp] theorem Gremon.setPort_poison (g : Gremon) (n : Nat) (p : RlPort) : (g.setPort n p).poison = g.poison := rfl
@[simp] theorem Gremon.setPort_deadStacks (g : Gremon) (n : Nat) (p : RlPort) : (g.setPort n p).deadStacks = g.deadStacks := rfl
@[simp] theorem Gremon.setPort_deadLinks (g : Gremon) (n : Nat) (p : RlPort) : (g.setPort n p).deadLinks = g.deadLinks := rfl
@[simp] theorem Gremon.setPort_exclLinks (g : Gremon) (n : Nat) (p : RlPort) : (g.setPort n p).exclLinks = g.exclLinks := rfl
@[simp] theorem Gremon.setPort_flits (g : Gremon) (n : Nat) (p : RlPort) : (g.setPort n p).flits = g.flits := rfl
@[simp] theorem Gremon.setPort_cores (g : Gremon) (n : Nat) (p : RlPort) : (g.setPort n p).cores = g.cores := rfl
@[simp] theorem Gremon.setPort_sync (g : Gremon) (n : Nat) (p : RlPort) : (g.setPort n p).sync = g.sync := rfl
@[simp] theorem Gremon.setPort_eng (g : Gremon) (n : Nat) (p : RlPort) : (g.setPort n p).eng = g.eng := rfl
@[simp] theorem Gremon.setPort_msnd (g : Gremon) (n : Nat) (p : RlPort) : (g.setPort n p).msnd = g.msnd := rfl
@[simp] theorem Gremon.setPort_tse (g : Gremon) (n : Nat) (p : RlPort) : (g.setPort n p).tse = g.tse := rfl
@[simp] theorem Gremon.setPort_ens (g : Gremon) (n : Nat) (p : RlPort) : (g.setPort n p).ens = g.ens := rfl
@[simp] theorem Gremon.setPort_ensNext (g : Gremon) (n : Nat) (p : RlPort) : (g.setPort n p).ensNext = g.ensNext := rfl
@[simp] theorem Gremon.setPort_kits (g : Gremon) (n : Nat) (p : RlPort) : (g.setPort n p).kits = g.kits := rfl
@[simp] theorem Gremon.setPort_kitNext (g : Gremon) (n : Nat) (p : RlPort) : (g.setPort n p).kitNext = g.kitNext := rfl
@[simp] theorem Gremon.setPort_halted (g : Gremon) (n : Nat) (p : RlPort) : (g.setPort n p).halted = g.halted := rfl
@[simp] theorem Gremon.setPort_sys (g : Gremon) (n : Nat) (p : RlPort) : (g.setPort n p).sys = g.sys := rfl
@[simp] theorem Gremon.setPort_svc (g : Gremon) (n : Nat) (p : RlPort) : (g.setPort n p).svc = g.svc := rfl
@[simp] theorem Gremon.setPort_tree (g : Gremon) (n : Nat) (p : RlPort) : (g.setPort n p).tree = g.tree := rfl
@[simp] theorem Gremon.setPort_ports (g : Gremon) (n : Nat) (p : RlPort) : (g.setPort n p).ports = Tbl.set RlPort.reset g.ports n p := rfl
@[simp] theorem Gremon.setPort_rlIn (g : Gremon) (n : Nat) (p : RlPort) : (g.setPort n p).rlIn = g.rlIn := rfl
@[simp] theorem Gremon.setPort_bcasts (g : Gremon) (n : Nat) (p : RlPort) : (g.setPort n p).bcasts = g.bcasts := rfl
@[simp] theorem Gremon.setPort_bcastNext (g : Gremon) (n : Nat) (p : RlPort) : (g.setPort n p).bcastNext = g.bcastNext := rfl
@[simp] theorem Gremon.setPort_queries (g : Gremon) (n : Nat) (p : RlPort) : (g.setPort n p).queries = g.queries := rfl
@[simp] theorem Gremon.setPort_queryNext (g : Gremon) (n : Nat) (p : RlPort) : (g.setPort n p).queryNext = g.queryNext := rfl
@[simp] theorem Gremon.setPort_feeds (g : Gremon) (n : Nat) (p : RlPort) : (g.setPort n p).feeds = g.feeds := rfl
@[simp] theorem Gremon.setPort_reds (g : Gremon) (n : Nat) (p : RlPort) : (g.setPort n p).reds = g.reds := rfl
@[simp] theorem Gremon.setPort_redNext (g : Gremon) (n : Nat) (p : RlPort) : (g.setPort n p).redNext = g.redNext := rfl
@[simp] theorem Gremon.setPort_redOld (g : Gremon) (n : Nat) (p : RlPort) : (g.setPort n p).redOld = g.redOld := rfl
@[simp] theorem Gremon.setPort_redKids (g : Gremon) (n : Nat) (p : RlPort) : (g.setPort n p).redKids = g.redKids := rfl
@[simp] theorem Gremon.setPort_failed (g : Gremon) (n : Nat) (p : RlPort) : (g.setPort n p).failed = g.failed := rfl
@[simp] theorem Gremon.setPort_badRegAt (g : Gremon) (n : Nat) (p : RlPort) : (g.setPort n p).badRegAt = g.badRegAt := rfl
@[simp] theorem Gremon.setPort_badRegs (g : Gremon) (n : Nat) (p : RlPort) : (g.setPort n p).badRegs = g.badRegs := rfl
@[simp] theorem Gremon.setPort_seed (g : Gremon) (n : Nat) (p : RlPort) : (g.setPort n p).seed = g.seed := rfl
@[simp] theorem Gremon.wrBytes_regs (g : Gremon) (a : Nat) (bs : List Byte) : (g.wrBytes a bs).regs = g.regs := rfl
@[simp] theorem Gremon.wrBytes_rdData (g : Gremon) (a : Nat) (bs : List Byte) : (g.wrBytes a bs).rdData = g.rdData := rfl
@[simp] theorem Gremon.wrBytes_clock (g : Gremon) (a : Nat) (bs : List Byte) : (g.wrBytes a bs).clock = g.clock := rfl
@[simp] theorem Gremon.wrBytes_replicas (g : Gremon) (a : Nat) (bs : List Byte) : (g.wrBytes a bs).replicas = g.replicas := rfl
@[simp] theorem Gremon.wrBytes_root (g : Gremon) (a : Nat) (bs : List Byte) : (g.wrBytes a bs).root = g.root := rfl
@[simp] theorem Gremon.wrBytes_lanes (g : Gremon) (a : Nat) (bs : List Byte) : (g.wrBytes a bs).lanes = g.lanes := rfl
@[simp] theorem Gremon.wrBytes_dies (g : Gremon) (a : Nat) (bs : List Byte) : (g.wrBytes a bs).dies = g.dies := rfl
@[simp] theorem Gremon.wrBytes_binds (g : Gremon) (a : Nat) (bs : List Byte) : (g.wrBytes a bs).binds = g.binds := rfl
@[simp] theorem Gremon.wrBytes_jobs (g : Gremon) (a : Nat) (bs : List Byte) : (g.wrBytes a bs).jobs = g.jobs := rfl
@[simp] theorem Gremon.wrBytes_frameUs (g : Gremon) (a : Nat) (bs : List Byte) : (g.wrBytes a bs).frameUs = g.frameUs := rfl
@[simp] theorem Gremon.wrBytes_frameN (g : Gremon) (a : Nat) (bs : List Byte) : (g.wrBytes a bs).frameN = g.frameN := rfl
@[simp] theorem Gremon.wrBytes_frameNext (g : Gremon) (a : Nat) (bs : List Byte) : (g.wrBytes a bs).frameNext = g.frameNext := rfl
@[simp] theorem Gremon.wrBytes_log (g : Gremon) (a : Nat) (bs : List Byte) : (g.wrBytes a bs).log = g.log := rfl
@[simp] theorem Gremon.wrBytes_host (g : Gremon) (a : Nat) (bs : List Byte) : (g.wrBytes a bs).host = g.host := rfl
@[simp] theorem Gremon.wrBytes_mem (g : Gremon) (a : Nat) (bs : List Byte) : (g.wrBytes a bs).mem = memPut g.mem a bs := rfl
@[simp] theorem Gremon.wrBytes_poison (g : Gremon) (a : Nat) (bs : List Byte) : (g.wrBytes a bs).poison = g.poison.filter fun l => !wholeLine a bs.length l := rfl
@[simp] theorem Gremon.wrBytes_deadStacks (g : Gremon) (a : Nat) (bs : List Byte) : (g.wrBytes a bs).deadStacks = g.deadStacks := rfl
@[simp] theorem Gremon.wrBytes_deadLinks (g : Gremon) (a : Nat) (bs : List Byte) : (g.wrBytes a bs).deadLinks = g.deadLinks := rfl
@[simp] theorem Gremon.wrBytes_exclLinks (g : Gremon) (a : Nat) (bs : List Byte) : (g.wrBytes a bs).exclLinks = g.exclLinks := rfl
@[simp] theorem Gremon.wrBytes_flits (g : Gremon) (a : Nat) (bs : List Byte) : (g.wrBytes a bs).flits = g.flits := rfl
@[simp] theorem Gremon.wrBytes_cores (g : Gremon) (a : Nat) (bs : List Byte) : (g.wrBytes a bs).cores = g.cores := rfl
@[simp] theorem Gremon.wrBytes_sync (g : Gremon) (a : Nat) (bs : List Byte) : (g.wrBytes a bs).sync = g.sync := rfl
@[simp] theorem Gremon.wrBytes_eng (g : Gremon) (a : Nat) (bs : List Byte) : (g.wrBytes a bs).eng = g.eng := rfl
@[simp] theorem Gremon.wrBytes_msnd (g : Gremon) (a : Nat) (bs : List Byte) : (g.wrBytes a bs).msnd = g.msnd := rfl
@[simp] theorem Gremon.wrBytes_tse (g : Gremon) (a : Nat) (bs : List Byte) : (g.wrBytes a bs).tse = g.tse := rfl
@[simp] theorem Gremon.wrBytes_ens (g : Gremon) (a : Nat) (bs : List Byte) : (g.wrBytes a bs).ens = g.ens := rfl
@[simp] theorem Gremon.wrBytes_ensNext (g : Gremon) (a : Nat) (bs : List Byte) : (g.wrBytes a bs).ensNext = g.ensNext := rfl
@[simp] theorem Gremon.wrBytes_kits (g : Gremon) (a : Nat) (bs : List Byte) : (g.wrBytes a bs).kits = g.kits := rfl
@[simp] theorem Gremon.wrBytes_kitNext (g : Gremon) (a : Nat) (bs : List Byte) : (g.wrBytes a bs).kitNext = g.kitNext := rfl
@[simp] theorem Gremon.wrBytes_halted (g : Gremon) (a : Nat) (bs : List Byte) : (g.wrBytes a bs).halted = g.halted := rfl
@[simp] theorem Gremon.wrBytes_sys (g : Gremon) (a : Nat) (bs : List Byte) : (g.wrBytes a bs).sys = g.sys := rfl
@[simp] theorem Gremon.wrBytes_svc (g : Gremon) (a : Nat) (bs : List Byte) : (g.wrBytes a bs).svc = g.svc := rfl
@[simp] theorem Gremon.wrBytes_tree (g : Gremon) (a : Nat) (bs : List Byte) : (g.wrBytes a bs).tree = g.tree := rfl
@[simp] theorem Gremon.wrBytes_ports (g : Gremon) (a : Nat) (bs : List Byte) : (g.wrBytes a bs).ports = g.ports := rfl
@[simp] theorem Gremon.wrBytes_rlIn (g : Gremon) (a : Nat) (bs : List Byte) : (g.wrBytes a bs).rlIn = g.rlIn := rfl
@[simp] theorem Gremon.wrBytes_bcasts (g : Gremon) (a : Nat) (bs : List Byte) : (g.wrBytes a bs).bcasts = g.bcasts := rfl
@[simp] theorem Gremon.wrBytes_bcastNext (g : Gremon) (a : Nat) (bs : List Byte) : (g.wrBytes a bs).bcastNext = g.bcastNext := rfl
@[simp] theorem Gremon.wrBytes_queries (g : Gremon) (a : Nat) (bs : List Byte) : (g.wrBytes a bs).queries = g.queries := rfl
@[simp] theorem Gremon.wrBytes_queryNext (g : Gremon) (a : Nat) (bs : List Byte) : (g.wrBytes a bs).queryNext = g.queryNext := rfl
@[simp] theorem Gremon.wrBytes_feeds (g : Gremon) (a : Nat) (bs : List Byte) : (g.wrBytes a bs).feeds = g.feeds := rfl
@[simp] theorem Gremon.wrBytes_reds (g : Gremon) (a : Nat) (bs : List Byte) : (g.wrBytes a bs).reds = g.reds := rfl
@[simp] theorem Gremon.wrBytes_redNext (g : Gremon) (a : Nat) (bs : List Byte) : (g.wrBytes a bs).redNext = g.redNext := rfl
@[simp] theorem Gremon.wrBytes_redOld (g : Gremon) (a : Nat) (bs : List Byte) : (g.wrBytes a bs).redOld = g.redOld := rfl
@[simp] theorem Gremon.wrBytes_redKids (g : Gremon) (a : Nat) (bs : List Byte) : (g.wrBytes a bs).redKids = g.redKids := rfl
@[simp] theorem Gremon.wrBytes_failed (g : Gremon) (a : Nat) (bs : List Byte) : (g.wrBytes a bs).failed = g.failed := rfl
@[simp] theorem Gremon.wrBytes_badRegAt (g : Gremon) (a : Nat) (bs : List Byte) : (g.wrBytes a bs).badRegAt = g.badRegAt := rfl
@[simp] theorem Gremon.wrBytes_badRegs (g : Gremon) (a : Nat) (bs : List Byte) : (g.wrBytes a bs).badRegs = g.badRegs := rfl
@[simp] theorem Gremon.wrBytes_seed (g : Gremon) (a : Nat) (bs : List Byte) : (g.wrBytes a bs).seed = g.seed := rfl
@[simp] theorem Gremon.putNext_regs (g : Gremon) (a b : Nat) : (g.putNext a b).regs = g.regs := rfl
@[simp] theorem Gremon.putNext_rdData (g : Gremon) (a b : Nat) : (g.putNext a b).rdData = g.rdData := rfl
@[simp] theorem Gremon.putNext_clock (g : Gremon) (a b : Nat) : (g.putNext a b).clock = g.clock := rfl
@[simp] theorem Gremon.putNext_replicas (g : Gremon) (a b : Nat) : (g.putNext a b).replicas = g.replicas := rfl
@[simp] theorem Gremon.putNext_root (g : Gremon) (a b : Nat) : (g.putNext a b).root = g.root := rfl
@[simp] theorem Gremon.putNext_lanes (g : Gremon) (a b : Nat) : (g.putNext a b).lanes = g.lanes := rfl
@[simp] theorem Gremon.putNext_dies (g : Gremon) (a b : Nat) : (g.putNext a b).dies = g.dies := rfl
@[simp] theorem Gremon.putNext_binds (g : Gremon) (a b : Nat) : (g.putNext a b).binds = g.binds := rfl
@[simp] theorem Gremon.putNext_jobs (g : Gremon) (a b : Nat) : (g.putNext a b).jobs = g.jobs := rfl
@[simp] theorem Gremon.putNext_frameUs (g : Gremon) (a b : Nat) : (g.putNext a b).frameUs = g.frameUs := rfl
@[simp] theorem Gremon.putNext_frameN (g : Gremon) (a b : Nat) : (g.putNext a b).frameN = g.frameN := rfl
@[simp] theorem Gremon.putNext_frameNext (g : Gremon) (a b : Nat) : (g.putNext a b).frameNext = g.frameNext := rfl
@[simp] theorem Gremon.putNext_log (g : Gremon) (a b : Nat) : (g.putNext a b).log = g.log := rfl
@[simp] theorem Gremon.putNext_host (g : Gremon) (a b : Nat) : (g.putNext a b).host = g.host := rfl
@[simp] theorem Gremon.putNext_mem (g : Gremon) (a b : Nat) : (g.putNext a b).mem = g.mem := rfl
@[simp] theorem Gremon.putNext_poison (g : Gremon) (a b : Nat) : (g.putNext a b).poison = g.poison := rfl
@[simp] theorem Gremon.putNext_deadStacks (g : Gremon) (a b : Nat) : (g.putNext a b).deadStacks = g.deadStacks := rfl
@[simp] theorem Gremon.putNext_deadLinks (g : Gremon) (a b : Nat) : (g.putNext a b).deadLinks = g.deadLinks := rfl
@[simp] theorem Gremon.putNext_exclLinks (g : Gremon) (a b : Nat) : (g.putNext a b).exclLinks = g.exclLinks := rfl
@[simp] theorem Gremon.putNext_flits (g : Gremon) (a b : Nat) : (g.putNext a b).flits = g.flits := rfl
@[simp] theorem Gremon.putNext_cores (g : Gremon) (a b : Nat) : (g.putNext a b).cores = g.cores := rfl
@[simp] theorem Gremon.putNext_sync (g : Gremon) (a b : Nat) : (g.putNext a b).sync = g.sync := rfl
@[simp] theorem Gremon.putNext_eng (g : Gremon) (a b : Nat) : (g.putNext a b).eng = g.eng := rfl
@[simp] theorem Gremon.putNext_msnd (g : Gremon) (a b : Nat) : (g.putNext a b).msnd = g.msnd := rfl
@[simp] theorem Gremon.putNext_tse (g : Gremon) (a b : Nat) : (g.putNext a b).tse = g.tse := rfl
@[simp] theorem Gremon.putNext_ens (g : Gremon) (a b : Nat) : (g.putNext a b).ens = g.ens := rfl
@[simp] theorem Gremon.putNext_ensNext (g : Gremon) (a b : Nat) : (g.putNext a b).ensNext = g.ensNext := rfl
@[simp] theorem Gremon.putNext_kits (g : Gremon) (a b : Nat) : (g.putNext a b).kits = g.kits := rfl
@[simp] theorem Gremon.putNext_kitNext (g : Gremon) (a b : Nat) : (g.putNext a b).kitNext = g.kitNext := rfl
@[simp] theorem Gremon.putNext_halted (g : Gremon) (a b : Nat) : (g.putNext a b).halted = g.halted := rfl
@[simp] theorem Gremon.putNext_sys (g : Gremon) (a b : Nat) : (g.putNext a b).sys = g.sys := rfl
@[simp] theorem Gremon.putNext_svc (g : Gremon) (a b : Nat) : (g.putNext a b).svc = g.svc := rfl
@[simp] theorem Gremon.putNext_tree (g : Gremon) (a b : Nat) : (g.putNext a b).tree = g.tree := rfl
@[simp] theorem Gremon.putNext_ports (g : Gremon) (a b : Nat) : (g.putNext a b).ports = g.ports := rfl
@[simp] theorem Gremon.putNext_rlIn (g : Gremon) (a b : Nat) : (g.putNext a b).rlIn = g.rlIn := rfl
@[simp] theorem Gremon.putNext_bcasts (g : Gremon) (a b : Nat) : (g.putNext a b).bcasts = g.bcasts := rfl
@[simp] theorem Gremon.putNext_bcastNext (g : Gremon) (a b : Nat) : (g.putNext a b).bcastNext = g.bcastNext := rfl
@[simp] theorem Gremon.putNext_queries (g : Gremon) (a b : Nat) : (g.putNext a b).queries = g.queries := rfl
@[simp] theorem Gremon.putNext_queryNext (g : Gremon) (a b : Nat) : (g.putNext a b).queryNext = g.queryNext := rfl
@[simp] theorem Gremon.putNext_feeds (g : Gremon) (a b : Nat) : (g.putNext a b).feeds = g.feeds := rfl
@[simp] theorem Gremon.putNext_reds (g : Gremon) (a b : Nat) : (g.putNext a b).reds = g.reds := rfl
@[simp] theorem Gremon.putNext_redNext (g : Gremon) (a b : Nat) : (g.putNext a b).redNext = Tbl.put g.redNext a b := rfl
@[simp] theorem Gremon.putNext_redOld (g : Gremon) (a b : Nat) : (g.putNext a b).redOld = g.redOld := rfl
@[simp] theorem Gremon.putNext_redKids (g : Gremon) (a b : Nat) : (g.putNext a b).redKids = g.redKids := rfl
@[simp] theorem Gremon.putNext_failed (g : Gremon) (a b : Nat) : (g.putNext a b).failed = g.failed := rfl
@[simp] theorem Gremon.putNext_badRegAt (g : Gremon) (a b : Nat) : (g.putNext a b).badRegAt = g.badRegAt := rfl
@[simp] theorem Gremon.putNext_badRegs (g : Gremon) (a b : Nat) : (g.putNext a b).badRegs = g.badRegs := rfl
@[simp] theorem Gremon.putNext_seed (g : Gremon) (a b : Nat) : (g.putNext a b).seed = g.seed := rfl
@[simp] theorem Gremon.onHost_regs (g : Gremon) (f : HostSide → HostSide) : (g.onHost f).regs = g.regs := rfl
@[simp] theorem Gremon.onHost_rdData (g : Gremon) (f : HostSide → HostSide) : (g.onHost f).rdData = g.rdData := rfl
@[simp] theorem Gremon.onHost_clock (g : Gremon) (f : HostSide → HostSide) : (g.onHost f).clock = g.clock := rfl
@[simp] theorem Gremon.onHost_replicas (g : Gremon) (f : HostSide → HostSide) : (g.onHost f).replicas = g.replicas := rfl
@[simp] theorem Gremon.onHost_root (g : Gremon) (f : HostSide → HostSide) : (g.onHost f).root = g.root := rfl
@[simp] theorem Gremon.onHost_lanes (g : Gremon) (f : HostSide → HostSide) : (g.onHost f).lanes = g.lanes := rfl
@[simp] theorem Gremon.onHost_dies (g : Gremon) (f : HostSide → HostSide) : (g.onHost f).dies = g.dies := rfl
@[simp] theorem Gremon.onHost_binds (g : Gremon) (f : HostSide → HostSide) : (g.onHost f).binds = g.binds := rfl
@[simp] theorem Gremon.onHost_jobs (g : Gremon) (f : HostSide → HostSide) : (g.onHost f).jobs = g.jobs := rfl
@[simp] theorem Gremon.onHost_frameUs (g : Gremon) (f : HostSide → HostSide) : (g.onHost f).frameUs = g.frameUs := rfl
@[simp] theorem Gremon.onHost_frameN (g : Gremon) (f : HostSide → HostSide) : (g.onHost f).frameN = g.frameN := rfl
@[simp] theorem Gremon.onHost_frameNext (g : Gremon) (f : HostSide → HostSide) : (g.onHost f).frameNext = g.frameNext := rfl
@[simp] theorem Gremon.onHost_log (g : Gremon) (f : HostSide → HostSide) : (g.onHost f).log = g.log := rfl
@[simp] theorem Gremon.onHost_host (g : Gremon) (f : HostSide → HostSide) : (g.onHost f).host = f g.host := rfl
@[simp] theorem Gremon.onHost_mem (g : Gremon) (f : HostSide → HostSide) : (g.onHost f).mem = g.mem := rfl
@[simp] theorem Gremon.onHost_poison (g : Gremon) (f : HostSide → HostSide) : (g.onHost f).poison = g.poison := rfl
@[simp] theorem Gremon.onHost_deadStacks (g : Gremon) (f : HostSide → HostSide) : (g.onHost f).deadStacks = g.deadStacks := rfl
@[simp] theorem Gremon.onHost_deadLinks (g : Gremon) (f : HostSide → HostSide) : (g.onHost f).deadLinks = g.deadLinks := rfl
@[simp] theorem Gremon.onHost_exclLinks (g : Gremon) (f : HostSide → HostSide) : (g.onHost f).exclLinks = g.exclLinks := rfl
@[simp] theorem Gremon.onHost_flits (g : Gremon) (f : HostSide → HostSide) : (g.onHost f).flits = g.flits := rfl
@[simp] theorem Gremon.onHost_cores (g : Gremon) (f : HostSide → HostSide) : (g.onHost f).cores = g.cores := rfl
@[simp] theorem Gremon.onHost_sync (g : Gremon) (f : HostSide → HostSide) : (g.onHost f).sync = g.sync := rfl
@[simp] theorem Gremon.onHost_eng (g : Gremon) (f : HostSide → HostSide) : (g.onHost f).eng = g.eng := rfl
@[simp] theorem Gremon.onHost_msnd (g : Gremon) (f : HostSide → HostSide) : (g.onHost f).msnd = g.msnd := rfl
@[simp] theorem Gremon.onHost_tse (g : Gremon) (f : HostSide → HostSide) : (g.onHost f).tse = g.tse := rfl
@[simp] theorem Gremon.onHost_ens (g : Gremon) (f : HostSide → HostSide) : (g.onHost f).ens = g.ens := rfl
@[simp] theorem Gremon.onHost_ensNext (g : Gremon) (f : HostSide → HostSide) : (g.onHost f).ensNext = g.ensNext := rfl
@[simp] theorem Gremon.onHost_kits (g : Gremon) (f : HostSide → HostSide) : (g.onHost f).kits = g.kits := rfl
@[simp] theorem Gremon.onHost_kitNext (g : Gremon) (f : HostSide → HostSide) : (g.onHost f).kitNext = g.kitNext := rfl
@[simp] theorem Gremon.onHost_halted (g : Gremon) (f : HostSide → HostSide) : (g.onHost f).halted = g.halted := rfl
@[simp] theorem Gremon.onHost_sys (g : Gremon) (f : HostSide → HostSide) : (g.onHost f).sys = g.sys := rfl
@[simp] theorem Gremon.onHost_svc (g : Gremon) (f : HostSide → HostSide) : (g.onHost f).svc = g.svc := rfl
@[simp] theorem Gremon.onHost_tree (g : Gremon) (f : HostSide → HostSide) : (g.onHost f).tree = g.tree := rfl
@[simp] theorem Gremon.onHost_ports (g : Gremon) (f : HostSide → HostSide) : (g.onHost f).ports = g.ports := rfl
@[simp] theorem Gremon.onHost_rlIn (g : Gremon) (f : HostSide → HostSide) : (g.onHost f).rlIn = g.rlIn := rfl
@[simp] theorem Gremon.onHost_bcasts (g : Gremon) (f : HostSide → HostSide) : (g.onHost f).bcasts = g.bcasts := rfl
@[simp] theorem Gremon.onHost_bcastNext (g : Gremon) (f : HostSide → HostSide) : (g.onHost f).bcastNext = g.bcastNext := rfl
@[simp] theorem Gremon.onHost_queries (g : Gremon) (f : HostSide → HostSide) : (g.onHost f).queries = g.queries := rfl
@[simp] theorem Gremon.onHost_queryNext (g : Gremon) (f : HostSide → HostSide) : (g.onHost f).queryNext = g.queryNext := rfl
@[simp] theorem Gremon.onHost_feeds (g : Gremon) (f : HostSide → HostSide) : (g.onHost f).feeds = g.feeds := rfl
@[simp] theorem Gremon.onHost_reds (g : Gremon) (f : HostSide → HostSide) : (g.onHost f).reds = g.reds := rfl
@[simp] theorem Gremon.onHost_redNext (g : Gremon) (f : HostSide → HostSide) : (g.onHost f).redNext = g.redNext := rfl
@[simp] theorem Gremon.onHost_redOld (g : Gremon) (f : HostSide → HostSide) : (g.onHost f).redOld = g.redOld := rfl
@[simp] theorem Gremon.onHost_redKids (g : Gremon) (f : HostSide → HostSide) : (g.onHost f).redKids = g.redKids := rfl
@[simp] theorem Gremon.onHost_failed (g : Gremon) (f : HostSide → HostSide) : (g.onHost f).failed = g.failed := rfl
@[simp] theorem Gremon.onHost_badRegAt (g : Gremon) (f : HostSide → HostSide) : (g.onHost f).badRegAt = g.badRegAt := rfl
@[simp] theorem Gremon.onHost_badRegs (g : Gremon) (f : HostSide → HostSide) : (g.onHost f).badRegs = g.badRegs := rfl
@[simp] theorem Gremon.onHost_seed (g : Gremon) (f : HostSide → HostSide) : (g.onHost f).seed = g.seed := rfl
@[simp] theorem Gremon.onSvc_regs (g : Gremon) (f : Svc → Svc) : (g.onSvc f).regs = g.regs := rfl
@[simp] theorem Gremon.onSvc_rdData (g : Gremon) (f : Svc → Svc) : (g.onSvc f).rdData = g.rdData := rfl
@[simp] theorem Gremon.onSvc_clock (g : Gremon) (f : Svc → Svc) : (g.onSvc f).clock = g.clock := rfl
@[simp] theorem Gremon.onSvc_replicas (g : Gremon) (f : Svc → Svc) : (g.onSvc f).replicas = g.replicas := rfl
@[simp] theorem Gremon.onSvc_root (g : Gremon) (f : Svc → Svc) : (g.onSvc f).root = g.root := rfl
@[simp] theorem Gremon.onSvc_lanes (g : Gremon) (f : Svc → Svc) : (g.onSvc f).lanes = g.lanes := rfl
@[simp] theorem Gremon.onSvc_dies (g : Gremon) (f : Svc → Svc) : (g.onSvc f).dies = g.dies := rfl
@[simp] theorem Gremon.onSvc_binds (g : Gremon) (f : Svc → Svc) : (g.onSvc f).binds = g.binds := rfl
@[simp] theorem Gremon.onSvc_jobs (g : Gremon) (f : Svc → Svc) : (g.onSvc f).jobs = g.jobs := rfl
@[simp] theorem Gremon.onSvc_frameUs (g : Gremon) (f : Svc → Svc) : (g.onSvc f).frameUs = g.frameUs := rfl
@[simp] theorem Gremon.onSvc_frameN (g : Gremon) (f : Svc → Svc) : (g.onSvc f).frameN = g.frameN := rfl
@[simp] theorem Gremon.onSvc_frameNext (g : Gremon) (f : Svc → Svc) : (g.onSvc f).frameNext = g.frameNext := rfl
@[simp] theorem Gremon.onSvc_log (g : Gremon) (f : Svc → Svc) : (g.onSvc f).log = g.log := rfl
@[simp] theorem Gremon.onSvc_host (g : Gremon) (f : Svc → Svc) : (g.onSvc f).host = g.host := rfl
@[simp] theorem Gremon.onSvc_mem (g : Gremon) (f : Svc → Svc) : (g.onSvc f).mem = g.mem := rfl
@[simp] theorem Gremon.onSvc_poison (g : Gremon) (f : Svc → Svc) : (g.onSvc f).poison = g.poison := rfl
@[simp] theorem Gremon.onSvc_deadStacks (g : Gremon) (f : Svc → Svc) : (g.onSvc f).deadStacks = g.deadStacks := rfl
@[simp] theorem Gremon.onSvc_deadLinks (g : Gremon) (f : Svc → Svc) : (g.onSvc f).deadLinks = g.deadLinks := rfl
@[simp] theorem Gremon.onSvc_exclLinks (g : Gremon) (f : Svc → Svc) : (g.onSvc f).exclLinks = g.exclLinks := rfl
@[simp] theorem Gremon.onSvc_flits (g : Gremon) (f : Svc → Svc) : (g.onSvc f).flits = g.flits := rfl
@[simp] theorem Gremon.onSvc_cores (g : Gremon) (f : Svc → Svc) : (g.onSvc f).cores = g.cores := rfl
@[simp] theorem Gremon.onSvc_sync (g : Gremon) (f : Svc → Svc) : (g.onSvc f).sync = g.sync := rfl
@[simp] theorem Gremon.onSvc_eng (g : Gremon) (f : Svc → Svc) : (g.onSvc f).eng = g.eng := rfl
@[simp] theorem Gremon.onSvc_msnd (g : Gremon) (f : Svc → Svc) : (g.onSvc f).msnd = g.msnd := rfl
@[simp] theorem Gremon.onSvc_tse (g : Gremon) (f : Svc → Svc) : (g.onSvc f).tse = g.tse := rfl
@[simp] theorem Gremon.onSvc_ens (g : Gremon) (f : Svc → Svc) : (g.onSvc f).ens = g.ens := rfl
@[simp] theorem Gremon.onSvc_ensNext (g : Gremon) (f : Svc → Svc) : (g.onSvc f).ensNext = g.ensNext := rfl
@[simp] theorem Gremon.onSvc_kits (g : Gremon) (f : Svc → Svc) : (g.onSvc f).kits = g.kits := rfl
@[simp] theorem Gremon.onSvc_kitNext (g : Gremon) (f : Svc → Svc) : (g.onSvc f).kitNext = g.kitNext := rfl
@[simp] theorem Gremon.onSvc_halted (g : Gremon) (f : Svc → Svc) : (g.onSvc f).halted = g.halted := rfl
@[simp] theorem Gremon.onSvc_sys (g : Gremon) (f : Svc → Svc) : (g.onSvc f).sys = g.sys := rfl
@[simp] theorem Gremon.onSvc_svc (g : Gremon) (f : Svc → Svc) : (g.onSvc f).svc = f g.svc := rfl
@[simp] theorem Gremon.onSvc_tree (g : Gremon) (f : Svc → Svc) : (g.onSvc f).tree = g.tree := rfl
@[simp] theorem Gremon.onSvc_ports (g : Gremon) (f : Svc → Svc) : (g.onSvc f).ports = g.ports := rfl
@[simp] theorem Gremon.onSvc_rlIn (g : Gremon) (f : Svc → Svc) : (g.onSvc f).rlIn = g.rlIn := rfl
@[simp] theorem Gremon.onSvc_bcasts (g : Gremon) (f : Svc → Svc) : (g.onSvc f).bcasts = g.bcasts := rfl
@[simp] theorem Gremon.onSvc_bcastNext (g : Gremon) (f : Svc → Svc) : (g.onSvc f).bcastNext = g.bcastNext := rfl
@[simp] theorem Gremon.onSvc_queries (g : Gremon) (f : Svc → Svc) : (g.onSvc f).queries = g.queries := rfl
@[simp] theorem Gremon.onSvc_queryNext (g : Gremon) (f : Svc → Svc) : (g.onSvc f).queryNext = g.queryNext := rfl
@[simp] theorem Gremon.onSvc_feeds (g : Gremon) (f : Svc → Svc) : (g.onSvc f).feeds = g.feeds := rfl
@[simp] theorem Gremon.onSvc_reds (g : Gremon) (f : Svc → Svc) : (g.onSvc f).reds = g.reds := rfl
@[simp] theorem Gremon.onSvc_redNext (g : Gremon) (f : Svc → Svc) : (g.onSvc f).redNext = g.redNext := rfl
@[simp] theorem Gremon.onSvc_redOld (g : Gremon) (f : Svc → Svc) : (g.onSvc f).redOld = g.redOld := rfl
@[simp] theorem Gremon.onSvc_redKids (g : Gremon) (f : Svc → Svc) : (g.onSvc f).redKids = g.redKids := rfl
@[simp] theorem Gremon.onSvc_failed (g : Gremon) (f : Svc → Svc) : (g.onSvc f).failed = g.failed := rfl
@[simp] theorem Gremon.onSvc_badRegAt (g : Gremon) (f : Svc → Svc) : (g.onSvc f).badRegAt = g.badRegAt := rfl
@[simp] theorem Gremon.onSvc_badRegs (g : Gremon) (f : Svc → Svc) : (g.onSvc f).badRegs = g.badRegs := rfl
@[simp] theorem Gremon.onSvc_seed (g : Gremon) (f : Svc → Svc) : (g.onSvc f).seed = g.seed := rfl
@[simp] theorem Gremon.onPwr_regs (g : Gremon) (f : Power → Power) : (g.onPwr f).regs = g.regs := rfl
@[simp] theorem Gremon.onPwr_rdData (g : Gremon) (f : Power → Power) : (g.onPwr f).rdData = g.rdData := rfl
@[simp] theorem Gremon.onPwr_clock (g : Gremon) (f : Power → Power) : (g.onPwr f).clock = g.clock := rfl
@[simp] theorem Gremon.onPwr_replicas (g : Gremon) (f : Power → Power) : (g.onPwr f).replicas = g.replicas := rfl
@[simp] theorem Gremon.onPwr_root (g : Gremon) (f : Power → Power) : (g.onPwr f).root = g.root := rfl
@[simp] theorem Gremon.onPwr_lanes (g : Gremon) (f : Power → Power) : (g.onPwr f).lanes = g.lanes := rfl
@[simp] theorem Gremon.onPwr_dies (g : Gremon) (f : Power → Power) : (g.onPwr f).dies = g.dies := rfl
@[simp] theorem Gremon.onPwr_binds (g : Gremon) (f : Power → Power) : (g.onPwr f).binds = g.binds := rfl
@[simp] theorem Gremon.onPwr_jobs (g : Gremon) (f : Power → Power) : (g.onPwr f).jobs = g.jobs := rfl
@[simp] theorem Gremon.onPwr_frameUs (g : Gremon) (f : Power → Power) : (g.onPwr f).frameUs = g.frameUs := rfl
@[simp] theorem Gremon.onPwr_frameN (g : Gremon) (f : Power → Power) : (g.onPwr f).frameN = g.frameN := rfl
@[simp] theorem Gremon.onPwr_frameNext (g : Gremon) (f : Power → Power) : (g.onPwr f).frameNext = g.frameNext := rfl
@[simp] theorem Gremon.onPwr_log (g : Gremon) (f : Power → Power) : (g.onPwr f).log = g.log := rfl
@[simp] theorem Gremon.onPwr_host (g : Gremon) (f : Power → Power) : (g.onPwr f).host = g.host := rfl
@[simp] theorem Gremon.onPwr_mem (g : Gremon) (f : Power → Power) : (g.onPwr f).mem = g.mem := rfl
@[simp] theorem Gremon.onPwr_poison (g : Gremon) (f : Power → Power) : (g.onPwr f).poison = g.poison := rfl
@[simp] theorem Gremon.onPwr_deadStacks (g : Gremon) (f : Power → Power) : (g.onPwr f).deadStacks = g.deadStacks := rfl
@[simp] theorem Gremon.onPwr_deadLinks (g : Gremon) (f : Power → Power) : (g.onPwr f).deadLinks = g.deadLinks := rfl
@[simp] theorem Gremon.onPwr_exclLinks (g : Gremon) (f : Power → Power) : (g.onPwr f).exclLinks = g.exclLinks := rfl
@[simp] theorem Gremon.onPwr_flits (g : Gremon) (f : Power → Power) : (g.onPwr f).flits = g.flits := rfl
@[simp] theorem Gremon.onPwr_cores (g : Gremon) (f : Power → Power) : (g.onPwr f).cores = g.cores := rfl
@[simp] theorem Gremon.onPwr_sync (g : Gremon) (f : Power → Power) : (g.onPwr f).sync = g.sync := rfl
@[simp] theorem Gremon.onPwr_eng (g : Gremon) (f : Power → Power) : (g.onPwr f).eng = g.eng := rfl
@[simp] theorem Gremon.onPwr_msnd (g : Gremon) (f : Power → Power) : (g.onPwr f).msnd = g.msnd := rfl
@[simp] theorem Gremon.onPwr_tse (g : Gremon) (f : Power → Power) : (g.onPwr f).tse = g.tse := rfl
@[simp] theorem Gremon.onPwr_ens (g : Gremon) (f : Power → Power) : (g.onPwr f).ens = g.ens := rfl
@[simp] theorem Gremon.onPwr_ensNext (g : Gremon) (f : Power → Power) : (g.onPwr f).ensNext = g.ensNext := rfl
@[simp] theorem Gremon.onPwr_kits (g : Gremon) (f : Power → Power) : (g.onPwr f).kits = g.kits := rfl
@[simp] theorem Gremon.onPwr_kitNext (g : Gremon) (f : Power → Power) : (g.onPwr f).kitNext = g.kitNext := rfl
@[simp] theorem Gremon.onPwr_halted (g : Gremon) (f : Power → Power) : (g.onPwr f).halted = g.halted := rfl
@[simp] theorem Gremon.onPwr_svc (g : Gremon) (f : Power → Power) : (g.onPwr f).svc = g.svc := rfl
@[simp] theorem Gremon.onPwr_tree (g : Gremon) (f : Power → Power) : (g.onPwr f).tree = g.tree := rfl
@[simp] theorem Gremon.onPwr_ports (g : Gremon) (f : Power → Power) : (g.onPwr f).ports = g.ports := rfl
@[simp] theorem Gremon.onPwr_rlIn (g : Gremon) (f : Power → Power) : (g.onPwr f).rlIn = g.rlIn := rfl
@[simp] theorem Gremon.onPwr_bcasts (g : Gremon) (f : Power → Power) : (g.onPwr f).bcasts = g.bcasts := rfl
@[simp] theorem Gremon.onPwr_bcastNext (g : Gremon) (f : Power → Power) : (g.onPwr f).bcastNext = g.bcastNext := rfl
@[simp] theorem Gremon.onPwr_queries (g : Gremon) (f : Power → Power) : (g.onPwr f).queries = g.queries := rfl
@[simp] theorem Gremon.onPwr_queryNext (g : Gremon) (f : Power → Power) : (g.onPwr f).queryNext = g.queryNext := rfl
@[simp] theorem Gremon.onPwr_feeds (g : Gremon) (f : Power → Power) : (g.onPwr f).feeds = g.feeds := rfl
@[simp] theorem Gremon.onPwr_reds (g : Gremon) (f : Power → Power) : (g.onPwr f).reds = g.reds := rfl
@[simp] theorem Gremon.onPwr_redNext (g : Gremon) (f : Power → Power) : (g.onPwr f).redNext = g.redNext := rfl
@[simp] theorem Gremon.onPwr_redOld (g : Gremon) (f : Power → Power) : (g.onPwr f).redOld = g.redOld := rfl
@[simp] theorem Gremon.onPwr_redKids (g : Gremon) (f : Power → Power) : (g.onPwr f).redKids = g.redKids := rfl
@[simp] theorem Gremon.onPwr_failed (g : Gremon) (f : Power → Power) : (g.onPwr f).failed = g.failed := rfl
@[simp] theorem Gremon.onPwr_badRegAt (g : Gremon) (f : Power → Power) : (g.onPwr f).badRegAt = g.badRegAt := rfl
@[simp] theorem Gremon.onPwr_badRegs (g : Gremon) (f : Power → Power) : (g.onPwr f).badRegs = g.badRegs := rfl
@[simp] theorem Gremon.onPwr_seed (g : Gremon) (f : Power → Power) : (g.onPwr f).seed = g.seed := rfl
@[simp] theorem Gremon.onPwr_sys_pwr (g : Gremon) (f : Power → Power) : (g.onPwr f).sys.pwr = f g.sys.pwr := rfl
@[simp] theorem Gremon.onPwr_sys_upd (g : Gremon) (f : Power → Power) : (g.onPwr f).sys.upd = g.sys.upd := rfl
@[simp] theorem Gremon.onPwr_sys_prot (g : Gremon) (f : Power → Power) : (g.onPwr f).sys.prot = g.sys.prot := rfl
@[simp] theorem Gremon.onPwr_sys_bb (g : Gremon) (f : Power → Power) : (g.onPwr f).sys.bb = g.sys.bb := rfl
@[simp] theorem Gremon.onPwr_sys_trc (g : Gremon) (f : Power → Power) : (g.onPwr f).sys.trc = g.sys.trc := rfl
@[simp] theorem Gremon.onPwr_sys_hot (g : Gremon) (f : Power → Power) : (g.onPwr f).sys.hot = g.sys.hot := rfl
@[simp] theorem Gremon.onPwr_sys_tel (g : Gremon) (f : Power → Power) : (g.onPwr f).sys.tel = g.sys.tel := rfl
@[simp] theorem Gremon.onPwr_sys_tsq (g : Gremon) (f : Power → Power) : (g.onPwr f).sys.tsq = g.sys.tsq := rfl
@[simp] theorem Gremon.onBb_regs (g : Gremon) (f : BlackBox → BlackBox) : (g.onBb f).regs = g.regs := rfl
@[simp] theorem Gremon.onBb_rdData (g : Gremon) (f : BlackBox → BlackBox) : (g.onBb f).rdData = g.rdData := rfl
@[simp] theorem Gremon.onBb_clock (g : Gremon) (f : BlackBox → BlackBox) : (g.onBb f).clock = g.clock := rfl
@[simp] theorem Gremon.onBb_replicas (g : Gremon) (f : BlackBox → BlackBox) : (g.onBb f).replicas = g.replicas := rfl
@[simp] theorem Gremon.onBb_root (g : Gremon) (f : BlackBox → BlackBox) : (g.onBb f).root = g.root := rfl
@[simp] theorem Gremon.onBb_lanes (g : Gremon) (f : BlackBox → BlackBox) : (g.onBb f).lanes = g.lanes := rfl
@[simp] theorem Gremon.onBb_dies (g : Gremon) (f : BlackBox → BlackBox) : (g.onBb f).dies = g.dies := rfl
@[simp] theorem Gremon.onBb_binds (g : Gremon) (f : BlackBox → BlackBox) : (g.onBb f).binds = g.binds := rfl
@[simp] theorem Gremon.onBb_jobs (g : Gremon) (f : BlackBox → BlackBox) : (g.onBb f).jobs = g.jobs := rfl
@[simp] theorem Gremon.onBb_frameUs (g : Gremon) (f : BlackBox → BlackBox) : (g.onBb f).frameUs = g.frameUs := rfl
@[simp] theorem Gremon.onBb_frameN (g : Gremon) (f : BlackBox → BlackBox) : (g.onBb f).frameN = g.frameN := rfl
@[simp] theorem Gremon.onBb_frameNext (g : Gremon) (f : BlackBox → BlackBox) : (g.onBb f).frameNext = g.frameNext := rfl
@[simp] theorem Gremon.onBb_log (g : Gremon) (f : BlackBox → BlackBox) : (g.onBb f).log = g.log := rfl
@[simp] theorem Gremon.onBb_host (g : Gremon) (f : BlackBox → BlackBox) : (g.onBb f).host = g.host := rfl
@[simp] theorem Gremon.onBb_mem (g : Gremon) (f : BlackBox → BlackBox) : (g.onBb f).mem = g.mem := rfl
@[simp] theorem Gremon.onBb_poison (g : Gremon) (f : BlackBox → BlackBox) : (g.onBb f).poison = g.poison := rfl
@[simp] theorem Gremon.onBb_deadStacks (g : Gremon) (f : BlackBox → BlackBox) : (g.onBb f).deadStacks = g.deadStacks := rfl
@[simp] theorem Gremon.onBb_deadLinks (g : Gremon) (f : BlackBox → BlackBox) : (g.onBb f).deadLinks = g.deadLinks := rfl
@[simp] theorem Gremon.onBb_exclLinks (g : Gremon) (f : BlackBox → BlackBox) : (g.onBb f).exclLinks = g.exclLinks := rfl
@[simp] theorem Gremon.onBb_flits (g : Gremon) (f : BlackBox → BlackBox) : (g.onBb f).flits = g.flits := rfl
@[simp] theorem Gremon.onBb_cores (g : Gremon) (f : BlackBox → BlackBox) : (g.onBb f).cores = g.cores := rfl
@[simp] theorem Gremon.onBb_sync (g : Gremon) (f : BlackBox → BlackBox) : (g.onBb f).sync = g.sync := rfl
@[simp] theorem Gremon.onBb_eng (g : Gremon) (f : BlackBox → BlackBox) : (g.onBb f).eng = g.eng := rfl
@[simp] theorem Gremon.onBb_msnd (g : Gremon) (f : BlackBox → BlackBox) : (g.onBb f).msnd = g.msnd := rfl
@[simp] theorem Gremon.onBb_tse (g : Gremon) (f : BlackBox → BlackBox) : (g.onBb f).tse = g.tse := rfl
@[simp] theorem Gremon.onBb_ens (g : Gremon) (f : BlackBox → BlackBox) : (g.onBb f).ens = g.ens := rfl
@[simp] theorem Gremon.onBb_ensNext (g : Gremon) (f : BlackBox → BlackBox) : (g.onBb f).ensNext = g.ensNext := rfl
@[simp] theorem Gremon.onBb_kits (g : Gremon) (f : BlackBox → BlackBox) : (g.onBb f).kits = g.kits := rfl
@[simp] theorem Gremon.onBb_kitNext (g : Gremon) (f : BlackBox → BlackBox) : (g.onBb f).kitNext = g.kitNext := rfl
@[simp] theorem Gremon.onBb_halted (g : Gremon) (f : BlackBox → BlackBox) : (g.onBb f).halted = g.halted := rfl
@[simp] theorem Gremon.onBb_svc (g : Gremon) (f : BlackBox → BlackBox) : (g.onBb f).svc = g.svc := rfl
@[simp] theorem Gremon.onBb_tree (g : Gremon) (f : BlackBox → BlackBox) : (g.onBb f).tree = g.tree := rfl
@[simp] theorem Gremon.onBb_ports (g : Gremon) (f : BlackBox → BlackBox) : (g.onBb f).ports = g.ports := rfl
@[simp] theorem Gremon.onBb_rlIn (g : Gremon) (f : BlackBox → BlackBox) : (g.onBb f).rlIn = g.rlIn := rfl
@[simp] theorem Gremon.onBb_bcasts (g : Gremon) (f : BlackBox → BlackBox) : (g.onBb f).bcasts = g.bcasts := rfl
@[simp] theorem Gremon.onBb_bcastNext (g : Gremon) (f : BlackBox → BlackBox) : (g.onBb f).bcastNext = g.bcastNext := rfl
@[simp] theorem Gremon.onBb_queries (g : Gremon) (f : BlackBox → BlackBox) : (g.onBb f).queries = g.queries := rfl
@[simp] theorem Gremon.onBb_queryNext (g : Gremon) (f : BlackBox → BlackBox) : (g.onBb f).queryNext = g.queryNext := rfl
@[simp] theorem Gremon.onBb_feeds (g : Gremon) (f : BlackBox → BlackBox) : (g.onBb f).feeds = g.feeds := rfl
@[simp] theorem Gremon.onBb_reds (g : Gremon) (f : BlackBox → BlackBox) : (g.onBb f).reds = g.reds := rfl
@[simp] theorem Gremon.onBb_redNext (g : Gremon) (f : BlackBox → BlackBox) : (g.onBb f).redNext = g.redNext := rfl
@[simp] theorem Gremon.onBb_redOld (g : Gremon) (f : BlackBox → BlackBox) : (g.onBb f).redOld = g.redOld := rfl
@[simp] theorem Gremon.onBb_redKids (g : Gremon) (f : BlackBox → BlackBox) : (g.onBb f).redKids = g.redKids := rfl
@[simp] theorem Gremon.onBb_failed (g : Gremon) (f : BlackBox → BlackBox) : (g.onBb f).failed = g.failed := rfl
@[simp] theorem Gremon.onBb_badRegAt (g : Gremon) (f : BlackBox → BlackBox) : (g.onBb f).badRegAt = g.badRegAt := rfl
@[simp] theorem Gremon.onBb_badRegs (g : Gremon) (f : BlackBox → BlackBox) : (g.onBb f).badRegs = g.badRegs := rfl
@[simp] theorem Gremon.onBb_seed (g : Gremon) (f : BlackBox → BlackBox) : (g.onBb f).seed = g.seed := rfl
@[simp] theorem Gremon.onBb_sys_pwr (g : Gremon) (f : BlackBox → BlackBox) : (g.onBb f).sys.pwr = g.sys.pwr := rfl
@[simp] theorem Gremon.onBb_sys_upd (g : Gremon) (f : BlackBox → BlackBox) : (g.onBb f).sys.upd = g.sys.upd := rfl
@[simp] theorem Gremon.onBb_sys_prot (g : Gremon) (f : BlackBox → BlackBox) : (g.onBb f).sys.prot = g.sys.prot := rfl
@[simp] theorem Gremon.onBb_sys_bb (g : Gremon) (f : BlackBox → BlackBox) : (g.onBb f).sys.bb = f g.sys.bb := rfl
@[simp] theorem Gremon.onBb_sys_trc (g : Gremon) (f : BlackBox → BlackBox) : (g.onBb f).sys.trc = g.sys.trc := rfl
@[simp] theorem Gremon.onBb_sys_hot (g : Gremon) (f : BlackBox → BlackBox) : (g.onBb f).sys.hot = g.sys.hot := rfl
@[simp] theorem Gremon.onBb_sys_tel (g : Gremon) (f : BlackBox → BlackBox) : (g.onBb f).sys.tel = g.sys.tel := rfl
@[simp] theorem Gremon.onBb_sys_tsq (g : Gremon) (f : BlackBox → BlackBox) : (g.onBb f).sys.tsq = g.sys.tsq := rfl
@[simp] theorem Gremon.onTrc_regs (g : Gremon) (f : TraceCol → TraceCol) : (g.onTrc f).regs = g.regs := rfl
@[simp] theorem Gremon.onTrc_rdData (g : Gremon) (f : TraceCol → TraceCol) : (g.onTrc f).rdData = g.rdData := rfl
@[simp] theorem Gremon.onTrc_clock (g : Gremon) (f : TraceCol → TraceCol) : (g.onTrc f).clock = g.clock := rfl
@[simp] theorem Gremon.onTrc_replicas (g : Gremon) (f : TraceCol → TraceCol) : (g.onTrc f).replicas = g.replicas := rfl
@[simp] theorem Gremon.onTrc_root (g : Gremon) (f : TraceCol → TraceCol) : (g.onTrc f).root = g.root := rfl
@[simp] theorem Gremon.onTrc_lanes (g : Gremon) (f : TraceCol → TraceCol) : (g.onTrc f).lanes = g.lanes := rfl
@[simp] theorem Gremon.onTrc_dies (g : Gremon) (f : TraceCol → TraceCol) : (g.onTrc f).dies = g.dies := rfl
@[simp] theorem Gremon.onTrc_binds (g : Gremon) (f : TraceCol → TraceCol) : (g.onTrc f).binds = g.binds := rfl
@[simp] theorem Gremon.onTrc_jobs (g : Gremon) (f : TraceCol → TraceCol) : (g.onTrc f).jobs = g.jobs := rfl
@[simp] theorem Gremon.onTrc_frameUs (g : Gremon) (f : TraceCol → TraceCol) : (g.onTrc f).frameUs = g.frameUs := rfl
@[simp] theorem Gremon.onTrc_frameN (g : Gremon) (f : TraceCol → TraceCol) : (g.onTrc f).frameN = g.frameN := rfl
@[simp] theorem Gremon.onTrc_frameNext (g : Gremon) (f : TraceCol → TraceCol) : (g.onTrc f).frameNext = g.frameNext := rfl
@[simp] theorem Gremon.onTrc_log (g : Gremon) (f : TraceCol → TraceCol) : (g.onTrc f).log = g.log := rfl
@[simp] theorem Gremon.onTrc_host (g : Gremon) (f : TraceCol → TraceCol) : (g.onTrc f).host = g.host := rfl
@[simp] theorem Gremon.onTrc_mem (g : Gremon) (f : TraceCol → TraceCol) : (g.onTrc f).mem = g.mem := rfl
@[simp] theorem Gremon.onTrc_poison (g : Gremon) (f : TraceCol → TraceCol) : (g.onTrc f).poison = g.poison := rfl
@[simp] theorem Gremon.onTrc_deadStacks (g : Gremon) (f : TraceCol → TraceCol) : (g.onTrc f).deadStacks = g.deadStacks := rfl
@[simp] theorem Gremon.onTrc_deadLinks (g : Gremon) (f : TraceCol → TraceCol) : (g.onTrc f).deadLinks = g.deadLinks := rfl
@[simp] theorem Gremon.onTrc_exclLinks (g : Gremon) (f : TraceCol → TraceCol) : (g.onTrc f).exclLinks = g.exclLinks := rfl
@[simp] theorem Gremon.onTrc_flits (g : Gremon) (f : TraceCol → TraceCol) : (g.onTrc f).flits = g.flits := rfl
@[simp] theorem Gremon.onTrc_cores (g : Gremon) (f : TraceCol → TraceCol) : (g.onTrc f).cores = g.cores := rfl
@[simp] theorem Gremon.onTrc_sync (g : Gremon) (f : TraceCol → TraceCol) : (g.onTrc f).sync = g.sync := rfl
@[simp] theorem Gremon.onTrc_eng (g : Gremon) (f : TraceCol → TraceCol) : (g.onTrc f).eng = g.eng := rfl
@[simp] theorem Gremon.onTrc_msnd (g : Gremon) (f : TraceCol → TraceCol) : (g.onTrc f).msnd = g.msnd := rfl
@[simp] theorem Gremon.onTrc_tse (g : Gremon) (f : TraceCol → TraceCol) : (g.onTrc f).tse = g.tse := rfl
@[simp] theorem Gremon.onTrc_ens (g : Gremon) (f : TraceCol → TraceCol) : (g.onTrc f).ens = g.ens := rfl
@[simp] theorem Gremon.onTrc_ensNext (g : Gremon) (f : TraceCol → TraceCol) : (g.onTrc f).ensNext = g.ensNext := rfl
@[simp] theorem Gremon.onTrc_kits (g : Gremon) (f : TraceCol → TraceCol) : (g.onTrc f).kits = g.kits := rfl
@[simp] theorem Gremon.onTrc_kitNext (g : Gremon) (f : TraceCol → TraceCol) : (g.onTrc f).kitNext = g.kitNext := rfl
@[simp] theorem Gremon.onTrc_halted (g : Gremon) (f : TraceCol → TraceCol) : (g.onTrc f).halted = g.halted := rfl
@[simp] theorem Gremon.onTrc_svc (g : Gremon) (f : TraceCol → TraceCol) : (g.onTrc f).svc = g.svc := rfl
@[simp] theorem Gremon.onTrc_tree (g : Gremon) (f : TraceCol → TraceCol) : (g.onTrc f).tree = g.tree := rfl
@[simp] theorem Gremon.onTrc_ports (g : Gremon) (f : TraceCol → TraceCol) : (g.onTrc f).ports = g.ports := rfl
@[simp] theorem Gremon.onTrc_rlIn (g : Gremon) (f : TraceCol → TraceCol) : (g.onTrc f).rlIn = g.rlIn := rfl
@[simp] theorem Gremon.onTrc_bcasts (g : Gremon) (f : TraceCol → TraceCol) : (g.onTrc f).bcasts = g.bcasts := rfl
@[simp] theorem Gremon.onTrc_bcastNext (g : Gremon) (f : TraceCol → TraceCol) : (g.onTrc f).bcastNext = g.bcastNext := rfl
@[simp] theorem Gremon.onTrc_queries (g : Gremon) (f : TraceCol → TraceCol) : (g.onTrc f).queries = g.queries := rfl
@[simp] theorem Gremon.onTrc_queryNext (g : Gremon) (f : TraceCol → TraceCol) : (g.onTrc f).queryNext = g.queryNext := rfl
@[simp] theorem Gremon.onTrc_feeds (g : Gremon) (f : TraceCol → TraceCol) : (g.onTrc f).feeds = g.feeds := rfl
@[simp] theorem Gremon.onTrc_reds (g : Gremon) (f : TraceCol → TraceCol) : (g.onTrc f).reds = g.reds := rfl
@[simp] theorem Gremon.onTrc_redNext (g : Gremon) (f : TraceCol → TraceCol) : (g.onTrc f).redNext = g.redNext := rfl
@[simp] theorem Gremon.onTrc_redOld (g : Gremon) (f : TraceCol → TraceCol) : (g.onTrc f).redOld = g.redOld := rfl
@[simp] theorem Gremon.onTrc_redKids (g : Gremon) (f : TraceCol → TraceCol) : (g.onTrc f).redKids = g.redKids := rfl
@[simp] theorem Gremon.onTrc_failed (g : Gremon) (f : TraceCol → TraceCol) : (g.onTrc f).failed = g.failed := rfl
@[simp] theorem Gremon.onTrc_badRegAt (g : Gremon) (f : TraceCol → TraceCol) : (g.onTrc f).badRegAt = g.badRegAt := rfl
@[simp] theorem Gremon.onTrc_badRegs (g : Gremon) (f : TraceCol → TraceCol) : (g.onTrc f).badRegs = g.badRegs := rfl
@[simp] theorem Gremon.onTrc_seed (g : Gremon) (f : TraceCol → TraceCol) : (g.onTrc f).seed = g.seed := rfl
@[simp] theorem Gremon.onTrc_sys_pwr (g : Gremon) (f : TraceCol → TraceCol) : (g.onTrc f).sys.pwr = g.sys.pwr := rfl
@[simp] theorem Gremon.onTrc_sys_upd (g : Gremon) (f : TraceCol → TraceCol) : (g.onTrc f).sys.upd = g.sys.upd := rfl
@[simp] theorem Gremon.onTrc_sys_prot (g : Gremon) (f : TraceCol → TraceCol) : (g.onTrc f).sys.prot = g.sys.prot := rfl
@[simp] theorem Gremon.onTrc_sys_bb (g : Gremon) (f : TraceCol → TraceCol) : (g.onTrc f).sys.bb = g.sys.bb := rfl
@[simp] theorem Gremon.onTrc_sys_trc (g : Gremon) (f : TraceCol → TraceCol) : (g.onTrc f).sys.trc = f g.sys.trc := rfl
@[simp] theorem Gremon.onTrc_sys_hot (g : Gremon) (f : TraceCol → TraceCol) : (g.onTrc f).sys.hot = g.sys.hot := rfl
@[simp] theorem Gremon.onTrc_sys_tel (g : Gremon) (f : TraceCol → TraceCol) : (g.onTrc f).sys.tel = g.sys.tel := rfl
@[simp] theorem Gremon.onTrc_sys_tsq (g : Gremon) (f : TraceCol → TraceCol) : (g.onTrc f).sys.tsq = g.sys.tsq := rfl
@[simp] theorem Gremon.onTel_regs (g : Gremon) (f : Telemetry → Telemetry) : (g.onTel f).regs = g.regs := rfl
@[simp] theorem Gremon.onTel_rdData (g : Gremon) (f : Telemetry → Telemetry) : (g.onTel f).rdData = g.rdData := rfl
@[simp] theorem Gremon.onTel_clock (g : Gremon) (f : Telemetry → Telemetry) : (g.onTel f).clock = g.clock := rfl
@[simp] theorem Gremon.onTel_replicas (g : Gremon) (f : Telemetry → Telemetry) : (g.onTel f).replicas = g.replicas := rfl
@[simp] theorem Gremon.onTel_root (g : Gremon) (f : Telemetry → Telemetry) : (g.onTel f).root = g.root := rfl
@[simp] theorem Gremon.onTel_lanes (g : Gremon) (f : Telemetry → Telemetry) : (g.onTel f).lanes = g.lanes := rfl
@[simp] theorem Gremon.onTel_dies (g : Gremon) (f : Telemetry → Telemetry) : (g.onTel f).dies = g.dies := rfl
@[simp] theorem Gremon.onTel_binds (g : Gremon) (f : Telemetry → Telemetry) : (g.onTel f).binds = g.binds := rfl
@[simp] theorem Gremon.onTel_jobs (g : Gremon) (f : Telemetry → Telemetry) : (g.onTel f).jobs = g.jobs := rfl
@[simp] theorem Gremon.onTel_frameUs (g : Gremon) (f : Telemetry → Telemetry) : (g.onTel f).frameUs = g.frameUs := rfl
@[simp] theorem Gremon.onTel_frameN (g : Gremon) (f : Telemetry → Telemetry) : (g.onTel f).frameN = g.frameN := rfl
@[simp] theorem Gremon.onTel_frameNext (g : Gremon) (f : Telemetry → Telemetry) : (g.onTel f).frameNext = g.frameNext := rfl
@[simp] theorem Gremon.onTel_log (g : Gremon) (f : Telemetry → Telemetry) : (g.onTel f).log = g.log := rfl
@[simp] theorem Gremon.onTel_host (g : Gremon) (f : Telemetry → Telemetry) : (g.onTel f).host = g.host := rfl
@[simp] theorem Gremon.onTel_mem (g : Gremon) (f : Telemetry → Telemetry) : (g.onTel f).mem = g.mem := rfl
@[simp] theorem Gremon.onTel_poison (g : Gremon) (f : Telemetry → Telemetry) : (g.onTel f).poison = g.poison := rfl
@[simp] theorem Gremon.onTel_deadStacks (g : Gremon) (f : Telemetry → Telemetry) : (g.onTel f).deadStacks = g.deadStacks := rfl
@[simp] theorem Gremon.onTel_deadLinks (g : Gremon) (f : Telemetry → Telemetry) : (g.onTel f).deadLinks = g.deadLinks := rfl
@[simp] theorem Gremon.onTel_exclLinks (g : Gremon) (f : Telemetry → Telemetry) : (g.onTel f).exclLinks = g.exclLinks := rfl
@[simp] theorem Gremon.onTel_flits (g : Gremon) (f : Telemetry → Telemetry) : (g.onTel f).flits = g.flits := rfl
@[simp] theorem Gremon.onTel_cores (g : Gremon) (f : Telemetry → Telemetry) : (g.onTel f).cores = g.cores := rfl
@[simp] theorem Gremon.onTel_sync (g : Gremon) (f : Telemetry → Telemetry) : (g.onTel f).sync = g.sync := rfl
@[simp] theorem Gremon.onTel_eng (g : Gremon) (f : Telemetry → Telemetry) : (g.onTel f).eng = g.eng := rfl
@[simp] theorem Gremon.onTel_msnd (g : Gremon) (f : Telemetry → Telemetry) : (g.onTel f).msnd = g.msnd := rfl
@[simp] theorem Gremon.onTel_tse (g : Gremon) (f : Telemetry → Telemetry) : (g.onTel f).tse = g.tse := rfl
@[simp] theorem Gremon.onTel_ens (g : Gremon) (f : Telemetry → Telemetry) : (g.onTel f).ens = g.ens := rfl
@[simp] theorem Gremon.onTel_ensNext (g : Gremon) (f : Telemetry → Telemetry) : (g.onTel f).ensNext = g.ensNext := rfl
@[simp] theorem Gremon.onTel_kits (g : Gremon) (f : Telemetry → Telemetry) : (g.onTel f).kits = g.kits := rfl
@[simp] theorem Gremon.onTel_kitNext (g : Gremon) (f : Telemetry → Telemetry) : (g.onTel f).kitNext = g.kitNext := rfl
@[simp] theorem Gremon.onTel_halted (g : Gremon) (f : Telemetry → Telemetry) : (g.onTel f).halted = g.halted := rfl
@[simp] theorem Gremon.onTel_svc (g : Gremon) (f : Telemetry → Telemetry) : (g.onTel f).svc = g.svc := rfl
@[simp] theorem Gremon.onTel_tree (g : Gremon) (f : Telemetry → Telemetry) : (g.onTel f).tree = g.tree := rfl
@[simp] theorem Gremon.onTel_ports (g : Gremon) (f : Telemetry → Telemetry) : (g.onTel f).ports = g.ports := rfl
@[simp] theorem Gremon.onTel_rlIn (g : Gremon) (f : Telemetry → Telemetry) : (g.onTel f).rlIn = g.rlIn := rfl
@[simp] theorem Gremon.onTel_bcasts (g : Gremon) (f : Telemetry → Telemetry) : (g.onTel f).bcasts = g.bcasts := rfl
@[simp] theorem Gremon.onTel_bcastNext (g : Gremon) (f : Telemetry → Telemetry) : (g.onTel f).bcastNext = g.bcastNext := rfl
@[simp] theorem Gremon.onTel_queries (g : Gremon) (f : Telemetry → Telemetry) : (g.onTel f).queries = g.queries := rfl
@[simp] theorem Gremon.onTel_queryNext (g : Gremon) (f : Telemetry → Telemetry) : (g.onTel f).queryNext = g.queryNext := rfl
@[simp] theorem Gremon.onTel_feeds (g : Gremon) (f : Telemetry → Telemetry) : (g.onTel f).feeds = g.feeds := rfl
@[simp] theorem Gremon.onTel_reds (g : Gremon) (f : Telemetry → Telemetry) : (g.onTel f).reds = g.reds := rfl
@[simp] theorem Gremon.onTel_redNext (g : Gremon) (f : Telemetry → Telemetry) : (g.onTel f).redNext = g.redNext := rfl
@[simp] theorem Gremon.onTel_redOld (g : Gremon) (f : Telemetry → Telemetry) : (g.onTel f).redOld = g.redOld := rfl
@[simp] theorem Gremon.onTel_redKids (g : Gremon) (f : Telemetry → Telemetry) : (g.onTel f).redKids = g.redKids := rfl
@[simp] theorem Gremon.onTel_failed (g : Gremon) (f : Telemetry → Telemetry) : (g.onTel f).failed = g.failed := rfl
@[simp] theorem Gremon.onTel_badRegAt (g : Gremon) (f : Telemetry → Telemetry) : (g.onTel f).badRegAt = g.badRegAt := rfl
@[simp] theorem Gremon.onTel_badRegs (g : Gremon) (f : Telemetry → Telemetry) : (g.onTel f).badRegs = g.badRegs := rfl
@[simp] theorem Gremon.onTel_seed (g : Gremon) (f : Telemetry → Telemetry) : (g.onTel f).seed = g.seed := rfl
@[simp] theorem Gremon.onTel_sys_pwr (g : Gremon) (f : Telemetry → Telemetry) : (g.onTel f).sys.pwr = g.sys.pwr := rfl
@[simp] theorem Gremon.onTel_sys_upd (g : Gremon) (f : Telemetry → Telemetry) : (g.onTel f).sys.upd = g.sys.upd := rfl
@[simp] theorem Gremon.onTel_sys_prot (g : Gremon) (f : Telemetry → Telemetry) : (g.onTel f).sys.prot = g.sys.prot := rfl
@[simp] theorem Gremon.onTel_sys_bb (g : Gremon) (f : Telemetry → Telemetry) : (g.onTel f).sys.bb = g.sys.bb := rfl
@[simp] theorem Gremon.onTel_sys_trc (g : Gremon) (f : Telemetry → Telemetry) : (g.onTel f).sys.trc = g.sys.trc := rfl
@[simp] theorem Gremon.onTel_sys_hot (g : Gremon) (f : Telemetry → Telemetry) : (g.onTel f).sys.hot = g.sys.hot := rfl
@[simp] theorem Gremon.onTel_sys_tel (g : Gremon) (f : Telemetry → Telemetry) : (g.onTel f).sys.tel = f g.sys.tel := rfl
@[simp] theorem Gremon.onTel_sys_tsq (g : Gremon) (f : Telemetry → Telemetry) : (g.onTel f).sys.tsq = g.sys.tsq := rfl
@[simp] theorem Gremon.onUpd_regs (g : Gremon) (f : Update → Update) : (g.onUpd f).regs = g.regs := rfl
@[simp] theorem Gremon.onUpd_rdData (g : Gremon) (f : Update → Update) : (g.onUpd f).rdData = g.rdData := rfl
@[simp] theorem Gremon.onUpd_clock (g : Gremon) (f : Update → Update) : (g.onUpd f).clock = g.clock := rfl
@[simp] theorem Gremon.onUpd_replicas (g : Gremon) (f : Update → Update) : (g.onUpd f).replicas = g.replicas := rfl
@[simp] theorem Gremon.onUpd_root (g : Gremon) (f : Update → Update) : (g.onUpd f).root = g.root := rfl
@[simp] theorem Gremon.onUpd_lanes (g : Gremon) (f : Update → Update) : (g.onUpd f).lanes = g.lanes := rfl
@[simp] theorem Gremon.onUpd_dies (g : Gremon) (f : Update → Update) : (g.onUpd f).dies = g.dies := rfl
@[simp] theorem Gremon.onUpd_binds (g : Gremon) (f : Update → Update) : (g.onUpd f).binds = g.binds := rfl
@[simp] theorem Gremon.onUpd_jobs (g : Gremon) (f : Update → Update) : (g.onUpd f).jobs = g.jobs := rfl
@[simp] theorem Gremon.onUpd_frameUs (g : Gremon) (f : Update → Update) : (g.onUpd f).frameUs = g.frameUs := rfl
@[simp] theorem Gremon.onUpd_frameN (g : Gremon) (f : Update → Update) : (g.onUpd f).frameN = g.frameN := rfl
@[simp] theorem Gremon.onUpd_frameNext (g : Gremon) (f : Update → Update) : (g.onUpd f).frameNext = g.frameNext := rfl
@[simp] theorem Gremon.onUpd_log (g : Gremon) (f : Update → Update) : (g.onUpd f).log = g.log := rfl
@[simp] theorem Gremon.onUpd_host (g : Gremon) (f : Update → Update) : (g.onUpd f).host = g.host := rfl
@[simp] theorem Gremon.onUpd_mem (g : Gremon) (f : Update → Update) : (g.onUpd f).mem = g.mem := rfl
@[simp] theorem Gremon.onUpd_poison (g : Gremon) (f : Update → Update) : (g.onUpd f).poison = g.poison := rfl
@[simp] theorem Gremon.onUpd_deadStacks (g : Gremon) (f : Update → Update) : (g.onUpd f).deadStacks = g.deadStacks := rfl
@[simp] theorem Gremon.onUpd_deadLinks (g : Gremon) (f : Update → Update) : (g.onUpd f).deadLinks = g.deadLinks := rfl
@[simp] theorem Gremon.onUpd_exclLinks (g : Gremon) (f : Update → Update) : (g.onUpd f).exclLinks = g.exclLinks := rfl
@[simp] theorem Gremon.onUpd_flits (g : Gremon) (f : Update → Update) : (g.onUpd f).flits = g.flits := rfl
@[simp] theorem Gremon.onUpd_cores (g : Gremon) (f : Update → Update) : (g.onUpd f).cores = g.cores := rfl
@[simp] theorem Gremon.onUpd_sync (g : Gremon) (f : Update → Update) : (g.onUpd f).sync = g.sync := rfl
@[simp] theorem Gremon.onUpd_eng (g : Gremon) (f : Update → Update) : (g.onUpd f).eng = g.eng := rfl
@[simp] theorem Gremon.onUpd_msnd (g : Gremon) (f : Update → Update) : (g.onUpd f).msnd = g.msnd := rfl
@[simp] theorem Gremon.onUpd_tse (g : Gremon) (f : Update → Update) : (g.onUpd f).tse = g.tse := rfl
@[simp] theorem Gremon.onUpd_ens (g : Gremon) (f : Update → Update) : (g.onUpd f).ens = g.ens := rfl
@[simp] theorem Gremon.onUpd_ensNext (g : Gremon) (f : Update → Update) : (g.onUpd f).ensNext = g.ensNext := rfl
@[simp] theorem Gremon.onUpd_kits (g : Gremon) (f : Update → Update) : (g.onUpd f).kits = g.kits := rfl
@[simp] theorem Gremon.onUpd_kitNext (g : Gremon) (f : Update → Update) : (g.onUpd f).kitNext = g.kitNext := rfl
@[simp] theorem Gremon.onUpd_halted (g : Gremon) (f : Update → Update) : (g.onUpd f).halted = g.halted := rfl
@[simp] theorem Gremon.onUpd_svc (g : Gremon) (f : Update → Update) : (g.onUpd f).svc = g.svc := rfl
@[simp] theorem Gremon.onUpd_tree (g : Gremon) (f : Update → Update) : (g.onUpd f).tree = g.tree := rfl
@[simp] theorem Gremon.onUpd_ports (g : Gremon) (f : Update → Update) : (g.onUpd f).ports = g.ports := rfl
@[simp] theorem Gremon.onUpd_rlIn (g : Gremon) (f : Update → Update) : (g.onUpd f).rlIn = g.rlIn := rfl
@[simp] theorem Gremon.onUpd_bcasts (g : Gremon) (f : Update → Update) : (g.onUpd f).bcasts = g.bcasts := rfl
@[simp] theorem Gremon.onUpd_bcastNext (g : Gremon) (f : Update → Update) : (g.onUpd f).bcastNext = g.bcastNext := rfl
@[simp] theorem Gremon.onUpd_queries (g : Gremon) (f : Update → Update) : (g.onUpd f).queries = g.queries := rfl
@[simp] theorem Gremon.onUpd_queryNext (g : Gremon) (f : Update → Update) : (g.onUpd f).queryNext = g.queryNext := rfl
@[simp] theorem Gremon.onUpd_feeds (g : Gremon) (f : Update → Update) : (g.onUpd f).feeds = g.feeds := rfl
@[simp] theorem Gremon.onUpd_reds (g : Gremon) (f : Update → Update) : (g.onUpd f).reds = g.reds := rfl
@[simp] theorem Gremon.onUpd_redNext (g : Gremon) (f : Update → Update) : (g.onUpd f).redNext = g.redNext := rfl
@[simp] theorem Gremon.onUpd_redOld (g : Gremon) (f : Update → Update) : (g.onUpd f).redOld = g.redOld := rfl
@[simp] theorem Gremon.onUpd_redKids (g : Gremon) (f : Update → Update) : (g.onUpd f).redKids = g.redKids := rfl
@[simp] theorem Gremon.onUpd_failed (g : Gremon) (f : Update → Update) : (g.onUpd f).failed = g.failed := rfl
@[simp] theorem Gremon.onUpd_badRegAt (g : Gremon) (f : Update → Update) : (g.onUpd f).badRegAt = g.badRegAt := rfl
@[simp] theorem Gremon.onUpd_badRegs (g : Gremon) (f : Update → Update) : (g.onUpd f).badRegs = g.badRegs := rfl
@[simp] theorem Gremon.onUpd_seed (g : Gremon) (f : Update → Update) : (g.onUpd f).seed = g.seed := rfl
@[simp] theorem Gremon.onUpd_sys_pwr (g : Gremon) (f : Update → Update) : (g.onUpd f).sys.pwr = g.sys.pwr := rfl
@[simp] theorem Gremon.onUpd_sys_upd (g : Gremon) (f : Update → Update) : (g.onUpd f).sys.upd = f g.sys.upd := rfl
@[simp] theorem Gremon.onUpd_sys_prot (g : Gremon) (f : Update → Update) : (g.onUpd f).sys.prot = g.sys.prot := rfl
@[simp] theorem Gremon.onUpd_sys_bb (g : Gremon) (f : Update → Update) : (g.onUpd f).sys.bb = g.sys.bb := rfl
@[simp] theorem Gremon.onUpd_sys_trc (g : Gremon) (f : Update → Update) : (g.onUpd f).sys.trc = g.sys.trc := rfl
@[simp] theorem Gremon.onUpd_sys_hot (g : Gremon) (f : Update → Update) : (g.onUpd f).sys.hot = g.sys.hot := rfl
@[simp] theorem Gremon.onUpd_sys_tel (g : Gremon) (f : Update → Update) : (g.onUpd f).sys.tel = g.sys.tel := rfl
@[simp] theorem Gremon.onUpd_sys_tsq (g : Gremon) (f : Update → Update) : (g.onUpd f).sys.tsq = g.sys.tsq := rfl
@[simp] theorem Gremon.onProt_regs (g : Gremon) (f : Protect → Protect) : (g.onProt f).regs = g.regs := rfl
@[simp] theorem Gremon.onProt_rdData (g : Gremon) (f : Protect → Protect) : (g.onProt f).rdData = g.rdData := rfl
@[simp] theorem Gremon.onProt_clock (g : Gremon) (f : Protect → Protect) : (g.onProt f).clock = g.clock := rfl
@[simp] theorem Gremon.onProt_replicas (g : Gremon) (f : Protect → Protect) : (g.onProt f).replicas = g.replicas := rfl
@[simp] theorem Gremon.onProt_root (g : Gremon) (f : Protect → Protect) : (g.onProt f).root = g.root := rfl
@[simp] theorem Gremon.onProt_lanes (g : Gremon) (f : Protect → Protect) : (g.onProt f).lanes = g.lanes := rfl
@[simp] theorem Gremon.onProt_dies (g : Gremon) (f : Protect → Protect) : (g.onProt f).dies = g.dies := rfl
@[simp] theorem Gremon.onProt_binds (g : Gremon) (f : Protect → Protect) : (g.onProt f).binds = g.binds := rfl
@[simp] theorem Gremon.onProt_jobs (g : Gremon) (f : Protect → Protect) : (g.onProt f).jobs = g.jobs := rfl
@[simp] theorem Gremon.onProt_frameUs (g : Gremon) (f : Protect → Protect) : (g.onProt f).frameUs = g.frameUs := rfl
@[simp] theorem Gremon.onProt_frameN (g : Gremon) (f : Protect → Protect) : (g.onProt f).frameN = g.frameN := rfl
@[simp] theorem Gremon.onProt_frameNext (g : Gremon) (f : Protect → Protect) : (g.onProt f).frameNext = g.frameNext := rfl
@[simp] theorem Gremon.onProt_log (g : Gremon) (f : Protect → Protect) : (g.onProt f).log = g.log := rfl
@[simp] theorem Gremon.onProt_host (g : Gremon) (f : Protect → Protect) : (g.onProt f).host = g.host := rfl
@[simp] theorem Gremon.onProt_mem (g : Gremon) (f : Protect → Protect) : (g.onProt f).mem = g.mem := rfl
@[simp] theorem Gremon.onProt_poison (g : Gremon) (f : Protect → Protect) : (g.onProt f).poison = g.poison := rfl
@[simp] theorem Gremon.onProt_deadStacks (g : Gremon) (f : Protect → Protect) : (g.onProt f).deadStacks = g.deadStacks := rfl
@[simp] theorem Gremon.onProt_deadLinks (g : Gremon) (f : Protect → Protect) : (g.onProt f).deadLinks = g.deadLinks := rfl
@[simp] theorem Gremon.onProt_exclLinks (g : Gremon) (f : Protect → Protect) : (g.onProt f).exclLinks = g.exclLinks := rfl
@[simp] theorem Gremon.onProt_flits (g : Gremon) (f : Protect → Protect) : (g.onProt f).flits = g.flits := rfl
@[simp] theorem Gremon.onProt_cores (g : Gremon) (f : Protect → Protect) : (g.onProt f).cores = g.cores := rfl
@[simp] theorem Gremon.onProt_sync (g : Gremon) (f : Protect → Protect) : (g.onProt f).sync = g.sync := rfl
@[simp] theorem Gremon.onProt_eng (g : Gremon) (f : Protect → Protect) : (g.onProt f).eng = g.eng := rfl
@[simp] theorem Gremon.onProt_msnd (g : Gremon) (f : Protect → Protect) : (g.onProt f).msnd = g.msnd := rfl
@[simp] theorem Gremon.onProt_tse (g : Gremon) (f : Protect → Protect) : (g.onProt f).tse = g.tse := rfl
@[simp] theorem Gremon.onProt_ens (g : Gremon) (f : Protect → Protect) : (g.onProt f).ens = g.ens := rfl
@[simp] theorem Gremon.onProt_ensNext (g : Gremon) (f : Protect → Protect) : (g.onProt f).ensNext = g.ensNext := rfl
@[simp] theorem Gremon.onProt_kits (g : Gremon) (f : Protect → Protect) : (g.onProt f).kits = g.kits := rfl
@[simp] theorem Gremon.onProt_kitNext (g : Gremon) (f : Protect → Protect) : (g.onProt f).kitNext = g.kitNext := rfl
@[simp] theorem Gremon.onProt_halted (g : Gremon) (f : Protect → Protect) : (g.onProt f).halted = g.halted := rfl
@[simp] theorem Gremon.onProt_svc (g : Gremon) (f : Protect → Protect) : (g.onProt f).svc = g.svc := rfl
@[simp] theorem Gremon.onProt_tree (g : Gremon) (f : Protect → Protect) : (g.onProt f).tree = g.tree := rfl
@[simp] theorem Gremon.onProt_ports (g : Gremon) (f : Protect → Protect) : (g.onProt f).ports = g.ports := rfl
@[simp] theorem Gremon.onProt_rlIn (g : Gremon) (f : Protect → Protect) : (g.onProt f).rlIn = g.rlIn := rfl
@[simp] theorem Gremon.onProt_bcasts (g : Gremon) (f : Protect → Protect) : (g.onProt f).bcasts = g.bcasts := rfl
@[simp] theorem Gremon.onProt_bcastNext (g : Gremon) (f : Protect → Protect) : (g.onProt f).bcastNext = g.bcastNext := rfl
@[simp] theorem Gremon.onProt_queries (g : Gremon) (f : Protect → Protect) : (g.onProt f).queries = g.queries := rfl
@[simp] theorem Gremon.onProt_queryNext (g : Gremon) (f : Protect → Protect) : (g.onProt f).queryNext = g.queryNext := rfl
@[simp] theorem Gremon.onProt_feeds (g : Gremon) (f : Protect → Protect) : (g.onProt f).feeds = g.feeds := rfl
@[simp] theorem Gremon.onProt_reds (g : Gremon) (f : Protect → Protect) : (g.onProt f).reds = g.reds := rfl
@[simp] theorem Gremon.onProt_redNext (g : Gremon) (f : Protect → Protect) : (g.onProt f).redNext = g.redNext := rfl
@[simp] theorem Gremon.onProt_redOld (g : Gremon) (f : Protect → Protect) : (g.onProt f).redOld = g.redOld := rfl
@[simp] theorem Gremon.onProt_redKids (g : Gremon) (f : Protect → Protect) : (g.onProt f).redKids = g.redKids := rfl
@[simp] theorem Gremon.onProt_failed (g : Gremon) (f : Protect → Protect) : (g.onProt f).failed = g.failed := rfl
@[simp] theorem Gremon.onProt_badRegAt (g : Gremon) (f : Protect → Protect) : (g.onProt f).badRegAt = g.badRegAt := rfl
@[simp] theorem Gremon.onProt_badRegs (g : Gremon) (f : Protect → Protect) : (g.onProt f).badRegs = g.badRegs := rfl
@[simp] theorem Gremon.onProt_seed (g : Gremon) (f : Protect → Protect) : (g.onProt f).seed = g.seed := rfl
@[simp] theorem Gremon.onProt_sys_pwr (g : Gremon) (f : Protect → Protect) : (g.onProt f).sys.pwr = g.sys.pwr := rfl
@[simp] theorem Gremon.onProt_sys_upd (g : Gremon) (f : Protect → Protect) : (g.onProt f).sys.upd = g.sys.upd := rfl
@[simp] theorem Gremon.onProt_sys_prot (g : Gremon) (f : Protect → Protect) : (g.onProt f).sys.prot = f g.sys.prot := rfl
@[simp] theorem Gremon.onProt_sys_bb (g : Gremon) (f : Protect → Protect) : (g.onProt f).sys.bb = g.sys.bb := rfl
@[simp] theorem Gremon.onProt_sys_trc (g : Gremon) (f : Protect → Protect) : (g.onProt f).sys.trc = g.sys.trc := rfl
@[simp] theorem Gremon.onProt_sys_hot (g : Gremon) (f : Protect → Protect) : (g.onProt f).sys.hot = g.sys.hot := rfl
@[simp] theorem Gremon.onProt_sys_tel (g : Gremon) (f : Protect → Protect) : (g.onProt f).sys.tel = g.sys.tel := rfl
@[simp] theorem Gremon.onProt_sys_tsq (g : Gremon) (f : Protect → Protect) : (g.onProt f).sys.tsq = g.sys.tsq := rfl
@[simp] theorem Gremon.onHot_regs (g : Gremon) (f : Thermal → Thermal) : (g.onHot f).regs = g.regs := rfl
@[simp] theorem Gremon.onHot_rdData (g : Gremon) (f : Thermal → Thermal) : (g.onHot f).rdData = g.rdData := rfl
@[simp] theorem Gremon.onHot_clock (g : Gremon) (f : Thermal → Thermal) : (g.onHot f).clock = g.clock := rfl
@[simp] theorem Gremon.onHot_replicas (g : Gremon) (f : Thermal → Thermal) : (g.onHot f).replicas = g.replicas := rfl
@[simp] theorem Gremon.onHot_root (g : Gremon) (f : Thermal → Thermal) : (g.onHot f).root = g.root := rfl
@[simp] theorem Gremon.onHot_lanes (g : Gremon) (f : Thermal → Thermal) : (g.onHot f).lanes = g.lanes := rfl
@[simp] theorem Gremon.onHot_dies (g : Gremon) (f : Thermal → Thermal) : (g.onHot f).dies = g.dies := rfl
@[simp] theorem Gremon.onHot_binds (g : Gremon) (f : Thermal → Thermal) : (g.onHot f).binds = g.binds := rfl
@[simp] theorem Gremon.onHot_jobs (g : Gremon) (f : Thermal → Thermal) : (g.onHot f).jobs = g.jobs := rfl
@[simp] theorem Gremon.onHot_frameUs (g : Gremon) (f : Thermal → Thermal) : (g.onHot f).frameUs = g.frameUs := rfl
@[simp] theorem Gremon.onHot_frameN (g : Gremon) (f : Thermal → Thermal) : (g.onHot f).frameN = g.frameN := rfl
@[simp] theorem Gremon.onHot_frameNext (g : Gremon) (f : Thermal → Thermal) : (g.onHot f).frameNext = g.frameNext := rfl
@[simp] theorem Gremon.onHot_log (g : Gremon) (f : Thermal → Thermal) : (g.onHot f).log = g.log := rfl
@[simp] theorem Gremon.onHot_host (g : Gremon) (f : Thermal → Thermal) : (g.onHot f).host = g.host := rfl
@[simp] theorem Gremon.onHot_mem (g : Gremon) (f : Thermal → Thermal) : (g.onHot f).mem = g.mem := rfl
@[simp] theorem Gremon.onHot_poison (g : Gremon) (f : Thermal → Thermal) : (g.onHot f).poison = g.poison := rfl
@[simp] theorem Gremon.onHot_deadStacks (g : Gremon) (f : Thermal → Thermal) : (g.onHot f).deadStacks = g.deadStacks := rfl
@[simp] theorem Gremon.onHot_deadLinks (g : Gremon) (f : Thermal → Thermal) : (g.onHot f).deadLinks = g.deadLinks := rfl
@[simp] theorem Gremon.onHot_exclLinks (g : Gremon) (f : Thermal → Thermal) : (g.onHot f).exclLinks = g.exclLinks := rfl
@[simp] theorem Gremon.onHot_flits (g : Gremon) (f : Thermal → Thermal) : (g.onHot f).flits = g.flits := rfl
@[simp] theorem Gremon.onHot_cores (g : Gremon) (f : Thermal → Thermal) : (g.onHot f).cores = g.cores := rfl
@[simp] theorem Gremon.onHot_sync (g : Gremon) (f : Thermal → Thermal) : (g.onHot f).sync = g.sync := rfl
@[simp] theorem Gremon.onHot_eng (g : Gremon) (f : Thermal → Thermal) : (g.onHot f).eng = g.eng := rfl
@[simp] theorem Gremon.onHot_msnd (g : Gremon) (f : Thermal → Thermal) : (g.onHot f).msnd = g.msnd := rfl
@[simp] theorem Gremon.onHot_tse (g : Gremon) (f : Thermal → Thermal) : (g.onHot f).tse = g.tse := rfl
@[simp] theorem Gremon.onHot_ens (g : Gremon) (f : Thermal → Thermal) : (g.onHot f).ens = g.ens := rfl
@[simp] theorem Gremon.onHot_ensNext (g : Gremon) (f : Thermal → Thermal) : (g.onHot f).ensNext = g.ensNext := rfl
@[simp] theorem Gremon.onHot_kits (g : Gremon) (f : Thermal → Thermal) : (g.onHot f).kits = g.kits := rfl
@[simp] theorem Gremon.onHot_kitNext (g : Gremon) (f : Thermal → Thermal) : (g.onHot f).kitNext = g.kitNext := rfl
@[simp] theorem Gremon.onHot_halted (g : Gremon) (f : Thermal → Thermal) : (g.onHot f).halted = g.halted := rfl
@[simp] theorem Gremon.onHot_svc (g : Gremon) (f : Thermal → Thermal) : (g.onHot f).svc = g.svc := rfl
@[simp] theorem Gremon.onHot_tree (g : Gremon) (f : Thermal → Thermal) : (g.onHot f).tree = g.tree := rfl
@[simp] theorem Gremon.onHot_ports (g : Gremon) (f : Thermal → Thermal) : (g.onHot f).ports = g.ports := rfl
@[simp] theorem Gremon.onHot_rlIn (g : Gremon) (f : Thermal → Thermal) : (g.onHot f).rlIn = g.rlIn := rfl
@[simp] theorem Gremon.onHot_bcasts (g : Gremon) (f : Thermal → Thermal) : (g.onHot f).bcasts = g.bcasts := rfl
@[simp] theorem Gremon.onHot_bcastNext (g : Gremon) (f : Thermal → Thermal) : (g.onHot f).bcastNext = g.bcastNext := rfl
@[simp] theorem Gremon.onHot_queries (g : Gremon) (f : Thermal → Thermal) : (g.onHot f).queries = g.queries := rfl
@[simp] theorem Gremon.onHot_queryNext (g : Gremon) (f : Thermal → Thermal) : (g.onHot f).queryNext = g.queryNext := rfl
@[simp] theorem Gremon.onHot_feeds (g : Gremon) (f : Thermal → Thermal) : (g.onHot f).feeds = g.feeds := rfl
@[simp] theorem Gremon.onHot_reds (g : Gremon) (f : Thermal → Thermal) : (g.onHot f).reds = g.reds := rfl
@[simp] theorem Gremon.onHot_redNext (g : Gremon) (f : Thermal → Thermal) : (g.onHot f).redNext = g.redNext := rfl
@[simp] theorem Gremon.onHot_redOld (g : Gremon) (f : Thermal → Thermal) : (g.onHot f).redOld = g.redOld := rfl
@[simp] theorem Gremon.onHot_redKids (g : Gremon) (f : Thermal → Thermal) : (g.onHot f).redKids = g.redKids := rfl
@[simp] theorem Gremon.onHot_failed (g : Gremon) (f : Thermal → Thermal) : (g.onHot f).failed = g.failed := rfl
@[simp] theorem Gremon.onHot_badRegAt (g : Gremon) (f : Thermal → Thermal) : (g.onHot f).badRegAt = g.badRegAt := rfl
@[simp] theorem Gremon.onHot_badRegs (g : Gremon) (f : Thermal → Thermal) : (g.onHot f).badRegs = g.badRegs := rfl
@[simp] theorem Gremon.onHot_seed (g : Gremon) (f : Thermal → Thermal) : (g.onHot f).seed = g.seed := rfl
@[simp] theorem Gremon.onHot_sys_pwr (g : Gremon) (f : Thermal → Thermal) : (g.onHot f).sys.pwr = g.sys.pwr := rfl
@[simp] theorem Gremon.onHot_sys_upd (g : Gremon) (f : Thermal → Thermal) : (g.onHot f).sys.upd = g.sys.upd := rfl
@[simp] theorem Gremon.onHot_sys_prot (g : Gremon) (f : Thermal → Thermal) : (g.onHot f).sys.prot = g.sys.prot := rfl
@[simp] theorem Gremon.onHot_sys_bb (g : Gremon) (f : Thermal → Thermal) : (g.onHot f).sys.bb = g.sys.bb := rfl
@[simp] theorem Gremon.onHot_sys_trc (g : Gremon) (f : Thermal → Thermal) : (g.onHot f).sys.trc = g.sys.trc := rfl
@[simp] theorem Gremon.onHot_sys_hot (g : Gremon) (f : Thermal → Thermal) : (g.onHot f).sys.hot = f g.sys.hot := rfl
@[simp] theorem Gremon.onHot_sys_tel (g : Gremon) (f : Thermal → Thermal) : (g.onHot f).sys.tel = g.sys.tel := rfl
@[simp] theorem Gremon.onHot_sys_tsq (g : Gremon) (f : Thermal → Thermal) : (g.onHot f).sys.tsq = g.sys.tsq := rfl
@[simp] theorem Gremon.onVig_regs (g : Gremon) (f : VigilSvc → VigilSvc) : (g.onVig f).regs = g.regs := rfl
@[simp] theorem Gremon.onVig_rdData (g : Gremon) (f : VigilSvc → VigilSvc) : (g.onVig f).rdData = g.rdData := rfl
@[simp] theorem Gremon.onVig_clock (g : Gremon) (f : VigilSvc → VigilSvc) : (g.onVig f).clock = g.clock := rfl
@[simp] theorem Gremon.onVig_replicas (g : Gremon) (f : VigilSvc → VigilSvc) : (g.onVig f).replicas = g.replicas := rfl
@[simp] theorem Gremon.onVig_root (g : Gremon) (f : VigilSvc → VigilSvc) : (g.onVig f).root = g.root := rfl
@[simp] theorem Gremon.onVig_lanes (g : Gremon) (f : VigilSvc → VigilSvc) : (g.onVig f).lanes = g.lanes := rfl
@[simp] theorem Gremon.onVig_dies (g : Gremon) (f : VigilSvc → VigilSvc) : (g.onVig f).dies = g.dies := rfl
@[simp] theorem Gremon.onVig_binds (g : Gremon) (f : VigilSvc → VigilSvc) : (g.onVig f).binds = g.binds := rfl
@[simp] theorem Gremon.onVig_jobs (g : Gremon) (f : VigilSvc → VigilSvc) : (g.onVig f).jobs = g.jobs := rfl
@[simp] theorem Gremon.onVig_frameUs (g : Gremon) (f : VigilSvc → VigilSvc) : (g.onVig f).frameUs = g.frameUs := rfl
@[simp] theorem Gremon.onVig_frameN (g : Gremon) (f : VigilSvc → VigilSvc) : (g.onVig f).frameN = g.frameN := rfl
@[simp] theorem Gremon.onVig_frameNext (g : Gremon) (f : VigilSvc → VigilSvc) : (g.onVig f).frameNext = g.frameNext := rfl
@[simp] theorem Gremon.onVig_log (g : Gremon) (f : VigilSvc → VigilSvc) : (g.onVig f).log = g.log := rfl
@[simp] theorem Gremon.onVig_host (g : Gremon) (f : VigilSvc → VigilSvc) : (g.onVig f).host = g.host := rfl
@[simp] theorem Gremon.onVig_mem (g : Gremon) (f : VigilSvc → VigilSvc) : (g.onVig f).mem = g.mem := rfl
@[simp] theorem Gremon.onVig_poison (g : Gremon) (f : VigilSvc → VigilSvc) : (g.onVig f).poison = g.poison := rfl
@[simp] theorem Gremon.onVig_deadStacks (g : Gremon) (f : VigilSvc → VigilSvc) : (g.onVig f).deadStacks = g.deadStacks := rfl
@[simp] theorem Gremon.onVig_deadLinks (g : Gremon) (f : VigilSvc → VigilSvc) : (g.onVig f).deadLinks = g.deadLinks := rfl
@[simp] theorem Gremon.onVig_exclLinks (g : Gremon) (f : VigilSvc → VigilSvc) : (g.onVig f).exclLinks = g.exclLinks := rfl
@[simp] theorem Gremon.onVig_flits (g : Gremon) (f : VigilSvc → VigilSvc) : (g.onVig f).flits = g.flits := rfl
@[simp] theorem Gremon.onVig_cores (g : Gremon) (f : VigilSvc → VigilSvc) : (g.onVig f).cores = g.cores := rfl
@[simp] theorem Gremon.onVig_sync (g : Gremon) (f : VigilSvc → VigilSvc) : (g.onVig f).sync = g.sync := rfl
@[simp] theorem Gremon.onVig_eng (g : Gremon) (f : VigilSvc → VigilSvc) : (g.onVig f).eng = g.eng := rfl
@[simp] theorem Gremon.onVig_msnd (g : Gremon) (f : VigilSvc → VigilSvc) : (g.onVig f).msnd = g.msnd := rfl
@[simp] theorem Gremon.onVig_tse (g : Gremon) (f : VigilSvc → VigilSvc) : (g.onVig f).tse = g.tse := rfl
@[simp] theorem Gremon.onVig_ens (g : Gremon) (f : VigilSvc → VigilSvc) : (g.onVig f).ens = g.ens := rfl
@[simp] theorem Gremon.onVig_ensNext (g : Gremon) (f : VigilSvc → VigilSvc) : (g.onVig f).ensNext = g.ensNext := rfl
@[simp] theorem Gremon.onVig_kits (g : Gremon) (f : VigilSvc → VigilSvc) : (g.onVig f).kits = g.kits := rfl
@[simp] theorem Gremon.onVig_kitNext (g : Gremon) (f : VigilSvc → VigilSvc) : (g.onVig f).kitNext = g.kitNext := rfl
@[simp] theorem Gremon.onVig_halted (g : Gremon) (f : VigilSvc → VigilSvc) : (g.onVig f).halted = g.halted := rfl
@[simp] theorem Gremon.onVig_sys (g : Gremon) (f : VigilSvc → VigilSvc) : (g.onVig f).sys = g.sys := rfl
@[simp] theorem Gremon.onVig_tree (g : Gremon) (f : VigilSvc → VigilSvc) : (g.onVig f).tree = g.tree := rfl
@[simp] theorem Gremon.onVig_ports (g : Gremon) (f : VigilSvc → VigilSvc) : (g.onVig f).ports = g.ports := rfl
@[simp] theorem Gremon.onVig_rlIn (g : Gremon) (f : VigilSvc → VigilSvc) : (g.onVig f).rlIn = g.rlIn := rfl
@[simp] theorem Gremon.onVig_bcasts (g : Gremon) (f : VigilSvc → VigilSvc) : (g.onVig f).bcasts = g.bcasts := rfl
@[simp] theorem Gremon.onVig_bcastNext (g : Gremon) (f : VigilSvc → VigilSvc) : (g.onVig f).bcastNext = g.bcastNext := rfl
@[simp] theorem Gremon.onVig_queries (g : Gremon) (f : VigilSvc → VigilSvc) : (g.onVig f).queries = g.queries := rfl
@[simp] theorem Gremon.onVig_queryNext (g : Gremon) (f : VigilSvc → VigilSvc) : (g.onVig f).queryNext = g.queryNext := rfl
@[simp] theorem Gremon.onVig_feeds (g : Gremon) (f : VigilSvc → VigilSvc) : (g.onVig f).feeds = g.feeds := rfl
@[simp] theorem Gremon.onVig_reds (g : Gremon) (f : VigilSvc → VigilSvc) : (g.onVig f).reds = g.reds := rfl
@[simp] theorem Gremon.onVig_redNext (g : Gremon) (f : VigilSvc → VigilSvc) : (g.onVig f).redNext = g.redNext := rfl
@[simp] theorem Gremon.onVig_redOld (g : Gremon) (f : VigilSvc → VigilSvc) : (g.onVig f).redOld = g.redOld := rfl
@[simp] theorem Gremon.onVig_redKids (g : Gremon) (f : VigilSvc → VigilSvc) : (g.onVig f).redKids = g.redKids := rfl
@[simp] theorem Gremon.onVig_failed (g : Gremon) (f : VigilSvc → VigilSvc) : (g.onVig f).failed = g.failed := rfl
@[simp] theorem Gremon.onVig_badRegAt (g : Gremon) (f : VigilSvc → VigilSvc) : (g.onVig f).badRegAt = g.badRegAt := rfl
@[simp] theorem Gremon.onVig_badRegs (g : Gremon) (f : VigilSvc → VigilSvc) : (g.onVig f).badRegs = g.badRegs := rfl
@[simp] theorem Gremon.onVig_seed (g : Gremon) (f : VigilSvc → VigilSvc) : (g.onVig f).seed = g.seed := rfl
@[simp] theorem Gremon.onVig_svc_vig (g : Gremon) (f : VigilSvc → VigilSvc) : (g.onVig f).svc.vig = f g.svc.vig := rfl
@[simp] theorem Gremon.onVig_svc_lan (g : Gremon) (f : VigilSvc → VigilSvc) : (g.onVig f).svc.lan = g.svc.lan := rfl
@[simp] theorem Gremon.onVig_svc_ckpt (g : Gremon) (f : VigilSvc → VigilSvc) : (g.onVig f).svc.ckpt = g.svc.ckpt := rfl
@[simp] theorem Gremon.onVig_svc_cont (g : Gremon) (f : VigilSvc → VigilSvc) : (g.onVig f).svc.cont = g.svc.cont := rfl
@[simp] theorem Gremon.onVig_svc_scr (g : Gremon) (f : VigilSvc → VigilSvc) : (g.onVig f).svc.scr = g.svc.scr := rfl
@[simp] theorem Gremon.onVig_svc_hist (g : Gremon) (f : VigilSvc → VigilSvc) : (g.onVig f).svc.hist = g.svc.hist := rfl
@[simp] theorem Gremon.onVig_svc_swaps (g : Gremon) (f : VigilSvc → VigilSvc) : (g.onVig f).svc.swaps = g.svc.swaps := rfl
@[simp] theorem Gremon.onVig_svc_marks (g : Gremon) (f : VigilSvc → VigilSvc) : (g.onVig f).svc.marks = g.svc.marks := rfl
@[simp] theorem Gremon.onVig_svc_aligned (g : Gremon) (f : VigilSvc → VigilSvc) : (g.onVig f).svc.aligned = g.svc.aligned := rfl
@[simp] theorem Gremon.onVig_svc_ambig (g : Gremon) (f : VigilSvc → VigilSvc) : (g.onVig f).svc.ambig = g.svc.ambig := rfl
@[simp] theorem Gremon.onVig_svc_minima (g : Gremon) (f : VigilSvc → VigilSvc) : (g.onVig f).svc.minima = g.svc.minima := rfl
@[simp] theorem Gremon.onVig_svc_planNch (g : Gremon) (f : VigilSvc → VigilSvc) : (g.onVig f).svc.planNch = g.svc.planNch := rfl
@[simp] theorem Gremon.onVig_svc_plans (g : Gremon) (f : VigilSvc → VigilSvc) : (g.onVig f).svc.plans = g.svc.plans := rfl
@[simp] theorem Gremon.onVig_svc_hdids (g : Gremon) (f : VigilSvc → VigilSvc) : (g.onVig f).svc.hdids = g.svc.hdids := rfl
@[simp] theorem Gremon.onVig_svc_site (g : Gremon) (f : VigilSvc → VigilSvc) : (g.onVig f).svc.site = g.svc.site := rfl
@[simp] theorem Gremon.onVig_svc_ptSteps (g : Gremon) (f : VigilSvc → VigilSvc) : (g.onVig f).svc.ptSteps = g.svc.ptSteps := rfl
@[simp] theorem Gremon.onVig_svc_missed (g : Gremon) (f : VigilSvc → VigilSvc) : (g.onVig f).svc.missed = g.svc.missed := rfl
@[simp] theorem Gremon.onLan_regs (g : Gremon) (f : LanternSvc → LanternSvc) : (g.onLan f).regs = g.regs := rfl
@[simp] theorem Gremon.onLan_rdData (g : Gremon) (f : LanternSvc → LanternSvc) : (g.onLan f).rdData = g.rdData := rfl
@[simp] theorem Gremon.onLan_clock (g : Gremon) (f : LanternSvc → LanternSvc) : (g.onLan f).clock = g.clock := rfl
@[simp] theorem Gremon.onLan_replicas (g : Gremon) (f : LanternSvc → LanternSvc) : (g.onLan f).replicas = g.replicas := rfl
@[simp] theorem Gremon.onLan_root (g : Gremon) (f : LanternSvc → LanternSvc) : (g.onLan f).root = g.root := rfl
@[simp] theorem Gremon.onLan_lanes (g : Gremon) (f : LanternSvc → LanternSvc) : (g.onLan f).lanes = g.lanes := rfl
@[simp] theorem Gremon.onLan_dies (g : Gremon) (f : LanternSvc → LanternSvc) : (g.onLan f).dies = g.dies := rfl
@[simp] theorem Gremon.onLan_binds (g : Gremon) (f : LanternSvc → LanternSvc) : (g.onLan f).binds = g.binds := rfl
@[simp] theorem Gremon.onLan_jobs (g : Gremon) (f : LanternSvc → LanternSvc) : (g.onLan f).jobs = g.jobs := rfl
@[simp] theorem Gremon.onLan_frameUs (g : Gremon) (f : LanternSvc → LanternSvc) : (g.onLan f).frameUs = g.frameUs := rfl
@[simp] theorem Gremon.onLan_frameN (g : Gremon) (f : LanternSvc → LanternSvc) : (g.onLan f).frameN = g.frameN := rfl
@[simp] theorem Gremon.onLan_frameNext (g : Gremon) (f : LanternSvc → LanternSvc) : (g.onLan f).frameNext = g.frameNext := rfl
@[simp] theorem Gremon.onLan_log (g : Gremon) (f : LanternSvc → LanternSvc) : (g.onLan f).log = g.log := rfl
@[simp] theorem Gremon.onLan_host (g : Gremon) (f : LanternSvc → LanternSvc) : (g.onLan f).host = g.host := rfl
@[simp] theorem Gremon.onLan_mem (g : Gremon) (f : LanternSvc → LanternSvc) : (g.onLan f).mem = g.mem := rfl
@[simp] theorem Gremon.onLan_poison (g : Gremon) (f : LanternSvc → LanternSvc) : (g.onLan f).poison = g.poison := rfl
@[simp] theorem Gremon.onLan_deadStacks (g : Gremon) (f : LanternSvc → LanternSvc) : (g.onLan f).deadStacks = g.deadStacks := rfl
@[simp] theorem Gremon.onLan_deadLinks (g : Gremon) (f : LanternSvc → LanternSvc) : (g.onLan f).deadLinks = g.deadLinks := rfl
@[simp] theorem Gremon.onLan_exclLinks (g : Gremon) (f : LanternSvc → LanternSvc) : (g.onLan f).exclLinks = g.exclLinks := rfl
@[simp] theorem Gremon.onLan_flits (g : Gremon) (f : LanternSvc → LanternSvc) : (g.onLan f).flits = g.flits := rfl
@[simp] theorem Gremon.onLan_cores (g : Gremon) (f : LanternSvc → LanternSvc) : (g.onLan f).cores = g.cores := rfl
@[simp] theorem Gremon.onLan_sync (g : Gremon) (f : LanternSvc → LanternSvc) : (g.onLan f).sync = g.sync := rfl
@[simp] theorem Gremon.onLan_eng (g : Gremon) (f : LanternSvc → LanternSvc) : (g.onLan f).eng = g.eng := rfl
@[simp] theorem Gremon.onLan_msnd (g : Gremon) (f : LanternSvc → LanternSvc) : (g.onLan f).msnd = g.msnd := rfl
@[simp] theorem Gremon.onLan_tse (g : Gremon) (f : LanternSvc → LanternSvc) : (g.onLan f).tse = g.tse := rfl
@[simp] theorem Gremon.onLan_ens (g : Gremon) (f : LanternSvc → LanternSvc) : (g.onLan f).ens = g.ens := rfl
@[simp] theorem Gremon.onLan_ensNext (g : Gremon) (f : LanternSvc → LanternSvc) : (g.onLan f).ensNext = g.ensNext := rfl
@[simp] theorem Gremon.onLan_kits (g : Gremon) (f : LanternSvc → LanternSvc) : (g.onLan f).kits = g.kits := rfl
@[simp] theorem Gremon.onLan_kitNext (g : Gremon) (f : LanternSvc → LanternSvc) : (g.onLan f).kitNext = g.kitNext := rfl
@[simp] theorem Gremon.onLan_halted (g : Gremon) (f : LanternSvc → LanternSvc) : (g.onLan f).halted = g.halted := rfl
@[simp] theorem Gremon.onLan_sys (g : Gremon) (f : LanternSvc → LanternSvc) : (g.onLan f).sys = g.sys := rfl
@[simp] theorem Gremon.onLan_tree (g : Gremon) (f : LanternSvc → LanternSvc) : (g.onLan f).tree = g.tree := rfl
@[simp] theorem Gremon.onLan_ports (g : Gremon) (f : LanternSvc → LanternSvc) : (g.onLan f).ports = g.ports := rfl
@[simp] theorem Gremon.onLan_rlIn (g : Gremon) (f : LanternSvc → LanternSvc) : (g.onLan f).rlIn = g.rlIn := rfl
@[simp] theorem Gremon.onLan_bcasts (g : Gremon) (f : LanternSvc → LanternSvc) : (g.onLan f).bcasts = g.bcasts := rfl
@[simp] theorem Gremon.onLan_bcastNext (g : Gremon) (f : LanternSvc → LanternSvc) : (g.onLan f).bcastNext = g.bcastNext := rfl
@[simp] theorem Gremon.onLan_queries (g : Gremon) (f : LanternSvc → LanternSvc) : (g.onLan f).queries = g.queries := rfl
@[simp] theorem Gremon.onLan_queryNext (g : Gremon) (f : LanternSvc → LanternSvc) : (g.onLan f).queryNext = g.queryNext := rfl
@[simp] theorem Gremon.onLan_feeds (g : Gremon) (f : LanternSvc → LanternSvc) : (g.onLan f).feeds = g.feeds := rfl
@[simp] theorem Gremon.onLan_reds (g : Gremon) (f : LanternSvc → LanternSvc) : (g.onLan f).reds = g.reds := rfl
@[simp] theorem Gremon.onLan_redNext (g : Gremon) (f : LanternSvc → LanternSvc) : (g.onLan f).redNext = g.redNext := rfl
@[simp] theorem Gremon.onLan_redOld (g : Gremon) (f : LanternSvc → LanternSvc) : (g.onLan f).redOld = g.redOld := rfl
@[simp] theorem Gremon.onLan_redKids (g : Gremon) (f : LanternSvc → LanternSvc) : (g.onLan f).redKids = g.redKids := rfl
@[simp] theorem Gremon.onLan_failed (g : Gremon) (f : LanternSvc → LanternSvc) : (g.onLan f).failed = g.failed := rfl
@[simp] theorem Gremon.onLan_badRegAt (g : Gremon) (f : LanternSvc → LanternSvc) : (g.onLan f).badRegAt = g.badRegAt := rfl
@[simp] theorem Gremon.onLan_badRegs (g : Gremon) (f : LanternSvc → LanternSvc) : (g.onLan f).badRegs = g.badRegs := rfl
@[simp] theorem Gremon.onLan_seed (g : Gremon) (f : LanternSvc → LanternSvc) : (g.onLan f).seed = g.seed := rfl
@[simp] theorem Gremon.onLan_svc_vig (g : Gremon) (f : LanternSvc → LanternSvc) : (g.onLan f).svc.vig = g.svc.vig := rfl
@[simp] theorem Gremon.onLan_svc_lan (g : Gremon) (f : LanternSvc → LanternSvc) : (g.onLan f).svc.lan = f g.svc.lan := rfl
@[simp] theorem Gremon.onLan_svc_ckpt (g : Gremon) (f : LanternSvc → LanternSvc) : (g.onLan f).svc.ckpt = g.svc.ckpt := rfl
@[simp] theorem Gremon.onLan_svc_cont (g : Gremon) (f : LanternSvc → LanternSvc) : (g.onLan f).svc.cont = g.svc.cont := rfl
@[simp] theorem Gremon.onLan_svc_scr (g : Gremon) (f : LanternSvc → LanternSvc) : (g.onLan f).svc.scr = g.svc.scr := rfl
@[simp] theorem Gremon.onLan_svc_hist (g : Gremon) (f : LanternSvc → LanternSvc) : (g.onLan f).svc.hist = g.svc.hist := rfl
@[simp] theorem Gremon.onLan_svc_swaps (g : Gremon) (f : LanternSvc → LanternSvc) : (g.onLan f).svc.swaps = g.svc.swaps := rfl
@[simp] theorem Gremon.onLan_svc_marks (g : Gremon) (f : LanternSvc → LanternSvc) : (g.onLan f).svc.marks = g.svc.marks := rfl
@[simp] theorem Gremon.onLan_svc_aligned (g : Gremon) (f : LanternSvc → LanternSvc) : (g.onLan f).svc.aligned = g.svc.aligned := rfl
@[simp] theorem Gremon.onLan_svc_ambig (g : Gremon) (f : LanternSvc → LanternSvc) : (g.onLan f).svc.ambig = g.svc.ambig := rfl
@[simp] theorem Gremon.onLan_svc_minima (g : Gremon) (f : LanternSvc → LanternSvc) : (g.onLan f).svc.minima = g.svc.minima := rfl
@[simp] theorem Gremon.onLan_svc_planNch (g : Gremon) (f : LanternSvc → LanternSvc) : (g.onLan f).svc.planNch = g.svc.planNch := rfl
@[simp] theorem Gremon.onLan_svc_plans (g : Gremon) (f : LanternSvc → LanternSvc) : (g.onLan f).svc.plans = g.svc.plans := rfl
@[simp] theorem Gremon.onLan_svc_hdids (g : Gremon) (f : LanternSvc → LanternSvc) : (g.onLan f).svc.hdids = g.svc.hdids := rfl
@[simp] theorem Gremon.onLan_svc_site (g : Gremon) (f : LanternSvc → LanternSvc) : (g.onLan f).svc.site = g.svc.site := rfl
@[simp] theorem Gremon.onLan_svc_ptSteps (g : Gremon) (f : LanternSvc → LanternSvc) : (g.onLan f).svc.ptSteps = g.svc.ptSteps := rfl
@[simp] theorem Gremon.onLan_svc_missed (g : Gremon) (f : LanternSvc → LanternSvc) : (g.onLan f).svc.missed = g.svc.missed := rfl
@[simp] theorem Gremon.onCont_regs (g : Gremon) (f : Continuity → Continuity) : (g.onCont f).regs = g.regs := rfl
@[simp] theorem Gremon.onCont_rdData (g : Gremon) (f : Continuity → Continuity) : (g.onCont f).rdData = g.rdData := rfl
@[simp] theorem Gremon.onCont_clock (g : Gremon) (f : Continuity → Continuity) : (g.onCont f).clock = g.clock := rfl
@[simp] theorem Gremon.onCont_replicas (g : Gremon) (f : Continuity → Continuity) : (g.onCont f).replicas = g.replicas := rfl
@[simp] theorem Gremon.onCont_root (g : Gremon) (f : Continuity → Continuity) : (g.onCont f).root = g.root := rfl
@[simp] theorem Gremon.onCont_lanes (g : Gremon) (f : Continuity → Continuity) : (g.onCont f).lanes = g.lanes := rfl
@[simp] theorem Gremon.onCont_dies (g : Gremon) (f : Continuity → Continuity) : (g.onCont f).dies = g.dies := rfl
@[simp] theorem Gremon.onCont_binds (g : Gremon) (f : Continuity → Continuity) : (g.onCont f).binds = g.binds := rfl
@[simp] theorem Gremon.onCont_jobs (g : Gremon) (f : Continuity → Continuity) : (g.onCont f).jobs = g.jobs := rfl
@[simp] theorem Gremon.onCont_frameUs (g : Gremon) (f : Continuity → Continuity) : (g.onCont f).frameUs = g.frameUs := rfl
@[simp] theorem Gremon.onCont_frameN (g : Gremon) (f : Continuity → Continuity) : (g.onCont f).frameN = g.frameN := rfl
@[simp] theorem Gremon.onCont_frameNext (g : Gremon) (f : Continuity → Continuity) : (g.onCont f).frameNext = g.frameNext := rfl
@[simp] theorem Gremon.onCont_log (g : Gremon) (f : Continuity → Continuity) : (g.onCont f).log = g.log := rfl
@[simp] theorem Gremon.onCont_host (g : Gremon) (f : Continuity → Continuity) : (g.onCont f).host = g.host := rfl
@[simp] theorem Gremon.onCont_mem (g : Gremon) (f : Continuity → Continuity) : (g.onCont f).mem = g.mem := rfl
@[simp] theorem Gremon.onCont_poison (g : Gremon) (f : Continuity → Continuity) : (g.onCont f).poison = g.poison := rfl
@[simp] theorem Gremon.onCont_deadStacks (g : Gremon) (f : Continuity → Continuity) : (g.onCont f).deadStacks = g.deadStacks := rfl
@[simp] theorem Gremon.onCont_deadLinks (g : Gremon) (f : Continuity → Continuity) : (g.onCont f).deadLinks = g.deadLinks := rfl
@[simp] theorem Gremon.onCont_exclLinks (g : Gremon) (f : Continuity → Continuity) : (g.onCont f).exclLinks = g.exclLinks := rfl
@[simp] theorem Gremon.onCont_flits (g : Gremon) (f : Continuity → Continuity) : (g.onCont f).flits = g.flits := rfl
@[simp] theorem Gremon.onCont_cores (g : Gremon) (f : Continuity → Continuity) : (g.onCont f).cores = g.cores := rfl
@[simp] theorem Gremon.onCont_sync (g : Gremon) (f : Continuity → Continuity) : (g.onCont f).sync = g.sync := rfl
@[simp] theorem Gremon.onCont_eng (g : Gremon) (f : Continuity → Continuity) : (g.onCont f).eng = g.eng := rfl
@[simp] theorem Gremon.onCont_msnd (g : Gremon) (f : Continuity → Continuity) : (g.onCont f).msnd = g.msnd := rfl
@[simp] theorem Gremon.onCont_tse (g : Gremon) (f : Continuity → Continuity) : (g.onCont f).tse = g.tse := rfl
@[simp] theorem Gremon.onCont_ens (g : Gremon) (f : Continuity → Continuity) : (g.onCont f).ens = g.ens := rfl
@[simp] theorem Gremon.onCont_ensNext (g : Gremon) (f : Continuity → Continuity) : (g.onCont f).ensNext = g.ensNext := rfl
@[simp] theorem Gremon.onCont_kits (g : Gremon) (f : Continuity → Continuity) : (g.onCont f).kits = g.kits := rfl
@[simp] theorem Gremon.onCont_kitNext (g : Gremon) (f : Continuity → Continuity) : (g.onCont f).kitNext = g.kitNext := rfl
@[simp] theorem Gremon.onCont_halted (g : Gremon) (f : Continuity → Continuity) : (g.onCont f).halted = g.halted := rfl
@[simp] theorem Gremon.onCont_sys (g : Gremon) (f : Continuity → Continuity) : (g.onCont f).sys = g.sys := rfl
@[simp] theorem Gremon.onCont_tree (g : Gremon) (f : Continuity → Continuity) : (g.onCont f).tree = g.tree := rfl
@[simp] theorem Gremon.onCont_ports (g : Gremon) (f : Continuity → Continuity) : (g.onCont f).ports = g.ports := rfl
@[simp] theorem Gremon.onCont_rlIn (g : Gremon) (f : Continuity → Continuity) : (g.onCont f).rlIn = g.rlIn := rfl
@[simp] theorem Gremon.onCont_bcasts (g : Gremon) (f : Continuity → Continuity) : (g.onCont f).bcasts = g.bcasts := rfl
@[simp] theorem Gremon.onCont_bcastNext (g : Gremon) (f : Continuity → Continuity) : (g.onCont f).bcastNext = g.bcastNext := rfl
@[simp] theorem Gremon.onCont_queries (g : Gremon) (f : Continuity → Continuity) : (g.onCont f).queries = g.queries := rfl
@[simp] theorem Gremon.onCont_queryNext (g : Gremon) (f : Continuity → Continuity) : (g.onCont f).queryNext = g.queryNext := rfl
@[simp] theorem Gremon.onCont_feeds (g : Gremon) (f : Continuity → Continuity) : (g.onCont f).feeds = g.feeds := rfl
@[simp] theorem Gremon.onCont_reds (g : Gremon) (f : Continuity → Continuity) : (g.onCont f).reds = g.reds := rfl
@[simp] theorem Gremon.onCont_redNext (g : Gremon) (f : Continuity → Continuity) : (g.onCont f).redNext = g.redNext := rfl
@[simp] theorem Gremon.onCont_redOld (g : Gremon) (f : Continuity → Continuity) : (g.onCont f).redOld = g.redOld := rfl
@[simp] theorem Gremon.onCont_redKids (g : Gremon) (f : Continuity → Continuity) : (g.onCont f).redKids = g.redKids := rfl
@[simp] theorem Gremon.onCont_failed (g : Gremon) (f : Continuity → Continuity) : (g.onCont f).failed = g.failed := rfl
@[simp] theorem Gremon.onCont_badRegAt (g : Gremon) (f : Continuity → Continuity) : (g.onCont f).badRegAt = g.badRegAt := rfl
@[simp] theorem Gremon.onCont_badRegs (g : Gremon) (f : Continuity → Continuity) : (g.onCont f).badRegs = g.badRegs := rfl
@[simp] theorem Gremon.onCont_seed (g : Gremon) (f : Continuity → Continuity) : (g.onCont f).seed = g.seed := rfl
@[simp] theorem Gremon.onCont_svc_vig (g : Gremon) (f : Continuity → Continuity) : (g.onCont f).svc.vig = g.svc.vig := rfl
@[simp] theorem Gremon.onCont_svc_lan (g : Gremon) (f : Continuity → Continuity) : (g.onCont f).svc.lan = g.svc.lan := rfl
@[simp] theorem Gremon.onCont_svc_ckpt (g : Gremon) (f : Continuity → Continuity) : (g.onCont f).svc.ckpt = g.svc.ckpt := rfl
@[simp] theorem Gremon.onCont_svc_cont (g : Gremon) (f : Continuity → Continuity) : (g.onCont f).svc.cont = f g.svc.cont := rfl
@[simp] theorem Gremon.onCont_svc_scr (g : Gremon) (f : Continuity → Continuity) : (g.onCont f).svc.scr = g.svc.scr := rfl
@[simp] theorem Gremon.onCont_svc_hist (g : Gremon) (f : Continuity → Continuity) : (g.onCont f).svc.hist = g.svc.hist := rfl
@[simp] theorem Gremon.onCont_svc_swaps (g : Gremon) (f : Continuity → Continuity) : (g.onCont f).svc.swaps = g.svc.swaps := rfl
@[simp] theorem Gremon.onCont_svc_marks (g : Gremon) (f : Continuity → Continuity) : (g.onCont f).svc.marks = g.svc.marks := rfl
@[simp] theorem Gremon.onCont_svc_aligned (g : Gremon) (f : Continuity → Continuity) : (g.onCont f).svc.aligned = g.svc.aligned := rfl
@[simp] theorem Gremon.onCont_svc_ambig (g : Gremon) (f : Continuity → Continuity) : (g.onCont f).svc.ambig = g.svc.ambig := rfl
@[simp] theorem Gremon.onCont_svc_minima (g : Gremon) (f : Continuity → Continuity) : (g.onCont f).svc.minima = g.svc.minima := rfl
@[simp] theorem Gremon.onCont_svc_planNch (g : Gremon) (f : Continuity → Continuity) : (g.onCont f).svc.planNch = g.svc.planNch := rfl
@[simp] theorem Gremon.onCont_svc_plans (g : Gremon) (f : Continuity → Continuity) : (g.onCont f).svc.plans = g.svc.plans := rfl
@[simp] theorem Gremon.onCont_svc_hdids (g : Gremon) (f : Continuity → Continuity) : (g.onCont f).svc.hdids = g.svc.hdids := rfl
@[simp] theorem Gremon.onCont_svc_site (g : Gremon) (f : Continuity → Continuity) : (g.onCont f).svc.site = g.svc.site := rfl
@[simp] theorem Gremon.onCont_svc_ptSteps (g : Gremon) (f : Continuity → Continuity) : (g.onCont f).svc.ptSteps = g.svc.ptSteps := rfl
@[simp] theorem Gremon.onCont_svc_missed (g : Gremon) (f : Continuity → Continuity) : (g.onCont f).svc.missed = g.svc.missed := rfl
@[simp] theorem Gremon.onScr_regs (g : Gremon) (f : ScreenSvc → ScreenSvc) : (g.onScr f).regs = g.regs := rfl
@[simp] theorem Gremon.onScr_rdData (g : Gremon) (f : ScreenSvc → ScreenSvc) : (g.onScr f).rdData = g.rdData := rfl
@[simp] theorem Gremon.onScr_clock (g : Gremon) (f : ScreenSvc → ScreenSvc) : (g.onScr f).clock = g.clock := rfl
@[simp] theorem Gremon.onScr_replicas (g : Gremon) (f : ScreenSvc → ScreenSvc) : (g.onScr f).replicas = g.replicas := rfl
@[simp] theorem Gremon.onScr_root (g : Gremon) (f : ScreenSvc → ScreenSvc) : (g.onScr f).root = g.root := rfl
@[simp] theorem Gremon.onScr_lanes (g : Gremon) (f : ScreenSvc → ScreenSvc) : (g.onScr f).lanes = g.lanes := rfl
@[simp] theorem Gremon.onScr_dies (g : Gremon) (f : ScreenSvc → ScreenSvc) : (g.onScr f).dies = g.dies := rfl
@[simp] theorem Gremon.onScr_binds (g : Gremon) (f : ScreenSvc → ScreenSvc) : (g.onScr f).binds = g.binds := rfl
@[simp] theorem Gremon.onScr_jobs (g : Gremon) (f : ScreenSvc → ScreenSvc) : (g.onScr f).jobs = g.jobs := rfl
@[simp] theorem Gremon.onScr_frameUs (g : Gremon) (f : ScreenSvc → ScreenSvc) : (g.onScr f).frameUs = g.frameUs := rfl
@[simp] theorem Gremon.onScr_frameN (g : Gremon) (f : ScreenSvc → ScreenSvc) : (g.onScr f).frameN = g.frameN := rfl
@[simp] theorem Gremon.onScr_frameNext (g : Gremon) (f : ScreenSvc → ScreenSvc) : (g.onScr f).frameNext = g.frameNext := rfl
@[simp] theorem Gremon.onScr_log (g : Gremon) (f : ScreenSvc → ScreenSvc) : (g.onScr f).log = g.log := rfl
@[simp] theorem Gremon.onScr_host (g : Gremon) (f : ScreenSvc → ScreenSvc) : (g.onScr f).host = g.host := rfl
@[simp] theorem Gremon.onScr_mem (g : Gremon) (f : ScreenSvc → ScreenSvc) : (g.onScr f).mem = g.mem := rfl
@[simp] theorem Gremon.onScr_poison (g : Gremon) (f : ScreenSvc → ScreenSvc) : (g.onScr f).poison = g.poison := rfl
@[simp] theorem Gremon.onScr_deadStacks (g : Gremon) (f : ScreenSvc → ScreenSvc) : (g.onScr f).deadStacks = g.deadStacks := rfl
@[simp] theorem Gremon.onScr_deadLinks (g : Gremon) (f : ScreenSvc → ScreenSvc) : (g.onScr f).deadLinks = g.deadLinks := rfl
@[simp] theorem Gremon.onScr_exclLinks (g : Gremon) (f : ScreenSvc → ScreenSvc) : (g.onScr f).exclLinks = g.exclLinks := rfl
@[simp] theorem Gremon.onScr_flits (g : Gremon) (f : ScreenSvc → ScreenSvc) : (g.onScr f).flits = g.flits := rfl
@[simp] theorem Gremon.onScr_cores (g : Gremon) (f : ScreenSvc → ScreenSvc) : (g.onScr f).cores = g.cores := rfl
@[simp] theorem Gremon.onScr_sync (g : Gremon) (f : ScreenSvc → ScreenSvc) : (g.onScr f).sync = g.sync := rfl
@[simp] theorem Gremon.onScr_eng (g : Gremon) (f : ScreenSvc → ScreenSvc) : (g.onScr f).eng = g.eng := rfl
@[simp] theorem Gremon.onScr_msnd (g : Gremon) (f : ScreenSvc → ScreenSvc) : (g.onScr f).msnd = g.msnd := rfl
@[simp] theorem Gremon.onScr_tse (g : Gremon) (f : ScreenSvc → ScreenSvc) : (g.onScr f).tse = g.tse := rfl
@[simp] theorem Gremon.onScr_ens (g : Gremon) (f : ScreenSvc → ScreenSvc) : (g.onScr f).ens = g.ens := rfl
@[simp] theorem Gremon.onScr_ensNext (g : Gremon) (f : ScreenSvc → ScreenSvc) : (g.onScr f).ensNext = g.ensNext := rfl
@[simp] theorem Gremon.onScr_kits (g : Gremon) (f : ScreenSvc → ScreenSvc) : (g.onScr f).kits = g.kits := rfl
@[simp] theorem Gremon.onScr_kitNext (g : Gremon) (f : ScreenSvc → ScreenSvc) : (g.onScr f).kitNext = g.kitNext := rfl
@[simp] theorem Gremon.onScr_halted (g : Gremon) (f : ScreenSvc → ScreenSvc) : (g.onScr f).halted = g.halted := rfl
@[simp] theorem Gremon.onScr_sys (g : Gremon) (f : ScreenSvc → ScreenSvc) : (g.onScr f).sys = g.sys := rfl
@[simp] theorem Gremon.onScr_tree (g : Gremon) (f : ScreenSvc → ScreenSvc) : (g.onScr f).tree = g.tree := rfl
@[simp] theorem Gremon.onScr_ports (g : Gremon) (f : ScreenSvc → ScreenSvc) : (g.onScr f).ports = g.ports := rfl
@[simp] theorem Gremon.onScr_rlIn (g : Gremon) (f : ScreenSvc → ScreenSvc) : (g.onScr f).rlIn = g.rlIn := rfl
@[simp] theorem Gremon.onScr_bcasts (g : Gremon) (f : ScreenSvc → ScreenSvc) : (g.onScr f).bcasts = g.bcasts := rfl
@[simp] theorem Gremon.onScr_bcastNext (g : Gremon) (f : ScreenSvc → ScreenSvc) : (g.onScr f).bcastNext = g.bcastNext := rfl
@[simp] theorem Gremon.onScr_queries (g : Gremon) (f : ScreenSvc → ScreenSvc) : (g.onScr f).queries = g.queries := rfl
@[simp] theorem Gremon.onScr_queryNext (g : Gremon) (f : ScreenSvc → ScreenSvc) : (g.onScr f).queryNext = g.queryNext := rfl
@[simp] theorem Gremon.onScr_feeds (g : Gremon) (f : ScreenSvc → ScreenSvc) : (g.onScr f).feeds = g.feeds := rfl
@[simp] theorem Gremon.onScr_reds (g : Gremon) (f : ScreenSvc → ScreenSvc) : (g.onScr f).reds = g.reds := rfl
@[simp] theorem Gremon.onScr_redNext (g : Gremon) (f : ScreenSvc → ScreenSvc) : (g.onScr f).redNext = g.redNext := rfl
@[simp] theorem Gremon.onScr_redOld (g : Gremon) (f : ScreenSvc → ScreenSvc) : (g.onScr f).redOld = g.redOld := rfl
@[simp] theorem Gremon.onScr_redKids (g : Gremon) (f : ScreenSvc → ScreenSvc) : (g.onScr f).redKids = g.redKids := rfl
@[simp] theorem Gremon.onScr_failed (g : Gremon) (f : ScreenSvc → ScreenSvc) : (g.onScr f).failed = g.failed := rfl
@[simp] theorem Gremon.onScr_badRegAt (g : Gremon) (f : ScreenSvc → ScreenSvc) : (g.onScr f).badRegAt = g.badRegAt := rfl
@[simp] theorem Gremon.onScr_badRegs (g : Gremon) (f : ScreenSvc → ScreenSvc) : (g.onScr f).badRegs = g.badRegs := rfl
@[simp] theorem Gremon.onScr_seed (g : Gremon) (f : ScreenSvc → ScreenSvc) : (g.onScr f).seed = g.seed := rfl
@[simp] theorem Gremon.onScr_svc_vig (g : Gremon) (f : ScreenSvc → ScreenSvc) : (g.onScr f).svc.vig = g.svc.vig := rfl
@[simp] theorem Gremon.onScr_svc_lan (g : Gremon) (f : ScreenSvc → ScreenSvc) : (g.onScr f).svc.lan = g.svc.lan := rfl
@[simp] theorem Gremon.onScr_svc_ckpt (g : Gremon) (f : ScreenSvc → ScreenSvc) : (g.onScr f).svc.ckpt = g.svc.ckpt := rfl
@[simp] theorem Gremon.onScr_svc_cont (g : Gremon) (f : ScreenSvc → ScreenSvc) : (g.onScr f).svc.cont = g.svc.cont := rfl
@[simp] theorem Gremon.onScr_svc_scr (g : Gremon) (f : ScreenSvc → ScreenSvc) : (g.onScr f).svc.scr = f g.svc.scr := rfl
@[simp] theorem Gremon.onScr_svc_hist (g : Gremon) (f : ScreenSvc → ScreenSvc) : (g.onScr f).svc.hist = g.svc.hist := rfl
@[simp] theorem Gremon.onScr_svc_swaps (g : Gremon) (f : ScreenSvc → ScreenSvc) : (g.onScr f).svc.swaps = g.svc.swaps := rfl
@[simp] theorem Gremon.onScr_svc_marks (g : Gremon) (f : ScreenSvc → ScreenSvc) : (g.onScr f).svc.marks = g.svc.marks := rfl
@[simp] theorem Gremon.onScr_svc_aligned (g : Gremon) (f : ScreenSvc → ScreenSvc) : (g.onScr f).svc.aligned = g.svc.aligned := rfl
@[simp] theorem Gremon.onScr_svc_ambig (g : Gremon) (f : ScreenSvc → ScreenSvc) : (g.onScr f).svc.ambig = g.svc.ambig := rfl
@[simp] theorem Gremon.onScr_svc_minima (g : Gremon) (f : ScreenSvc → ScreenSvc) : (g.onScr f).svc.minima = g.svc.minima := rfl
@[simp] theorem Gremon.onScr_svc_planNch (g : Gremon) (f : ScreenSvc → ScreenSvc) : (g.onScr f).svc.planNch = g.svc.planNch := rfl
@[simp] theorem Gremon.onScr_svc_plans (g : Gremon) (f : ScreenSvc → ScreenSvc) : (g.onScr f).svc.plans = g.svc.plans := rfl
@[simp] theorem Gremon.onScr_svc_hdids (g : Gremon) (f : ScreenSvc → ScreenSvc) : (g.onScr f).svc.hdids = g.svc.hdids := rfl
@[simp] theorem Gremon.onScr_svc_site (g : Gremon) (f : ScreenSvc → ScreenSvc) : (g.onScr f).svc.site = g.svc.site := rfl
@[simp] theorem Gremon.onScr_svc_ptSteps (g : Gremon) (f : ScreenSvc → ScreenSvc) : (g.onScr f).svc.ptSteps = g.svc.ptSteps := rfl
@[simp] theorem Gremon.onScr_svc_missed (g : Gremon) (f : ScreenSvc → ScreenSvc) : (g.onScr f).svc.missed = g.svc.missed := rfl
@[simp] theorem Gremon.onHist_regs (g : Gremon) (f : History → History) : (g.onHist f).regs = g.regs := rfl
@[simp] theorem Gremon.onHist_rdData (g : Gremon) (f : History → History) : (g.onHist f).rdData = g.rdData := rfl
@[simp] theorem Gremon.onHist_clock (g : Gremon) (f : History → History) : (g.onHist f).clock = g.clock := rfl
@[simp] theorem Gremon.onHist_replicas (g : Gremon) (f : History → History) : (g.onHist f).replicas = g.replicas := rfl
@[simp] theorem Gremon.onHist_root (g : Gremon) (f : History → History) : (g.onHist f).root = g.root := rfl
@[simp] theorem Gremon.onHist_lanes (g : Gremon) (f : History → History) : (g.onHist f).lanes = g.lanes := rfl
@[simp] theorem Gremon.onHist_dies (g : Gremon) (f : History → History) : (g.onHist f).dies = g.dies := rfl
@[simp] theorem Gremon.onHist_binds (g : Gremon) (f : History → History) : (g.onHist f).binds = g.binds := rfl
@[simp] theorem Gremon.onHist_jobs (g : Gremon) (f : History → History) : (g.onHist f).jobs = g.jobs := rfl
@[simp] theorem Gremon.onHist_frameUs (g : Gremon) (f : History → History) : (g.onHist f).frameUs = g.frameUs := rfl
@[simp] theorem Gremon.onHist_frameN (g : Gremon) (f : History → History) : (g.onHist f).frameN = g.frameN := rfl
@[simp] theorem Gremon.onHist_frameNext (g : Gremon) (f : History → History) : (g.onHist f).frameNext = g.frameNext := rfl
@[simp] theorem Gremon.onHist_log (g : Gremon) (f : History → History) : (g.onHist f).log = g.log := rfl
@[simp] theorem Gremon.onHist_host (g : Gremon) (f : History → History) : (g.onHist f).host = g.host := rfl
@[simp] theorem Gremon.onHist_mem (g : Gremon) (f : History → History) : (g.onHist f).mem = g.mem := rfl
@[simp] theorem Gremon.onHist_poison (g : Gremon) (f : History → History) : (g.onHist f).poison = g.poison := rfl
@[simp] theorem Gremon.onHist_deadStacks (g : Gremon) (f : History → History) : (g.onHist f).deadStacks = g.deadStacks := rfl
@[simp] theorem Gremon.onHist_deadLinks (g : Gremon) (f : History → History) : (g.onHist f).deadLinks = g.deadLinks := rfl
@[simp] theorem Gremon.onHist_exclLinks (g : Gremon) (f : History → History) : (g.onHist f).exclLinks = g.exclLinks := rfl
@[simp] theorem Gremon.onHist_flits (g : Gremon) (f : History → History) : (g.onHist f).flits = g.flits := rfl
@[simp] theorem Gremon.onHist_cores (g : Gremon) (f : History → History) : (g.onHist f).cores = g.cores := rfl
@[simp] theorem Gremon.onHist_sync (g : Gremon) (f : History → History) : (g.onHist f).sync = g.sync := rfl
@[simp] theorem Gremon.onHist_eng (g : Gremon) (f : History → History) : (g.onHist f).eng = g.eng := rfl
@[simp] theorem Gremon.onHist_msnd (g : Gremon) (f : History → History) : (g.onHist f).msnd = g.msnd := rfl
@[simp] theorem Gremon.onHist_tse (g : Gremon) (f : History → History) : (g.onHist f).tse = g.tse := rfl
@[simp] theorem Gremon.onHist_ens (g : Gremon) (f : History → History) : (g.onHist f).ens = g.ens := rfl
@[simp] theorem Gremon.onHist_ensNext (g : Gremon) (f : History → History) : (g.onHist f).ensNext = g.ensNext := rfl
@[simp] theorem Gremon.onHist_kits (g : Gremon) (f : History → History) : (g.onHist f).kits = g.kits := rfl
@[simp] theorem Gremon.onHist_kitNext (g : Gremon) (f : History → History) : (g.onHist f).kitNext = g.kitNext := rfl
@[simp] theorem Gremon.onHist_halted (g : Gremon) (f : History → History) : (g.onHist f).halted = g.halted := rfl
@[simp] theorem Gremon.onHist_sys (g : Gremon) (f : History → History) : (g.onHist f).sys = g.sys := rfl
@[simp] theorem Gremon.onHist_tree (g : Gremon) (f : History → History) : (g.onHist f).tree = g.tree := rfl
@[simp] theorem Gremon.onHist_ports (g : Gremon) (f : History → History) : (g.onHist f).ports = g.ports := rfl
@[simp] theorem Gremon.onHist_rlIn (g : Gremon) (f : History → History) : (g.onHist f).rlIn = g.rlIn := rfl
@[simp] theorem Gremon.onHist_bcasts (g : Gremon) (f : History → History) : (g.onHist f).bcasts = g.bcasts := rfl
@[simp] theorem Gremon.onHist_bcastNext (g : Gremon) (f : History → History) : (g.onHist f).bcastNext = g.bcastNext := rfl
@[simp] theorem Gremon.onHist_queries (g : Gremon) (f : History → History) : (g.onHist f).queries = g.queries := rfl
@[simp] theorem Gremon.onHist_queryNext (g : Gremon) (f : History → History) : (g.onHist f).queryNext = g.queryNext := rfl
@[simp] theorem Gremon.onHist_feeds (g : Gremon) (f : History → History) : (g.onHist f).feeds = g.feeds := rfl
@[simp] theorem Gremon.onHist_reds (g : Gremon) (f : History → History) : (g.onHist f).reds = g.reds := rfl
@[simp] theorem Gremon.onHist_redNext (g : Gremon) (f : History → History) : (g.onHist f).redNext = g.redNext := rfl
@[simp] theorem Gremon.onHist_redOld (g : Gremon) (f : History → History) : (g.onHist f).redOld = g.redOld := rfl
@[simp] theorem Gremon.onHist_redKids (g : Gremon) (f : History → History) : (g.onHist f).redKids = g.redKids := rfl
@[simp] theorem Gremon.onHist_failed (g : Gremon) (f : History → History) : (g.onHist f).failed = g.failed := rfl
@[simp] theorem Gremon.onHist_badRegAt (g : Gremon) (f : History → History) : (g.onHist f).badRegAt = g.badRegAt := rfl
@[simp] theorem Gremon.onHist_badRegs (g : Gremon) (f : History → History) : (g.onHist f).badRegs = g.badRegs := rfl
@[simp] theorem Gremon.onHist_seed (g : Gremon) (f : History → History) : (g.onHist f).seed = g.seed := rfl
@[simp] theorem Gremon.onHist_svc_vig (g : Gremon) (f : History → History) : (g.onHist f).svc.vig = g.svc.vig := rfl
@[simp] theorem Gremon.onHist_svc_lan (g : Gremon) (f : History → History) : (g.onHist f).svc.lan = g.svc.lan := rfl
@[simp] theorem Gremon.onHist_svc_ckpt (g : Gremon) (f : History → History) : (g.onHist f).svc.ckpt = g.svc.ckpt := rfl
@[simp] theorem Gremon.onHist_svc_cont (g : Gremon) (f : History → History) : (g.onHist f).svc.cont = g.svc.cont := rfl
@[simp] theorem Gremon.onHist_svc_scr (g : Gremon) (f : History → History) : (g.onHist f).svc.scr = g.svc.scr := rfl
@[simp] theorem Gremon.onHist_svc_hist (g : Gremon) (f : History → History) : (g.onHist f).svc.hist = f g.svc.hist := rfl
@[simp] theorem Gremon.onHist_svc_swaps (g : Gremon) (f : History → History) : (g.onHist f).svc.swaps = g.svc.swaps := rfl
@[simp] theorem Gremon.onHist_svc_marks (g : Gremon) (f : History → History) : (g.onHist f).svc.marks = g.svc.marks := rfl
@[simp] theorem Gremon.onHist_svc_aligned (g : Gremon) (f : History → History) : (g.onHist f).svc.aligned = g.svc.aligned := rfl
@[simp] theorem Gremon.onHist_svc_ambig (g : Gremon) (f : History → History) : (g.onHist f).svc.ambig = g.svc.ambig := rfl
@[simp] theorem Gremon.onHist_svc_minima (g : Gremon) (f : History → History) : (g.onHist f).svc.minima = g.svc.minima := rfl
@[simp] theorem Gremon.onHist_svc_planNch (g : Gremon) (f : History → History) : (g.onHist f).svc.planNch = g.svc.planNch := rfl
@[simp] theorem Gremon.onHist_svc_plans (g : Gremon) (f : History → History) : (g.onHist f).svc.plans = g.svc.plans := rfl
@[simp] theorem Gremon.onHist_svc_hdids (g : Gremon) (f : History → History) : (g.onHist f).svc.hdids = g.svc.hdids := rfl
@[simp] theorem Gremon.onHist_svc_site (g : Gremon) (f : History → History) : (g.onHist f).svc.site = g.svc.site := rfl
@[simp] theorem Gremon.onHist_svc_ptSteps (g : Gremon) (f : History → History) : (g.onHist f).svc.ptSteps = g.svc.ptSteps := rfl
@[simp] theorem Gremon.onHist_svc_missed (g : Gremon) (f : History → History) : (g.onHist f).svc.missed = g.svc.missed := rfl
@[simp] theorem Gremon.onSite_regs (g : Gremon) (f : SiteTrack → SiteTrack) : (g.onSite f).regs = g.regs := rfl
@[simp] theorem Gremon.onSite_rdData (g : Gremon) (f : SiteTrack → SiteTrack) : (g.onSite f).rdData = g.rdData := rfl
@[simp] theorem Gremon.onSite_clock (g : Gremon) (f : SiteTrack → SiteTrack) : (g.onSite f).clock = g.clock := rfl
@[simp] theorem Gremon.onSite_replicas (g : Gremon) (f : SiteTrack → SiteTrack) : (g.onSite f).replicas = g.replicas := rfl
@[simp] theorem Gremon.onSite_root (g : Gremon) (f : SiteTrack → SiteTrack) : (g.onSite f).root = g.root := rfl
@[simp] theorem Gremon.onSite_lanes (g : Gremon) (f : SiteTrack → SiteTrack) : (g.onSite f).lanes = g.lanes := rfl
@[simp] theorem Gremon.onSite_dies (g : Gremon) (f : SiteTrack → SiteTrack) : (g.onSite f).dies = g.dies := rfl
@[simp] theorem Gremon.onSite_binds (g : Gremon) (f : SiteTrack → SiteTrack) : (g.onSite f).binds = g.binds := rfl
@[simp] theorem Gremon.onSite_jobs (g : Gremon) (f : SiteTrack → SiteTrack) : (g.onSite f).jobs = g.jobs := rfl
@[simp] theorem Gremon.onSite_frameUs (g : Gremon) (f : SiteTrack → SiteTrack) : (g.onSite f).frameUs = g.frameUs := rfl
@[simp] theorem Gremon.onSite_frameN (g : Gremon) (f : SiteTrack → SiteTrack) : (g.onSite f).frameN = g.frameN := rfl
@[simp] theorem Gremon.onSite_frameNext (g : Gremon) (f : SiteTrack → SiteTrack) : (g.onSite f).frameNext = g.frameNext := rfl
@[simp] theorem Gremon.onSite_log (g : Gremon) (f : SiteTrack → SiteTrack) : (g.onSite f).log = g.log := rfl
@[simp] theorem Gremon.onSite_host (g : Gremon) (f : SiteTrack → SiteTrack) : (g.onSite f).host = g.host := rfl
@[simp] theorem Gremon.onSite_mem (g : Gremon) (f : SiteTrack → SiteTrack) : (g.onSite f).mem = g.mem := rfl
@[simp] theorem Gremon.onSite_poison (g : Gremon) (f : SiteTrack → SiteTrack) : (g.onSite f).poison = g.poison := rfl
@[simp] theorem Gremon.onSite_deadStacks (g : Gremon) (f : SiteTrack → SiteTrack) : (g.onSite f).deadStacks = g.deadStacks := rfl
@[simp] theorem Gremon.onSite_deadLinks (g : Gremon) (f : SiteTrack → SiteTrack) : (g.onSite f).deadLinks = g.deadLinks := rfl
@[simp] theorem Gremon.onSite_exclLinks (g : Gremon) (f : SiteTrack → SiteTrack) : (g.onSite f).exclLinks = g.exclLinks := rfl
@[simp] theorem Gremon.onSite_flits (g : Gremon) (f : SiteTrack → SiteTrack) : (g.onSite f).flits = g.flits := rfl
@[simp] theorem Gremon.onSite_cores (g : Gremon) (f : SiteTrack → SiteTrack) : (g.onSite f).cores = g.cores := rfl
@[simp] theorem Gremon.onSite_sync (g : Gremon) (f : SiteTrack → SiteTrack) : (g.onSite f).sync = g.sync := rfl
@[simp] theorem Gremon.onSite_eng (g : Gremon) (f : SiteTrack → SiteTrack) : (g.onSite f).eng = g.eng := rfl
@[simp] theorem Gremon.onSite_msnd (g : Gremon) (f : SiteTrack → SiteTrack) : (g.onSite f).msnd = g.msnd := rfl
@[simp] theorem Gremon.onSite_tse (g : Gremon) (f : SiteTrack → SiteTrack) : (g.onSite f).tse = g.tse := rfl
@[simp] theorem Gremon.onSite_ens (g : Gremon) (f : SiteTrack → SiteTrack) : (g.onSite f).ens = g.ens := rfl
@[simp] theorem Gremon.onSite_ensNext (g : Gremon) (f : SiteTrack → SiteTrack) : (g.onSite f).ensNext = g.ensNext := rfl
@[simp] theorem Gremon.onSite_kits (g : Gremon) (f : SiteTrack → SiteTrack) : (g.onSite f).kits = g.kits := rfl
@[simp] theorem Gremon.onSite_kitNext (g : Gremon) (f : SiteTrack → SiteTrack) : (g.onSite f).kitNext = g.kitNext := rfl
@[simp] theorem Gremon.onSite_halted (g : Gremon) (f : SiteTrack → SiteTrack) : (g.onSite f).halted = g.halted := rfl
@[simp] theorem Gremon.onSite_sys (g : Gremon) (f : SiteTrack → SiteTrack) : (g.onSite f).sys = g.sys := rfl
@[simp] theorem Gremon.onSite_tree (g : Gremon) (f : SiteTrack → SiteTrack) : (g.onSite f).tree = g.tree := rfl
@[simp] theorem Gremon.onSite_ports (g : Gremon) (f : SiteTrack → SiteTrack) : (g.onSite f).ports = g.ports := rfl
@[simp] theorem Gremon.onSite_rlIn (g : Gremon) (f : SiteTrack → SiteTrack) : (g.onSite f).rlIn = g.rlIn := rfl
@[simp] theorem Gremon.onSite_bcasts (g : Gremon) (f : SiteTrack → SiteTrack) : (g.onSite f).bcasts = g.bcasts := rfl
@[simp] theorem Gremon.onSite_bcastNext (g : Gremon) (f : SiteTrack → SiteTrack) : (g.onSite f).bcastNext = g.bcastNext := rfl
@[simp] theorem Gremon.onSite_queries (g : Gremon) (f : SiteTrack → SiteTrack) : (g.onSite f).queries = g.queries := rfl
@[simp] theorem Gremon.onSite_queryNext (g : Gremon) (f : SiteTrack → SiteTrack) : (g.onSite f).queryNext = g.queryNext := rfl
@[simp] theorem Gremon.onSite_feeds (g : Gremon) (f : SiteTrack → SiteTrack) : (g.onSite f).feeds = g.feeds := rfl
@[simp] theorem Gremon.onSite_reds (g : Gremon) (f : SiteTrack → SiteTrack) : (g.onSite f).reds = g.reds := rfl
@[simp] theorem Gremon.onSite_redNext (g : Gremon) (f : SiteTrack → SiteTrack) : (g.onSite f).redNext = g.redNext := rfl
@[simp] theorem Gremon.onSite_redOld (g : Gremon) (f : SiteTrack → SiteTrack) : (g.onSite f).redOld = g.redOld := rfl
@[simp] theorem Gremon.onSite_redKids (g : Gremon) (f : SiteTrack → SiteTrack) : (g.onSite f).redKids = g.redKids := rfl
@[simp] theorem Gremon.onSite_failed (g : Gremon) (f : SiteTrack → SiteTrack) : (g.onSite f).failed = g.failed := rfl
@[simp] theorem Gremon.onSite_badRegAt (g : Gremon) (f : SiteTrack → SiteTrack) : (g.onSite f).badRegAt = g.badRegAt := rfl
@[simp] theorem Gremon.onSite_badRegs (g : Gremon) (f : SiteTrack → SiteTrack) : (g.onSite f).badRegs = g.badRegs := rfl
@[simp] theorem Gremon.onSite_seed (g : Gremon) (f : SiteTrack → SiteTrack) : (g.onSite f).seed = g.seed := rfl
@[simp] theorem Gremon.onSite_svc_vig (g : Gremon) (f : SiteTrack → SiteTrack) : (g.onSite f).svc.vig = g.svc.vig := rfl
@[simp] theorem Gremon.onSite_svc_lan (g : Gremon) (f : SiteTrack → SiteTrack) : (g.onSite f).svc.lan = g.svc.lan := rfl
@[simp] theorem Gremon.onSite_svc_ckpt (g : Gremon) (f : SiteTrack → SiteTrack) : (g.onSite f).svc.ckpt = g.svc.ckpt := rfl
@[simp] theorem Gremon.onSite_svc_cont (g : Gremon) (f : SiteTrack → SiteTrack) : (g.onSite f).svc.cont = g.svc.cont := rfl
@[simp] theorem Gremon.onSite_svc_scr (g : Gremon) (f : SiteTrack → SiteTrack) : (g.onSite f).svc.scr = g.svc.scr := rfl
@[simp] theorem Gremon.onSite_svc_hist (g : Gremon) (f : SiteTrack → SiteTrack) : (g.onSite f).svc.hist = g.svc.hist := rfl
@[simp] theorem Gremon.onSite_svc_swaps (g : Gremon) (f : SiteTrack → SiteTrack) : (g.onSite f).svc.swaps = g.svc.swaps := rfl
@[simp] theorem Gremon.onSite_svc_marks (g : Gremon) (f : SiteTrack → SiteTrack) : (g.onSite f).svc.marks = g.svc.marks := rfl
@[simp] theorem Gremon.onSite_svc_aligned (g : Gremon) (f : SiteTrack → SiteTrack) : (g.onSite f).svc.aligned = g.svc.aligned := rfl
@[simp] theorem Gremon.onSite_svc_ambig (g : Gremon) (f : SiteTrack → SiteTrack) : (g.onSite f).svc.ambig = g.svc.ambig := rfl
@[simp] theorem Gremon.onSite_svc_minima (g : Gremon) (f : SiteTrack → SiteTrack) : (g.onSite f).svc.minima = g.svc.minima := rfl
@[simp] theorem Gremon.onSite_svc_planNch (g : Gremon) (f : SiteTrack → SiteTrack) : (g.onSite f).svc.planNch = g.svc.planNch := rfl
@[simp] theorem Gremon.onSite_svc_plans (g : Gremon) (f : SiteTrack → SiteTrack) : (g.onSite f).svc.plans = g.svc.plans := rfl
@[simp] theorem Gremon.onSite_svc_hdids (g : Gremon) (f : SiteTrack → SiteTrack) : (g.onSite f).svc.hdids = g.svc.hdids := rfl
@[simp] theorem Gremon.onSite_svc_site (g : Gremon) (f : SiteTrack → SiteTrack) : (g.onSite f).svc.site = f g.svc.site := rfl
@[simp] theorem Gremon.onSite_svc_ptSteps (g : Gremon) (f : SiteTrack → SiteTrack) : (g.onSite f).svc.ptSteps = g.svc.ptSteps := rfl
@[simp] theorem Gremon.onSite_svc_missed (g : Gremon) (f : SiteTrack → SiteTrack) : (g.onSite f).svc.missed = g.svc.missed := rfl
@[simp] theorem Ailen.setReg_build (a : Ailen) (k v : Nat) : (a.setReg k v).build = a.build := rfl
@[simp] theorem Ailen.setReg_regs (a : Ailen) (k v : Nat) : (a.setReg k v).regs = a.regs.set .ailen k v := rfl
@[simp] theorem Ailen.setReg_hdidPin (a : Ailen) (k v : Nat) : (a.setReg k v).hdidPin = a.hdidPin := rfl
@[simp] theorem Ailen.setReg_aoReset (a : Ailen) (k v : Nat) : (a.setReg k v).aoReset = a.aoReset := rfl
@[simp] theorem Ailen.setReg_mainReset (a : Ailen) (k v : Nat) : (a.setReg k v).mainReset = a.mainReset := rfl
@[simp] theorem Ailen.setReg_pwr (a : Ailen) (k v : Nat) : (a.setReg k v).pwr = a.pwr := rfl
@[simp] theorem Ailen.setReg_sreq (a : Ailen) (k v : Nat) : (a.setReg k v).sreq = a.sreq := rfl
@[simp] theorem Ailen.setReg_mpg (a : Ailen) (k v : Nat) : (a.setReg k v).mpg = a.mpg := rfl
@[simp] theorem Ailen.setReg_exitNext (a : Ailen) (k v : Nat) : (a.setReg k v).exitNext = a.exitNext := rfl
@[simp] theorem Ailen.setReg_pwrAt (a : Ailen) (k v : Nat) : (a.setReg k v).pwrAt = a.pwrAt := rfl
@[simp] theorem Ailen.setReg_hclkLost (a : Ailen) (k v : Nat) : (a.setReg k v).hclkLost = a.hclkLost := rfl
@[simp] theorem Ailen.setReg_refLost (a : Ailen) (k v : Nat) : (a.setReg k v).refLost = a.refLost := rfl
@[simp] theorem Ailen.setReg_aoRange (a : Ailen) (k v : Nat) : (a.setReg k v).aoRange = a.aoRange := rfl
@[simp] theorem Ailen.setReg_hrpErr (a : Ailen) (k v : Nat) : (a.setReg k v).hrpErr = a.hrpErr := rfl
@[simp] theorem Ailen.setReg_hrpData (a : Ailen) (k v : Nat) : (a.setReg k v).hrpData = a.hrpData := rfl
@[simp] theorem Ailen.setReg_clock (a : Ailen) (k v : Nat) : (a.setReg k v).clock = a.clock := rfl
@[simp] theorem Ailen.setReg_intv (a : Ailen) (k v : Nat) : (a.setReg k v).intv = a.intv := rfl
@[simp] theorem Ailen.setReg_drift (a : Ailen) (k v : Nat) : (a.setReg k v).drift = a.drift := rfl
@[simp] theorem Ailen.setReg_jt (a : Ailen) (k v : Nat) : (a.setReg k v).jt = a.jt := rfl
@[simp] theorem Ailen.setReg_cap (a : Ailen) (k v : Nat) : (a.setReg k v).cap = a.cap := rfl
@[simp] theorem Ailen.setReg_marksTaken (a : Ailen) (k v : Nat) : (a.setReg k v).marksTaken = a.marksTaken := rfl
@[simp] theorem Ailen.setReg_markDrop (a : Ailen) (k v : Nat) : (a.setReg k v).markDrop = a.markDrop := rfl
@[simp] theorem Ailen.setReg_markHold (a : Ailen) (k v : Nat) : (a.setReg k v).markHold = a.markHold := rfl
@[simp] theorem Ailen.setReg_stepHi (a : Ailen) (k v : Nat) : (a.setReg k v).stepHi = a.stepHi := rfl
@[simp] theorem Ailen.setReg_frameArmed (a : Ailen) (k v : Nat) : (a.setReg k v).frameArmed = a.frameArmed := rfl
@[simp] theorem Ailen.setReg_lastStep (a : Ailen) (k v : Nat) : (a.setReg k v).lastStep = a.lastStep := rfl
@[simp] theorem Ailen.setReg_taps (a : Ailen) (k v : Nat) : (a.setReg k v).taps = a.taps := rfl
@[simp] theorem Ailen.setReg_sdKey (a : Ailen) (k v : Nat) : (a.setReg k v).sdKey = a.sdKey := rfl
@[simp] theorem Ailen.setReg_scr (a : Ailen) (k v : Nat) : (a.setReg k v).scr = a.scr := rfl
@[simp] theorem Ailen.setReg_vig (a : Ailen) (k v : Nat) : (a.setReg k v).vig = a.vig := rfl
@[simp] theorem Ailen.setReg_vigTag (a : Ailen) (k v : Nat) : (a.setReg k v).vigTag = a.vigTag := rfl
@[simp] theorem Ailen.setReg_vigPulses (a : Ailen) (k v : Nat) : (a.setReg k v).vigPulses = a.vigPulses := rfl
@[simp] theorem Ailen.setReg_mbHold (a : Ailen) (k v : Nat) : (a.setReg k v).mbHold = a.mbHold := rfl
@[simp] theorem Ailen.setReg_recWr (a : Ailen) (k v : Nat) : (a.setReg k v).recWr = a.recWr := rfl
@[simp] theorem Ailen.setReg_recAck (a : Ailen) (k v : Nat) : (a.setReg k v).recAck = a.recAck := rfl
@[simp] theorem Ailen.setReg_recOvf (a : Ailen) (k v : Nat) : (a.setReg k v).recOvf = a.recOvf := rfl
@[simp] theorem Ailen.setReg_recSlots (a : Ailen) (k v : Nat) : (a.setReg k v).recSlots = a.recSlots := rfl
@[simp] theorem Ailen.setReg_ucode (a : Ailen) (k v : Nat) : (a.setReg k v).ucode = a.ucode := rfl
@[simp] theorem Ailen.setReg_ucodeVer (a : Ailen) (k v : Nat) : (a.setReg k v).ucodeVer = a.ucodeVer := rfl
@[simp] theorem Ailen.setReg_ucodeRun (a : Ailen) (k v : Nat) : (a.setReg k v).ucodeRun = a.ucodeRun := rfl
@[simp] theorem Ailen.setReg_ucodeNew (a : Ailen) (k v : Nat) : (a.setReg k v).ucodeNew = a.ucodeNew := rfl
@[simp] theorem Ailen.setReg_ucodeLoad (a : Ailen) (k v : Nat) : (a.setReg k v).ucodeLoad = a.ucodeLoad := rfl
@[simp] theorem Ailen.setReg_enumCause (a : Ailen) (k v : Nat) : (a.setReg k v).enumCause = a.enumCause := rfl
@[simp] theorem Ailen.setReg_gl (a : Ailen) (k v : Nat) : (a.setReg k v).gl = a.gl := rfl
@[simp] theorem Ailen.setReg_trc (a : Ailen) (k v : Nat) : (a.setReg k v).trc = a.trc := rfl
@[simp] theorem Ailen.setFld_build (a : Ailen) (k hi lo v : Nat) : (a.setFld k hi lo v).build = a.build := rfl
@[simp] theorem Ailen.setFld_regs (a : Ailen) (k hi lo v : Nat) : (a.setFld k hi lo v).regs = a.regs.setFld .ailen k hi lo v := rfl
@[simp] theorem Ailen.setFld_hdidPin (a : Ailen) (k hi lo v : Nat) : (a.setFld k hi lo v).hdidPin = a.hdidPin := rfl
@[simp] theorem Ailen.setFld_aoReset (a : Ailen) (k hi lo v : Nat) : (a.setFld k hi lo v).aoReset = a.aoReset := rfl
@[simp] theorem Ailen.setFld_mainReset (a : Ailen) (k hi lo v : Nat) : (a.setFld k hi lo v).mainReset = a.mainReset := rfl
@[simp] theorem Ailen.setFld_pwr (a : Ailen) (k hi lo v : Nat) : (a.setFld k hi lo v).pwr = a.pwr := rfl
@[simp] theorem Ailen.setFld_sreq (a : Ailen) (k hi lo v : Nat) : (a.setFld k hi lo v).sreq = a.sreq := rfl
@[simp] theorem Ailen.setFld_mpg (a : Ailen) (k hi lo v : Nat) : (a.setFld k hi lo v).mpg = a.mpg := rfl
@[simp] theorem Ailen.setFld_exitNext (a : Ailen) (k hi lo v : Nat) : (a.setFld k hi lo v).exitNext = a.exitNext := rfl
@[simp] theorem Ailen.setFld_pwrAt (a : Ailen) (k hi lo v : Nat) : (a.setFld k hi lo v).pwrAt = a.pwrAt := rfl
@[simp] theorem Ailen.setFld_hclkLost (a : Ailen) (k hi lo v : Nat) : (a.setFld k hi lo v).hclkLost = a.hclkLost := rfl
@[simp] theorem Ailen.setFld_refLost (a : Ailen) (k hi lo v : Nat) : (a.setFld k hi lo v).refLost = a.refLost := rfl
@[simp] theorem Ailen.setFld_aoRange (a : Ailen) (k hi lo v : Nat) : (a.setFld k hi lo v).aoRange = a.aoRange := rfl
@[simp] theorem Ailen.setFld_hrpErr (a : Ailen) (k hi lo v : Nat) : (a.setFld k hi lo v).hrpErr = a.hrpErr := rfl
@[simp] theorem Ailen.setFld_hrpData (a : Ailen) (k hi lo v : Nat) : (a.setFld k hi lo v).hrpData = a.hrpData := rfl
@[simp] theorem Ailen.setFld_clock (a : Ailen) (k hi lo v : Nat) : (a.setFld k hi lo v).clock = a.clock := rfl
@[simp] theorem Ailen.setFld_intv (a : Ailen) (k hi lo v : Nat) : (a.setFld k hi lo v).intv = a.intv := rfl
@[simp] theorem Ailen.setFld_drift (a : Ailen) (k hi lo v : Nat) : (a.setFld k hi lo v).drift = a.drift := rfl
@[simp] theorem Ailen.setFld_jt (a : Ailen) (k hi lo v : Nat) : (a.setFld k hi lo v).jt = a.jt := rfl
@[simp] theorem Ailen.setFld_cap (a : Ailen) (k hi lo v : Nat) : (a.setFld k hi lo v).cap = a.cap := rfl
@[simp] theorem Ailen.setFld_marksTaken (a : Ailen) (k hi lo v : Nat) : (a.setFld k hi lo v).marksTaken = a.marksTaken := rfl
@[simp] theorem Ailen.setFld_markDrop (a : Ailen) (k hi lo v : Nat) : (a.setFld k hi lo v).markDrop = a.markDrop := rfl
@[simp] theorem Ailen.setFld_markHold (a : Ailen) (k hi lo v : Nat) : (a.setFld k hi lo v).markHold = a.markHold := rfl
@[simp] theorem Ailen.setFld_stepHi (a : Ailen) (k hi lo v : Nat) : (a.setFld k hi lo v).stepHi = a.stepHi := rfl
@[simp] theorem Ailen.setFld_frameArmed (a : Ailen) (k hi lo v : Nat) : (a.setFld k hi lo v).frameArmed = a.frameArmed := rfl
@[simp] theorem Ailen.setFld_lastStep (a : Ailen) (k hi lo v : Nat) : (a.setFld k hi lo v).lastStep = a.lastStep := rfl
@[simp] theorem Ailen.setFld_taps (a : Ailen) (k hi lo v : Nat) : (a.setFld k hi lo v).taps = a.taps := rfl
@[simp] theorem Ailen.setFld_sdKey (a : Ailen) (k hi lo v : Nat) : (a.setFld k hi lo v).sdKey = a.sdKey := rfl
@[simp] theorem Ailen.setFld_scr (a : Ailen) (k hi lo v : Nat) : (a.setFld k hi lo v).scr = a.scr := rfl
@[simp] theorem Ailen.setFld_vig (a : Ailen) (k hi lo v : Nat) : (a.setFld k hi lo v).vig = a.vig := rfl
@[simp] theorem Ailen.setFld_vigTag (a : Ailen) (k hi lo v : Nat) : (a.setFld k hi lo v).vigTag = a.vigTag := rfl
@[simp] theorem Ailen.setFld_vigPulses (a : Ailen) (k hi lo v : Nat) : (a.setFld k hi lo v).vigPulses = a.vigPulses := rfl
@[simp] theorem Ailen.setFld_mbHold (a : Ailen) (k hi lo v : Nat) : (a.setFld k hi lo v).mbHold = a.mbHold := rfl
@[simp] theorem Ailen.setFld_recWr (a : Ailen) (k hi lo v : Nat) : (a.setFld k hi lo v).recWr = a.recWr := rfl
@[simp] theorem Ailen.setFld_recAck (a : Ailen) (k hi lo v : Nat) : (a.setFld k hi lo v).recAck = a.recAck := rfl
@[simp] theorem Ailen.setFld_recOvf (a : Ailen) (k hi lo v : Nat) : (a.setFld k hi lo v).recOvf = a.recOvf := rfl
@[simp] theorem Ailen.setFld_recSlots (a : Ailen) (k hi lo v : Nat) : (a.setFld k hi lo v).recSlots = a.recSlots := rfl
@[simp] theorem Ailen.setFld_ucode (a : Ailen) (k hi lo v : Nat) : (a.setFld k hi lo v).ucode = a.ucode := rfl
@[simp] theorem Ailen.setFld_ucodeVer (a : Ailen) (k hi lo v : Nat) : (a.setFld k hi lo v).ucodeVer = a.ucodeVer := rfl
@[simp] theorem Ailen.setFld_ucodeRun (a : Ailen) (k hi lo v : Nat) : (a.setFld k hi lo v).ucodeRun = a.ucodeRun := rfl
@[simp] theorem Ailen.setFld_ucodeNew (a : Ailen) (k hi lo v : Nat) : (a.setFld k hi lo v).ucodeNew = a.ucodeNew := rfl
@[simp] theorem Ailen.setFld_ucodeLoad (a : Ailen) (k hi lo v : Nat) : (a.setFld k hi lo v).ucodeLoad = a.ucodeLoad := rfl
@[simp] theorem Ailen.setFld_enumCause (a : Ailen) (k hi lo v : Nat) : (a.setFld k hi lo v).enumCause = a.enumCause := rfl
@[simp] theorem Ailen.setFld_gl (a : Ailen) (k hi lo v : Nat) : (a.setFld k hi lo v).gl = a.gl := rfl
@[simp] theorem Ailen.setFld_trc (a : Ailen) (k hi lo v : Nat) : (a.setFld k hi lo v).trc = a.trc := rfl
@[simp] theorem Ailen.clockTo_build (a : Ailen) (t : Nat) : (a.clockTo t).build = a.build := rfl
@[simp] theorem Ailen.clockTo_regs (a : Ailen) (t : Nat) : (a.clockTo t).regs = a.regs := rfl
@[simp] theorem Ailen.clockTo_hdidPin (a : Ailen) (t : Nat) : (a.clockTo t).hdidPin = a.hdidPin := rfl
@[simp] theorem Ailen.clockTo_aoReset (a : Ailen) (t : Nat) : (a.clockTo t).aoReset = a.aoReset := rfl
@[simp] theorem Ailen.clockTo_mainReset (a : Ailen) (t : Nat) : (a.clockTo t).mainReset = a.mainReset := rfl
@[simp] theorem Ailen.clockTo_pwr (a : Ailen) (t : Nat) : (a.clockTo t).pwr = a.pwr := rfl
@[simp] theorem Ailen.clockTo_sreq (a : Ailen) (t : Nat) : (a.clockTo t).sreq = a.sreq := rfl
@[simp] theorem Ailen.clockTo_mpg (a : Ailen) (t : Nat) : (a.clockTo t).mpg = a.mpg := rfl
@[simp] theorem Ailen.clockTo_exitNext (a : Ailen) (t : Nat) : (a.clockTo t).exitNext = a.exitNext := rfl
@[simp] theorem Ailen.clockTo_pwrAt (a : Ailen) (t : Nat) : (a.clockTo t).pwrAt = a.pwrAt := rfl
@[simp] theorem Ailen.clockTo_hclkLost (a : Ailen) (t : Nat) : (a.clockTo t).hclkLost = a.hclkLost := rfl
@[simp] theorem Ailen.clockTo_refLost (a : Ailen) (t : Nat) : (a.clockTo t).refLost = a.refLost := rfl
@[simp] theorem Ailen.clockTo_aoRange (a : Ailen) (t : Nat) : (a.clockTo t).aoRange = a.aoRange := rfl
@[simp] theorem Ailen.clockTo_hrpErr (a : Ailen) (t : Nat) : (a.clockTo t).hrpErr = a.hrpErr := rfl
@[simp] theorem Ailen.clockTo_hrpData (a : Ailen) (t : Nat) : (a.clockTo t).hrpData = a.hrpData := rfl
@[simp] theorem Ailen.clockTo_clock (a : Ailen) (t : Nat) : (a.clockTo t).clock = a.clock.moveTo t := rfl
@[simp] theorem Ailen.clockTo_intv (a : Ailen) (t : Nat) : (a.clockTo t).intv = a.intv := rfl
@[simp] theorem Ailen.clockTo_drift (a : Ailen) (t : Nat) : (a.clockTo t).drift = a.drift := rfl
@[simp] theorem Ailen.clockTo_jt (a : Ailen) (t : Nat) : (a.clockTo t).jt = a.jt := rfl
@[simp] theorem Ailen.clockTo_cap (a : Ailen) (t : Nat) : (a.clockTo t).cap = a.cap := rfl
@[simp] theorem Ailen.clockTo_marksTaken (a : Ailen) (t : Nat) : (a.clockTo t).marksTaken = a.marksTaken := rfl
@[simp] theorem Ailen.clockTo_markDrop (a : Ailen) (t : Nat) : (a.clockTo t).markDrop = a.markDrop := rfl
@[simp] theorem Ailen.clockTo_markHold (a : Ailen) (t : Nat) : (a.clockTo t).markHold = a.markHold := rfl
@[simp] theorem Ailen.clockTo_stepHi (a : Ailen) (t : Nat) : (a.clockTo t).stepHi = a.stepHi := rfl
@[simp] theorem Ailen.clockTo_frameArmed (a : Ailen) (t : Nat) : (a.clockTo t).frameArmed = a.frameArmed := rfl
@[simp] theorem Ailen.clockTo_lastStep (a : Ailen) (t : Nat) : (a.clockTo t).lastStep = a.lastStep := rfl
@[simp] theorem Ailen.clockTo_taps (a : Ailen) (t : Nat) : (a.clockTo t).taps = a.taps := rfl
@[simp] theorem Ailen.clockTo_sdKey (a : Ailen) (t : Nat) : (a.clockTo t).sdKey = a.sdKey := rfl
@[simp] theorem Ailen.clockTo_scr (a : Ailen) (t : Nat) : (a.clockTo t).scr = a.scr := rfl
@[simp] theorem Ailen.clockTo_vig (a : Ailen) (t : Nat) : (a.clockTo t).vig = a.vig := rfl
@[simp] theorem Ailen.clockTo_vigTag (a : Ailen) (t : Nat) : (a.clockTo t).vigTag = a.vigTag := rfl
@[simp] theorem Ailen.clockTo_vigPulses (a : Ailen) (t : Nat) : (a.clockTo t).vigPulses = a.vigPulses := rfl
@[simp] theorem Ailen.clockTo_mbHold (a : Ailen) (t : Nat) : (a.clockTo t).mbHold = a.mbHold := rfl
@[simp] theorem Ailen.clockTo_recWr (a : Ailen) (t : Nat) : (a.clockTo t).recWr = a.recWr := rfl
@[simp] theorem Ailen.clockTo_recAck (a : Ailen) (t : Nat) : (a.clockTo t).recAck = a.recAck := rfl
@[simp] theorem Ailen.clockTo_recOvf (a : Ailen) (t : Nat) : (a.clockTo t).recOvf = a.recOvf := rfl
@[simp] theorem Ailen.clockTo_recSlots (a : Ailen) (t : Nat) : (a.clockTo t).recSlots = a.recSlots := rfl
@[simp] theorem Ailen.clockTo_ucode (a : Ailen) (t : Nat) : (a.clockTo t).ucode = a.ucode := rfl
@[simp] theorem Ailen.clockTo_ucodeVer (a : Ailen) (t : Nat) : (a.clockTo t).ucodeVer = a.ucodeVer := rfl
@[simp] theorem Ailen.clockTo_ucodeRun (a : Ailen) (t : Nat) : (a.clockTo t).ucodeRun = a.ucodeRun := rfl
@[simp] theorem Ailen.clockTo_ucodeNew (a : Ailen) (t : Nat) : (a.clockTo t).ucodeNew = a.ucodeNew := rfl
@[simp] theorem Ailen.clockTo_ucodeLoad (a : Ailen) (t : Nat) : (a.clockTo t).ucodeLoad = a.ucodeLoad := rfl
@[simp] theorem Ailen.clockTo_enumCause (a : Ailen) (t : Nat) : (a.clockTo t).enumCause = a.enumCause := rfl
@[simp] theorem Ailen.clockTo_gl (a : Ailen) (t : Nat) : (a.clockTo t).gl = a.gl := rfl
@[simp] theorem Ailen.clockTo_trc (a : Ailen) (t : Nat) : (a.clockTo t).trc = a.trc := rfl

/-- A core reads as it was last set; another core is left as it was. -/
@[simp] theorem Gremon.core_setCore (g : Gremon) (n : Nat) (c : BCore) : (g.setCore n c).core n = c := Tbl.get_set_same ..
theorem Gremon.core_setCore_other (g : Gremon) {n m : Nat} (c : BCore) (h : m ≠ n) : (g.setCore n c).core m = g.core m :=
  Tbl.get_set_other _ _ _ h
/-- So do Sync Hub objects, kit slots, lanes, dies and ports. -/
@[simp] theorem Gremon.obj_setObj (g : Gremon) (n : Nat) (o : SyncObj) : (g.setObj n o).obj n = o := Tbl.get_set_same ..
theorem Gremon.obj_setObj_other (g : Gremon) {n m : Nat} (o : SyncObj) (h : m ≠ n) : (g.setObj n o).obj m = g.obj m :=
  Tbl.get_set_other _ _ _ h
@[simp] theorem Gremon.kit_setKit (g : Gremon) (n : Nat) (k : KitSlot) : (g.setKit n k).kit n = k := Tbl.get_set_same ..
theorem Gremon.kit_setKit_other (g : Gremon) {n m : Nat} (k : KitSlot) (h : m ≠ n) : (g.setKit n k).kit m = g.kit m :=
  Tbl.get_set_other _ _ _ h
@[simp] theorem Gremon.lane_setLane (g : Gremon) (n : Nat) (l : GlLink) : (g.setLane n l).lane n = l := Tbl.get_set_same ..
theorem Gremon.lane_setLane_other (g : Gremon) {n m : Nat} (l : GlLink) (h : m ≠ n) : (g.setLane n l).lane m = g.lane m :=
  Tbl.get_set_other _ _ _ h
@[simp] theorem Gremon.die_setDie (g : Gremon) (n : Nat) (d : DieInfo) : (g.setDie n d).die n = d := Tbl.get_set_same ..
theorem Gremon.die_setDie_other (g : Gremon) {n m : Nat} (d : DieInfo) (h : m ≠ n) : (g.setDie n d).die m = g.die m :=
  Tbl.get_set_other _ _ _ h
@[simp] theorem Gremon.port_setPort (g : Gremon) (n : Nat) (p : RlPort) : (g.setPort n p).port n = p := Tbl.get_set_same ..
theorem Gremon.port_setPort_other (g : Gremon) {n m : Nat} (p : RlPort) (h : m ≠ n) : (g.setPort n p).port m = g.port m :=
  Tbl.get_set_other _ _ _ h

/-- A stored register of Gremon reads as it was last set, modulo 2³². -/
theorem RegFile.get_set_same (p : Part) (r : RegFile) (k v : Nat) : (r.set p k v).get p k = v % 2 ^ 32 := by
  unfold RegFile.set RegFile.get
  by_cases h : v % 2 ^ 32 = rstWord p k
  · simp only [h, if_true, Tbl.find_erase_same]
  · simp only [h, if_false, Tbl.find_put_same, BitVec.toNat_ofNat]

/-- Setting one register leaves every other as it was. -/
theorem RegFile.get_set_other (p : Part) (r : RegFile) {k j : Nat} (v : Nat) (h : j ≠ k) :
    (r.set p k v).get p j = r.get p j := by
  unfold RegFile.set RegFile.get
  by_cases e : v % 2 ^ 32 = rstWord p k
  · simp only [e, if_true, Tbl.find_erase_other _ h]
  · simp only [e, if_false, Tbl.find_put_other _ _ h]

end Sys2Proof.Machine
end

