-- ==== Sys2Proof/Laws/Brutu.lean ====
section
/-! SUPPORT. What an instruction of a Brutu core leaves: how the parts of its meaning compose into a state in which one core has
changed and nothing else. -/
namespace Sys2Proof.Machine
open Sys2Proof

theorem Gremon.OnlyCore.setCore (g : Gremon) (n : Nat) (d : BCore) : g.OnlyCore (g.setCore n d) n d where
  core := Gremon.core_setCore ..
  cores _ h := Gremon.core_setCore_other _ _ h
  mem _ _ := rfl
  rest := rfl

/-- A second change of the same core. -/
theorem Gremon.OnlyCore.again {g h : Gremon} {n : Nat} {c : BCore} (d : BCore) (o : g.OnlyCore h n c) :
    g.OnlyCore (h.setCore n d) n d where
  core := Gremon.core_setCore ..
  cores m hm := (Gremon.core_setCore_other _ _ hm).trans (o.cores m hm)
  mem a ha := o.mem a ha
  rest := o.rest

theorem Gremon.OnlyCore.refl (g : Gremon) (n : Nat) : g.OnlyCore g n (g.core n) := ⟨rfl, fun _ _ => rfl, fun _ _ => rfl, rfl⟩

/-- The end of the step leaves it so. -/
theorem Gremon.OnlyCore.settle {g h : Gremon} {n : Nat} {d : BCore} (o : g.OnlyCore h n d) : g.OnlyCore h.settle n d where
  core := by rw [← o.core]; unfold Gremon.core; simp
  cores m hm := by rw [← o.cores m hm]; unfold Gremon.core; simp
  mem a ha := (h.settle_byte a ha).trans (o.mem a ha)
  rest := by
    rw [← o.rest]
    have := h.settle_kept
    exact congrArg (fun k : Gremon => { k with cores := [] }) this

theorem State.OnlyCore.withG {s : State} {h : Gremon} {n : Nat} {d : BCore} (o : s.g.OnlyCore h n d) : s.OnlyCore (s.withG h) n d :=
  ⟨o.settle, rfl, rfl⟩

/-- A meaning on a core of a powered Gremon. -/
theorem onCore_next {s : State} {n : Nat} {f : Gremon → Gremon} (hr : s.g.sys.pwr.rails = true) (hn : n < 512) :
    onCore s n f = .next (s.withG (f s.g)) := by
  simp [onCore, onNth, onG, onPower, Gremon.powered, hr, hn, State.withG]

/-- An instruction that issues, and is no wait that traps, is run by its own part of `instr`. -/
theorem Gremon.instr_issues {s : State} {n op cy : Nat} (h : s.Issues n op cy) (f : BCore → (w cy : Nat) → Gremon × Ctl × Nat)
    (hw : isWait op = false ∨ ∀ code tval, (f (s.g.core n) (s.g.fetchWord n) cy).2.1 ≠ .trap code tval) :
    s.g.instr n op f =
      (f (s.g.core n) (s.g.fetchWord n) cy).1.endInstr n (s.g.fetchWord n) cy (f (s.g.core n) (s.g.fetchWord n) cy).2.2
        (f (s.g.core n) (s.g.fetchWord n) cy).2.1 := by
  simp only [Gremon.instr, h.can, h.clean, h.opcode, h.formed, h.cycle]
  rcases hw with hw | hw
  · simp [hw]
  · simp only [Bool.not_true, Bool.false_eq_true, if_false, and_self, if_true]
    split
    · rename_i ht; exact absurd ht (hw _ _)
    · rfl

/-- An instruction after which control passes to the next one. -/
theorem Gremon.endInstr_seq {g h : Gremon} {n w cy occ : Nat} {d : BCore} (o : g.OnlyCore h n d)
    (hc : d.inCode (d.pc.toNat + 8) = true) :
    g.OnlyCore (h.endInstr n w cy occ .seq) n (d.ended w (cy + occ) (d.pc.toNat + 8)) := by
  have : h.endInstr n w cy occ .seq = h.setCore n (d.ended w (cy + occ) (d.pc.toNat + 8)) := by
    simp only [Gremon.endInstr, o.core, Gremon.passTo]
    rw [if_pos (by exact hc)]
    rfl
  rw [this]; exact o.again _

/-- A transfer of control. -/
theorem Gremon.endInstr_jump {g h : Gremon} {n w cy occ t : Nat} {d : BCore} (o : g.OnlyCore h n d) (hc : d.inCode t = true) :
    g.OnlyCore (h.endInstr n w cy occ (.jump t)) n (d.ended w (cy + 3) t) := by
  have : h.endInstr n w cy occ (.jump t) = h.setCore n (d.ended w (cy + 3) t) := by
    simp only [Gremon.endInstr, o.core, Gremon.passTo]
    rw [if_pos (by exact hc)]
    rfl
  rw [this]; exact o.again _

@[simp] theorem BCore.wgAt_pc (c : BCore) (d v r : Nat) : (c.wgAt d v r).pc = c.pc := by
  unfold BCore.wgAt BCore.wg; split <;> rfl
@[simp] theorem BCore.flag_pc (c : BCore) (f : Nat) : (c.flag f).pc = c.pc := rfl
@[simp] theorem BCore.wgAt_inCode (c : BCore) (d v r a : Nat) : (c.wgAt d v r).inCode a = c.inCode a := by
  unfold BCore.wgAt BCore.wg; split <;> rfl
@[simp] theorem BCore.flag_inCode (c : BCore) (f a : Nat) : (c.flag f).inCode a = c.inCode a := rfl

/-- A scalar instruction that ends with `result`. -/
theorem State.scalar_of {s : State} {i : Instr} {n op cy f : Nat} {sem : BCore → Nat → Nat × Nat} (h : s.Flows n op cy)
    (hx : exec i s = onCore s n fun g => g.instr n op fun c w cy => g.result n c w cy f (sem c w)) :
    s.Scalar i n cy f (sem (s.g.core n) (s.g.fetchWord n)).1 (sem (s.g.core n) (s.g.fetchWord n)).2 := by
  have o := Gremon.endInstr_seq (w := s.g.fetchWord n) (cy := cy) (occ := 1) (Gremon.OnlyCore.setCore s.g n
    (((s.g.core n).wgAt (wD (s.g.fetchWord n)) (extend f (sem (s.g.core n) (s.g.fetchWord n)).1)
      (cy + scalarLat (wOp (s.g.fetchWord n)) (wFmt (s.g.fetchWord n)) (wSub (s.g.fetchWord n)))).flag
        (sem (s.g.core n) (s.g.fetchWord n)).2)) (by simpa using h.next)
  refine ⟨_, (hx.trans (onCore_next h.issues.rails h.issues.core)), ?_⟩
  rw [Gremon.instr_issues h.issues _ (.inr fun _ _ => Ctl.noConfusion)]
  simp only [Gremon.result]
  simpa using State.OnlyCore.withG o

end Sys2Proof.Machine
end

