-- ==== Sys2Proof/Laws/Memory.lean ====
section
/-! SUPPORT. Laws of Gremon's memory: every store keeps its one form, a byte stored reads back, and no other byte
changes. -/
namespace Sys2Proof.Machine
open Sys2Proof

/-- A store keeps the one form of memory. -/
theorem memPut_wf (bs : List Byte) : ∀ (m : Tbl Byte) (a : Nat), Memory.wf m = true → Memory.wf (memPut m a bs) = true := by
  induction bs with
  | nil => intro m a h; exact h
  | cons b bs ih => intro m a h; exact ih _ _ (Tbl.wf_set 0 m (a % 2 ^ 48) b h)

/-- A store to Gremon's memory keeps its one form. -/
theorem Gremon.wrBytes_memWf (g : Gremon) (a : Nat) (bs : List Byte) (h : Memory.wf g.mem = true) :
    Memory.wf (g.wrBytes a bs).mem = true := memPut_wf bs g.mem a h

/-- Storing a number keeps the one form of memory. -/
theorem Gremon.wr_memWf (g : Gremon) (a n v : Nat) (h : Memory.wf g.mem = true) : Memory.wf (g.wr a n v).mem = true :=
  g.wrBytes_memWf a _ h

/-- A store leaves every byte outside what it stores as it was. -/
theorem memPut_other (bs : List Byte) : ∀ (m : Tbl Byte) (a x : Nat),
    (∀ i, i < bs.length → x ≠ (a + i) % 2 ^ 48) → Tbl.get 0 (memPut m a bs) x = Tbl.get 0 m x := by
  induction bs with
  | nil => intro m a x _; rfl
  | cons b bs ih =>
    intro m a x h
    have h0 : x ≠ a % 2 ^ 48 := by simpa using h 0 (by simp)
    rw [memPut, ih _ _ _ (fun i hi => by
      have := h (i + 1) (by simpa using hi)
      rwa [show a + (i + 1) = a + 1 + i by omega] at this), Tbl.get_set_other 0 m b h0]

/-- A byte outside a store reads as before. -/
theorem Gremon.byte_wrBytes_other (g : Gremon) (a x : Nat) (bs : List Byte)
    (h : ∀ i, i < bs.length → x ≠ (a + i) % 2 ^ 48) : (g.wrBytes a bs).byte x = g.byte x :=
  memPut_other bs g.mem a x h

/-- Each byte stored reads back. -/
theorem memPut_same (bs : List Byte) : ∀ (m : Tbl Byte) (a i : Nat), i < bs.length → bs.length ≤ 2 ^ 48 →
    Tbl.get 0 (memPut m a bs) ((a + i) % 2 ^ 48) = bs.getD i 0 := by
  induction bs with
  | nil => intro m a i h; simp at h
  | cons b bs ih =>
    intro m a i h hl
    cases i with
    | zero =>
      rw [memPut, memPut_other bs _ _ _ (fun i hi => by
        simp only [List.length_cons] at hl
        intro e
        have : (a + 0) % 2 ^ 48 = (a + 1 + i) % 2 ^ 48 := e
        omega)]
      simp
    | succ i =>
      have := ih (Tbl.set 0 m (a % 2 ^ 48) b) (a + 1) i (by simpa using h) (by simp at hl; omega)
      rw [show a + (i + 1) = a + 1 + i by omega]
      simpa [memPut] using this

/-- Each byte stored to Gremon's memory reads back. -/
theorem Gremon.byte_wrBytes_same (g : Gremon) (a i : Nat) (bs : List Byte) (h : i < bs.length) (hl : bs.length ≤ 2 ^ 48) :
    (g.wrBytes a bs).byte ((a + i) % 2 ^ 48) = bs.getD i 0 := memPut_same bs g.mem a i h hl

/-- Keys that rise still rise where some entries are taken out. -/
theorem Tbl.risingFrom_filter {α : Type} (p : Nat × α → Bool) (t : Tbl α) :
    ∀ lo, Tbl.risingFrom lo t = true → Tbl.risingFrom lo (t.filter p) = true := by
  induction t with
  | nil => intro lo _; rfl
  | cons e t ih =>
    intro lo h
    obtain ⟨k, v⟩ := e
    simp only [Tbl.risingFrom, Bool.and_eq_true, decide_eq_true_eq] at h
    rw [List.filter_cons]
    split
    · simp only [Tbl.risingFrom, Bool.and_eq_true, decide_eq_true_eq]
      exact ⟨h.1, ih _ h.2⟩
    · exact ih _ (Tbl.risingFrom_mono (by omega) h.2)

/-- Clearing a region keeps the one form of memory: a FULL reset and the clearing of a kit's space take entries out. -/
theorem memory_wf_filter (p : Nat × Byte → Bool) (m : Tbl Byte) (h : Memory.wf m = true) : Memory.wf (m.filter p) = true := by
  simp only [Memory.wf, Tbl.wf, Bool.and_eq_true, List.all_eq_true] at h ⊢
  exact ⟨Tbl.risingFrom_filter p m 0 h.1, fun e he => h.2 e (List.mem_filter.mp he).1⟩

/-- Memory that lists nothing has the one form. -/
theorem memory_wf_empty : Memory.wf [] = true := rfl

end Sys2Proof.Machine
end

