-- ==== Sys2Proof/WellFormed.lean ====
section
/-! DEFINITION. Which commands are well formed: every operand lies in the range that the spec gives the thing it names
(lanes, cores, ports, slots, queues, pins), and a register access comes from someone who reaches that part. -/
namespace Sys2Proof

/-- PT and LM in ns are 64 bits. -/
def tickOk (t : Nat) : Bool := decide (t < 2 ^ 64)

/-- AILEN's registers are reached over HRP and by commands, Gremon's by the PCIe function and CD firmware (R561). -/
def whoOk : Part → Requester → Bool
  | .ailen, .hrp => true
  | .ailen, .cmd => true
  | .gremon, .pcie => true
  | .gremon, .cd => true
  | _, _ => false

/-- HRP and commands move 4 bytes; BAR0 takes 4 or 8 (R64, R559). Another size is a BAD_REG of BAR0 and still a command. -/
def accessOk (p : Part) (x : Access) : Bool :=
  whoOk p x.who && (decide (p = .gremon) || decide (x.size = 4)) && decide (x.size ≤ 64)

/-- An end of a Guyline link: lanes 0–511. -/
def endOk : GlEnd → Bool
  | .ailen => true
  | .lane n => decide (n < 512)

/-- A beat of a shard tap (Table 2.14): two taps, 7 bits of stp_nb, 64 bytes. -/
def beatOk (b : StpBeat) : Bool := decide (b.tap < 2) && decide (b.nb < 128) && decide (b.dat.length = 64)

/-- Increments: EVP has at most 1,024 lines, each once in a cycle (Table 2.1). -/
def incsOk (l : List EvpInc) : Bool := decide (∀ i ∈ l, i.line < 1024) && decide ((l.map (·.line)).Nodup)

/-- Packets: eight slots, each once in a cycle (Table 2.12). -/
def pktsOk (l : List OppPkt) : Bool := decide (∀ i ∈ l, i.slot < 8) && decide ((l.map (·.slot)).Nodup)

/-- The sender of a TIME_REQ. -/
def fromOk : TimeFrom → Bool
  | .lane n => decide (n < 512)
  | .port n => decide (n < 6)

/-- The place of an error. -/
def eccOk : EccAt → Bool
  | .line cna => decide (cna < 2 ^ 48)
  | .coreRegs c => decide (c < 512)
  | .tse ct => decide (ct < 16)
  | .sync _ => true
  | .canopy cdn => decide (cdn < 32)
  | .mram => true

/-- The place of a residue error. -/
def residueOk : ResidueAt → Bool
  | .core c => decide (c < 512)
  | .engine ct _ => decide (ct < 16)
  | .counters bank => decide (bank < 64)
  | .coder => true
  | .digest tap => decide (tap < 2)

/-- A self-test speaks of dies of the package, stacks, CTs and their cores. -/
def selfTestOk (t : SelfTest) : Bool :=
  decide (∀ d ∈ t.dies, d < 32) && decide (∀ s ∈ t.stks, s < 24) && decide (∀ c ∈ t.cores, c.1 < 16 ∧ c.2 < 34) && decide (∀ l ∈ t.links, l.1 < 32 ∧ l.2 < 32)

/-- A sweep names a word. -/
def hitOk (_p : Part) : Option ParityHit → Bool
  | some h => decide (h.key % 4 = 0)
  | none => true

/-- AILEN's recorder has one window, Gremon's four. -/
def windowsOk (p : Part) (k : Nat) : Bool :=
  match p with
  | .ailen => decide (k = 0)
  | .gremon => decide (k < 4)

/-- AILEN traces four streams and its microcode, Gremon its 512 logical cores (Table 20.7). -/
def srcOk (p : Part) (n : Nat) : Bool :=
  match p with
  | .ailen => decide (n < 5)
  | .gremon => decide (n < 512)

/-- Whether a command is well formed. -/
def Instr.wf : Instr → Bool
  | .frameBoundary _ clr _ => decide (∀ b ∈ clr, b < 64)
  | .scoringBoundary _ => true
  | .sampleBlockCoded => true
  | .aoPorAssert at' => tickOk at'
  | .aoPorRelease _ at' => tickOk at'
  | .mainRstAssert at' => tickOk at'
  | .registerWrite p x at' => accessOk p x && tickOk at'
  | .evpIncrement incs at' => incsOk incs && tickOk at'
  | .bankClear bank at' => decide (bank < 64) && tickOk at'
  | .oppPackets ps at' => pktsOk ps && tickOk at'
  | .sensorToggle chan _ at' => decide (chan < 64) && tickOk at'
  | .trpRetirement r at' => decide (r.stream < 4) && tickOk at'
  | .stpTransferOpen b at' => beatOk b && tickOk at'
  | .stpBeat b at' => beatOk b && tickOk at'
  | .stpTransferClose b at' => beatOk b && tickOk at'
  | .shadowEntryRequest x => tickOk x.at' && tickOk x.cutAt
  | .shadowEntryDone at' => tickOk at'
  | .shadowExitRequest at' => tickOk at'
  | .shadowExitDone at' => tickOk at'
  | .pwrAbrupt at' => tickOk at'
  | .mbxDoorbell at' => tickOk at'
  | .scrGrant at' => tickOk at'
  | .scrRevoke at' => tickOk at'
  | .scrGrantFall at' => tickOk at'
  | .remapCommit who at' => whoOk .ailen who && tickOk at'
  | .capCommit at' => tickOk at'
  | .sqcClearWrite p x at' => accessOk p x && tickOk at'
  | .hclkLost at' => tickOk at'
  | .hclkRecover at' => tickOk at'
  | .refclkLost at' => tickOk at'
  | .aoclkRange at' => tickOk at'
  | .timeExchangeOpen _ => true
  | .timeReqRx src => fromOk src
  | .timeRspRx _ _ _ => true
  | .lockLossTimeout _ => true
  | .holdExpired _ => true
  | .almanacCalibration _ _ => true
  | .replicaRealign => true
  | .siteSyncMessage m _ at' => decide (m.domain < 256) && tickOk at'
  | .rootSiteWaitExpiry => true
  | .ptStepTick _ => true
  | .tsqHeadRead who q at' => whoOk .gremon who && decide (q < 7) && tickOk at'
  | .ptLoRead p who at' => whoOk p who && tickOk at'
  | .loReadLatch p x at' => accessOk p x && tickOk at'
  | .alignSolve job _ => decide (job < 2 ^ 16)
  | .alJtJobWrite _ at' => tickOk at'
  | .frameTickHiWrite _ at' => tickOk at'
  | .stepNumLoWrite who _ at' => whoOk .ailen who && tickOk at'
  | .stepNumHiWrite who _ at' => whoOk .ailen who && tickOk at'
  | .glTxSlot e at' => endOk e && tickOk at'
  | .glDataFrameRx e _ f at' => endOk e && decide (f.length = 64) && tickOk at'
  | .glNullFrameRx e f at' => endOk e && decide (f.length = 64) && tickOk at'
  | .glCtlCredit e f at' => endOk e && decide (f.length = 64) && tickOk at'
  | .glCtlNak e f at' => endOk e && decide (f.length = 64) && tickOk at'
  | .glCtlLane e f at' => endOk e && decide (f.length = 64) && tickOk at'
  | .glCtlRate e f at' => endOk e && decide (f.length = 64) && tickOk at'
  | .glInitRx e f at' => endOk e && decide (f.length = 64) && tickOk at'
  | .glReplayTimeout e at' => endOk e && tickOk at'
  | .glNakRepeat e at' => endOk e && tickOk at'
  | .glCreditTimer e at' => endOk e && tickOk at'
  | .glInitRepeat e at' => endOk e && tickOk at'
  | .glTrainStart e => endOk e
  | .glTrainRetry e => endOk e
  | .glBlockLockLoss e at' => endOk e && tickOk at'
  | .glCrcSilence e at' => endOk e && tickOk at'
  | .stbyFail e => endOk e
  | .sampleRx lane => decide (lane < 512)
  | .vigilBankRx lane => decide (lane < 512)
  | .traceRx lane => decide (lane < 512)
  | .eventRx lane => decide (lane < 512)
  | .shardRx lane => decide (lane < 512)
  | .segdRx lane => decide (lane < 512)
  | .screenRx lane => decide (lane < 512)
  | .mboxRxGremon lane => decide (lane < 512)
  | .mboxRxAilen => true
  | .cmdRead => true
  | .cmdWrite => true
  | .cmdUcode => true
  | .cmdVigilArm => true
  | .cmdScreenStart => true
  | .rspRx lane => decide (lane < 512)
  | .enumRx lane => decide (lane < 512)
  | .enumAckRx => true
  | .canopyLinkFail a b at' => decide (a < 32) && decide (b < 32) && tickOk at'
  | .stackFail stack at' => decide (stack < 24) && tickOk at'
  | .eccError w _ at' => eccOk w && tickOk at'
  | .hbmScrub line _ at' => decide (line < 2 ^ 42) && tickOk at'
  | .sramScrub w _ at' => eccOk w && tickOk at'
  | .illegalOpcode core => decide (core < 512)
  | .nop core => decide (core < 512)
  | .add core => decide (core < 512)
  | .sub core => decide (core < 512)
  | .and core => decide (core < 512)
  | .or core => decide (core < 512)
  | .xor core => decide (core < 512)
  | .sll core => decide (core < 512)
  | .srl core => decide (core < 512)
  | .sra core => decide (core < 512)
  | .min core => decide (core < 512)
  | .max core => decide (core < 512)
  | .cmp core => decide (core < 512)
  | .mul core => decide (core < 512)
  | .mulh core => decide (core < 512)
  | .div core => decide (core < 512)
  | .rem core => decide (core < 512)
  | .lih core => decide (core < 512)
  | .addi core => decide (core < 512)
  | .andi core => decide (core < 512)
  | .ori core => decide (core < 512)
  | .xori core => decide (core < 512)
  | .slli core => decide (core < 512)
  | .srli core => decide (core < 512)
  | .srai core => decide (core < 512)
  | .li core => decide (core < 512)
  | .fadd core => decide (core < 512)
  | .fsub core => decide (core < 512)
  | .fmul core => decide (core < 512)
  | .fdiv core => decide (core < 512)
  | .fsqrt core => decide (core < 512)
  | .fma core => decide (core < 512)
  | .fmin core => decide (core < 512)
  | .fmax core => decide (core < 512)
  | .fcmp core => decide (core < 512)
  | .cvt core => decide (core < 512)
  | .fabs core => decide (core < 512)
  | .fneg core => decide (core < 512)
  | .vadd core => decide (core < 512)
  | .vsub core => decide (core < 512)
  | .vmul core => decide (core < 512)
  | .vfma core => decide (core < 512)
  | .vdiv core => decide (core < 512)
  | .vsqrt core => decide (core < 512)
  | .vmin core => decide (core < 512)
  | .vmax core => decide (core < 512)
  | .vand core => decide (core < 512)
  | .vor core => decide (core < 512)
  | .vxor core => decide (core < 512)
  | .vsll core => decide (core < 512)
  | .vsrl core => decide (core < 512)
  | .vsra core => decide (core < 512)
  | .vcmp core => decide (core < 512)
  | .vcvt core => decide (core < 512)
  | .vbcast core => decide (core < 512)
  | .vext core => decide (core < 512)
  | .vins core => decide (core < 512)
  | .vred core => decide (core < 512)
  | .vsel core => decide (core < 512)
  | .vabs core => decide (core < 512)
  | .vneg core => decide (core < 512)
  | .pand core => decide (core < 512)
  | .por core => decide (core < 512)
  | .pxor core => decide (core < 512)
  | .pnot core => decide (core < 512)
  | .pfromg core => decide (core < 512)
  | .ptog core => decide (core < 512)
  | .ld core => decide (core < 512)
  | .st core => decide (core < 512)
  | .vld core => decide (core < 512)
  | .vst core => decide (core < 512)
  | .beq core => decide (core < 512)
  | .bne core => decide (core < 512)
  | .blt core => decide (core < 512)
  | .bge core => decide (core < 512)
  | .bp core => decide (core < 512)
  | .jal core => decide (core < 512)
  | .jalr core => decide (core < 512)
  | .trap core => decide (core < 512)
  | .rett core => decide (core < 512)
  | .halt core => decide (core < 512)
  | .mfs core => decide (core < 512)
  | .mts core => decide (core < 512)
  | .vectorIssue core => decide (core < 512)
  | .sld core => decide (core < 512)
  | .sst core => decide (core < 512)
  | .sgo core => decide (core < 512)
  | .swait core => decide (core < 512)
  | .stest core => decide (core < 512)
  | .streamEnd core sreg => decide (core < 512) && decide (sreg < 16)
  | .hins core => decide (core < 512)
  | .hmrg core => decide (core < 512)
  | .tkin core => decide (core < 512)
  | .tkmrg core => decide (core < 512)
  | .ewma core => decide (core < 512)
  | .cusum core => decide (core < 512)
  | .tsub core => decide (core < 512)
  | .twait core => decide (core < 512)
  | .cenc core => decide (core < 512)
  | .cdec core => decide (core < 512)
  | .hinsDone ct => decide (ct < 16)
  | .hmrgDone ct => decide (ct < 16)
  | .tkinDone ct => decide (ct < 16)
  | .tkmrgDone ct => decide (ct < 16)
  | .ewmaDone ct => decide (ct < 16)
  | .cusumDone ct => decide (ct < 16)
  | .cencDone ct => decide (ct < 16)
  | .cdecDone ct => decide (ct < 16)
  | .tsubDone core _ _ => decide (core < 512)
  | .semp core => decide (core < 512)
  | .semv core => decide (core < 512)
  | .bara core => decide (core < 512)
  | .barw core => decide (core < 512)
  | .evset core => decide (core < 512)
  | .evclr core => decide (core < 512)
  | .evw core => decide (core < 512)
  | .syrd core => decide (core < 512)
  | .fenceL core => decide (core < 512)
  | .fenceC core => decide (core < 512)
  | .fenceT core => decide (core < 512)
  | .fenceX core => decide (core < 512)
  | .mbs core => decide (core < 512)
  | .mbr core => decide (core < 512)
  | .msnd core => decide (core < 512)
  | .trd core => decide (core < 512)
  | .trdx core => decide (core < 512)
  | .waitpt core => decide (core < 512)
  | .waitptRelease core => decide (core < 512)
  | .mackRx => true
  | .msndUnreach => true
  | .periodCloseDeadline rid => decide (rid < 2 ^ 32)
  | .stepCloseWindow rid step => decide (rid < 2 ^ 32) && decide (step < 2 ^ 48)
  | .reducePrimaryDone rid period _ at' => decide (rid < 2 ^ 32) && decide (period < 2 ^ 64) && tickOk at'
  | .reduceVerdict rid period _ p q at' => decide (rid < 2 ^ 32) && decide (period < 2 ^ 64) && decide (p < 16) && decide (q < 16) && tickOk at'
  | .verdictTimeout rid period => decide (rid < 2 ^ 32) && decide (period < 2 ^ 64)
  | .rlReduceRx => true
  | .retentionEnd rid period => decide (rid < 2 ^ 32) && decide (period < 2 ^ 64)
  | .historyFile => true
  | .exportPageCopy => true
  | .exportAbort at' => tickOk at'
  | .exportCancel who at' => whoOk .gremon who && tickOk at'
  | .kitStart slot => decide (slot < 64)
  | .planApplyTimeout slot => decide (slot < 64)
  | .phaseDeadline slot phase => decide (slot < 64) && decide (phase < 256)
  | .kitRestart slot => decide (slot < 64)
  | .kitUnloadDone slot => decide (slot < 64)
  | .rlTxSlot port at' => decide (port < 6) && tickOk at'
  | .rlDataFlitRx port f at' => decide (port < 6) && decide (f.length = 256) && tickOk at'
  | .rlNullFlitRx port f at' => decide (port < 6) && decide (f.length = 256) && tickOk at'
  | .rlCtlCredit port f at' => decide (port < 6) && decide (f.length = 256) && tickOk at'
  | .rlCtlNak port f at' => decide (port < 6) && decide (f.length = 256) && tickOk at'
  | .rlCtlLane port f at' => decide (port < 6) && decide (f.length = 256) && tickOk at'
  | .rlInitRx port f at' => decide (port < 6) && decide (f.length = 256) && tickOk at'
  | .rlReplayTimeout port at' => decide (port < 6) && tickOk at'
  | .rlNakRepeat port at' => decide (port < 6) && tickOk at'
  | .rlCreditTimer port at' => decide (port < 6) && tickOk at'
  | .rlTrainStart port at' => decide (port < 6) && tickOk at'
  | .fecWindowEnd port corr uncorr at' => decide (port < 6) && decide (corr.length = 5) && decide (uncorr.length = 5) && tickOk at'
  | .rlLaneLockLoss port ln at' => decide (port < 6) && decide (ln < 5) && tickOk at'
  | .rlPortDown port at' => decide (port < 6) && tickOk at'
  | .rlLatencySample port => decide (port < 6)
  | .ladderWatch => true
  | .helloTimer => true
  | .helloRx => true
  | .treeFormed => true
  | .joinRx => true
  | .joinAckRx => true
  | .rehomeRx => true
  | .pruneRx => true
  | .rootStale => true
  | .staleExpiry => true
  | .parentFail => true
  | .childPortDown port => decide (port < 6)
  | .memberDeclareFailed => true
  | .rlBcastRx => true
  | .backRx => true
  | .bcastTimeout => true
  | .rlMsgRx => true
  | .rlQueryRx => true
  | .qansDeadline => true
  | .rlQansRx => true
  | .feedPeriod => true
  | .rlFeedRx => true
  | .rlLadderRx => true
  | .rlLanternRx => true
  | .rlManifestRx => true
  | .hcmdRx => true
  | .hrspRx => true
  | .hcmdUnreach => true
  | .certreqRx => true
  | .certRx _ _ => true
  | .mcertUnavailable => true
  | .vigilWSample => true
  | .vigilSnapshotA => true
  | .vigilTick => true
  | .vigilSnapshotB => true
  | .gremonVigilTick => true
  | .vigilClose => true
  | .vigilResumeTick => true
  | .lanternRead => true
  | .cktEnable who n _ at' => whoOk .gremon who && decide (n < 1024) && tickOk at'
  | .ckptTriggerEval n => decide (n < 1024)
  | .sdKeySet _ at' => tickOk at'
  | .scrDoneWrite _ at' => tickOk at'
  | .screenTimerExpiry => true
  | .screenWaitExpiry => true
  | .screenLostTimeout lane => decide (lane < 512)
  | .screenRotation lane => decide (lane < 512)
  | .stressSessionWrite _ at' => tickOk at'
  | .herrWrite _ at' => tickOk at'
  | .residueMismatch w at' => residueOk w && tickOk at'
  | .coreTestEnd ct core _ => decide (ct < 16) && decide (core < 34)
  | .kitLoad _ => true
  | .kitUnload => true
  | .packInstall _ => true
  | .packGet => true
  | .jobkey => true
  | .exportHistory => true
  | .mbSend => true
  | .mbRecv => true
  | .query => true
  | .queryClose => true
  | .bcast _ => true
  | .vigil => true
  | .seal => true
  | .restoreOpen _ => true
  | .restoreSeal => true
  | .sqTailDoorbell q _ _ at' => decide (q < 64) && tickOk at'
  | .cqHeadDoorbell q _ _ at' => decide (q < 64) && tickOk at'
  | .hqCfgWrite who q _ at' => whoOk .gremon who && decide (q < 64) && tickOk at'
  | .rqHeadDoorbell r _ at' => decide (r < 16) && tickOk at'
  | .msixCoalesce _ => true
  | .mgmtDatagram _ _ _ _ _ _ _ _ at' => tickOk at'
  | .mgmtReassemblyTimeout => true
  | .mbTxSend who _ at' => whoOk .ailen who && tickOk at'
  | .mbRxAck who at' => whoOk .ailen who && tickOk at'
  | .pcieReset at' => tickOk at'
  | .fbWrite p x at' => accessOk p x && tickOk at'
  | .fbUnsetApply _ => true
  | .indDataAccess p who w _ at' => whoOk p who && decide (w < 8) && tickOk at'
  | .indAccessFail _ w at' => decide (w < 8) && tickOk at'
  | .paritySweep p hit => hitOk p hit
  | .fullResetRequest _ who _ at' => whoOk .gremon who && tickOk at'
  | .fullReset t => selfTestOk t
  | .cdWatchdogExpiry => true
  | .hostWatchdogExpiry => true
  | .wdtKick _ at' => tickOk at'
  | .powerFailWarning _ _ at' => tickOk at'
  | .braceExit => true
  | .inputReset _ at' => tickOk at'
  | .powerGood _ => true
  | .porBoot t => selfTestOk t
  | .hwsetCommit => true
  | .pwrTargetWrite who _ at' => whoOk .gremon who && tickOk at'
  | .idleEntry => true
  | .guylineEnable => true
  | .podReadyTimeout => true
  | .stageChunk _ _ _ => true
  | .stageEnd _ _ _ _ => true
  | .schedule _ _ _ => true
  | .svcConfirm _ _ _ => true
  | .svcRevert _ _ _ => true
  | .svcToken _ _ _ => true
  | .svcStatus _ => true
  | .updCtlConfirm who _ at' => whoOk .gremon who && tickOk at'
  | .updCtlRevert who _ at' => whoOk .gremon who && tickOk at'
  | .activationTick => true
  | .fallbackReadyTimeout => true
  | .autoRevertTimeout => true
  | .tokenLapse => true
  | .spdmRequest _ _ _ => true
  | .bind _ mid => decide (mid < 2 ^ 16)
  | .alMeas _ _ lane => decide (lane < 512)
  | .erRelWrite who _ at' => whoOk .gremon who && tickOk at'
  | .erWindowRead p who k at' => whoOk p who && windowsOk p k && tickOk at'
  | .bbCompaction => true
  | .bbMirrorCopy => true
  | .bbCurWrite who _ _ at' => whoOk .gremon who && tickOk at'
  | .traceBranchFlush p src => srcOk p src
  | .traceSyncTimer p src => srcOk p src
  | .traceDrain => true
  | .traceTrigWrite who _ at' => whoOk .gremon who && tickOk at'
  | .traceTickTrigger => true
  | .traceStop => true
  | .selfTelemetryLatch _ => true
  | .thermalReading dies stks => decide (dies.length = 32) && decide (stks.length = 24)
  | .pwrEnFall at' => tickOk at'
  | .mainRstRelease at' => tickOk at'
  | .refclkReturn at' => tickOk at'
  | .aoclkRangeClear at' => tickOk at'
  | .glBlockLockAcquired e _ => endOk e
  | .rlAlignmentLock port lns at' => decide (port < 6) && decide (∀ l ∈ lns, l < 5) && tickOk at'
  | .cmdBadOp => true
  | .queryDeadline => true
  | .hostLinkTrained _ _ at' => tickOk at'
  | .wakeComplete at' => tickOk at'
  | .pwrEnRise => true
  | .recoveryCrossing _ _ at' => tickOk at'

end Sys2Proof
end

