-- ==== Sys2Proof/Laws/Step.lean ====
section
/-! SUPPORT. What a step can do: a command changes AILEN alone, or Gremon alone and settles it, or nothing; and a settled Gremon in
IDLE has no work. -/
namespace Sys2Proof.Machine
open Sys2Proof

/-- What decides whether there is work, and the power state. -/
def Gremon.idleView (g : Gremon) : Bool × Nat × Bool := (g.sys.pwr.rails, g.sys.pwr.pstate, g.working)

theorem foldl_idleView {α : Type} (f : Gremon → α → Gremon) (hf : ∀ g x, (f g x).idleView = g.idleView) (l : List α) :
    ∀ g, (l.foldl f g).idleView = g.idleView := by
  induction l with
  | nil => intro g; rfl
  | cons x l ih => intro g; rw [List.foldl_cons, ih, hf]

@[simp] theorem Gremon.count_idleView (g : Gremon) (c n : Nat) : (g.count c n).idleView = g.idleView := by
  unfold Gremon.count; split <;> rfl
@[simp] theorem Gremon.file_idleView (g : Gremon) (c j st s d) : (g.file c j st s d).idleView = g.idleView := by
  unfold Gremon.file; dsimp only; split
  · rfl
  · rw [Gremon.count_idleView]; rfl
@[simp] theorem Gremon.raise_idleView (g : Gremon) (e d) : (g.raise e d).idleView = g.idleView := g.file_idleView ..
@[simp] theorem Gremon.onBb_idleView (g : Gremon) (f) : (g.onBb f).idleView = g.idleView := rfl
@[simp] theorem Gremon.onTrc_idleView (g : Gremon) (f) : (g.onTrc f).idleView = g.idleView := rfl
@[simp] theorem Gremon.setRq_idleView (g : Gremon) (r q) : (g.setRq r q).idleView = g.idleView := rfl
@[simp] theorem Gremon.sealFor_idleView (g : Gremon) (m b) : (g.sealFor m b).2.idleView = g.idleView := rfl
@[simp] theorem Gremon.dmaWrite_idleView (g : Gremon) (a b) : (g.dmaWrite a b).idleView = g.idleView := by
  unfold Gremon.dmaWrite; split <;> rfl
@[simp] theorem Gremon.signalVec_idleView (g : Gremon) (v) : (g.signalVec v).idleView = g.idleView := by
  unfold Gremon.signalVec; dsimp only; repeat' split
  all_goals rfl
@[simp] theorem Gremon.ringWrite_idleView (g : Gremon) (b n i x) : (g.ringWrite b n i x).idleView = g.idleView := by
  unfold Gremon.ringWrite; simp
@[simp] theorem Gremon.deliverTo_idleView (g : Gremon) (r o) : (g.deliverTo r o).idleView = g.idleView := by
  unfold Gremon.deliverTo
  dsimp only
  repeat' split
  all_goals simp
@[simp] theorem Gremon.deliver_idleView (g : Gremon) (k p j b) : (g.deliver k p j b).idleView = g.idleView := by
  unfold Gremon.deliver
  exact foldl_idleView _ (fun g r => by split <;> simp) _ g
@[simp] theorem Gremon.bbFault_idleView (g : Gremon) (e) : (g.bbFault e).idleView = g.idleView := by
  unfold Gremon.bbFault Gremon.bbCommit; simp only [Gremon.onBb_idleView]; split <;> rfl
@[simp] theorem Gremon.traceFire_idleView (g : Gremon) : g.traceFire.idleView = g.idleView := by
  have hw : ∀ (g : Gremon) a b, (g.wrBytes a b).idleView = g.idleView := fun _ _ _ => rfl
  have hr : ∀ (g : Gremon) (r : RegFile), { g with regs := r }.idleView = g.idleView := fun _ _ => rfl
  have hp : ∀ g : Gremon, (g.poisonAt 31).idleView = g.idleView := fun g => by
    rw [Gremon.poisonAt, Gremon.count_idleView, Gremon.setFld, hr]
  have hf : ∀ (g : Gremon) a b, (g.wrFrom 31 a b).idleView = g.idleView := by
    intro g a b
    unfold Gremon.wrFrom
    split
    · rfl
    · dsimp only
      rw [hp]
      exact foldl_idleView _ (fun g p => by split <;> rfl) _ g
  have hc : (g.trcChunk 0xFFFF pktTrig).idleView = g.idleView := by
    unfold Gremon.trcChunk; dsimp only; repeat' split
    · rfl
    · simp only [Gremon.trcStop, Gremon.raise_idleView, Gremon.onTrc_idleView]
    · rw [Gremon.onTrc_idleView, hf, hf]; rfl
  unfold Gremon.traceFire; dsimp only; repeat' split
  all_goals simp [hc]
@[simp] theorem Gremon.offer_idleView (g : Gremon) (e) : (g.offer e).idleView = g.idleView := by
  unfold Gremon.offer
  simp only [apply_ite Gremon.idleView, Gremon.traceFire_idleView, Gremon.bbFault_idleView, Gremon.deliver_idleView,
    Gremon.count_idleView, ite_self]
@[simp] theorem Gremon.offerAll_idleView (g : Gremon) : g.offerAll.idleView = g.idleView := by
  unfold Gremon.offerAll
  exact foldl_idleView _ (fun g e => g.offer_idleView e) _ _

/-- IDLE ends with the first work. -/
theorem Gremon.idleExit_restful (g : Gremon) : g.idleExit.restful = true := by
  unfold Gremon.idleExit Gremon.restful
  split
  · simp [Gremon.onPwr]
  · rename_i h
    by_cases hp : g.sys.pwr.pstate = 1 <;> simp_all

/-- A settled Gremon is not in IDLE with work to do. -/
theorem Gremon.settle_restful (g : Gremon) : g.settle.restful = true := by
  have hv : ∀ a b : Gremon, a.idleView = b.idleView → a.restful = b.restful := by
    intro a b h
    simp only [Gremon.idleView, Prod.mk.injEq] at h
    simp [Gremon.restful, h.1, h.2.1, h.2.2]
  unfold Gremon.settle
  split
  · refine (hv _ _ ?_).trans (Gremon.idleExit_restful g.haltsSettle.redSignals.podContribute)
    have hc : ∀ k : Gremon, k.clear.idleView = k.idleView := fun _ => rfl
    simp only [hc, Gremon.offerAll_idleView]
  · rename_i h
    simp only [Bool.not_eq_true] at h
    simp [Gremon.restful, Gremon.clear, h]

/-- Every command but the PT step: what it answers. -/
theorem exec_shape (c : Instr) (s : State) (hc : ∀ x, c ≠ .ptStepTick x) :
    (∃ a, exec c s = .next (s.withA a)) ∨ (∃ g, exec c s = .next (s.withG g)) ∨ exec c s = .next s := by
  cases c
  all_goals first
    | exact .inl ⟨_, rfl⟩
    | exact .inr (.inl ⟨_, rfl⟩)
    | exact absurd rfl (hc _)
    | (unfold exec
       dsimp only [execActivationTick, execAdd, execAddi, execAlJtJobWrite, execAlMeas, execAlignSolve, execAlmanacCalibration,
    execAnd, execAndi, execAoPorAssert, execAoPorRelease, execAoclkRange, execAoclkRangeClear, execAutoRevertTimeout,
    execBackRx, execBankClear, execBara, execBarw, execBbCompaction, execBbCurWrite, execBbMirrorCopy, execBcast,
    execBcastTimeout, execBeq, execBge, execBind, execBlt, execBne, execBp, execBraceExit, execCanopyLinkFail,
    execCapCommit, execCdWatchdogExpiry, execCdec, execCdecDone, execCenc, execCencDone, execCertRx, execCertreqRx,
    execChildPortDown, execCkptTriggerEval, execCktEnable, execCmdBadOp, execCmdRead, execCmdScreenStart, execCmdUcode,
    execCmdVigilArm, execCmdWrite, execCmp, execCoreTestEnd, execCqHeadDoorbell, execCusum, execCusumDone, execCvt,
    execDiv, execEccError, execEnumAckRx, execEnumRx, execErRelWrite, execErWindowRead, execEvclr, execEventRx,
    execEvpIncrement, execEvset, execEvw, execEwma, execEwmaDone, execExportAbort, execExportCancel, execExportHistory,
    execExportPageCopy, execFabs, execFadd, execFallbackReadyTimeout, execFbUnsetApply, execFbWrite, execFcmp,
    execFdiv, execFecWindowEnd, execFeedPeriod, execFenceC, execFenceL, execFenceT, execFenceX, execFma, execFmax,
    execFmin, execFmul, execFneg, execFrameBoundary, execFrameTickHiWrite, execFsqrt, execFsub, execFullReset,
    execFullResetRequest, execGlBlockLockAcquired, execGlBlockLockLoss, execGlCrcSilence, execGlCreditTimer,
    execGlCtlCredit, execGlCtlLane, execGlCtlNak, execGlCtlRate, execGlDataFrameRx, execGlInitRepeat, execGlInitRx,
    execGlNakRepeat, execGlNullFrameRx, execGlReplayTimeout, execGlTrainRetry, execGlTrainStart, execGlTxSlot,
    execGremonVigilTick, execGuylineEnable, execHalt, execHbmScrub, execHclkLost, execHclkRecover, execHcmdRx,
    execHcmdUnreach, execHelloRx, execHelloTimer, execHerrWrite, execHins, execHinsDone, execHistoryFile, execHmrg,
    execHmrgDone, execHoldExpired, execHostLinkTrained, execHostWatchdogExpiry, execHqCfgWrite, execHrspRx,
    execHwsetCommit, execIdleEntry, execIllegalOpcode, execIndAccessFail, execIndDataAccess, execInputReset, execJal,
    execJalr, execJobkey, execJoinAckRx, execJoinRx, execKitLoad, execKitRestart, execKitStart, execKitUnload,
    execKitUnloadDone, execLadderWatch, execLanternRead, execLd, execLi, execLih, execLoReadLatch, execLockLossTimeout,
    execMackRx, execMainRstAssert, execMainRstRelease, execMax, execMbRecv, execMbRxAck, execMbSend, execMbTxSend,
    execMboxRxAilen, execMboxRxGremon, execMbr, execMbs, execMbxDoorbell, execMcertUnavailable,
    execMemberDeclareFailed, execMfs, execMgmtDatagram, execMgmtReassemblyTimeout, execMin, execMsixCoalesce, execMsnd,
    execMsndUnreach, execMts, execMul, execMulh, execNop, execOppPackets, execOr, execOri, execPackGet,
    execPackInstall, execPand, execParentFail, execParitySweep, execPcieReset, execPeriodCloseDeadline, execPfromg,
    execPhaseDeadline, execPlanApplyTimeout, execPnot, execPodReadyTimeout, execPor, execPorBoot, execPowerFailWarning,
    execPowerGood, execPruneRx, execPtLoRead, execPtStepTick, execPtog, execPwrAbrupt, execPwrEnFall, execPwrEnRise,
    execPwrTargetWrite, execPxor, execQansDeadline, execQuery, execQueryClose, execQueryDeadline, execRecoveryCrossing,
    execReducePrimaryDone, execReduceVerdict, execRefclkLost, execRefclkReturn, execRegisterWrite, execRehomeRx,
    execRem, execRemapCommit, execReplicaRealign, execResidueMismatch, execRestoreOpen, execRestoreSeal,
    execRetentionEnd, execRett, execRlAlignmentLock, execRlBcastRx, execRlCreditTimer, execRlCtlCredit, execRlCtlLane,
    execRlCtlNak, execRlDataFlitRx, execRlFeedRx, execRlInitRx, execRlLadderRx, execRlLaneLockLoss, execRlLanternRx,
    execRlLatencySample, execRlManifestRx, execRlMsgRx, execRlNakRepeat, execRlNullFlitRx, execRlPortDown,
    execRlQansRx, execRlQueryRx, execRlReduceRx, execRlReplayTimeout, execRlTrainStart, execRlTxSlot,
    execRootSiteWaitExpiry, execRootStale, execRqHeadDoorbell, execRspRx, execSampleBlockCoded, execSampleRx,
    execSchedule, execScoringBoundary, execScrDoneWrite, execScrGrant, execScrGrantFall, execScrRevoke,
    execScreenLostTimeout, execScreenRotation, execScreenRx, execScreenTimerExpiry, execScreenWaitExpiry, execSdKeySet,
    execSeal, execSegdRx, execSelfTelemetryLatch, execSemp, execSemv, execSensorToggle, execSgo, execShadowEntryDone,
    execShadowEntryRequest, execShadowExitDone, execShadowExitRequest, execShardRx, execSiteSyncMessage, execSld,
    execSll, execSlli, execSpdmRequest, execSqTailDoorbell, execSqcClearWrite, execSra, execSrai, execSramScrub,
    execSrl, execSrli, execSst, execSt, execStackFail, execStageChunk, execStageEnd, execStaleExpiry, execStbyFail,
    execStepCloseWindow, execStepNumHiWrite, execStepNumLoWrite, execStest, execStpBeat, execStpTransferClose,
    execStpTransferOpen, execStreamEnd, execStressSessionWrite, execSub, execSvcConfirm, execSvcRevert, execSvcStatus,
    execSvcToken, execSwait, execSyrd, execThermalReading, execTimeExchangeOpen, execTimeReqRx, execTimeRspRx,
    execTkin, execTkinDone, execTkmrg, execTkmrgDone, execTokenLapse, execTraceBranchFlush, execTraceDrain,
    execTraceRx, execTraceStop, execTraceSyncTimer, execTraceTickTrigger, execTraceTrigWrite, execTrap, execTrd,
    execTrdx, execTreeFormed, execTrpRetirement, execTsqHeadRead, execTsub, execTsubDone, execTwait, execUpdCtlConfirm,
    execUpdCtlRevert, execVabs, execVadd, execVand, execVbcast, execVcmp, execVcvt, execVdiv, execVectorIssue,
    execVerdictTimeout, execVext, execVfma, execVigil, execVigilBankRx, execVigilClose, execVigilResumeTick,
    execVigilSnapshotA, execVigilSnapshotB, execVigilTick, execVigilWSample, execVins, execVld, execVmax, execVmin,
    execVmul, execVneg, execVor, execVred, execVsel, execVsll, execVsqrt, execVsra, execVsrl, execVst, execVsub,
    execVxor, execWaitpt, execWaitptRelease, execWakeComplete, execWdtKick, execXor, execXori,
         writeAt, readAt, windowAt, onPartAt, onPart, onLink]
       (repeat' split) <;> first | exact .inl ⟨_, rfl⟩ | exact .inr (.inl ⟨_, rfl⟩))

end Sys2Proof.Machine
end

