-- ==== Sys2Proof/Tests/Slice0.lean ====
section
/-! SUPPORT. Tests: ill-formed commands are refused; for each statement, states and operands that meet its hypotheses; words
and records written out from the spec's layouts. -/
namespace Sys2Proof.Tests
open Sys2Proof Sys2Proof.Machine

/-! ### Small states -/

/-- A Gremon that has booted. -/
def gUp : Gremon := { Gremon.reset with sys := { Sys.reset with pwr := { Power.reset with ready := true } } }
def sG (g : Gremon) : State := { State.reset with g := g }
def sA (a : Ailen) : State := { State.reset with a := a }

/-- A Brutu word of Table 7.9: opcode, D, A, B, FMT and the bits below. -/
def bw (op d a b f low : Nat) : Nat := op * 2 ^ 56 + d * 2 ^ 51 + a * 2 ^ 46 + b * 2 ^ 41 + f * 2 ^ 37 + low

/-- A core at PC 0x1000 of a code window of 4 KiB, with a handler, and registers given. -/
def bcore (g : List (Nat × Nat)) : BCore :=
  { BCore.idle with run := true, pc := 0x1000, codeBase := 0x1000, codeSize := 0x1000, tvec := 0x1800
                    g := g.map fun e => (e.1, BitVec.ofNat 64 e.2) }
/-- Core 0 as `c`, about to issue the word `w`. -/
def sCore (c : BCore) (w : Nat) : State :=
  sG { gUp with cores := [(0, c)], mem := memPut [] (spadCna 0 c.pc.toNat) (leBytes 8 w) }

def issuesB (s : State) (n op cy : Nat) : Bool :=
  s.g.sys.pwr.rails && decide (n < 512) && (s.g.core n).canIssue && !s.g.linePoison (spadCna n (s.g.core n).pc.toNat) 8 &&
    decide (wOp (s.g.fetchWord n) = op) && wordOk (s.g.fetchWord n) && decide ((s.g.core n).issueAt (s.g.fetchWord n) = some cy)
theorem issues_of {s : State} {n op cy : Nat} (h : issuesB s n op cy = true) : s.Issues n op cy := by
  simp only [issuesB, Bool.and_eq_true, decide_eq_true_eq, Bool.not_eq_true'] at h
  obtain ⟨⟨⟨⟨⟨⟨a, b⟩, c⟩, d⟩, e⟩, f⟩, g⟩ := h
  exact ⟨a, b, c, d, e, f, g⟩
/-- No stream or command writes where none is open. -/
theorem writing_none {g : Gremon} (h : (g.cores.all fun c => c.2.streams.isEmpty) = true) (e : g.eng = []) (x : Nat) :
    g.writing none x = false := by
  simp only [Gremon.writing, e, List.any_nil, Bool.or_false, List.any_eq_false, List.all_eq_true, List.isEmpty_iff] at *
  intro c hc
  simp [h c hc]
def flowsB (s : State) (n op cy : Nat) : Bool := issuesB s n op cy && (s.g.core n).inCode ((s.g.core n).pc.toNat + 8)
theorem flows_of {s : State} {n op cy : Nat} (h : flowsB s n op cy = true) : s.Flows n op cy := by
  simp only [flowsB, Bool.and_eq_true] at h
  exact ⟨issues_of h.1, h.2⟩
/-! ### Brutu scalar statements -/

/-- Words of form R and I: opcode, format, operands and low bits. -/
def scalarWords : List (Nat × Nat) :=
  [(0x01, bw 0x01 0 0 0 0 0), (0x17, bw 0x17 1 2 0 1 5), (0x1F, bw 0x1F 1 0 0 1 7)] ++
  [0x02, 0x03, 0x04, 0x05, 0x06, 0x07, 0x08, 0x09, 0x0A, 0x0B, 0x0C, 0x0E, 0x0F, 0x10, 0x11].map (fun op => (op, bw op 1 2 3 3 0)) ++
  [0x18, 0x19, 0x1A, 0x1B, 0x1C, 0x1D, 0x1E].map (fun op => (op, bw op 1 2 0 0 9)) ++
  [0x20, 0x21, 0x22, 0x23, 0x26, 0x27, 0x28].map (fun op => (op, bw op 1 2 3 4 0)) ++
  [0x24, 0x29, 0x2A, 0x2B].map (fun op => (op, bw op 1 2 0 4 0)) ++ [(0x25, bw 0x25 1 2 3 4 (4 * 2 ^ 32))]

theorem wit_BrutuIntegers : ∀ e ∈ scalarWords, (sCore (bcore [(2, 6), (3, 4)]) e.2).Flows 0 e.1 0 := by
  have h : scalarWords.all (fun e => flowsB (sCore (bcore [(2, 6), (3, 4)]) e.2) 0 e.1 0) = true := by decide
  intro e he
  exact flows_of (List.all_eq_true.mp h e he)

/-- A divisor other than 0, 0, and −1 under the most negative I32. -/
theorem wit_BrutuDivision :
    (let s := sCore (bcore [(2, 6), (3, 4)]) (bw 0x10 1 2 3 3 0)
     s.Flows 0 0x10 0 ∧ elemInt 3 ((s.g.core 0).opB (s.g.fetchWord 0)) ≠ 0) ∧
    (let s := sCore (bcore [(2, 6), (3, 0)]) (bw 0x11 1 2 3 3 0)
     s.Flows 0 0x11 0 ∧ elemInt 3 ((s.g.core 0).opB (s.g.fetchWord 0)) = 0) ∧
    (let s := sCore (bcore [(2, 0x80000000), (3, 0xFFFFFFFF)]) (bw 0x10 1 2 3 3 0)
     s.Flows 0 0x10 0 ∧ elemInt 3 ((s.g.core 0).opA (s.g.fetchWord 0)) = -2 ^ 31 ∧ elemInt 3 ((s.g.core 0).opB (s.g.fetchWord 0)) = -1) :=
  ⟨⟨flows_of (by decide), by decide⟩, ⟨flows_of (by decide), by decide⟩, flows_of (by decide), by decide, by decide⟩

/-- LQ16 operands, a NaN operand, and a sum beyond the FP8 range. -/
theorem wit_BrutuFloats :
    (sCore (bcore []) (bw 0x22 1 2 3 9 0)).Flows 0 0x22 0 ∧ (sCore (bcore []) (bw 0x23 1 2 3 9 0)).Flows 0 0x23 0 ∧
    (sCore (bcore []) (bw 0x2A 1 2 0 9 0)).Flows 0 0x2A 0 ∧ (sCore (bcore []) (bw 0x2B 1 2 0 9 0)).Flows 0 0x2B 0 ∧
    fmtLq 9 = true ∧ fmtFp 4 = true ∧ Val.isNan (.nan true) = true ∧ (480 * 2 ^ 9 ≤ 480 * 2 ^ 9) :=
  ⟨flows_of (by decide), flows_of (by decide), flows_of (by decide), flows_of (by decide), by decide, by decide, by decide, by decide⟩

/-- An aligned load and store, and the three traps of each, at the ends of their ranges. -/
theorem wit_BrutuMemory :
    (let s := sCore (bcore [(2, 0x1FFFF8)]) (bw 0x60 1 2 0 1 0)
     s.Flows 0 0x60 0 ∧ (s.g.core 0).addrM (s.g.fetchWord 0) = 0x1FFFF8 ∧ s.g.linePoison (spadCna 0 0x1FFFF8) 8 = false ∧
       ∀ x, s.g.writing none x = false) ∧
    (let s := sCore (bcore [(2, 0x2000)]) (bw 0x61 0 2 3 1 0)
     s.Flows 0 0x61 0 ∧ (s.g.core 0).addrM (s.g.fetchWord 0) = 0x2000 ∧ (s.g.core 0).inCode 0x2000 = false) ∧
    (let s := sCore (bcore [(2, 0x200000)]) (bw 0x61 0 2 3 1 0)
     s.Issues 0 0x61 0 ∧ (s.g.core 0).addrM (s.g.fetchWord 0) = 0x200000 ∧ (s.g.core 0).vq = [] ∧ (s.g.core 0).tvec ≠ 0 ∧
       (s.g.core 0).inTrap = false) ∧
    (let s := sCore (bcore [(2, 0x1FF8)]) (bw 0x61 0 2 3 1 0)
     s.Issues 0 0x61 0 ∧ (s.g.core 0).inCode ((s.g.core 0).addrM (s.g.fetchWord 0)) = true) ∧
    (let s := sCore (bcore [(2, 65)]) (bw 0x62 1 2 0 0 0)
     s.Issues 0 0x62 0 ∧ (s.g.core 0).addrM (s.g.fetchWord 0) % 64 ≠ 0) :=
  ⟨⟨flows_of (by decide), by decide, by decide, writing_none (by decide) rfl⟩, ⟨flows_of (by decide), by decide, by decide⟩,
   ⟨issues_of (by decide), by decide, by decide, by decide, by decide⟩, ⟨issues_of (by decide), by decide⟩, issues_of (by decide), by decide⟩

def branchWords : List (Nat × Nat) :=
  [(0x70, bw 0x70 0 2 3 0 2), (0x71, bw 0x71 0 2 3 0 2), (0x72, bw 0x72 0 2 3 1 2), (0x73, bw 0x73 0 2 3 1 2), (0x74, bw 0x74 0 2 1 0 2),
   (0x75, bw 0x75 1 0 0 0 2), (0x76, bw 0x76 1 2 0 0 0), (0x77, bw 0x77 0 0 0 0 5), (0x78, bw 0x78 0 0 0 0 0), (0x79, bw 0x79 0 0 0 0 0),
   (0x7A, bw 0x7A 1 0 0 0 0x1FF), (0x7B, bw 0x7B 0 2 0 0 2)]
theorem wit_BrutuControl :
    (∀ e ∈ branchWords, (sCore (bcore [(2, 0x1010)]) e.2).Issues 0 e.1 0) ∧ (bcore []).inCode 0x1010 = true ∧
    (bcore []).inCode 0x1008 = true ∧ (bcore []).vq = [] ∧ (bcore []).tvec ≠ 0 ∧ (bcore []).inTrap = false ∧
    (sCore { bcore [] with epc := 0x1008, inTrap := true } (bw 0x78 0 0 0 0 0)).Issues 0 0x78 0 ∧
    (sCore { bcore [] with tvec := 0 } (bw 0x77 0 0 0 0 5)).Issues 0 0x77 0 ∧
    (sCore { bcore [] with inTrap := true } (bw 0x77 0 0 0 0 5)).Issues 0 0x77 0 ∧
    (∀ c ∈ [bcore [], { bcore [] with inTrap := true }, { bcore [] with tvec := 0 }],
      let s := sCore c (bw 0xFF 0 0 0 0 0)
      s.g.sys.pwr.rails = true ∧ (s.g.core 0).canIssue = true ∧ wordOk (s.g.fetchWord 0) = false ∧
        s.g.linePoison (spadCna 0 0x1000) 8 = false ∧ (s.g.core 0).vq = []) := by
  have h : branchWords.all (fun e => issuesB (sCore (bcore [(2, 0x1010)]) e.2) 0 e.1 0) = true := by decide
  exact ⟨fun e he => issues_of (List.all_eq_true.mp h e he), by decide, by decide, by decide, by decide, by decide,
    issues_of (by decide), issues_of (by decide), issues_of (by decide), by decide⟩

/-- MFS and MTS flow; TVEC of a misaligned address traps. -/
theorem wit_BrutuSpecial :
    (sCore (bcore []) (bw 0x7A 1 0 0 0 9)).Flows 0 0x7A 0 ∧ (sCore (bcore [(2, 0x1008)]) (bw 0x7B 0 2 0 0 2)).Flows 0 0x7B 0 ∧
    (let s := sCore (bcore [(2, 0x1004)]) (bw 0x7B 0 2 0 0 2)
     s.Issues 0 0x7B 0 ∧ (s.g.core 0).rg 2 % 8 ≠ 0) :=
  ⟨flows_of (by decide), flows_of (by decide), issues_of (by decide), by decide⟩
/-! ### Brutu vector, streams, engines, Sync Hub and messages -/

/-- Core 0 as `c`, about to issue `w`, with bytes placed in its scratchpad. -/
def sCoreM (c : BCore) (w : Nat) (m : List (Nat × List Byte)) : State :=
  sG { gUp with cores := [(0, c)]
                mem := m.foldl (fun x e => memPut x (spadCna 0 e.1) e.2) (memPut [] (spadCna 0 c.pc.toNat) (leBytes 8 w)) }
/-- Core 0 with the word `w` at the head of its vector queue. -/
def gVec (w addr : Nat) : Gremon :=
  { gUp with cores := [(0, { bcore [] with vq := [⟨BitVec.ofNat 64 w, 0x1000, 7, addr, 0⟩], v := [(2, 5), (3, 9)], p := [(2, 3)] })] }
theorem vecHead (w addr op : Nat) (h : (wOp (BitVec.ofNat 64 w).toNat = op ∧ wordOk (BitVec.ofNat 64 w).toNat = true)) :
    (gVec w addr).VectorHead 0 ⟨BitVec.ofNat 64 w, 0x1000, 7, addr, 0⟩ [] op :=
  ⟨rfl, by decide, rfl, rfl, rfl, rfl, h.1, h.2⟩

/-- Vector words: two-operand, one-operand, predicate, lane and memory forms. -/
def vecWords : List (Nat × Nat) :=
  [0x40, 0x41, 0x42, 0x46, 0x47, 0x48, 0x49, 0x4A, 0x4B, 0x4C, 0x4D, 0x4E, 0x54].map (fun op => (op, bw op 1 2 3 3 0)) ++
  [(0x43, bw 0x43 1 2 3 4 (4 * 2 ^ 32)), (0x44, bw 0x44 1 2 3 4 0), (0x45, bw 0x45 1 2 0 4 0), (0x4F, bw 0x4F 1 2 0 5 0),
   (0x50, bw 0x50 1 2 0 3 0), (0x51, bw 0x51 1 2 0 3 15), (0x52, bw 0x52 1 2 0 3 15), (0x53, bw 0x53 1 2 0 3 0), (0x55, bw 0x55 1 2 0 3 0),
   (0x56, bw 0x56 1 2 0 3 0), (0x58, bw 0x58 1 2 3 0 0), (0x59, bw 0x59 1 2 3 0 0), (0x5A, bw 0x5A 1 2 3 0 0), (0x5B, bw 0x5B 1 2 0 0 0),
   (0x5C, bw 0x5C 1 2 0 0 0), (0x5D, bw 0x5D 1 2 0 0 0), (0x62, bw 0x62 1 2 0 3 0), (0x63, bw 0x63 0 2 3 3 0)]

theorem wit_VectorQueue : ∀ e ∈ vecWords, (sCore (bcore [(2, 0x40)]) e.2).Flows 0 e.1 0 := by
  have h : vecWords.all (fun e => flowsB (sCore (bcore [(2, 0x40)]) e.2) 0 e.1 0) = true := by decide
  exact fun e he => flows_of (List.all_eq_true.mp h e he)
theorem wit_VectorQueue_address : (let s := sCore (bcore [(2, 0x1FFFC0)]) (bw 0x63 0 2 3 3 0)
    s.Flows 0 0x63 0 ∧ (s.g.core 0).addrM (s.g.fetchWord 0) = 0x1FFFC0 ∧ (s.g.core 0).inCode 0x1FFFC0 = false) :=
  ⟨flows_of (by decide), by decide, by decide⟩
/-- Every vector word at the head of the queue: what VECTOR_ISSUE's statements ask. -/
theorem wit_VectorIssue : ∀ e ∈ vecWords, (sG (gVec e.2 0x40)).g.VectorHead 0 ⟨BitVec.ofNat 64 e.2, 0x1000, 7, 0x40, 0⟩ [] e.1 ∧
    (sG (gVec e.2 0x40)).g.linePoison (spadCna 0 0x40) 64 = false := by
  have h : vecWords.all (fun e => decide (wOp (BitVec.ofNat 64 e.2).toNat = e.1) && wordOk (BitVec.ofNat 64 e.2).toNat) = true := by decide
  intro e he
  have := List.all_eq_true.mp h e he
  simp only [Bool.and_eq_true, decide_eq_true_eq] at this
  exact ⟨vecHead _ _ _ this, rfl⟩

/-- A LINEAR descriptor of one row of `len` bytes from one end to another. -/
def sdOne (src dst len : Nat) : List Byte :=
  leBytes 8 (2 ^ 48 + src) ++ leBytes 8 (2 ^ 48 + dst) ++ leBytes 4 len ++ leBytes 4 1 ++ List.replicate 40 0
def strm (s : Nat) (d : List Byte) : Stream := ⟨s, d, [], 0, 0, []⟩

/-- A LIST descriptor of one row, its index at 0x4000. -/
def sdList : List Byte :=
  leBytes 8 (2 ^ 48 + 0x100) ++ leBytes 8 (2 ^ 48 + 0x2000) ++ leBytes 4 64 ++ leBytes 4 1 ++ List.replicate 16 0 ++ leBytes 4 2 ++
    leBytes 4 0 ++ leBytes 4 0x4000 ++ List.replicate 12 0

theorem wit_Streams :
    (let s := sCore (bcore [(2, 0x1FFFC0)]) (bw 0x80 1 2 0 0 0)
     s.Flows 0 0x80 0 ∧ (s.g.core 0).addrM (s.g.fetchWord 0) = 0x1FFFC0 ∧ s.g.linePoison (spadCna 0 0x1FFFC0) 64 = false ∧
       (∀ x, s.g.writing none x = false) ∧ (s.g.core 0).active 1 = false) ∧
    (let s := sCore { bcore [(2, 0x40)] with streams := [strm 1 (sdOne 0x100 0x200 8)] } (bw 0x80 1 2 0 0 0)
     s.Issues 0 0x80 0 ∧ (s.g.core 0).active (wD (s.g.fetchWord 0)) = true ∧ (s.g.core 0).vq = [] ∧ (s.g.core 0).tvec ≠ 0 ∧
       (s.g.core 0).inTrap = false) ∧
    (sCore (bcore [(2, 0x40)]) (bw 0x81 0 2 1 0 0)).Flows 0 0x81 0 ∧
    (let s := sCore { bcore [] with s := [(2, sdOne 0x100 0x2000 64)] } (bw 0x82 0 2 0 0 0)
     s.Flows 0 0x82 0 ∧ sdMode ((s.g.core 0).rs 2) = 0 ∧ s.g.sgoCheck 0 (s.g.core 0) 2 ((s.g.core 0).rs 2) [] = none) ∧
    (let s := sCore { bcore [] with s := [(2, sdList)] } (bw 0x82 0 2 0 0 0)
     s.Flows 0 0x82 0 ∧ sdMode ((s.g.core 0).rs 2) = 2 ∧ s.g.linePoison (spadCna 0 0x4000) 4 = false ∧ (∀ x, s.g.writing none x = false) ∧
       s.g.sgoCheck 0 (s.g.core 0) 2 ((s.g.core 0).rs 2) [s.g.rd (spadCna 0 0x4000) 4] = none) ∧
    (let s := sCore { bcore [] with s := [(2, sdSetStatus (sdOne 0x100 0x2000 64) 2)] } (bw 0x83 0 2 0 0 0)
     s.Flows 0 0x83 0 ∧ (s.g.core 0).active 2 = false ∧ bits (sdStatus ((s.g.core 0).rs 2)) 1 0 ≠ 3) ∧
    (sCore (bcore []) (bw 0x84 1 2 0 0 0)).Flows 0 0x84 0 ∧
    (let d := sdOne 0x100 0x2000 64
     let s := sG { gUp with cores := [(0, { bcore [] with streams := [strm 2 d] })] }
     ((s.g.core 0).streams.find? fun t => decide (t.s = 2)) = some (strm 2 d) ∧ sdMode d = 0 ∧ sdRows d = 1 ∧
       (sdSync d).testBit 14 = false ∧ s.g.rowFault 0 (strm 2 d) 0 = none ∧ sdSrcRow 0 d [] 0 + 64 ≤ sdDstRow 0 d 0 ∧
       sdDstRow 0 d 0 + 64 ≤ 2 ^ 47 ∧ s.g.flits.contains 0 = false ∧ ∀ a, s.g.openByte [] (some (0, 0)) a = false) :=
  ⟨⟨flows_of (by decide), by decide, by decide, writing_none (by decide) rfl, by decide⟩,
   ⟨issues_of (by decide), by decide, by decide, by decide, by decide⟩, flows_of (by decide), ⟨flows_of (by decide), by decide, by decide⟩,
   ⟨flows_of (by decide), by decide, by decide, writing_none (by decide) rfl, by decide⟩, ⟨flows_of (by decide), by decide, by decide⟩,
   flows_of (by decide), by decide, by decide, by decide, by decide, by decide, by decide, by decide, by decide,
   fun a => by simp [Gremon.openByte, Gremon.byte, Gremon.writing, sG, gUp, Gremon.reset, strm, Tbl.get]⟩

/-- A command block (Table 8.5): IN, OUT, AUX in the own scratchpad, N, P0, P1. -/
def blk (i o x n p0 p1 : Nat) : List Byte :=
  leBytes 8 (2 ^ 48 + i) ++ leBytes 8 (2 ^ 48 + o) ++ leBytes 8 x ++ leBytes 4 n ++ leBytes 4 p0 ++ leBytes 8 p1 ++ List.replicate 16 0
def engBlocks : List (Nat × Nat × List Byte) :=
  [(0x90, 1, blk 0x100 0x2000 0 1 1 0), (0x91, 0, blk 0x4000 0x2000 0 1 0 0), (0x92, 1, blk 0x100 0x2000 (2 ^ 48 + 0x200) 1 1 0),
   (0x93, 1, blk 0x4000 0x2000 0 1 64 0), (0x94, 1, blk 0x100 0x2000 0 1 1 0), (0x95, 1, blk 0x100 0x2000 (2 ^ 48 + 0x200) 1 0 (2 ^ 48 + 0x3000)),
   (0x96, 0, blk 0x100 0x2000 0 0 5 0), (0x98, 0, blk 0x100 0x2000 (2 ^ 48 + 0x4000) 1 0 8), (0x99, 0, blk 0x100 0x2000 (2 ^ 48 + 0x4000) 1 0 8)]
def cEng : BCore := { bcore [(2, 0x600)] with grants := { BCore.idle.grants with kit := 1, ens := [5] } }
def sEng (e : Nat × Nat × List Byte) : State :=
  let s := sCoreM cEng (bw e.1 0 2 0 e.2.1 0) [(0x600, e.2.2)]
  { s with g := { s.g with ens := [⟨5, 1, 1, 0, []⟩] } }

theorem wit_EngineIssue : ∀ e ∈ engBlocks, (sEng e).Flows 0 e.1 0 ∧ ((sEng e).g.core 0).addrM ((sEng e).g.fetchWord 0) = 0x600 ∧
    (sEng e).g.linePoison (spadCna 0 0x600) 64 = false ∧ (∀ x, (sEng e).g.writing none x = false) ∧
    (sEng e).g.engCheck 0 ((sEng e).g.core 0) e.1 e.2.1 0x600 ((sEng e).g.rdBytes (spadCna 0 0x600) 56) = none := by
  have h : engBlocks.all (fun e => flowsB (sEng e) 0 e.1 0 && decide (((sEng e).g.core 0).addrM ((sEng e).g.fetchWord 0) = 0x600) &&
    !(sEng e).g.linePoison (spadCna 0 0x600) 64 &&
    decide ((sEng e).g.engCheck 0 ((sEng e).g.core 0) e.1 e.2.1 0x600 ((sEng e).g.rdBytes (spadCna 0 0x600) 56) = none)) = true := by decide
  intro e he
  have := List.all_eq_true.mp h e he
  simp only [Bool.and_eq_true, decide_eq_true_eq, Bool.not_eq_true'] at this
  exact ⟨flows_of this.1.1.1, this.1.1.2, this.1.2, writing_none rfl rfl, this.2⟩
theorem wit_EngineIssue_twait :
    (let s := sCore { bcore [(2, 1)] with ticket := 1, results := [(1, 0)] } (bw 0x97 1 2 0 0 0)
     s.Flows 0 0x97 0 ∧ (s.g.core 0).ticketOk ((s.g.core 0).rg 2) = true ∧ Tbl.find (s.g.core 0).results ((s.g.core 0).rg 2) = some 0) ∧
    (let s := sCore (bcore [(2, 1)]) (bw 0x97 1 2 0 0 0)
     s.Issues 0 0x97 0 ∧ (s.g.core 0).ticketOk ((s.g.core 0).rg 2) = false ∧ (s.g.core 0).tvec ≠ 0 ∧ (s.g.core 0).inTrap = false) :=
  ⟨⟨flows_of (by decide), by decide, by decide⟩, issues_of (by decide), by decide, by decide, by decide⟩
/-! ### Engines that finish, objects, fences, time and messages -/

/-- An engine command of core 0 for the block at 0x600, alone in its queue. -/
def gEng (op f : Nat) (b : List Byte) : Gremon := { gUp with eng := [⟨0, opEngine op, op, f, b, 0x600, 1, 0, []⟩] }
set_option maxRecDepth 100000 in
theorem wit_EngineDone : ∀ e ∈ engBlocks.filter (fun e => decide (e.1 ≠ 0x96)),
    (gEng e.1 e.2.1 e.2.2).sys.pwr.rails = true ∧
    (gEng e.1 e.2.1 e.2.2).engHead 0 e.1 = some ⟨0, opEngine e.1, e.1, e.2.1, e.2.2, 0x600, 1, 0, []⟩ ∧
    (gEng e.1 e.2.1 e.2.2).engPoison ⟨0, opEngine e.1, e.1, e.2.1, e.2.2, 0x600, 1, 0, []⟩ = false ∧
    (gEng e.1 e.2.1 e.2.2).engOpen ⟨0, opEngine e.1, e.1, e.2.1, e.2.2, 0x600, 1, 0, []⟩ = [] ∧
    (gEng e.1 e.2.1 e.2.2).engFlit ⟨0, opEngine e.1, e.1, e.2.1, e.2.2, 0x600, 1, 0, []⟩ = false := by decide
set_option maxRecDepth 100000 in
/-- A flit in error on its way to CT 0, and a command there whose IN lies beyond the mesh. -/
theorem wit_EngineDone_flit :
    (let b := leBytes 8 (hbmCna 0) ++ (blk 0 0x2000 (2 ^ 48 + 0x200) 1 1 0).drop 8
     let g := { gEng 0x92 1 b with flits := [0] }
     g.engHead 0 0x92 = some ⟨0, opEngine 0x92, 0x92, 1, b, 0x600, 1, 0, []⟩ ∧
       g.engFlit ⟨0, opEngine 0x92, 0x92, 1, b, 0x600, 1, 0, []⟩ = true) := by decide
set_option maxRecDepth 100000 in
/-- A histogram that counts a positive value. -/
theorem wit_EngineDone_hins :
    (let g := gEng 0x90 1 (blk 0x100 0x2000 0 1 1 0)
     let m := memPut [] (spadCna 0 0x100) (leBytes 8 5)
     let e : EngCmd := ⟨0, .sketch, 0x90, 1, blk 0x100 0x2000 0 1 1 0, 0x600, 1, 0, m⟩
     let g := { g with mem := m, eng := [e] }
     g.engHead 0 0x90 = some e ∧ g.engOpen e = [] ∧ g.engFlit e = false ∧ g.engPoison e = false ∧ 1 ≤ cbP0 e.block ∧
       g.flowPoison 0 (spadCna 0 0x100) 8 = false ∧ g.flowPoison 0 (spadCna 0 0x2000) histBytes = false ∧
     cbN e.block = 1 ∧ cbAux e.block = 0 ∧ histOk (g.rdBytes (spadCna 0 0x2000) 64) = true ∧ g.rd (spadCna 0 0x2008) 8 + 1 < cntMax ∧
       hNegative 1 (g.engElem e 0) = false ∧ g.engElem e 0 = 5 ∧ spadCna 0 0x2000 + histBytes ≤ 2 ^ 48 ∧
       g.rd (spadCna 0 0x2000 + binOfs (hbin 1 5 0)) 8 + 1 < cntMax) := by decide +kernel
set_option maxRecDepth 100000 in
theorem wit_EngineDone_lists :
    (TkList.ofBytes (List.replicate topkBytes 0)).entries.length = 0 ∧
    (let t := TkList.ofBytes (TkList.bytes ⟨2, 1, false, false, 1, 0, [⟨5, 6⟩]⟩); t.entries.length ≠ 0 ∧ t.k = 2 ∧ t.fmt = 1) := by decide
set_option maxRecDepth 100000 in
theorem wit_EngineDone_codes : (encodeBlock [7] (ctxOfBytes (List.replicate 80 0) 1 0) false).length = 10 := by decide
set_option maxRecDepth 100000 in
theorem wit_EngineDone_decode :
    decodeBlock (encodeBlock [7] (ctxOfBytes (List.replicate 80 0) 1 0) false) 1 false (ctxAll (List.replicate 80 0) 1) = .ok [7] := by rfl
theorem wit_EngineStatus : cbSync (blk 0x100 0x2000 0 1 1 0) = 0 ∧ (511 : Nat) < 512 ∧ 0x1FFFC0 + 64 ≤ 0x200000 := by decide
theorem wit_TsubDone :
    (let b := blk 0x100 0x2000 0 0 5 0
     let g := gEng 0x96 0 b
     (g.eng.find? fun e => decide (e.core = 0) && decide (e.engine = .tse)) = some ⟨0, .tse, 0x96, 0, b, 0x600, 1, 0, []⟩ ∧ cbN b = 0 ∧
       g.sys.pwr.pstate < 2 ∧ (g.core 0).firstSeq ≤ 0 ∧ g.engFlit ⟨0, .tse, 0x96, 0, b, 0x600, 1, 0, []⟩ = false ∧
       g.engOpen ⟨0, .tse, 0x96, 0, b, 0x600, 1, 0, []⟩ = [] ∧ g.flowPoison 0 (endCna 0 (cbIn b)) 0 = false ∧ (cbSync b).testBit 14 = false ∧
       2 ≤ ({ g with sys := { g.sys with pwr := { g.sys.pwr with pstate := 2 } } } : Gremon).sys.pwr.pstate) := by decide

/-- Core 0 about to issue `op` on object `o` as it stands, with g2 the object and g3 a count. -/
def sHub (op d b : Nat) (o : Nat) (x : SyncObj) (k : Nat) : State :=
  let s := sCore { bcore [(2, o), (3, k)] with grants := { BCore.idle.grants with kit := 1 } } (bw op d 2 b 0 0)
  { s with g := { s.g with sync := [(o, x)] } }
def hubB (s : State) (kind o : Nat) : Bool :=
  decide ((s.g.core 0).hubObj (s.g.fetchWord 0) = o) && decide (o ≤ 16383) && decide ((s.g.obj o).kind = kind) &&
    decide ((s.g.obj o).kit = (s.g.core 0).grants.kit) && decide ((s.g.obj o).waiters = [])
theorem hub_of {s : State} {kind o : Nat} (h : hubB s kind o = true) : s.HubReady 0 kind o := by
  simp only [hubB, Bool.and_eq_true, decide_eq_true_eq] at h
  obtain ⟨⟨⟨⟨a, b⟩, c⟩, d⟩, e⟩ := h
  exact ⟨a, b, c, d, e⟩
/-- Opcode, fields D and B, kind, and state of the highest object: a semaphore of 4; barriers of 2 parties at 0 and at 1; an event. -/
def hubCases : List (Nat × Nat × Nat × Nat × Nat) :=
  [(0xA0, 0, 3, 1, 4), (0xA1, 0, 3, 1, 4), (0xA2, 1, 0, 2, 2 * 2 ^ 16), (0xA2, 1, 0, 2, 2 * 2 ^ 16 + 1), (0xA3, 0, 3, 2, 2 * 2 ^ 16),
   (0xA4, 0, 0, 3, 0), (0xA5, 0, 0, 3, 1), (0xA6, 0, 0, 3, 1), (0xA7, 1, 0, 1, 4)]
def hubS (e : Nat × Nat × Nat × Nat × Nat) : State := sHub e.1 e.2.1 e.2.2.1 16383 ⟨e.2.2.2.1, 1, BitVec.ofNat 64 e.2.2.2.2, []⟩ 4
theorem wit_SyncHub : ∀ e ∈ hubCases, (hubS e).Flows 0 e.1 0 ∧ (hubS e).HubReady 0 e.2.2.2.1 16383 := by
  have h : hubCases.all (fun e => flowsB (hubS e) 0 e.1 0 && hubB (hubS e) e.2.2.2.1 16383) = true := by decide
  intro e he
  have := List.all_eq_true.mp h e he
  simp only [Bool.and_eq_true] at this
  exact ⟨flows_of this.1, hub_of this.2⟩
theorem wit_SyncHub_counts :
    (4 ≤ ((hubS (0xA0, 0, 3, 1, 4)).g.obj 16383).count) ∧ ((hubS (0xA1, 0, 3, 1, 4)).g.obj 16383).count + 4 < 2 ^ 48 ∧
    (((hubS (0xA2, 1, 0, 2, 2 * 2 ^ 16)).g.obj 16383).arrived + 1 < 2) ∧ ((hubS (0xA2, 1, 0, 2, 2 * 2 ^ 16 + 1)).g.obj 16383).parties = 2 ∧
    4 % 2 ^ 32 ≠ ((hubS (0xA3, 0, 3, 2, 2 * 2 ^ 16)).g.obj 16383).gen := by decide
theorem wit_SyncTraps :
    (let s := sHub 0xA0 0 3 16384 SyncObj.free 4; s.Issues 0 0xA0 0 ∧ (s.g.core 0).hubObj (s.g.fetchWord 0) = 16384) ∧
    (let s := sHub 0xA0 0 3 16383 ⟨1, 2, 4, []⟩ 4; s.Issues 0 0xA0 0 ∧ (s.g.obj 16383).kit ≠ (s.g.core 0).grants.kit) ∧
    (let s := sHub 0xA0 0 3 16383 ⟨3, 1, 1, []⟩ 4; s.Issues 0 0xA0 0 ∧ (s.g.obj 16383).kind ≠ 1) :=
  ⟨⟨issues_of (by decide), by decide⟩, ⟨issues_of (by decide), by decide⟩, issues_of (by decide), by decide⟩

/-- A state whose time is set. -/
def withPt (s : State) (ns : Nat) : State :=
  { s with g := { s.g with clock := { s.g.clock with own := .locked, master := .locked, pt := ns * 2 ^ 40 } } }
theorem wit_Fences :
    (sCore (bcore []) (bw 0xB0 0 0 0 0 0)).Flows 0 0xB0 0 ∧ (sCore (bcore []) (bw 0xB1 0 0 0 0 0)).Flows 0 0xB1 0 ∧
    (sCore (bcore []) (bw 0xB3 0 0 0 0 0)).Flows 0 0xB3 0 ∧
    (let s := withPt (sCore (bcore [(2, 1000)]) (bw 0xB2 0 2 0 0 0)) 1000
     s.Flows 0 0xB2 0 ∧ s.g.watermark = some 1000 ∧ (s.g.core 0).rg 2 ≤ 1000) ∧
    (let x := strm 1 (sdOne 0x100 0x2000 64)
     (sCore { bcore [] with streams := [x] } (bw 0xB0 0 0 0 0 0)).Issues 0 0xB0 0 ∧
       (sCore { bcore [] with streams := [x] } (bw 0xB1 0 0 0 0 0)).Issues 0 0xB1 0 ∧ streamToOwn 0 x = true) :=
  ⟨flows_of (by decide), flows_of (by decide), flows_of (by decide), ⟨flows_of (by decide), by decide, by decide⟩, issues_of (by decide), issues_of (by decide), by decide⟩
theorem wit_CoreTime :
    (sCore (bcore [(2, 0xFFFF)]) (bw 0xD0 1 2 0 0 (2 * 2 ^ 21))).Flows 0 0xD0 0 ∧ (sCore (bcore []) (bw 0xD1 1 0 0 0 0)).Flows 0 0xD1 0 ∧
    (let s := withPt (sCore (bcore [(2, 1000)]) (bw 0xD2 1 2 0 0 0)) 2000
     s.Flows 0 0xD2 0 ∧ ∃ p, s.g.corePt 0 = some p ∧ (s.g.core 0).rg 2 ≤ p) ∧
    (let s := sCore (bcore [(2, 1000)]) (bw 0xD2 1 2 0 0 0)
     s.Issues 0 0xD2 0 ∧ s.g.corePt 0 = none) ∧
    (let s := withPt (sCore { bcore [] with wait := some (.pt 1000 1) } (bw 0xD2 1 2 0 0 0)) 2000
     (s.g.core 0).wait = some (.pt 1000 1) ∧ (s.g.core 0).frozen = false ∧ (∃ p, s.g.corePt 0 = some p ∧ 1000 ≤ p) ∧
       (s.g.core 0).inCode 0x1008 = true) :=
  ⟨flows_of (by decide), flows_of (by decide), ⟨flows_of (by decide), _, rfl, by decide⟩, ⟨issues_of (by decide), by decide⟩,
   by decide, by decide, ⟨_, rfl, by decide⟩, by decide⟩

/-- Core 0 of kit MID 0x400, channel 255 bound to given MIDs and holding a message or none. -/
def sMb (op : Nat) (t r : Nat) (full : Bool) : State :=
  let s := sCore { bcore [(2, 0x2000), (3, 255)] with grants := { BCore.idle.grants with mid := 0x400 } } (bw op 1 2 3 0 0)
  { s with g := { s.g with regs := { s.g.regs with vals := [(kBind 255, BitVec.ofNat 32 (2 ^ 24 + 2 ^ 12 * r + t))] }
                           host := { s.g.host with chans := [(255, ⟨full, [], 0, full⟩)] } } }
theorem wit_CoreMailboxes :
    (∀ e ∈ [(0xC0, 0x401, 0, true), (0xC0, 0x400, 0, true), (0xC0, 0x400, 0, false), (0xC1, 0, 0x401, true), (0xC1, 0, 0x400, true)],
      (sMb e.1 e.2.1 e.2.2.1 e.2.2.2).Flows 0 e.1 0 ∧ (sMb e.1 e.2.1 e.2.2.1 e.2.2.2).g.binding 255 = some (e.2.1, e.2.2.1)) ∧
    (sMb 0xC0 0x400 0 false).g.midDown 0 = false ∧ ((sMb 0xC0 0x400 0 false).g.chan 255).full = false ∧
    ((sMb 0xC1 0 0x400 true).g.chan 255).full = true ∧ (sMb 0xC0 0x400 0 false).g.linePoison (spadCna 0 0x2000) 64 = false ∧
    ((sMb 0xC1 0 0x400 true).g.core 0).inCode 0x2000 = false ∧ ∀ x, (sMb 0xC0 0x400 0 false).g.writing none x = false := by
  have h : ([(0xC0, 0x401, 0, true), (0xC0, 0x400, 0, true), (0xC0, 0x400, 0, false), (0xC1, 0, 0x401, true), (0xC1, 0, 0x400, true)] :
      List (Nat × Nat × Nat × Bool)).all (fun e => flowsB (sMb e.1 e.2.1 e.2.2.1 e.2.2.2) 0 e.1 0 &&
        decide ((sMb e.1 e.2.1 e.2.2.1 e.2.2.2).g.binding 255 = some (e.2.1, e.2.2.1))) = true := by decide
  refine ⟨fun e he => ?_, by decide, by decide, by decide, by decide, by decide, writing_none rfl rfl⟩
  have := List.all_eq_true.mp h e he
  simp only [Bool.and_eq_true, decide_eq_true_eq] at this
  exact ⟨flows_of this.1, this.2⟩

/-- An MSND block: BULK to this Gremon, 1 byte of the own scratchpad. -/
def msBlk (dest len : Nat) : List Byte :=
  leBytes 4 (3 * 2 ^ 11 + dest) ++ leBytes 4 0 ++ leBytes 8 (2 ^ 48 + 0x100) ++ leBytes 4 len ++ List.replicate 36 0
theorem wit_CoreMessages :
    (let s := sCoreM (bcore [(2, 0x600)]) (bw 0xC4 0 2 0 0 0) [(0x600, msBlk gUp.gid 1)]
     s.Flows 0 0xC4 0 ∧ s.g.msCheck 0 (s.g.core 0) 0x600 (msBlk gUp.gid 1) = none ∧ msDest (msBlk gUp.gid 1) % 1024 = s.g.gid ∧
       s.g.rdBytes (spadCna 0 0x600) 56 = msBlk gUp.gid 1 ∧ s.g.kitOf 0 = none ∧ (s.g.core 0).grants.kit = 0 ∧ bit (msDest (msBlk gUp.gid 1)) 10 = false ∧
       cnaReachRange 0 (endCna 0 (2 ^ 48 + 0x100)) 1 = true ∧ s.g.flowPoison 0 (endCna 0 (2 ^ 48 + 0x100)) 1 = false ∧
       ∀ x, s.g.writing none x = false) ∧
    (let m : List Byte := [0x45] ++ List.replicate 15 0 ++ leBytes 8 7 ++ [0]
     let y : MsndOut := ⟨0, msBlk 1 1, 0x600, 7, 1, 0, 0⟩
     let g := { gUp with rlIn := [⟨0, m, gUp.stamp⟩], msnd := [y] }
     takeFirst (fun r : RlMsgIn => decide (leAt r.bytes 0 1 = 0x45)) g.rlIn = some (⟨0, m, gUp.stamp⟩, []) ∧
       (g.msnd.find? fun q => decide (q.mseq = leAt m 16 8)) = some y ∧ (msSync y.block).testBit 14 = false) :=
  ⟨⟨flows_of (by decide), by decide, by decide, by decide, by decide, by decide, by decide, by decide, by decide, writing_none rfl rfl⟩,
   by decide⟩
/-! ### AILEN -/

/-- AILEN's time locked at 1 s, with its link UP, counting the frame that ends at 1.0001 s under a unit of two counters of lines 0
and 1, two op cells and a channel of each kind but the second counter. -/
def aUp : Ailen :=
  { Ailen.reset with
    clock := { Clock.reset with pt := 1000000000 * 2 ^ 40, own := .locked, master := .locked, uMaster := 1 }
    gl := { Ailen.reset.gl with st := .up, lock := true, held := false }
    cap := { Capture.reset with
      counting := true, openFrame := 10000
      applied := [(0x1000, 2), (ind 0x10000, 0x800000), (ind 0x10000 + 4, 0x800001), (ind 0x20000, 0), (ind 0x20000 + 4, 1)] } }
theorem wit_AilenCounts :
    aUp.hostCounting = true ∧ Tbl.risingFrom 0 aUp.cap.applied = true ∧ (∀ e ∈ aUp.cap.applied, e.1 % 4 = 0) ∧
    1023 < 64 * aUp.build.evpBanks ∧ bit (aUp.reg 0x110) 10 = false ∧ aUp.counterLine (capCnt aUp.cap.applied 1) = some 1 ∧
    bit (aUp.reg 0x4020) 6 = false ∧ aUp.logicalOf 255 = some 255 ∧
    ({ aUp with regs := { aUp.regs with vals := [(0x800, 0)] } } : Ailen).logicalOf 0 = none := by decide
theorem wit_AilenSensors :
    (let a : Ailen := { aUp with cap := { aUp.cap with sensors := [(63, { Sensor.none with held := some 4, lastTgl := some 999999801 })] } }
     a.aoReset = false ∧ 63 < a.build.snpChannels ∧ (Tbl.get Sensor.none a.cap.sensors 63).lastTgl = some 999999801 ∧
       a.clk < 999999801 + 200 ∧ (Tbl.get Sensor.none a.cap.sensors 63).fastTo ≤ a.clk ∧ 999999800 + 200 ≤ a.clk) := by decide

def lat : Latched := ⟨9999, 1000000000, 1, .locked, 0, false, false, false, false, false, 0, false, [3, 4], [0, 0]⟩
/-- A boundary with nothing staged; a latched frame to be coded, with room and without; a scoring boundary in SHADOW. -/
theorem wit_AilenFrames :
    (aUp.regs.bad = [] ∧ aUp.cap.remapPend = [] ∧ aUp.cap.pend = [] ∧ aUp.cap.cutAt = none ∧ aUp.hclkLost = false ∧
      aUp.cap.counting = true ∧ aUp.aoReset = false ∧ aUp.regs.shadow = [] ∧ aUp.frameArmed = none ∧
      aUp.ucodeNew = false ∧ aUp.markHold = none ∧ aUp.clock.own ≠ .unset ∧ aUp.frameNs = 100000 ∧ aUp.mainUp = true ∧ aUp.pwr = .active ∧
      aUp.cap.lastFrame = none ∧ capNch aUp.cap.applied = 2 ∧ aUp.reg 0x804C = 0) ∧
    (let a : Ailen := { aUp with cap := { aUp.cap with latched := [lat] } }
     a.cap.latched = [lat] ∧ a.gl.tx.length = 4 ∧ a.gl.sampleBytes + (lat.block a.cap.prev a.cap.gap (lat.isKey a.cap.gap)).length ≤ 98304 ∧
       a.mainUp = true) ∧
    (let a : Ailen := { aUp with pwr := .shadow, cap := { aUp.cap with applied := [(0x1000, 1), (ind 0x20000, 2)], counting := false } }
     a.scoreNs = 1000000 ∧ a.frameOpen % a.scoreNs = 0 ∧ a.frameOpen ≠ 0 ∧ a.latchChannels = [0] ∧ a.sack = true ∧ a.aoReset = false ∧ a.cap.lastFrame = none ∧ a.regs.force = [] ∧ a.gl.sampleBytes = 0) := by
  decide
/-- A queue so full of SAMPLE data that the next block does not fit. -/
theorem wit_AilenFrames_full (a : Ailen)
    (h : a = { aUp with gl := { aUp.gl with tx := [[], [], [], [⟨[1, 0, 0, 0] ++ List.replicate 98304 0, false, .plain⟩]] } }) :
    a.roomy = true ∧ 98304 < a.gl.sampleBytes + (lat.block a.cap.prev a.cap.gap (lat.isKey a.cap.gap)).length := by
  subst h
  have e : ∀ (n : Nat) (l : GlLink), nth [] l.tx 3 = [⟨[1, 0, 0, 0] ++ List.replicate n 0, false, .plain⟩] → l.sampleBytes = n := by
    intro n l h
    simp only [GlLink.sampleBytes, h, List.filter_cons, leAt]
    simp [ofLe]
  rw [e 98304 _ rfl]
  exact ⟨by decide, Nat.lt_add_of_pos_right (by decide)⟩

def traceOn : Ailen := { aUp with regs := { aUp.regs with vals := [(0x9000, 1)] } }
def src1 : TrcSrc := { TrcSrc.reset with started := true, syncAt := 1000000000, bits := List.replicate 28 true, bitAt := 1000000000 }
theorem wit_AilenTrace :
    (let a : Ailen := { traceOn with trc := [(0, src1)] }
     a.traced 0 = true ∧ a.hclkLost = false ∧ (a.src 0).secure = false ∧ (a.src 0).due a.clk = false ∧ (a.src 0).bits.length < 29 ∧
       (a.src 0).bits ≠ [] ∧ (a.src 0).dropped = 0 ∧ (a.src 0).held + 5 ≤ (a.trcEnv 0).room) ∧
    (let a : Ailen := { traceOn with trc := [(0, { src1 with bits := [], bytes := 4096 })] }
     (a.src 0).started = true ∧ (a.src 0).bits = [] ∧ (a.src 0).held + 26 ≤ (a.trcEnv 0).room) := by decide

def beat (sop eop : Bool) : StpBeat := ⟨1, sop, eop, 64, List.replicate 64 0, 7, 1, 2, false, 0⟩
def tOpen : Transfer := ⟨7, 1, 2, false, 0, false, false, 64, 64, 0, 0, none, [], 0, aUp.stamp⟩
theorem wit_AilenTaps :
    (let a : Ailen := { aUp with sdKey := some ⟨1, 2, 7⟩ }
     (beat true false).tap < a.build.stpTaps ∧ (beat true false).tap < a.taps.length ∧ a.mainUp = true ∧ a.pwr = .active ∧
       (beat true false).dat.length = 64 ∧ a.usableKey 7 = some ⟨1, 2, 7⟩ ∧ (nth Tap.reset a.taps 1).openT = none ∧
       (nth Tap.reset a.taps 1).ignore = false ∧ (nth Tap.reset a.taps 1).noSop = false ∧ a.roomy = true ∧ aUp.usableKey 7 = none) ∧
    (let a : Ailen := { aUp with taps := [Tap.reset, { Tap.reset with openT := some tOpen }] }
     (nth Tap.reset a.taps 1).openT = some tOpen ∧ a.gl.tx.length = 4) := by decide

/-- One state for each step of the island handshake, the main reset and the always-on reset. -/
theorem wit_AilenIslands :
    (aUp.aoReset = false ∧ aUp.pwr = .active ∧ aUp.scr.st = .idle) ∧
    (let a : Ailen := { aUp with cap := { aUp.cap with cutAt := some (1000000010, 5) } }
     a.cap.cutAt = some (1000000010, 5) ∧ a.clock.own ≠ .unset ∧ a.frameNs ≠ 0 ∧ 1000000010 < a.frameEnd ∧ a.hostCounting = true ∧
       a.cap.lastFrame = none ∧ capNch a.cap.applied ≠ 0 ∧ a.cap.parityHold = false) ∧
    (let a : Ailen := { aUp with pwr := .entering, gl := { aUp.gl with shadowRate := true } }
     a.pwr = .entering ∧ a.gl.shadowRate = true ∧ a.exitNext = false ∧ a.cap.cutAt = none ∧ a.scr.st ≠ .closing) ∧
    (let a : Ailen := { aUp with pwr := .entering, pwrAt := 999980000 }; a.pwrAt + 20000 ≤ a.clk) ∧
    (let a : Ailen := { aUp with pwr := .shadow }; a.pwr = .shadow) ∧
    (let a : Ailen := { aUp with pwr := .exiting }; a.pwr = .exiting ∧ a.gl.shadowRate = false ∧ a.mainReset = false ∧ a.scr.st = .idle) ∧
    (let a : Ailen := { aUp with pwr := .exiting, pwrAt := 999900000, gl := { aUp.gl with shadowRate := true } }
     a.pwr = .exiting ∧ a.pwrAt + 100000 ≤ a.clk) ∧
    (aUp.sack = false ∧ aUp.roomy = true ∧ ∀ n, n < 2 → (nth Tap.reset aUp.taps n).openT = none) ∧
    (let a : Ailen := { aUp with mainReset := true }; a.mainReset = true ∧ a.aoReset = false ∧ a.pwr ≠ .shadow ∧ a.refLost = false ∧ a.scr.st = .idle) ∧
    (let a : Ailen := { Ailen.reset with aoReset := true }; a.aoReset = true ∧ a.roomy = true ∧ a.refLost = false) ∧
    (let a : Ailen := { Ailen.reset with aoReset := true, refLost := true }; a.aoReset = true ∧ a.roomy = true ∧ a.refLost = true) ∧
    (1 : W64) ≠ 0 ∧ (1 : W64) ≠ BitVec.allOnes 64 := by decide
theorem wit_AilenClocks :
    (aUp.aoReset = false ∧ aUp.roomy = true ∧ aUp.sack = false ∧ aUp.hclkLost = false ∧ aUp.refLost = false ∧ aUp.aoRange = false) ∧
    (let a : Ailen := { aUp with hclkLost := true, refLost := true }; a.hclkLost = true ∧ a.refLost = true ∧ a.roomy = true ∧ a.scr.st ≠ .closing ∧
       ({ a with refLost := false } : Ailen).mainUp = true) := by decide

/-- The controller in each of its states, results that agree and that differ, and a session open and closed. -/
theorem wit_AilenScreen :
    (let a : Ailen := { aUp with scr := { Screen.reset with st := .request, req := true } }
     a.scr.st = .request ∧ a.aoReset = false ∧ a.sack = false ∧ a.scr.session = false ∧ a.roomy = true) ∧
    (let a : Ailen := { aUp with scr := { Screen.reset with st := .granted, gnt := true } }
     a.scr.st = .granted ∧ a.scr.gnt = true ∧ ∀ w, w < 4 → a.reg (0x8030 + 4 * w) = a.reg (0x8010 + 4 * w)) ∧
    (let a : Ailen := { aUp with regs := { aUp.regs with vals := [(0x803C, 1)] }, scr := { Screen.reset with st := .granted, gnt := true } }
     ¬∀ w, w < 4 → a.reg (0x8030 + 4 * w) = a.reg (0x8010 + 4 * w)) ∧
    (let a : Ailen := { aUp with scr := { Screen.reset with st := .closing, session := true } }
     a.scr.st = .closing ∧ a.gl.tx.length = 4 ∧ a.scr.session = true) ∧ aUp.scr.st = .idle := by decide

def vig0 : AVigil := ⟨1000100000, 9, none, none, none, [], [], false⟩
theorem wit_AilenVigil :
    (let a : Ailen := { aUp with vig := some vig0 }
     a.vig = some vig0 ∧ vig0.w = none ∧ vig0.bank = none ∧ 1000 ≤ vig0.tick.toNat ∧ a.frameNs ≠ 0 ∧ a.captureBad = false ∧
       a.sack = false ∧ a.mainUp = true ∧ a.hclkLost = false ∧ a.roomy = true ∧ a.build.vigPresent = true ∧ a.parityBad 0x108 = false) ∧
    guardable 3999 aUp.clock.reported = true ∧
    (let a : Ailen := { aUp with vig := some vig0, mainReset := true }; a.mainUp = false ∧ a.frameNs ≠ 0 ∧ a.sack = false) ∧
    (let v : AVigil := { vig0 with w := some 8, bank := some lat }
     let a : Ailen := { aUp with vig := some v }
     a.vig = some v ∧ v.bank = some lat ∧ a.gl.tx.length = 4) ∧
    (let a : Ailen := { aUp with vig := some vig0, regs := { aUp.regs with vals := [(0x108, 1)] } }; bit (a.reg 0x108) 0 = true) := by decide

theorem wit_AilenMailbox :
    (let a : Ailen := { aUp with regs := { aUp.regs with vals := [(0x50C0, 0xFF01), (0x50C4, 8)] } }
     a.parityBad 0x50C4 = false ∧ bit (a.reg 0x50C4) 3 = true ∧ bit (a.reg 0x5044) 0 = false ∧ a.gl.carries = true ∧ a.gl.tx.length = 4 ∧
       a.regs.force = [] ∧ bit (a.reg 0x50C0) 0 = true ∧ a.mbHold = none ∧ a.roomy = true) ∧
    Ailen.reset.gl.carries = false ∧ bit (Ailen.reset.reg 0x5044) 0 = false := by decide

/-- A CMD message: operation, COUNT, address and data (Table 5.12). -/
def cmdMsg (op count addr : Nat) (d : List Byte) : List Byte :=
  [0x21, 0, 0, 0] ++ leBytes 2 0xBEEF ++ leBytes 1 op ++ [0] ++ leBytes 4 addr ++ leBytes 2 count ++ [0, 0] ++ d
def aGot (m : List Byte) : Ailen := { aUp with gl := { aUp.gl with inbox := [⟨m, aUp.stamp⟩] } }
theorem wit_AilenCommands :
    (∀ m ∈ [cmdMsg 1 1 0x10 [], cmdMsg 1 1 2 [], cmdMsg 2 1 2 (leBytes 4 5), cmdMsg 2 1 0x6FFC (leBytes 4 5), cmdMsg 3 1 0 (leBytes 4 5),
        cmdMsg 4 4 0 (leBytes 8 1000001000 ++ leBytes 4 1 ++ leBytes 4 0), cmdMsg 5 2 0 (leBytes 4 1 ++ leBytes 2 0 ++ leBytes 2 1), cmdMsg 9 0 0 []],
      takeFirst isCmd (aGot m).gl.inbox = some (⟨m, aUp.stamp⟩, [])) ∧
    (aUp.cmdAddrs (cmdMsg 1 1 0x10 []) = 0 ∧ aUp.cmdAddrs (cmdMsg 1 1 2 []) ≠ 0 ∧ aUp.cmdAddrs (cmdMsg 2 1 0x6FFC (leBytes 4 5)) = 0 ∧
      (regDesc .ailen 0x6FFC).isSome = true ∧ bit (leAt (cmdMsg 2 1 0x6FFC (leBytes 4 5)) 7 1) 0 = false) ∧
    (aUp.clock.reported ≠ .unset ∧ aUp.vig = none ∧ aUp.gl.bankQueued = false ∧ aUp.now + 1000 = 1000001000 ∧
      aUp.build.scrPresent = true ∧ aUp.scr.st = .idle ∧ bit (aUp.reg 0x8004) 0 = false ∧ aUp.regs.force = []) ∧
    cmdFits (cmdMsg 9 0 0 []) = false ∧ bit (aUp.reg 0x50C0) 0 = false := by decide
/-! ### Time and registers -/

/-- A time message to a Guyline end, and one between Gremons. -/
def glTime (ty exid : Nat) (body : List Byte) : RxMsg := ⟨[BitVec.ofNat 8 ty, 0, 0, 0] ++ leBytes 2 exid ++ [3, 5] ++ body, aUp.stamp⟩
def setG (g : Gremon) (ns : Nat) (own : Quality) : Gremon :=
  { g with clock := { g.clock with own := own, master := .locked, pt := ns * 2 ^ 40, uMaster := 1 } }
def port0 : Gremon :=
  { setG gUp 1000000000 .locked with ports := [(0, { RlPort.reset with st := .up })], tree := { Tree.reset with parent := some 0, phase := 1 } }
theorem wit_TimeExchanges :
    (aUp.aoReset = false ∧ aUp.gl.st.open = true) ∧
    (port0.sys.pwr.rails = true ∧ port0.tree.parent = some 0 ∧ port0.root = false ∧ port0.portUp 0 = true) ∧
    (leAt (glTime 0x30 1 []).bytes 0 1 = 0x30 ∧ ({ gUp with lanes := [(511, { GlLink.reset .gremon with inbox := [glTime 0x30 1 []] })] } : Gremon).lane 511
      = { GlLink.reset .gremon with inbox := [glTime 0x30 1 []] }) ∧
    (let m : RlMsgIn := ⟨5, 0x10 :: List.replicate 23 0, gUp.stamp⟩; leAt m.bytes 0 1 = 0x10 ∧ m.port = 5) := by decide
/-- An answer that AILEN takes, at the latest instant, and one that Gremon takes. -/
theorem wit_TimeExchanges_answers :
    (let st : Stamp := ⟨1000000000, 0, .locked, .pt, 1⟩
     let m : RxMsg := ⟨[0x31, 0, 0, 0] ++ leBytes 2 7 ++ [3, 5] ++ st.bytes ++ st.bytes, ⟨1000100000, 0, .locked, .pt, 1⟩⟩
     let c : Clock := { aUp.clock with waiting := true, exid := 7, t1 := 16000000000 }
     leAt m.bytes 0 1 = 0x31 ∧ leAt m.bytes 4 2 = c.exid.toNat ∧ m.stamp.sixteenths ≤ c.t1 + 1600000 ∧
       c.accepts (.ofBytes m.bytes 8) (.ofBytes m.bytes 20) m.stamp.sixteenths) ∧
    (let st : Stamp := ⟨1000000000, 0, .locked, .pt, 1⟩
     let m : RlMsgIn := ⟨0, 0x11 :: List.replicate 15 0 ++ leBytes 2 7 ++ [0, 0] ++ st.bytes ++ st.bytes, ⟨1000100000, 0, .locked, .pt, 1⟩⟩
     let c : Clock := { port0.clock with waiting := true, exid := 7, t1 := 16000000000 }
     leAt m.bytes 0 1 = 0x11 ∧ leAt m.bytes 16 2 = c.exid.toNat ∧ c.accepts (.ofBytes m.bytes 20) (.ofBytes m.bytes 32) m.stamp.sixteenths) := by
  unfold Clock.accepts
  decide
theorem wit_TimeHoldover :
    (aUp.clock.own = .locked ∧ aUp.aoReset = false ∧ aUp.roomy = true) ∧
    (let c : Clock := { aUp.clock with own := .holdover, uEntry := 33 }
     c.own = .holdover ∧ holdMax (bits gUp.almCfg 15 8) < holdoverU (holdMax (bits gUp.almCfg 15 8) + 1) (c.lmNs - c.holdFrom) 5) ∧
    (let g := setG gUp 5 .locked; g.root = false ∧ g.clock.own = .locked ∧ g.roomy = true) ∧
    (let g : Gremon := { gUp with root := true }; g.root = true ∧ g.sys.pwr.rails = true) := by decide
/-- A booted root whose PT is set. -/
def gSite : Gremon := { setG gUp 1000000000 .locked with root := true }
theorem wit_PodTime :
    (aUp.aoReset = false ∧ aUp.clock.own ≠ .unset) ∧
    (let g := setG gUp 5 .locked; g.sys.pwr.rails = true ∧ g.clock.own ≠ .unset ∧ g.roomy = true ∧ g.svc.site.far = false) ∧
    (let g : Gremon := { gUp with root := true }; g.clock.own = .unset ∧ g.sys.pwr.ready = true ∧ g.svc.site.state ≠ 2) ∧
    (let m : PtpMaster := ⟨1, [128, 6], 10 ^ 12⟩
     let g : Gremon := { gSite with svc := { Svc.reset with site := { Svc.reset.site with masters := [m] } } }
     g.sys.pwr.ready = true ∧ g.siteDomain = 0 ∧ g.siteMaster = some 1 ∧ (g.tsq 0).q.length < 64) ∧
    (let y : PtpSync := ⟨1, 9, 16000000000, 16000000100⟩
     let g : Gremon := { gSite with svc := { Svc.reset with site := { Svc.reset.site with masters := [⟨1, [128, 6], 10 ^ 12⟩], dreq := some (7, y) } }
                                    }
     let g := (g.txStamp 0 7 (g.linkStamp 30))
     g.siteMaster = some 1 ∧ g.svc.site.dreq = some (7, y) ∧
       (g.tsq 0).q.find? (fun e => decide (e.1 = 7)) = some (7, g.linkStamp 30)) ∧
    (let g : Gremon := { setG gUp 5 .locked with svc := { Svc.reset with ptSteps := [(2000000000, -10000000000)] } }
     g.nextStep = some (2000000000, -10000000000)) ∧
    (let g : Gremon := { gUp with root := true, binds := [{ pda := 0, lda := 0, job := 7, state := 1, gen := 0, ever := true, next := [] }] }
     g.root = true ∧ g.jobDies 7 ≠ []) := by decide

theorem wit_AilenRegisters :
    ({ aUp with regs := { aUp.regs with vals := [(0x4030, 1)] } } : Ailen).frameTickBad 0 = true ∧
    (let a : Ailen := { aUp with regs := { aUp.regs with vals := [(0x4030, 200 + 2 ^ 14 * 5), (0x4034, 2000000000)] } }
     a.frameTickBad 0 = false ∧ a.reg 0x4034 + 2 ^ 32 * 0 ≠ 0) ∧
    (let a : Ailen := { aUp with regs := { aUp.regs with vals := [(0x4030, 200 + 2 ^ 14 * 5)] } }
     a.frameTickBad 0 = false ∧ a.reg 0x4030 ≠ a.reg 0x402C) := by decide
theorem wit_RegisterWrites :
    (plainReg .ailen 0x6FFC = true ∧ ∃ d, regDesc .ailen 0x6FFC = some d ∧ d.sqc = 0 ∧ d.fb = 0 ∧ d.admits .cmd = true) ∧
    (∃ d, regDesc .ailen 0x4018 = some d ∧ d.writer = .cmdOnly) ∧
    (plainReg .gremon 0x300214 = true ∧ gUp.regionLocked .pcie 0x300214 = false ∧ ∃ d, regDesc .gremon 0x300214 = some d ∧ d.bl = 0) ∧
    (∃ d, regDesc .gremon 0x10204 = some d ∧ d.bl ≠ 0) ∧
    ({ gUp with regs := { gUp.regs with vals := [(kProtCtl, 1)] } } : Gremon).locked = true ∧
    barOk ⟨.pcie, 0x300216, 4, 0⟩ = false ∧ gUp.badRegAt = none ∧ gUp.roomy = true :=
  ⟨⟨by decide, _, rfl, by decide⟩, ⟨_, rfl, by decide⟩, ⟨by decide, by decide, _, rfl, by decide⟩, ⟨_, rfl, by decide⟩, by decide, by decide, by decide,
   by decide⟩
theorem wit_RegisterHolds :
    (∃ d, regDesc .ailen 0x104 = some d ∧ d.sqc ≠ 0 ∧ d.admits .cmd = true) ∧
    (∃ d, regDesc .gremon 0x10008 = some d ∧ d.sqc ≠ 0 ∧ d.rw = 0 ∧ d.bl = 0) ∧
    (∃ d, regDesc .ailen 0x108 = some d ∧ d.sqc = 0 ∧ d.fb ≠ 0 ∧ d.admits .cmd = true) ∧
    (∃ d, regDesc .gremon 0x3000100 = some d ∧ d.sqc = 0 ∧ d.fb ≠ 0 ∧ d.bl = 0) ∧ gUp.regionLocked .pcie 0x3000100 = false ∧
    (∃ d, regDesc .gremon (ind 0xA0000) = some d ∧ d.fb ≠ 0) ∧ fbSet (ind 0xA0000) = 8 ∧ Ailen.reset.clock.own = .unset ∧ gUp.clock.own = .unset :=
  ⟨⟨_, rfl, by decide⟩, ⟨_, rfl, by decide⟩, ⟨_, rfl, by decide⟩, ⟨_, rfl, by decide⟩, by decide, ⟨_, rfl, by decide⟩, by decide, by decide, by decide⟩
theorem wit_RegisterReads :
    (∀ k ∈ [0x1000C, 0x10208, 0x2000014], gUp.regs.latched .pcie k = none) ∧ aUp.hrpBad 2 = true ∧
    (let a : Ailen := { aUp with regs := { aUp.regs with vals := [(0xF000, 0x30000), (0xF008, 1)] } }
     a.reg 0xF000 = 0x30000 ∧ a.reg 0xF008 = 1 ∧ a.sack = false ∧ a.regs.latched (.window 0) (ind 0x30000) = none) ∧
    (let g : Gremon := { gUp with regs := { gUp.regs with vals := [(kWin 7, 0x30000)] } }
     g.reg (kWin 7) = 0x30000 ∧ g.reg (kWin 7 + 8) = 1 ∧ g.winCode 7 = 0) ∧
    (let g : Gremon := { gUp with regs := { gUp.regs with vals := [(kWin 7, 2)] } }; g.winCode 7 = 2 ∧ g.reg (kWin 7 + 8) = 1) ∧
    (let a : Ailen := { aUp with regs := { aUp.regs with vals := [(0xF000, 2)] } }; a.windowCode = 2) := by decide
theorem wit_RegisterReads_window : ∃ d, regDesc .gremon (ind 0x30000) = some d ∧ d.sqc = 0 ∧ d.fb = 0 ∧ d.bl = 0 := ⟨_, rfl, by decide⟩
theorem wit_RegisterEffects :
    (∃ d, regDesc .ailen 0x1020 = some d ∧ d.data = false ∧ d.rw ||| d.fb ≠ 0) ∧
    (∃ d, regDesc .gremon 0x300004 = some d ∧ d.data = false ∧ d.rw ||| d.fb ||| d.bl ≠ 0) ∧ gParityOwn 0x300004 = true ∧
    bits 0xA501 15 8 = 0xA5 ∧ bit 0xA501 0 = true ∧ gUp.regionLocked .pcie 0x10100 = false ∧
    (let a : Ailen := { aUp with regs := { aUp.regs with vals := [(0xA010, 1)] } }
     a.reg 0xA010 = 1 ∧ a.regs.latched .hrp 0xA07C = none) ∧ gUp.regs.latched .pcie 0x100047C = none ∧
    (let g : Gremon := { gUp with regs := { gUp.regs with vals := [(0x2000000, 1)] }, sys := { gUp.sys with trc := { gUp.sys.trc with state := 1 } } }
     bit (g.reg 0x2000000) 0 = true ∧ g.sys.trc.state = 1 ∧ g.conf = false ∧ g.regionLocked .pcie 0x2000000 = false) :=
  ⟨⟨_, rfl, by decide⟩, ⟨_, rfl, by decide⟩, by decide⟩
/-! ### Host queues, Guyline, the dies and the package -/

/-- Queue pair 63 enabled with rings of 16 slots and MID 1, one slot behind; the MID may do everything. -/
def gHost : Gremon :=
  { setG gUp 1000000000 .locked with
    regs := { gUp.regs with vals := [(kHq 63 0x10, 0x484), (kHq 63 0x20, 1), (kRq 15 8, 0x24), (ind 0x200004, 0xFFF)] }
    host := { gUp.host with mgmt := [] } }
def desc (opc : Nat) : List Byte := leBytes 1 opc ++ List.replicate 63 0
def fet (opc : Nat) (d : List Byte) : Fetched := ⟨desc opc, d, [], [], false, 0, true⟩
def hcmd (src : CmdSrc) (opc mid : Nat) (d : List Byte) : HostCmd := ⟨src, mid, desc opc, d, [], 0⟩
theorem wit_HostQueues :
    bit (gUp.reg (kHq 63 0x10)) 10 = false ∧ bit (gHost.reg (kHq 63 0x10)) 10 = true ∧ 2 ^ bits (gHost.reg (kHq 63 0x10)) 4 0 = 16 ∧
    (gHost.qp 63).sqHead ≠ 15 ∧ (gHost.qp 63).err = 0 ∧ gHost.regs.force = [] ∧ gHost.conf = false ∧ gHost.failed = false ∧ gHost.roomy = true ∧
    descOk (hcmd (.qp 63) 0x06 1 []) = true ∧ gHost.permitted (hcmd (.qp 63) 0x06 1 []) = true ∧ opcRoot 0x06 = false ∧
    (gHost.qp 63).busy + ((gHost.qp 63).cqTail + 2 ^ bits (gHost.reg (kHq 63 0x10)) 9 5 - (gHost.qp 63).cqHead) % 2 ^ bits (gHost.reg (kHq 63 0x10)) 9 5
      + 1 < 16 ∧ gHost.regionLocked .pcie (kHq 63 0x10) = false := by decide
theorem wit_HostQueues_held :
    (let g : Gremon := { gHost with host := { gHost.host with vecs := [(2047, { last := some 5, held := true })] } }
     Tbl.get Vector.none g.host.vecs 2047 = { last := some 5, held := true }) ∧
    (let g : Gremon := { gHost with sys := { gHost.sys with prot := { gHost.sys.prot with sessions := [⟨false, 15, none, 1000000000⟩] } } }
     (∃ x ∈ g.sessionsUp, x.doe = false ∧ x.num = 15) ∧ (∀ x ∈ g.host.mgmt, x.session ≠ 15)) ∧
    gHost.clock.pt < 2 ^ 104 ∧ leAt (desc 0x07) 0 1 ≠ 0x01 ∧
    gHost.permitted (hcmd (.mgmt 15 0) 0x10 0 []) = true ∧ (let g : Gremon := { gHost with root := true }; g.root = true) := by
  refine ⟨by decide, ⟨⟨⟨false, 15, none, 1000000000⟩, by decide, rfl, rfl⟩, by decide⟩, by decide, by decide, by decide, rfl⟩
theorem wit_ResultQueueHead :
    (let q := gHost.rq 15; q.tail = 0 ∧ 2 ^ gHost.fld (kRq 15 8) 4 0 = 16 ∧ (q.tail + 16 - q.head) % 16 < (1 + 16 - q.head) % 16) ∧
    (let g : Gremon := { gHost with host := { gHost.host with rqs := [(15, { RQueue.reset with tail := 15 })] } }
     ¬((g.rq 15).tail + 16 - (g.rq 15).head) % 16 < (15 + 16 - (g.rq 15).head) % 16) ∧
    gUp.fld (kRq 15 8) 5 5 = 0 ∧ gUp.regionLocked .pcie (kRq 15 8) = false ∧ (RQueue.reset.head = RQueue.reset.tail) := by decide
theorem wit_TransmitStampQueue :
    (gUp.tsq 6).q = [] ∧
    (let g : Gremon := { gUp with sys := { gUp.sys with tsq := [(6, ⟨[(0xFFFF, aUp.stamp)], aUp.stamp, 0⟩)] } }
     (g.tsq 6).q = [(0xFFFF, aUp.stamp)] ∧ g.regs.latched .pcie 0x300164 = none) := by decide
theorem wit_BounceRecords :
    (let g : Gremon := { gHost with regs := { gUp.regs with vals := [(kProtCtl, 3), (kHq 63 0x10, 0x484), (kHq 63 0x20, 0x1001), (kHq 63 0x2C, 1), (ind 0x200004, 0xFFF)] } }
     let d : List Byte := leBytes 1 0x03 ++ List.replicate 15 0 ++ leBytes 4 4 ++ List.replicate 44 0
     let c : HostCmd := ⟨.qp 63, 1, d, List.replicate 4 0, [], 0⟩
     let f : Fetched := ⟨d, List.replicate 4 0, [], [], false, 0, true⟩
     let g : Gremon := { g with sys := { g.sys with prot := { g.sys.prot with sessions := [⟨true, 1, some 1, 1000000000⟩] } } }
     g.conf = true ∧ bit (g.reg (kHq 63 0x20)) 12 = true ∧ g.inBounce 63 (hostBuffers f ++ g.ringsOf 1) = true ∧ leAt d 16 4 ≠ 0 ∧
       (∃ x ∈ g.sessionsUp, x.doe = true ∧ x.mid = some 1) ∧ g.fld (kHq 63 0x20) 11 0 = 1 ∧
       g.inBounce 63 (hostBuffers { f with desc := leBytes 1 0x03 ++ List.replicate 7 0 ++ leBytes 8 (2 ^ 40) ++ leBytes 4 4 ++ List.replicate 44 0 }
         ++ g.ringsOf 1) = false ∧
       Tbl.get 0 g.host.sealIn 1 = 0 ∧ descOk c = true ∧ g.permitted c = true ∧ opcRoot c.opc = false ∧ g.roomy = true) := by decide

/-- An end of a lane that is UP with the credits of both sides' grants. -/
def lUp : GlLink := { GlLink.reset .gremon with st := .up, lock := true, epoch := 1, farEpoch := 1 }
def txf : TxFrame := ⟨0, true, true, 0, List.replicate 4 0, .plain⟩
theorem wit_GuylineFrames_slots :
    (let l := lUp.queue clsTime (glTime 0x30 1 []).bytes; l.pickClass.isSome = true ∧ l.replayAt = none ∧ l.ctl = [] ∧ l.st = .up) ∧
    lUp.pickClass = none ∧
    (let l : GlLink := { lUp with replay := [txf], replayAt := some 0 }; l.replay[0]? = some txf) := by decide
/-- One frame of each kind, with its CRC. -/
def fData : List Byte := glFrame (1 + 8 * 0 + 32 + 64 + 128 * 7 + 2 ^ 13 * 0) ([0x30, 0] ++ leBytes 2 8 ++ leBytes 4 1)
theorem wit_GuylineFrames_data :
    goodFrame fData 1 ∧ frSeq fData = lUp.expect ∧ frSom fData = true ∧ frEom fData = true ∧ frClass fData = 0 ∧ nth none lUp.rx 0 = none ∧
    glMsgOk .gremon 0 ((fData.drop 4).take (min 56 (frLen fData + 1))) = true ∧ frSeq fData ≠ ({ lUp with expect := 255 } : GlLink).expect ∧
    frCrcOk (fData.take 63 ++ [BitVec.ofNat 8 (leAt fData 63 1 + 1)]) = false := by
  unfold goodFrame; decide +kernel
theorem wit_GuylineFrames_control :
    (goodFrame (glFrame 0 []) 0) ∧
    (let f := glFrame 2 ([1, 0, 0, 0] ++ leBytes 2 3); goodFrame f 2 ∧ leAt f 4 1 = 1 ∧ leAt f 7 1 = 0) ∧
    (let f := glFrame 2 [2, 0, 0, 0]; goodFrame f 2 ∧ leAt f 4 1 = 2 ∧ leAt f 7 1 = 0) ∧
    (let f := glFrame 2 [3, BitVec.ofNat 8 (pairCode (otherPair lUp.active)), 0, 0]; goodFrame f 2 ∧ leAt f 4 1 = 3 ∧ leAt f 5 1 = pairCode (otherPair lUp.active)) ∧
    (let f := glFrame (2 ^ 29) []; frCrcOk f = true ∧ frHdrOk f = true ∧ frKind f = 0 ∧ frAckv f = true ∧ ackCount (frAck f) [txf] = some 1) ∧
    (goodFrame fData 1 ∧ frSeq fData ≠ ({ lUp with expect := 9, nakOpen := true } : GlLink).expect) ∧
    ({ lUp with shadowRate := true } : GlLink).st = .up ∧ (lUp.st.open = true ∧ ({ lUp with farOpen := false } : GlLink).farOpen = false) := by
  unfold goodFrame; decide +kernel
theorem wit_GuylineFrames_timers :
    (let l : GlLink := { lUp with replay := [txf], goBacks := 14 }; l.replay ≠ [] ∧ l.goBacks < 15) ∧
    (let l : GlLink := { lUp with replay := [txf], goBacks := 15, stbyOk := true }; 15 ≤ l.goBacks ∧ l.stbyOk = true) ∧
    (let l : GlLink := { lUp with nakOpen := true, freed := [1, 0, 0, 0] }; l.nakOpen = true ∧ l.freed ≠ l.freedSent) ∧
    (let l : GlLink := { lUp with st := .init, initSent := some (true, 0, 1) }; l.st = .init ∧ l.initSent = some (true, 0, 1)) ∧
    State.linkUp (sA aUp) .ailen ∧ State.linkUp (sG gUp) (.lane 511) ∧ aUp.pwr = .active ∧ aUp.trc = [] := by unfold State.linkUp; decide
theorem wit_GuylineTraining :
    (GlLink.reset .gremon).st = .down ∧ aUp.mainReset = false ∧
    (let g : Gremon := { gUp with sys := { gUp.sys with pwr := { gUp.sys.pwr with glOn := true } } }; g.sys.pwr.glOn = true ∧ g.roomy = true) ∧
    (let l : GlLink := { GlLink.reset .gremon with st := .training, trainFails := 7 }; l.st = .training ∧ l.trainFails = 7 ∧ l.stbyOk = false) ∧
    (let l : GlLink := { GlLink.reset .gremon with st := .training, stbyOk := true }; l.st = .training ∧ l.stbyOk = true) ∧
    gUp.fld (kDieStat (pdOf 511 .standby)) 1 0 ≠ 3 ∧ ({ lUp with st := .init, initSent := some (true, 0, 1), initSeen := false } : GlLink).rest ≠ .refused ∧
    lUp.shadowRate = false ∧ aUp.build.standby = true ∧
    (let f := glFrame 3 ([0, 1, 0, 0] ++ leBytes 4 1 ++ [4, 16, 32, 128]); goodFrame f 3 ∧ leAt f 4 1 = 0 ∧ leAt f 5 1 = 1 ∧ leAt f 7 1 = 0 ∧
      BitVec.ofNat 32 (leAt f 8 4) = lUp.farEpoch) ∧
    (let f := glFrame 2 [4, 1, 0, 0]; goodFrame f 2 ∧ leAt f 4 1 = 4 ∧ leAt f 6 1 = 0) ∧ (let f := glFrame 2 [4, 1, 1, 0]; goodFrame f 2 ∧ leAt f 6 1 = 1) ∧
    lUp.stbyOk = false := by unfold goodFrame; decide +kernel

/-- A message at the front of lane 511. -/
def gLane (m : List Byte) : Gremon := { setG gUp 1000000000 .locked with lanes := [(511, { lUp with inbox := [⟨m, aUp.stamp⟩] })] }
/-- A RAW block of one channel (Table 3.14). -/
def rawBlk : List Byte := leBytes 8 10000 ++ leBytes 2 1 ++ [1, 0] ++ List.replicate 12 0
theorem wit_DieData :
    (∀ ty ∈ ([1, 2, 3, 0x10, 0x11, 0x12] : List Nat), ((gLane ([BitVec.ofNat 8 ty] ++ List.replicate 79 0)).takeLane 511 ty).isSome = true) ∧
    blkValues (leBytes 8 1 ++ leBytes 2 1 ++ List.replicate 14 0) [] = none ∧
    (let v : LaneCut := ⟨511, 0, 0, 0, []⟩
     let c : Cut := ⟨1, 5, 0, false, false, 0, [v], aUp.stamp, [], [], [], false, false, []⟩
     c.state ≠ 2 ∧ c.lanes.any (fun e => decide (e.lane = 511)) = true) ∧
    gUp.svc.vig.cuts = [] ∧ (gUp.die 511).rseqHi = none ∧ gUp.sys.pwr.pstate ≠ 3 ∧ gUp.roomy = true ∧ gUp.deadLinks = [] ∧
    (∃ vs, blkValues (leBytes 8 1 ++ leBytes 2 0 ++ List.replicate 14 0) [] = some vs) :=
  ⟨by decide, by decide, by decide, by decide, by decide, by decide, by decide, by decide, _, rfl⟩
theorem wit_DieControl :
    (let m : List Byte := [0x23, 0, 0, 0] ++ leBytes 4 0x0400 ++ leBytes 2 0 ++ leBytes 2 4 ++ leBytes 4 0 ++ leBytes 8 1 ++ List.replicate 20 0
     bits (leAt m 4 4) 15 8 = 4 ∧ leAt m 10 2 = 4 ∧ leAt m 16 8 = 1 ∧ ((gLane m).takeLane 511 0x23).isSome = true) ∧
    (gUp.die 511).waiting.find? (fun w => decide (w.1.toNat = 7)) = none ∧
    (let d : DieInfo := { DieInfo.none with waiting := [(7, cmdMsg 1 1 0x1008 [])] }
     (d.waiting.find? fun w => decide (w.1.toNat = 7)).isSome = true ∧ leAt (cmdMsg 1 1 0x1008 []) 8 4 = 0x1008 ∧ leAt (cmdMsg 1 1 0x1008 []) 6 1 = 1) ∧
    (gUp.scrDie 511).cur = none ∧
    (let g : Gremon := { gUp with regs := { gUp.regs with vals := [(kBind 0, 0x1000A00 - 1)] } }; g.binding 0 = some (0x9FF, 0) ∧ g.midDown 0 = false ∧
      (g.chan 0).full = false) ∧ gUp.binding 0 = none := by decide

/-- Core 0 of a die runs on physical core 0. -/
def gServed : Gremon :=
  { gUp with cores := [(0, bcore [])], regs := { gUp.regs with vals := [(kCtMap 0 0, 32)] } }
theorem wit_PackageFaults :
    (gUp.exclLinks.contains (0, 1) || gUp.deadLinks.contains (0, 1)) = false ∧ 1 ∈ meshNext [] 0 ∧ 31 ∉ meshNext [] 0 ∧ 23 ∉ gUp.deadStacks ∧
    eccNamed (.line 0) = true ∧ eccNamed (.line (2 ^ 48)) = false ∧ cnaHbm 0 = false ∧ cnaHbm (2 ^ 47) = true ∧ gUp.sys.pwr.brace = false ∧
    (gServed.core 0).run = true ∧ gServed.servedBy 0 0 = some 0 ∧ gServed.fld (kCoreErr 0 0) 1 0 = 0 ∧ bit (gServed.reg (kCtMap 0 0)) 5 = true ∧
    ({ gServed with regs := { gUp.regs with vals := [(kCtMap 0 0, 0)] } } : Gremon).servedBy 0 0 = none ∧ gUp.roomy = true := by decide
theorem wit_PackageFaults_held :
    (let g := gEng 0x90 1 (blk 0x100 0x2000 0 1 1 0)
     (g.eng.find? fun e => decide (e.core / 32 = 0) && decide (e.engine = .sketch)).isSome = true ∧ (cbSync (blk 0x100 0x2000 0 1 1 0)).testBit 14 = false) ∧
    (let g : Gremon := { gUp with kits := [(0, { KitSlot.empty with handle := 9, state := 3 })], sync := [(16383, ⟨1, 9, 0, []⟩)] }
     (∃ k, g.kitOf (g.obj 16383).kit = some (0, k)) ∧ (g.kit 0).state = 3) ∧
    gUp.coreNote 0 0 = gUp.coreNote 0 1 ∧ gUp.ctBusy 31 = false ∧
    (let b := leBytes 8 (hbmCna 0) ++ (blk 0 0x2000 (2 ^ 48 + 0x200) 1 1 0).drop 8; (gEng 0x92 1 b).ctBusy 0 = true) := ⟨by decide, ⟨⟨_, rfl⟩, by decide⟩, by decide, by decide, by decide⟩
theorem wit_PackageFaults_ailen :
    aUp.mainUp = true ∧ 0 < aUp.build.evpBanks ∧ aUp.cap.latched = [] ∧ aUp.roomy = true ∧
    (∃ l m r, ({ aUp with cap := { aUp.cap with latched := [lat, lat] } } : Ailen).cap.latched = l :: m :: r) ∧
    0 < aUp.build.stpTaps ∧ 0 < aUp.taps.length := ⟨by decide, by decide, by decide, by decide, ⟨_, _, _, rfl⟩, by decide, by decide⟩
theorem wit_ThermalProtection :
    (∃ d, d < 32 ∧ 115 * 64 ≤ (((List.replicate 32 (0x1CC0 : BitVec 16)).getD d 0).toInt)) ∧
    (¬∃ d, d < 32 ∧ 115 * 64 ≤ (((List.replicate 32 (0x1CBF : BitVec 16)).getD d 0).toInt)) ∧
    gUp.sys.hot.tripAt = none ∧ gUp.sys.pwr.brace = false ∧ gUp.dvfs = 20000 ∧ gUp.sys.hot.stepAt + 1000000 ≤ 1000000 := by
  refine ⟨⟨31, by decide⟩, ?_, by decide, by decide, by decide, by decide⟩
  rintro ⟨d, h, k⟩
  exact absurd k ((by decide : ∀ d, d < 32 → ¬115 * 64 ≤ (((List.replicate 32 (0x1CBF : BitVec 16)).getD d 0).toInt)) d h)
/-! ### Reductions, history, kits, host commands, Ridgeline -/

/-- A section table entry, and a package of one core with a FRAME schedule, one barrier and a wedge limit of 2 (Tables 12.1–12.4). -/
def sect (ty ofs : Nat) (b : List Byte) (crc : Nat) : List Byte := leBytes 2 ty ++ leBytes 2 0 ++ leBytes 4 ofs ++ leBytes 4 b.length ++ leBytes 4 crc
def kRes : List Byte := List.replicate 12 0 ++ leBytes 2 1 ++ List.replicate 50 0 ++ leBytes 4 1 ++ List.replicate 508 0
def kCode : List Byte := [0, 0, 0, 0] ++ leBytes 4 0x1000 ++ leBytes 4 0x1000 ++ leBytes 4 64 ++ List.replicate 64 0
def kSched : List Byte := [1, 2, 1] ++ List.replicate 13 0 ++ ([0, 0] ++ leBytes 2 0 ++ leBytes 4 0 ++ leBytes 4 1000 ++ leBytes 4 0)
def kSync : List Byte := [2, 0, 0, 0] ++ leBytes 4 1
def pkg1 : List Byte :=
  leBytes 4 0x54494B58 ++ leBytes 2 1 ++ leBytes 2 5 ++ leBytes 4 7 ++ leBytes 4 1 ++ leBytes 2 0 ++ [0, 0] ++ leBytes 4 1152 ++
    [0x47, 0x52, 0x2D, 0x33, 0x32, 0x32, 0x34, 0] ++ List.replicate 32 0 ++
    sect 1 192 kRes 0xDD0D3A08 ++ sect 2 768 kCode 0xE32D9C7D ++ sect 6 896 kSched 0x8AFD2F3F ++ sect 9 960 kSync 0xC315E27C ++
    sect 15 1024 (List.replicate 96 0) 0x51F204AB ++ List.replicate 48 0 ++
    kRes ++ kCode ++ List.replicate 48 0 ++ kSched ++ List.replicate 32 0 ++ kSync ++ List.replicate 56 0 ++ List.replicate 128 0
/-- A Gremon whose first operator key slot is filled. -/
def gKey : Gremon := { gHost with sys := { gHost.sys with pwr := { gHost.sys.pwr with keys := [⟨[1], false⟩] } } }

/-- The bytes of `l`, from offset `o` on, are 0 outside the sections: one pass over the list. -/
def zeroOutside (ss : List KSect) : Nat → List Byte → Bool
  | _, [] => true
  | o, b :: l => (decide (b = 0) || ss.any fun s => decide (s.ofs ≤ o) && decide (o < s.ofs + s.len)) && zeroOutside ss (o + 1) l
theorem zeroOutside_at (ss : List KSect) (l : List Byte) : ∀ (o i : Nat), zeroOutside ss o l = true →
    leAt l i 1 = 0 ∨ (ss.any fun s => decide (s.ofs ≤ o + i) && decide (o + i < s.ofs + s.len)) = true := by
  induction l with
  | nil => intro o i _; simp [leAt, ofLe]
  | cons b l ih =>
    intro o i h
    simp only [zeroOutside, Bool.and_eq_true, Bool.or_eq_true, decide_eq_true_eq] at h
    cases i with
    | zero =>
      rcases h.1 with h | h
      · exact .inl (by simp [leAt, ofLe, h])
      · exact .inr h
    | succ i =>
      have e : o + 1 + i = o + (i + 1) := by omega
      have := ih (o + 1) i h.2
      rw [e] at this
      exact this
theorem pkg1_laid : sectsLaid pkg1 (pkSects pkg1) = true := by
  unfold sectsLaid
  simp only [Bool.and_eq_true]
  refine ⟨⟨by decide +kernel, by decide +kernel⟩, List.all_eq_true.mpr fun i _ => ?_⟩
  have h := zeroOutside_at (pkSects pkg1) (pkg1.drop (64 + 16 * (pkSects pkg1).length)) (64 + 16 * (pkSects pkg1).length) i (by decide +kernel)
  simp only [leAt, List.drop_drop] at h
  rcases h with h | h
  · simp only [leAt, h, decide_true, Bool.true_or]
  · simp only [h, Bool.or_true]
set_option maxRecDepth 100000 in
theorem pkg1_format : pkFormatOk pkg1 false = true := by
  unfold pkFormatOk
  simp only [pkg1_laid, Bool.and_true]
  decide +kernel
/-- The loader admits it: every check passes and it is placed; with no key, or with no slot served, it is refused. -/
theorem wit_KitLife_load : gKey.kitIntegrity pkg1 false true = (0, 255, 0) ∧ gUp.kitIntegrity [] false true = (1, 255, 0) := by
  refine ⟨?_, by decide⟩
  unfold Gremon.kitIntegrity
  simp only [pkg1_format]
  decide +kernel
theorem wit_KitLife_place : (gKey.kitResources pkg1).isEmpty = true ∧ (gKey.placeKit pkg1 false).isSome = true := by decide +kernel
theorem wit_KitLife_resources :
    (({ gKey with kits := [(0, { KitSlot.empty with handle := 1, state := 3, cores := List.range 32 })] } : Gremon).kitResources pkg1).isEmpty = false := by
  decide +kernel
/-- A kit that may start, one that waits, a phase met, missed, and at the wedge limit, one to restart, one to unload. -/
theorem wit_KitLife :
    (let k : KitSlot := { KitSlot.empty with handle := 1, state := 2, pkg := pkg1 }
     k.state = 2 ∧ k.waiting = [] ∧ gHost.clock.own ≠ .unset ∧ gHost.sys.pwr.pstate < 2 ∧ gHost.scoreAfter (gHost.now + 1000000) < 2 ^ 64) ∧
    (let k : KitSlot := { KitSlot.empty with state := 2, waiting := [511] }; k.waiting ≠ [] ∧ k.committed + 10000000 < 2 ^ 64) ∧
    (let k : KitSlot := { KitSlot.empty with state := 3, pkg := pkg1, phases := [{ next := 0, late := 1 }] }
     k.phases[0]? = some { next := 0, late := 1 } ∧ phCad k.pkg 0 = 0 ∧ schedWedge k.pkg = 2 ∧
       ¬((gUp.obj (k.obj0 + phBar k.pkg 0)).gen + 2 ^ 32 - 1) % 2 ^ 32 < 2 ^ 31) ∧
    (let k : KitSlot := { KitSlot.empty with state := 5, restartAt := some 5 }
     k.restartAt = some 5 ∧ k.unload = false ∧ gHost.scoreAfter 5 < 2 ^ 64 ∧ !(gHost.haltsOf (pkJob k.pkg)).isEmpty = false ∧
       (gHost.placeBad k.pkg k.hbm k.ft || k.cores.any fun n => !gHost.slotServed (n / 32) (n % 32)) = false) ∧
    (let k : KitSlot := { KitSlot.empty with state := 4 }; k.state = 4 ∧ k.haltNow = false) ∧ gHost.clock.pt < 2 ^ 104 := by decide +kernel

/-- A system reduction, and one of a resident kit that closes with the frame (Table 12.8). -/
def redSect : List Byte :=
  leBytes 4 5 ++ leBytes 2 0 ++ [4, 3] ++ leBytes 4 1 ++ leBytes 4 0 ++ [0, 1] ++ leBytes 2 0 ++ leBytes 4 100 ++ leBytes 2 10 ++ leBytes 2 0 ++ [1, 0, 0, 0]
def gRed : Gremon :=
  { gHost with kits := [(0, { KitSlot.empty with handle := 1, state := 3, pkg := leBytes 6 0 ++ leBytes 2 1 ++ List.replicate 56 0 ++ sect 7 80 redSect 0 ++ redSect })] }
def red0 : RedPeriod := RedPeriod.fresh 5 3
theorem wit_Reductions :
    (∃ d, gRed.decl 5 = some d ∧ d.pkind = 0 ∧ d.identity.length = d.plen ∧ gRed.redAt d < 2 ^ 63) ∧
    (∃ d, gRed.decl 0xF0000001 = some d ∧ d.pkind = 2) ∧ gRed.decl 6 = none ∧ gRed.clock.pt < 2 ^ 104 :=
  ⟨⟨_, rfl, by decide⟩, ⟨_, rfl, by decide⟩, by decide, by decide⟩
/-- A period at each of its stages. -/
theorem wit_Reductions_periods :
    (let g : Gremon := { gRed with reds := [{ red0 with closedAt := some 10 }] }
     (g.red 5 3).isSome = true ∧ red0.out = none ∧ red0.anyRetracted = false ∧ red0.done = false) ∧
    (let r : RedPeriod := { red0 with closedAt := some 10, out := some [], outAt := 5, fails := 2, attempt := 253 }
     r.out ≠ none ∧ r.verdict = false ∧ r.final = false ∧ r.outAt + 2000 < 2 ^ 64 ∧ 2 ≤ r.fails) ∧
    (let m : RlMsgIn := ⟨0, [0x30] ++ List.replicate 15 0 ++ leBytes 4 5 ++ List.replicate 60 0, gUp.stamp⟩
     let g : Gremon := { gRed with rlIn := [m] }
     takeFirst (fun m => decide (leAt m.bytes 0 1 = 0x30)) g.rlIn = some (m, []) ∧ rrRid (m.bytes.drop 16) = 5 ∧ rrState (m.bytes.drop 16) = 0) := by
  decide

theorem wit_HistoryService :
    (let x : HistSample := ⟨511, 9, false, false, [(0, 5)]⟩
     let g : Gremon := { gHost with svc := { gHost.svc with hist := { gHost.svc.hist with waiting := [x] } } }
     (∃ x ∈ g.svc.hist.waiting, x.frame = 9) ∧ (∀ x ∈ g.svc.hist.waiting, 9 ≤ x.frame) ∧ ∀ o ∈ g.svc.hist.opens, o.vals.length < 511) ∧
    (let e : Export := ⟨hcmd (.qp 63) 0x06 1 [], 0, 2, 0, 0, 0, [], []⟩
     e.next + 1 < e.first + e.pages ∧ e.cmd.isQp = true ∧ e.cmd.src = .qp 63 ∧ gHost.flowPoison 30 (hbmCna hpaHist) 4096 = false ∧
       gHost.regionLocked .pcie (ind 0x90044) = false ∧ ({ e with next := 1 } : Export).first + 2 ≤ 1 + 1) := by
  refine ⟨⟨⟨_, List.mem_singleton.mpr rfl, rfl⟩, by decide, by decide⟩, by decide⟩

theorem wit_HostCompletions :
    (hcmd (.qp 63) 0x06 1 []).src = .qp 63 ∧ gHost.conf = false ∧ ([] : List Byte).length ≤ (hcmd (.qp 63) 0x06 1 []).cap ∧
    (hcmd (.qp 63) 0x06 1 []).cap < [(0 : Byte)].length ∧ (hcmd (.mgmt 15 7) 0x06 0 []).src = .mgmt 15 7 ∧
    (let g : Gremon := { gHost with regs := { gHost.regs with vals := [(kHq 63 0x10, 0xC84)] } }
     bit (g.reg (kHq 63 0x10)) 11 = true ∧ (Tbl.get Vector.none g.host.vecs (g.fld (kHq 63 0x10) 18 12)).last = none) := by decide

/-- A state whose only waiting host command is `c`. -/
def sCmd (g : Gremon) (c : HostCmd) : State := sG { g with host := { g.host with cmds := [c] } }
theorem hasCmd (g : Gremon) (c : HostCmd) (h : g.sys.pwr.rails = true) (e : g.failed = false) : (sCmd g c).HasCmd c.opc c [] :=
  ⟨h, e, by simp [sCmd, sG, takeFirst]⟩
/-- A command of each opcode on a Gremon whose module has failed. -/
theorem wit_FailedModule : ∀ o ∈ ([1, 2, 3, 4, 5, 6, 7, 8, 0x10, 0x11, 0x12, 0x13, 0x14, 0x15, 0x16] : List Nat),
    let s := sCmd { gHost with failed := true } (hcmd (.qp 63) o 1 [])
    s.g.sys.pwr.rails = true ∧ s.g.failed = true ∧ s.g.sys.pwr.brace = false ∧
      takeFirst (fun x : HostCmd => decide (x.opc = o)) s.g.host.cmds = some (hcmd (.qp 63) o 1 [], []) := by decide
/-- A screening pack that is well formed: LOGIC, no body (Table 15.1). -/
def pack1 : List Byte := leBytes 4 0x4B435053 ++ leBytes 4 0x10001 ++ [1, 0, 0, 0] ++ leBytes 2 1 ++ List.replicate 146 0
theorem wit_LocalCommands :
    (∀ o ∈ ([3, 4, 5, 6, 7, 8] : List Nat), (sCmd gKey (hcmd (.qp 63) o 1 [])).HasCmd o (hcmd (.qp 63) o 1 []) []) ∧
    gKey.packReason pack1 true = 0 ∧ gKey.packReason [] true = 1 ∧ gKey.sys.pwr.brace = false ∧
    (let j : JobInfo := ⟨7, 0, 1, none⟩
     let g : Gremon := { gHost with jobs := [j] }; g.jobInfo 7 = some j ∧ g.jobInfo 8 = none) ∧
    (let d : List Byte := leBytes 40 6 ++ leBytes 8 0 ++ leBytes 8 1 ++ leBytes 8 0
     let c : HostCmd := ⟨.qp 63, 1, d, [], [(0, 4096)], 0⟩
     c.param 8 8 = 1 ∧ c.param 0 8 + c.param 8 8 ≤ 1290 * 2 ^ 18 ∧ 4096 * c.param 8 8 ≤ c.cap ∧ (hcmd (.qp 63) 6 1 []).param 8 8 = 0) ∧
    gHost.svc.hist.exp = none ∧ gHost.binding 0 = none ∧
    (let g : Gremon := { gHost with regs := { gHost.regs with vals := [(kBind 0, 0x1000001)] } }; g.binding 0 = some (1, 0) ∧ g.midDown 0 = false) := by
  refine ⟨fun o h => ?_, by decide +kernel, by decide, by decide, by decide, by decide +kernel, by decide, by decide, by decide⟩
  have e : (hcmd (.qp 63) o 1 []).opc = o := by
    revert o; decide
  have := hasCmd gKey (hcmd (.qp 63) o 1 []) rfl rfl
  rwa [e] at this

/-- The root of a pod of its own, with every permission. -/
def gRoot : Gremon := { gKey with root := true, tree := { Tree.reset with phase := 1, root := gKey.gid } }
/-- A query descriptor (Table 16.7) of one channel that asks for its records. -/
def qd0 : List Byte := List.replicate 10 0 ++ leBytes 2 1 ++ List.replicate 52 0
theorem wit_RootCommands :
    gRoot.root = true ∧ (∀ o ∈ ([0x10, 0x11, 0x12, 0x13, 0x14, 0x15, 0x16] : List Nat),
      (sCmd gRoot (hcmd (.qp 63) o 1 [])).HasCmd o (hcmd (.qp 63) o 1 []) []) ∧
    qdOk qd0 = true ∧ eidsOk (qdEids qd0) = true ∧ gRoot.queryAllowed 1 0 qd0 = true ∧ qdOk [] = false ∧ gRoot.feeds = [] ∧
    gRoot.svc.vig.root = [] ∧ gRoot.svc.cont.restores = [] ∧ gRoot.bcasts = [] ∧ gRoot.queries = [] ∧ gRoot.tree.joinedAs = [] := by
  refine ⟨by decide, fun o h => ?_, by decide, by decide, by decide, by decide, by decide, by decide, by decide, by decide, by decide, by decide⟩
  have e : (hcmd (.qp 63) o 1 []).opc = o := by
    revert o; decide
  have := hasCmd gRoot (hcmd (.qp 63) o 1 []) rfl rfl
  rwa [e] at this
/-- Broadcasts of each kind that are issued, a Vigil request, and a manifest that is whole. -/
theorem wit_RootCommands_data :
    (∀ e ∈ [((1 : Nat), leBytes 4 100 ++ leBytes 4 1000 ++ leBytes 8 3000000000), (4, leBytes 2 9 ++ leBytes 6 0 ++ leBytes 8 5),
        (5, leBytes 8 3000000000 ++ leBytes 8 1)],
      gRoot.bcastRefusal ⟨.qp 63, 1, leBytes 40 0x12 ++ leBytes 24 e.1, e.2, [], 0⟩ = none) ∧
    (gRoot.bcastRefusal ⟨.qp 63, 1, leBytes 40 0x12 ++ leBytes 24 9, [], [], 0⟩).isSome = true ∧
    (let d := leBytes 8 2000000000 ++ leBytes 4 0 ++ leBytes 2 0 ++ leBytes 2 1
     d.length = 16 ∧ leAt d 14 2 < 2 ∧ leAt d 8 4 = 0 ∧ gRoot.now + 200000 ≤ leAt d 0 8 ∧ leAt d 12 2 = 0) := by decide
theorem wit_RootCommands_manifest :
    (let m := leBytes 4 0x4E414D58 ++ leBytes 2 1 ++ leBytes 2 7 ++ List.replicate 72 0 ++ sha384 [] ++ List.replicate 96 0
     pmOk m = true ∧ pmJob m = 7 ∧ pmRoot m = 0) := by decide +kernel

/-- A flit of each kind with its CRC, on a port that is UP. -/
def rUp : RlPort := { RlPort.reset with st := .up, active := [0, 1, 2, 3], spare := some 4, txActive := [0, 1, 2, 3], txSpare := some 4 }
def flitD : List Byte := rlFlit (1 + 8 * 1 + 32 + 64 + 128 * 63) ([0x22, 0, 0, 0] ++ leBytes 4 64 ++ List.replicate 56 0)
theorem wit_RidgelineFlits_data :
    goodFlit flitD 1 ∧ flSeq flitD = rUp.expect ∧ flSom flitD = true ∧ flEom flitD = true ∧ flAbort flitD = false ∧ flVc flitD = 1 ∧
    rlHdrOk 1 ((flitD.drop 8).take 64) = true ∧ rlMsgOk 1 ((flitD.drop 8).take 64) = true ∧ gUp.rlRoute ((flitD.drop 8).take 64) = none ∧
    flSeq flitD ≠ ({ rUp with expect := 7 } : RlPort).expect := by unfold goodFlit; decide +kernel
theorem wit_RidgelineFlits_control :
    (let f := rlFlit 0 []; goodFlit f 0) ∧ (let f := rlFlit 2 [1]; goodFlit f 2 ∧ leAt f 8 1 = 1) ∧ (let f := rlFlit 2 [2]; goodFlit f 2 ∧ leAt f 8 1 = 2) := by
  unfold goodFlit; decide +kernel
theorem wit_RidgelinePorts_control :
    (let f := rlFlit 2 [3, 131]; goodFlit f 2 ∧ leAt f 8 1 = 3 ∧ leAt f 9 1 = 128 + 3) ∧
    (let f := rlFlit 3 ([1, 0, 0, 0] ++ leBytes 4 1 ++ leBytes 16 0 ++ leBytes 8 1023); goodFlit f 3 ∧ leAt f 9 1 = 0 ∧ leAt f 32 8 = 1023) := by
  unfold goodFlit; decide +kernel
theorem wit_RidgelineFlits :
    (RlPort.reset.st.isOpen = false ∧ RlPort.reset.st ≠ .init) ∧
    (rUp.st.isOpen = true ∧ rUp.replayAt = none ∧ rUp.ctl = [] ∧ rUp.replay = [] ∧ Tbl.find rUp.rx 256 = none ∧ rUp.freed = rUp.freedSent) ∧
    (let t : RlFlit := ⟨1, true, true, false, 0, 0, []⟩
     let x : RlPort := { rUp with replay := [t], replayAt := some 0, goBacks := 14, nakOpen := true, freed := [0, 1, 0, 0] }
     x.replay[0]? = some t ∧ x.goBacks < 15 ∧ x.nakOpen = true ∧ x.freed ≠ x.freedSent ∧ rlAckCount 0 x.replay = some 1) ∧
    (let g := ({ gUp with ports := [(5, rUp)] } : Gremon).rlSend 5 vcControl (gUp.rlMsg 0x22 0 1 0 0 (List.replicate 48 0))
     (g.port 5).pick.isSome = true ∨ (g.port 5).credits = [0, 0, 0, 0]) ∧
    (let x : RlPort := { rUp with ctl := [rlNak 5] }; x.ctl = [rlNak 5]) := by decide
theorem wit_RidgelinePorts :
    ((List.range 5).filter [0, 2, 4].contains).length < 4 ∧ 4 ≤ ((List.range 5).filter [0, 1, 3, 4].contains).length ∧
    rUp.spare = some 4 ∧ rUp.active.contains 3 = true ∧ rUp.txActive.contains 3 = true ∧ rUp.laneMove = none ∧
    (let x : RlPort := { rUp with spare := none }; x.spare = none ∧ x.st.isOpen = true) ∧ 100000 < 100001 ∧
    (let g : Gremon := { gUp with ports := [(5, { rUp with sampleAt := 1 })] }; g.clk / 1000000 ≠ (g.port 5).sampleAt) ∧
    (let x : RlPort := { RlPort.reset with st := .init }; x.st = .init ∧ x.initSeen = false) ∧
    (let x : RlPort := { rUp with initSeen := true, farOpen := false, initSent := some (true, 0, 1) }
     x.st.isOpen = true ∧ x.initSeen = true ∧ x.ctl = [] ∧ x.replayAt = none ∧ x.initAt + 1000 ≤ 1000 ∧ x.initSent = some (true, 0, 1)) ∧
    (let f := rlFlit 3 ([0, 0, 0, 0] ++ leBytes 4 1 ++ leBytes 16 0 ++ leBytes 8 1023); leAt f 8 1 = 0) ∧
    gUp.fld (kDieStat (rdOf 5)) 1 0 ≠ 3 ∧
    ({ gUp with regs := { gUp.regs with vals := [(kDieStat (rdOf 5), 3)] } } : Gremon).fld (kDieStat (rdOf 5)) 1 0 = 3 := by decide
/-! ### The pod -/

/-- Gremon with the message `b` in on port 5. -/
def sRl (g : Gremon) (b : List Byte) : State := sG { g with rlIn := [⟨5, b, gUp.stamp⟩] }
/-- A message of type `ty` from Gremon 1 to 2 with body `b`. -/
def rlm (ty : Nat) (b : List Byte) : List Byte := leBytes 2 ty ++ leBytes 2 0 ++ leBytes 4 (16 + b.length) ++ leBytes 2 1 ++ leBytes 2 2 ++ leBytes 4 0 ++ b
theorem hasRl (g : Gremon) (ty : Nat) (b : List Byte) (h : g.sys.pwr.rails = true) (e : leAt b 0 1 = ty) : (sRl g b).HasRl ty ⟨5, b, gUp.stamp⟩ [] :=
  ⟨h, by simp [sRl, sG, takeFirst, e]⟩
theorem hasJoin (g : Gremon) (k : Nat) (b : List Byte) (h : g.sys.pwr.rails = true) (e : leAt b 0 1 = 2) (e' : leAt b 18 1 = k) :
    (sRl g b).HasJoin k ⟨5, b, gUp.stamp⟩ [] := ⟨h, by simp [sRl, sG, takeFirst, e, e']⟩

/-- A HELLO from `snd`: PRIO 5 of `snd` and of the root `rt`, at depth `dp`, with PARENT `par`. -/
def hello (sd rt dp par : Nat) : Hello := ⟨sd, 5, 5, dp, 1, rt, par, 0, 0, [], 9, 0⟩
/-- Gremon 2 FORMING under root 1, heard on port 5, which is UP; Gremon 3 below it on port 0. -/
def gPod : Gremon :=
  { gKey with
    regs := { gKey.regs with vals := (kModule, 2) :: gKey.regs.vals }
    ports := [(0, rUp), (5, rUp)]
    tree := { Tree.reset with phase := 1, root := 1, parent := some 5, hellos := [(0, hello 3 1 2 2), (5, hello 1 1 0 0x3FF)]
                              subtree := [⟨3, 0, 0, false⟩] } }
/-- The same as the root of its pod. -/
def gPodRoot : Gremon := { gPod with root := true, tree := { gPod.tree with phase := 2, root := 2, parent := none, joined := true, joinedAs := [(3, 9)] } }
def helloBytes (rt dp : Nat) : List Byte :=
  rlm 1 ([5, 5] ++ leBytes 1 dp ++ [1] ++ leBytes 2 rt ++ leBytes 2 0x3FF ++ leBytes 4 0 ++ leBytes 4 0 ++ List.replicate 32 0xFF ++ leBytes 8 9)
def helloFrom (snd rt dp : Nat) : List Byte := (helloBytes rt dp).take 8 ++ leBytes 2 snd ++ (helloBytes rt dp).drop 10
def join (id kind n : Nat) (l : List (Nat × Nat)) : List Byte :=
  rlm 2 (leBytes 2 id ++ leBytes 1 kind ++ leBytes 1 0 ++ leBytes 2 n ++ leBytes 2 0 ++ leBytes 8 9 ++ leBytes 8 0 ++
    (l.flatMap fun e => leBytes 2 e.1 ++ leBytes 1 e.2 ++ leBytes 1 0))
theorem wit_PodTree :
    gPod.gid = 2 ∧ gPod.heard.length = 2 ∧ (∃ e ∈ gPod.heard, e.2.sender ≠ gPod.gid ∧ (∀ x ∈ gPod.tree.stale, x.1 ≠ e.2.root) ∧
      gPod.gid ∉ e.2.path ∧ e.2.depth < 15) ∧ gPod.sys.pwr.rails = true ∧ gPod.portUp 5 = true ∧ gPod.tree.phase = 1 ∧ ¬gPod.heads ∧ gPod.root = false ∧
    gPod.tree.parent = some 5 ∧ gPodRoot.root = true ∧ gPodRoot.heads ∧ gPodRoot.roomy = true := by
  unfold Gremon.heads
  refine ⟨by decide, by decide, ⟨_, List.mem_cons_self .., ?_⟩, by decide⟩
  decide
theorem wit_PodTree_hello :
    (sRl gPod (helloFrom 2 2 0)).HasRl 1 ⟨5, helloFrom 2 2 0, gUp.stamp⟩ [] ∧ (Hello.ofMsg (helloFrom 2 2 0) 0).sender = gPod.gid ∧
    (sRl gPod (helloFrom 1 1 0)).HasRl 1 ⟨5, helloFrom 1 1 0, gUp.stamp⟩ [] ∧ (Hello.ofMsg (helloFrom 1 1 0) 0).sender = 1 ∧
    (let t : Gremon := { gPod with tree := { gPod.tree with hellos := Tbl.put gPod.tree.hellos 5 (Hello.ofMsg (helloFrom 1 1 0) gPod.clk) } }
     t.elect.2 = false ∧ t.elect.1.root = 1) ∧
    (let t : Gremon := { gPod with tree := { gPod.tree with hellos := [(5, Hello.ofMsg (helloFrom 1 1 15) gPod.clk)] } }
     t.elect.2 = true ∧ t.elect.1.root = t.gid) ∧
    (let g : Gremon := { gPod with tree := { gPod.tree with phase := 2, hellos := [(5, Hello.ofMsg (helloFrom 0 0 0) gPod.clk)] } }
     g.tree.phase = 2 ∧ g.elect.1.root ≠ g.tree.root ∧ g.elect.2 = false) :=
  ⟨hasRl _ _ _ rfl rfl, by decide, hasRl _ _ _ rfl rfl, by decide, by decide, by decide, by decide⟩
theorem wit_PodTree_join :
    (∀ l, (sRl gPodRoot (join 2 0 1 l)).HasJoin 0 ⟨5, join 2 0 1 l, gUp.stamp⟩ []) ∧ leAt (join 2 0 1 []) 16 2 = gPodRoot.gid ∧
    (let id := leAt (join 7 0 1 [(7, 0)]) 16 2
     id ≠ gPodRoot.gid ∧ (¬∃ x ∈ gPodRoot.tree.joinedAs, x.1 = id ∧ x.2 ≠ BitVec.ofNat 64 (leAt (join 7 0 1 [(7, 0)]) 24 8)) ∧
       ∃ e ∈ joinList (join 7 0 1 [(7, 0)]), e.1 = id) ∧
    (let g : Gremon := { gPodRoot with tree := { gPodRoot.tree with joinedAs := [(3, 8)] } }
     let b := join 3 0 1 [(3, 0)]
     (∃ x ∈ g.tree.joinedAs, x.1 = leAt b 16 2 ∧ x.2 ≠ BitVec.ofNat 64 (leAt b 24 8)) ∧ g.routeTo 3 ≠ none) ∧
    leAt (join 7 0 1 [(7, 0)]) 2 1 < 31 ∧ (sRl gPod (rlm 3 [0, 1, 0, 0, 1, 0, 0, 0])).HasRl 3 ⟨5, rlm 3 [0, 1, 0, 0, 1, 0, 0, 0], gUp.stamp⟩ [] :=
  ⟨fun _ => hasJoin _ _ _ rfl rfl rfl, by decide, by decide, by decide, by decide, hasRl _ _ _ rfl rfl⟩
theorem wit_PodTree_refused : (let b := rlm 3 [1, 1, 0, 0, 1, 0, 0, 0]
    (sRl gPod b).HasRl 3 ⟨5, b, gUp.stamp⟩ [] ∧ leAt b 16 1 = 1 ∧ gPod.roomy = true) := ⟨hasRl _ _ _ rfl rfl, by decide⟩
/-- A member that was declared failed comes back. -/
theorem wit_PodTree_member : (let g : Gremon := { gPodRoot with tree := { gPodRoot.tree with failed := [7] } }
    g.heads ∧ (∀ x ∈ g.tree.joinedAs, x.1 ≠ 7) ∧ 7 ∈ g.tree.failed ∧ (sRl g (join 7 0 1 [(7, 0)])).HasJoin 0 ⟨5, join 7 0 1 [(7, 0)], gUp.stamp⟩ []) := by
  refine ⟨?_, by decide, by decide, hasJoin _ _ _ rfl rfl rfl⟩
  unfold Gremon.heads
  decide
theorem wit_PodRepair :
    gPod.tree.parent ≠ none ∧ gPodRoot.tree.parent = none ∧ gPod.tree.stale = [] ∧
    (let g : Gremon := { gPod with tree := { gPod.tree with stale := [(9, 5)] } }; ∃ x ∈ g.tree.stale, ∀ e ∈ g.tree.stale, x.2 ≤ e.2) ∧
    (let g : Gremon := { gPod with tree := { gPod.tree with alt := some 0 } }; g.tree.alt = some 0 ∧ g.portUp 0 = true) ∧
    (gPod.tree.alt = none) ∧ (sRl gPod (join 3 1 1 [(3, 1)])).HasJoin 1 ⟨5, join 3 1 1 [(3, 1)], gUp.stamp⟩ [] ∧
    (gPod.tree.rehomeList (joinList (join 3 1 1 [(3, 1)]))) = [(3, 1)] ∧ leAt (join 3 1 1 [(3, 1)]) 2 1 = 0 ∧
    (sRl gPod (join 3 2 1 [(3, 1)])).HasJoin 2 ⟨5, join 3 2 1 [(3, 1)], gUp.stamp⟩ [] ∧
    (∃ x ∈ gPod.tree.subtree, ∃ e ∈ joinList (join 3 2 1 [(3, 1)]), e.1 = x.gid ∧ x.moves < e.2) ∧
    gPod.portUp 1 = false ∧ gPod.tree.parent ≠ some 1 ∧
    (let g : Gremon := { gPodRoot with tree := { gPodRoot.tree with pruned := [(3, 0, 0)] } }
     g.tree.pruned = [] ++ [(3, 0, 0)] ∧ g.root = true ∧ (3, 0, 0).1 < 65536 ∧ g.childPorts = [0]) :=
  ⟨by decide, by decide, by decide, by decide, by decide, by decide, hasJoin _ _ _ rfl rfl rfl, by decide, by decide,
    hasJoin _ _ _ rfl rfl rfl, by decide, by decide, by decide, by decide⟩

/-- A broadcast of KIND `k` with payload `p`, and an acknowledgement of it by Gremon 3. -/
def bcast (k : Nat) (p : List Byte) : List Byte := rlm 0x20 (leBytes 8 1025 ++ leBytes 8 0 ++ leBytes 2 k ++ leBytes 2 0 ++ leBytes 4 p.length ++ leBytes 4 0 ++ leBytes 4 0 ++ p)
def back3 : List Byte := rlm 0x21 (leBytes 8 1025 ++ leBytes 2 3 ++ leBytes 6 0 ++ idSet [3] ++ idSet [])
/-- The record of that broadcast at the root, ordered by a command. -/
def bRec : BcastRec := ⟨1025, [], 0, true, [2], [], [2, 3], 0, false, 0, [2], [], some (hcmd (.qp 63) 0x12 1 [])⟩
def gBc : Gremon := { gPodRoot with bcasts := [bRec] }
theorem wit_Broadcasts :
    (∀ k p, (sRl gPod (bcast k p)).HasRl 0x20 ⟨5, bcast k p, gUp.stamp⟩ []) ∧ gBc.bidRec 1025 = some bRec ∧
    (gBc.clk < bRec.seenAt + 1000000000 ∨ (bRec.cmd ≠ none ∧ bRec.ended = false)) ∧ BitVec.ofNat 64 (leAt (bcast 4 []) 16 8) = 1025 ∧
    (∀ x ∈ gPod.bcasts, x.bid ≠ 1025) ∧ leAt (bcast 1 []) 32 2 = 1 ∧ gPod.jobInfo (leAt (leBytes 2 9) 0 2) = none ∧
    (sRl gBc back3).HasRl 0x21 ⟨5, back3, gUp.stamp⟩ [] ∧ BitVec.ofNat 64 (leAt back3 16 8) = 1025 ∧
    (∀ i ∈ bRec.expect, i ∈ (bRec.acks ++ idsOf (leAt back3 32 128)).eraseDups ∨ i ∈ bRec.fails) ∧ gBc.root = true ∧ bRec.ended = false ∧
    gBc.bcasts.find? (fun x => decide (x.expect ≠ []) && !x.ended) = some bRec :=
  ⟨fun _ _ => hasRl _ _ _ rfl rfl, by decide, by decide, by decide, by decide, by decide, by decide, hasRl _ _ _ rfl rfl, by decide, by decide +kernel,
    by decide, by decide, by decide⟩
theorem wit_Broadcasts_up :
    (let g : Gremon := { gPod with tree := { gPod.tree with hellos := [(5, hello 1 1 0 0x3FF)] } }
     g.root = false ∧ ¬g.heads ∧ g.childPorts = [] ∧ g.tree.parent = some 5) := by unfold Gremon.heads; decide

/-- A ring of entries of 64 bytes for messages of id 0, at the start of a kit's HBM. -/
def msgTo (n : Nat) : List Byte := rlm 0x44 (leBytes 8 0 ++ leBytes 8 7 ++ List.replicate n 0)
def hmsg (n : Nat) : HostCmd := ⟨.hcmd 5 63, 1, desc n, [], [], 7⟩
/-- Messages of a Gremon's own services, of kind `k`. -/
theorem wit_PodMessages_own : ∀ k ∈ ([0, 1, 2, 3, 4, 5] : List Nat),
    (let b := rlm 0x44 (List.replicate 16 0 ++ leBytes 1 k ++ List.replicate 30 0)
     (sRl gPod b).HasRl 0x44 ⟨5, b, gUp.stamp⟩ [] ∧ ownKind b = some k) := by
  intro k h
  exact ⟨hasRl _ _ _ rfl rfl, by revert k; decide⟩
theorem wit_PodMessages :
    (sRl gPod (msgTo 8)).HasRl 0x44 ⟨5, msgTo 8, gUp.stamp⟩ [] ∧ (leAt (msgTo 8) 8 2 = gPod.gid ∨ gPod.routeTo (leAt (msgTo 8) 8 2) ≠ none) ∧
    gPod.ringFor (msgTo 8) = none ∧ ownKind (msgTo 8) = none ∧ ({ gPodRoot with failed := true } : Gremon).failed = true ∧
    (let b := rlm 0x26 (leBytes 2 1 ++ [63, 0, 0, 0] ++ leBytes 2 1 ++ desc 0x14 ++ [])
     (sRl gPod b).HasRl 0x26 ⟨5, b, gUp.stamp⟩ [] ∧ leAt b 22 2 = 1) ∧
    gPodRoot.failed = false ∧ descOk ⟨.hcmd 1 63, 1, [], [], [], 0⟩ = false ∧ descOk ⟨.hcmd 1 63, 1, desc 0x14, [], [], 0⟩ = true ∧
    gPodRoot.permitted ⟨.hcmd 1 63, 1, desc 0x14, [], [], 0⟩ = true ∧ gPodRoot.permitted ⟨.hcmd 1 63, 2, desc 0x14, [], [], 0⟩ = false ∧
    (let b := rlm 0x27 (leBytes 2 1 ++ [63, 0] ++ leBytes 2 0 ++ List.replicate 34 0)
     (sRl gPod b).HasRl 0x27 ⟨5, b, gUp.stamp⟩ [] ∧ leAt b 18 1 = 63 ∧ (hcmd (.qp 63) 0x10 1 []).tag = leAt b 20 2) ∧ gPod.host.fwd = [] ∧
    (let b := rlm 0x22 (leBytes 4 0x80000000 ++ List.replicate 44 0); (sRl gPod b).HasRl 0x22 ⟨5, b, gUp.stamp⟩ []) ∧
    (let b := rlm 0x28 []; (sRl gPod b).HasRl 0x28 ⟨5, b, gUp.stamp⟩ []) ∧
    (let b := rlm 0x29 (leBytes 8 9 ++ leBytes 2 0 ++ List.replicate 14 0); (sRl gPod b).HasRl 0x29 ⟨5, b, gUp.stamp⟩ [] ∧
      pmRoot [] = leAt b 24 2) ∧ gPod.svc.cont.waits = [] ∧ gPod.roomy = true :=
  ⟨hasRl _ _ _ rfl rfl, by decide, by decide, by decide, rfl, ⟨hasRl _ _ _ rfl rfl, by decide⟩, by decide, by decide, by decide, by decide, by decide,
    ⟨hasRl _ _ _ rfl rfl, by decide, by decide⟩, by decide, hasRl _ _ _ rfl rfl, hasRl _ _ _ rfl rfl, ⟨hasRl _ _ _ rfl rfl, by decide⟩,
    by decide, by decide⟩
/-! ### Queries and feeds -/

/-- A QUERY message of `op` with the EIDs `es`, and an answer to it by Gremon 3. -/
def qmsg (op : Nat) (es : List Nat) : List Byte :=
  rlm 0x40 (leBytes 8 1025 ++ leBytes 8 1000000 ++ List.replicate 32 0 ++ (leBytes 1 op ++ List.replicate 9 0 ++ leBytes 2 0 ++ leBytes 4 es.length ++
    List.replicate 48 0 ++ es.flatMap (leBytes 4)))
def qans (ty fl : Nat) : List Byte := rlm ty (leBytes 8 1025 ++ leBytes 2 3 ++ leBytes 2 0 ++ leBytes 1 fl ++ List.replicate 11 0 ++ List.replicate 24 0)
def qRec (op : Nat) (w : List Nat) : QueryRec :=
  ⟨1025, qmsg op [3 * 512], 0, 1000000, none, [], List.replicate 24 0, w, false, [], [], some (hcmd (.qp 63) 0x10 1 []), false⟩
def gQ (g : Gremon) (op : Nat) (w : List Nat) : Gremon := { g with queries := [qRec op w] }
set_option maxRecDepth 100000 in
theorem wit_Queries :
    (∀ op es, (sRl gPod (qmsg op es)).HasRl 0x40 ⟨5, qmsg op es, gUp.stamp⟩ []) ∧ (gQ gPod 1 [0]).query 1025 = some (qRec 1 [0]) ∧ (qRec 1 [0]).sent = false ∧
    (∀ x ∈ gPod.queries, x.qid ≠ BitVec.ofNat 64 (leAt (qmsg 1 []) 16 8)) ∧ qdOp (qmDesc (qmsg 7 [])) = 7 ∧ qopMerges (qdOp (qmDesc (qmsg 1 []))) = true ∧
    (gPod.childPorts.filter fun p => (gPod.behind p).any fun i => gPod.targets (qmsg 1 [2 * 512]) i) = [] ∧
    (gPod.childPorts.filter fun p => (gPod.behind p).any fun i => gPod.targets (qmsg 1 [3 * 512]) i) = [0] ∧
    gPod.targets (qmsg 0 [2 * 512]) gPod.gid = true ∧ gPod.routeTo (1025 % 1024) ≠ none := by
  exact ⟨fun _ _ => hasRl _ _ _ rfl rfl, by decide⟩
set_option maxRecDepth 100000 in
theorem wit_Queries_answers :
    (∀ fl, (sRl gPod (qans 0x41 fl)).HasRl 0x41 ⟨5, qans 0x41 fl, gUp.stamp⟩ []) ∧ (∀ fl, (sRl gPod (qans 0x43 fl)).HasRl 0x43 ⟨5, qans 0x43 fl, gUp.stamp⟩ []) ∧
    gPod.query (BitVec.ofNat 64 (leAt (qans 0x41 1) 16 8)) = none ∧ (let q := { qRec 1 [] with sent := true }; q.sent = true) ∧
    (∀ x ∈ (qRec 1 [5]).covs, x.1 ≠ leAt (qans 0x41 1) 24 2) ∧ (qRec 1 [5, 0]).waiting.filter (fun p => decide (p ≠ 5)) ≠ [] ∧
    (qRec 1 [5]).waiting.filter (fun p => decide (p ≠ 5)) = [] ∧ qopMerges (qdOp (qmDesc (qRec 0 [3]).msg)) = false ∧
    bit (leAt (qans 0x41 2) 28 1) 1 = true ∧ (bit (leAt (qans 0x41 2) 28 1) 0 = false ∧ (qRec 0 [3]).waiting ≠ []) :=
  ⟨fun _ => hasRl _ _ _ rfl rfl, fun _ => hasRl _ _ _ rfl rfl, by decide⟩
set_option maxRecDepth 100000 in
theorem wit_Queries_deadlines :
    gPod.queryFirst true (fun x => x.deadline - gPod.tree.depth * qmHop x.msg) = none ∧ gPod.queryFirst false (·.deadline) = none ∧
    (gQ gPod 1 [0]).queryFirst true (fun x => x.deadline - (gQ gPod 1 [0]).tree.depth * qmHop x.msg) = some (qRec 1 [0]) ∧
    (gQ gPodRoot 0 [3]).queryFirst false (·.deadline) = some (qRec 0 [3]) ∧ (gQ gPod 1 [0]).root = false ∧ (gQ gPod 1 [0]).tree.parent = some 5 ∧
    gPodRoot.root = true ∧ (qRec 1 [0]).cmd = some (hcmd (.qp 63) 0x10 1 []) := by decide
def fRec : FeedRec := ⟨1025, qmsg 7 [2 * 512], [], 0, 1, 99, 1, some 63, [], []⟩
def gF (g : Gremon) : Gremon := { g with feeds := [fRec] }
set_option maxRecDepth 100000 in
theorem wit_Feeds :
    gPod.feedsHere = [] ∧ (gF gPod).feedsHere = [] ++ fRec :: [] ∧ (gF gPod).sys.pwr.pstate < 2 ∧ (gF gPod).routeTo (fRec.fid.toNat % 1024) ≠ none ∧
    (let b := rlm 0x42 (leBytes 8 1025); (sRl (gF gPodRoot) b).HasRl 0x42 ⟨5, b, gUp.stamp⟩ [] ∧ BitVec.ofNat 64 (leAt b 16 8) = fRec.fid) ∧
    gPodRoot.root = true ∧ (∀ x ∈ gPodRoot.feeds, x.fid ≠ 1025) ∧
    (let b := rlm 0x23 (leBytes 8 1025 ++ leBytes 8 10 ++ [1, 0] ++ leBytes 2 1); (sRl (gF gPod) b).HasRl 0x23 ⟨5, b, gUp.stamp⟩ []) ∧
    gPodRoot.tree.parent = none ∧ (gF gPod).tree.parent = some 5 ∧ ((gF gPod).feeds.map (·.fid)).Nodup ∧
    (let k := RlClass.reset; ¬1536 < k.depthMax ∧ k.depthMax < 512 ∧ 100 ≤ fRec.low + 1) ∧
    (let k := { RlClass.reset with depthMax := 1537 }; 1536 < k.depthMax ∧ 2 ≤ fRec.high + 1) ∧
    (let f := { fRec with levels := [(2, 2, 0)] }; 0 < ((f.levels.filter fun e => decide (e.1 = gPod.gid)).getLast?.map (·.2.1)).getD 0) ∧
    (let f := { fRec with heard := [(63, 20)] }; f.heard.find? (fun e => decide (e.1 = 63)) = some (63, 20) ∧ 20 < 30 ∧ 30 ≤ 20 + 10) :=
  ⟨by decide, by decide, by decide, by decide, ⟨hasRl _ _ _ rfl rfl, by decide⟩, by decide, by decide, hasRl _ _ _ rfl rfl, by decide, by decide,
    by decide, by decide, by decide, by decide, by decide⟩

/-! ### Services -/

def cut0 : Cut := ⟨1, 2000000000, 0, true, false, 0, [⟨511, 1, 0, 0, []⟩], aUp.stamp, [], [], [], false, false, []⟩
def gCut (c : Cut) : Gremon := { gKey with svc := { gKey.svc with vig := { gKey.svc.vig with cuts := [c] } } }
set_option maxRecDepth 100000 in
theorem wit_VigilCuts :
    (gCut cut0).svc.vig.cuts.find? (fun x => decide (x.state = 0)) = some cut0 ∧ (∀ x ∈ gKey.svc.vig.cuts, x.state ≠ 0) ∧
    cut0.halt = true ∧ (gCut cut0).conf = false ∧
    (let c := { cut0 with state := 1 }
     (gCut c).svc.vig.cuts.find? (fun x => decide (x.state = 1)) = some c ∧ ((gCut c).svc.vig.cuts.map (·.vseq)).Nodup ∧
       ((gCut c).svc.vig.cuts.filter fun x => decide (x.state = 2)).length < 16 ∧
       (c.lanes.all fun e => decide (e.res = 1 ∨ e.res = 2)) = true) ∧
    (let h : HaltRec := ⟨1, 0, some 5⟩
     let k : HaltRec := ⟨2, 0, some 6⟩
     let g : Gremon := { gKey with svc := { gKey.svc with vig := { gKey.svc.vig with halts := [h, k] } } }
     h ∈ g.svc.vig.halts ∧ (∀ y ∈ g.svc.vig.halts, y ≠ h → ∀ u ∈ y.resume, 5 < u) ∧ (∀ x ∈ gKey.svc.vig.halts, x.resume = none)) := by decide
def gLan : Gremon :=
  { gPod with
    regs := { gPod.regs with vals := (kLan, 1) :: (kLan + 4, 7) :: gPod.regs.vals }
    dies := [(0, { DieInfo.none with accepted := true })]
    kits := [(0, { KitSlot.empty with handle := 9, state := 3, pkg := pkg1, bufs := [(0, (0, 4096))] })]
    mem := memPut (memPut [] 8 [1]) 64 (leBytes 8 1024 ++ leBytes 8 5) }
theorem wit_LanternAndTriggers :
    bit (gLan.reg kLan) 0 = true ∧ gLan.clock.own ≠ .unset ∧ gLan.lanBad = false ∧ gLan.lanBlock 2 = none ∧ gLan.lanBlock 1 = some [(1024, 5)] ∧
    gLan.lanOwn 1024 = true ∧ gLan.lanOwn 1025 = false ∧ bit (gPod.reg kLan) 0 = false ∧ gLan.roomy = true := by decide +kernel
def gCkt (x : CkptSlot) : Gremon :=
  { gPodRoot with regs := { gPodRoot.regs with vals := (kCkt 1023, 65536) :: (kCkt 1023 + 0xC, 65536 * 60 + 600) :: gPodRoot.regs.vals }
                  svc := { gPodRoot.svc with ckpt := [(1023, x)] } }
set_option maxRecDepth 100000 in
theorem wit_LanternAndTriggers_slots :
    (gCkt CkptSlot.reset).ckptOn 1023 = true ∧ (gCkt CkptSlot.reset).ckptOn 1022 = false ∧ (gCkt CkptSlot.reset).clock.own ≠ .unset ∧
    (let x := { CkptSlot.reset with n := some 6, c := some 5 }; x.pending = false ∧ ∃ a ∈ x.n, ∃ c ∈ x.c, c + 1 ≤ a) ∧
    (let x := { CkptSlot.reset with pending := true, lastFire := 0 }; x.lastFire + 1000000000 * 0 ≤ 1000000000) ∧
    (gKey.regionLocked .pcie (kCkt 1023) = false) ∧ bit (gKey.reg (kCkt 1023)) 16 = false ∧
    (let g : Gremon := { gKey with regs := { gKey.regs with vals := (0x10204, 0xFFFF) :: gKey.regs.vals } }; g.regionLocked .pcie (kCkt 1023) = true) := by
  decide
def dAcc : DieInfo := { DieInfo.none with accepted := true, remap := [0x100] }
/-- Rotation every second over `pack1`, and a die of one core. -/
def gScr (d : ScrDie) : Gremon :=
  { gKey with
    regs := { gKey.regs with vals := (kScr, 1) :: gKey.regs.vals }
    dies := [(511, dAcc)]
    svc := { gKey.svc with scr := { gKey.svc.scr with packs := [(1, pack1)], dies := [(511, d)] } } }
def scrO (k : Nat) : ScrOpen := ⟨k, 0x10001, 0, 0, false, pack1, 1000000000⟩
def scrC (t : Nat) : ScrClass := ⟨0, 0x10001, false, 0, false, [], 0, 0, 0, 0, t, none⟩
set_option maxRecDepth 100000 in
theorem wit_ScreenSchedule :
    (gScr ScrDie.idle).sys.pwr.rails = true ∧ ((gScr ScrDie.idle).scrDie 511).cur = none ∧
    (let d := { ScrDie.idle with cur := some (scrO 3), started := true, nextAt := 5000000000 }
     (d.cls = [] ∧ d.cond = [] ∧ d.stress = []) ∧ (((gScr d).moveTo 1000000000).setScr 511 { d with cur := none }).rotDue 511 = false ∧ d.session = false) ∧
    (let d := { ScrDie.idle with cur := some (scrO 2), session := true }
     (d.cls = [] ∧ d.cond = [] ∧ d.stress = []) ∧ (((gScr d).moveTo 1000000000).setScr 511 { d with cur := none }).rotDue 511 = false ∧ d.session = true ∧
       (gScr d).roomy = true) ∧
    (let d := { ScrDie.idle with cur := some (scrO 0), cls := [scrC 2, scrC 0] }; (scrO 0).kind = 0 ∧ d.cls = scrC 2 :: [scrC 0] ∧ (scrC 2).tries < 3) ∧
    3 ≤ (scrC 3).tries ∧ ({ gKey with regs := { gKey.regs with vals := [(kScr, 0)] } } : Gremon).fld kScr 15 0 = 0 := by decide
theorem wit_ScreenSchedule_rotation :
    (gScr ScrDie.idle).scrFree 511 = true ∧ (gScr ScrDie.idle).rotDue 511 = true ∧ (gScr ScrDie.idle).rotNext 511 = some (1, 0) ∧
    Tbl.find (gScr ScrDie.idle).svc.scr.packs 1 = some pack1 ∧
    (let g := gScr { ScrDie.idle with started := true, nextAt := 2000000000 }; (g.moveTo 2000000000).rotDue 511 = true ∧ g.rotDue 511 = false) := by decide +kernel

/-! ### Boundaries, power, boot, update, records -/

theorem wit_GremonBoundaries :
    (gKey.clock.own ≠ .unset ∧ gKey.frameNs ≠ 0 ∧ gKey.sys.pwr.ready = true) ∧ State.reset.g.clock.own = .unset ∧
    (gKey.svc.scr.staged.map (·.1)).Nodup ∧ (gKey.binds.map fun b => (b.job, b.lda)).Nodup ∧ (gKey.regs.shadow.map (·.1)).Nodup ∧
    (let g : Gremon := { gKey with sys := { gKey.sys with pwr := { gKey.sys.pwr with want := some (2, 0) } } }
     g.sys.pwr.want = some (2, 0) ∧ g.sys.pwr.brace = false ∧ g.sys.pwr.waking = false ∧ 0 + 10000 ≤ (g.now / g.frameNs + 1) * g.frameNs) ∧
    (gKey.scoreNs ≠ 0 ∧ gKey.frameNs ≠ 0 ∧ (gKey.now / gKey.frameNs + 1) * gKey.frameNs % gKey.scoreNs ≠ 0) ∧
    (let g := setG gKey 1000900000 .locked; (g.now / g.frameNs + 1) * g.frameNs % g.scoreNs = 0) ∧
    fbSet kLan = 8 ∧ fbMask .gremon kLan ≠ 0 ∧
    (let g : Gremon := { gKey with regs := { gKey.regs with shadow := [(kLan, (1, 0))] } }; Tbl.find g.regs.shadow kLan = some (1, 0)) := by decide

def gPw (f : Power → Power) : Gremon := { gKey with sys := { gKey.sys with pwr := f gKey.sys.pwr } }
def st0 : SelfTest := ⟨false, false, [], [], [], [], [], [], [], false⟩
theorem wit_BraceAndHost :
    gKey.sys.pwr.rails = true ∧ gKey.sys.pwr.brace = false ∧ gKey.roomy = true ∧ (gPw fun p => { p with brace := true }).sys.pwr.brace = true ∧
    gKey.updState ≠ 5 ∧ (gPw fun p => { p with brace := true, recoverAt := some 7 }).sys.pwr.recoverAt = some 7 ∧
    (gPw fun p => { p with brace := true, recoverAt := some 7, heldTarget := some 2 }).sys.pwr.heldTarget = some 2 ∧
    gKey.sys.pwr.ready = true ∧ State.reset.g.sys.pwr.ready = false ∧ gKey.fld 0x10108 15 0 = 0 ∧
    (let g : Gremon := { gKey with regs := { gKey.regs with vals := (0x10108, 65535) :: gKey.regs.vals } }; g.fld 0x10108 15 0 ≠ 0 ∧ g.sys.pwr.ready = true) ∧
    gKey.sys.pwr.hwDirty = false ∧ (gPw fun p => { p with hwDirty := true }).sys.pwr.hwDirty = true ∧
    (∀ q, q < 64 → bit (gUp.reg (kHq q 0x10)) 10 = false) ∧ (∀ r, r < 16 → bit (gUp.reg (kRq r 8)) 5 = false) := by decide
theorem wit_RailsAndBoot :
    (let g := State.reset.g
     g.sys.pwr.rails = true ∧ g.sys.pwr.ready = false ∧ g.sys.pwr.step = 0 ∧ g.kits = [] ∧ g.regs.force = [] ∧ g.tree.none = false ∧ g.sys.pwr.porSrc < 8) ∧
    (let g := gPw fun p => { p with rails := false }; g.sys.pwr.rails = false ∧ g.sys.pwr.pwrEn = true) ∧
    (let g := gPw fun p => { p with fullReset := some 5 }; g.sys.pwr.fullReset = some 5 ∧ g.svc.hist.exp = none ∧ g.sys.pwr.rails = true) ∧
    (let g := gKey; ¬(g.sys.pwr.ready = true ∧ g.sys.pwr.pstate = 0 ∧ 1 ≤ g.fld 0x10100 1 0 ∧ g.working = true)) ∧
    (gKey.sys.pwr.ready = true ∧ gKey.sys.pwr.pstate = 0 ∧ 1 ≤ gKey.fld 0x10100 1 0 ∧ gKey.working = false) ∧
    (gPw fun p => { p with waking := true }).sys.pwr.waking = true ∧ gKey.sys.pwr.glOn = false ∧
    (gPodRoot.root = true ∧ gPodRoot.sys.pwr.podReady = false ∧ gPodRoot.sys.pwr.podPartial = false ∧ gPodRoot.sys.pwr.ready = true ∧ gPodRoot.roomy = true) ∧
    (∀ r ∈ gPodRoot.reds, r.rid ≠ 0xF0000002) ∧ gKey.sys.pwr.choose st0 = 2 ∧ st0.ready = false ∧ ({ st0 with ready := true } : SelfTest).ready = true := by
  decide

/-- An AL-4 image and an image that carries it, each section with its check (Table 19.7a). -/
def fwImg (hw : List Byte) (ty : Nat) (body : List Byte) (crc total : Nat) : List Byte :=
  padTo total (leBytes 4 0x4D495758 ++ leBytes 2 1 ++ leBytes 2 1 ++ hw ++ leBytes 8 0 ++ leBytes 4 5 ++ leBytes 2 0 ++ leBytes 2 0 ++ leBytes 4 total ++
    List.replicate 28 0 ++ (leBytes 2 ty ++ leBytes 2 0 ++ leBytes 4 80 ++ leBytes 4 body.length ++ leBytes 4 crc) ++ body)
def al4 : List Byte := fwImg hwAl4 2 [] 0 192
def fw1 : List Byte := fwImg hwGr3224 3 al4 4253248225 384
def gUpd (st : Nat) (f : Update → Update) : Gremon :=
  { gKey with regs := { gKey.regs with vals := (kUpd, st) :: gKey.regs.vals }, sys := { gKey.sys with upd := f gKey.sys.upd } }
def sched1 : List Byte := leBytes 8 20000000000 ++ List.replicate 48 0 ++ leBytes 2 1 ++ List.replicate 110 0
theorem wit_FirmwareUpdate :
    ¬(imgMax < 0 + 1048576 ∨ 1048576 < 1048576) ∧ (imgMax < imgMax + 1) ∧ gKey.stageReason fw1 384 true true = 0 ∧ gKey.stageReason fw1 384 false true = 2 ∧
    gKey.stageReason fw1 385 true true = 1 ∧ gKey.schedReason sched1 true = 0 ∧ gKey.schedReason sched1 false = 7 ∧ gKey.root = false ∧ gKey.failed = false ∧
    gKey.tree.parent = none ∧ gPod.tree.parent ≠ none ∧ gRoot.root = true ∧ gRoot.schedReason sched1 true = 0 ∧
    (gUpd 4 id).updState = 4 ∧ (gUpd 3 id).updState = 3 ∧ (gUpd 5 id).updState = 5 ∧ ((0xC2 : Nat) ≠ 0xC3) := by decide +kernel
theorem wit_FirmwareUpdate_confirm :
    (let g := gUpd 4 id
     let b := leBytes 8 g.serial.toNat ++ sha384 g.sys.upd.running ++ List.replicate 104 0
     g.cfmOk b true = true ∧ g.cfmOk b false = false ∧ g.sys.pwr.brace = false) := by decide +kernel
/-- BRACE ends while a complete image waits for its staging checks. -/
theorem wit_BraceAndHost_waits :
    (let g := { gUpd 1 fun u => { u with buf := fw1, waits := [⟨0, 384, true, true⟩] } with
       sys := { (gUpd 1 fun u => { u with buf := fw1, waits := [⟨0, 384, true, true⟩] }).sys with pwr := { gKey.sys.pwr with brace := true, recoverAt := some 7 } } }
     let gm := g.moveTo 1000007
     g.sys.pwr.rails = true ∧ g.sys.pwr.brace = true ∧ g.sys.pwr.recoverAt = some 7 ∧ g.updState = 1 ∧
       gm.stageReason (gm.sys.upd.buf.take 384) 384 true true = 0) := by decide +kernel
theorem wit_FirmwareUpdate_ticks :
    (let g := gUpd 3 fun u => { u with tick := 5000000000 }
     g.updState = 3 ∧ g.sys.upd.tick ≠ 0 ∧ g.sys.pwr.brace = false ∧ (¬∃ c ∈ g.svc.vig.cuts, c.state ≠ 2 ∧ c.tick ≤ g.sys.upd.tick) ∧ g.sys.upd.deferred = false) ∧
    (∃ c ∈ (gCut cut0).svc.vig.cuts, c.state ≠ 2 ∧ c.tick ≤ 5000000000) ∧
    (let g := gUpd 4 fun u => { u with autoRevert := true, confirmWin := 60 }; g.updState = 4 ∧ g.sys.upd.autoRevert = true ∧ g.sys.upd.confirmWin ≠ 0) ∧
    (let g : Gremon := { gUpd 4 id with sys := { (gUpd 4 id).sys with pwr := { (gUpd 4 id).sys.pwr with ready := false, fullReset := some 6 } } }
     g.updState = 4 ∧ g.sys.pwr.ready = false ∧ g.sys.pwr.fullReset = some 6 ∧ (g.regs.vals.map (·.1)).Nodup ∧ g.regs.force = []) := by decide

def tok1 (g : Gremon) : List Byte :=
  leBytes 4 0x4E4B5444 ++ leBytes 4 3 ++ leBytes 8 g.serial.toNat ++ leBytes 8 (g.reg64 0x10208) ++ leBytes 8 0 ++ leBytes 8 2 ++ List.replicate 120 0
def gSes (l : List Session) : Gremon := { gKey with sys := { gKey.sys with prot := { gKey.sys.prot with sessions := l } } }
set_option maxRecDepth 100000 in
theorem wit_TokensAndAttestation :
    gKey.tokReason (tok1 gKey) true = 0 ∧ gKey.tokReason (tok1 gKey) false = 5 ∧ gKey.sys.prot.token = none ∧
    (let g : Gremon := { gKey with sys := { gKey.sys with prot := { gKey.sys.prot with token := some (3, 2) } } }
     g.sys.prot.token = some (3, 2) ∧ g.clock.own ≠ .unset) ∧
    State.reset.g.spdmBusy = true ∧ State.reset.g.sys.pwr.rails = true ∧ gKey.spdmBusy = false ∧ 0x7F ∉ spdmCodes ∧ gKey.session true 15 = none ∧
    (gSes [⟨true, 15, some 1, 1000000000⟩]).session true 15 = some ⟨true, 15, some 1, 1000000000⟩ ∧ (gKey.measure 1).isSome = true ∧ 0x81 ∈ spdmCodes ∧
    (∃ q, q < 64 ∧ ({ gKey with regs := { gKey.regs with vals := [(kHq 63 0x20, 0x1001)] } } : Gremon).fld (kHq q 0x20) 11 0 = 1 ∧ bit (({ gKey with regs := { gKey.regs with vals := [(kHq 63 0x20, 0x1001)] } } : Gremon).reg (kHq q 0x20)) 12 = true) ∧
    (¬∃ y ∈ (gSes [⟨true, 15, none, 1000000000⟩]).sessionsUp, y.mid = some 1 ∧ y.num ≠ 15) ∧
    (∃ y ∈ (gSes [⟨true, 14, some 1, 1000000000⟩]).sessionsUp, y.mid = some 1 ∧ y.num ≠ 15) := by
  refine ⟨by decide, by decide, by decide, by decide, by decide, by decide, by decide, by decide, by decide, by decide, by decide, by decide,
    ⟨63, by decide⟩, by decide, by decide⟩

def gTrc (t : TraceCol → TraceCol) (ctl : Nat) : Gremon :=
  { gKey with regs := { gKey.regs with vals := (0x2000000, ctl) :: (0x2000040, 1) :: gKey.regs.vals }, sys := { gKey.sys with trc := t gKey.sys.trc } }
def bb1 (n : Nat) : BbRec := ⟨6, false, n, 1, aUp.stamp, [1, 0, 2, 0, 0], 0, 0⟩
theorem wit_GremonRecords :
    gKey.sys.pwr.brace = false ∧ (([bb1 1, bb1 2]).map (·.bseq)).Nodup ∧ gKey.trcOn = false ∧
    (let g := gTrc (fun t => { t with state := 1, dieQ := [(5, [1, 2, 3])] }) 0
     g.trcOn = true ∧ g.trcNext = some 5 ∧ bit (g.reg 0x2000000) 1 = false) ∧
    (let g := gTrc (fun t => { t with state := 1, dieQ := [(5, [1, 2, 3])] }) 2
     g.trcOn = true ∧ g.trcNext = some 5 ∧ bit (g.reg 0x2000000) 1 = true ∧ g.sys.trc.wp + 16 ≤ trcReserve) ∧
    (let g := gTrc (fun t => { t with state := 1 }) 0x20
     bit (g.reg 0x2000000) 5 = true ∧ g.sys.trc.state = 1 ∧ g.clock.own ≠ .unset ∧ g.conf = false ∧ bit (g.reg 0x2000000) 1 = false ∧ g.roomy = true) ∧
    (let g := gTrc (fun t => { t with state := 2 }) 0; g.sys.trc.state = 2 ∧ bit (g.reg 0x2000000) 1 = false) ∧
    (let g := gTrc (fun t => { t with state := 1, srcs := [(0, { TrcSrc.reset with started := true, bits := [true] })] }) 0
     g.coreTraced 0 = true ∧ (Tbl.get TrcSrc.reset g.sys.trc.srcs 0).bits ≠ [] ∧ (Tbl.get TrcSrc.reset g.sys.trc.srcs 0).started = true ∧
       (Tbl.get TrcSrc.reset g.sys.trc.srcs 0).dropped = 0) := by decide

/-! ### The machine -/

theorem wit_EmptyQueueIdles : State.reset.pending = [] ∧ State.reset.a.aoReset = false ∧ State.reset.g.sys.pwr.rails = true := by decide
theorem reset_inv : State.reset.Inv := by unfold State.Inv; decide
theorem wit_StepKeepsInv : State.reset.Inv ∧ ∃ t, step State.reset = .next t := ⟨reset_inv, _, rfl⟩
theorem wit_OnePartPerCommand : (∀ x, (Instr.hwsetCommit) ≠ .ptStepTick x) ∧ ∃ t, exec .hwsetCommit State.reset = .next t := ⟨fun _ h => (by cases h), _, rfl⟩
/-! ### Ill-formed commands: one term for each check, refused, and one at the edge of the range, admitted -/

theorem test_wf_refuses : ∀ i ∈ ([.frameBoundary .ailen [64] 0, .aoPorAssert (2 ^ 64), .registerWrite .ailen ⟨.pcie, 0, 4, 0⟩ 0,
    .registerWrite .ailen ⟨.hrp, 0, 8, 0⟩ 0, .registerWrite .gremon ⟨.hrp, 0, 4, 0⟩ 0, .registerWrite .gremon ⟨.pcie, 0, 65, 0⟩ 0,
    .evpIncrement [⟨1024, 1⟩] 0, .evpIncrement [⟨1, 1⟩, ⟨1, 2⟩] 0, .bankClear 64 0, .oppPackets [⟨8, 0, 0, 0, 0⟩] 0,
    .oppPackets [⟨1, 0, 0, 0, 0⟩, ⟨1, 0, 0, 0, 0⟩] 0, .sensorToggle 64 0 0, .trpRetirement ⟨4, false, false, 0, false, false⟩ 0,
    .stpBeat { beat true false with tap := 2 } 0, .stpBeat { beat true false with nb := 128 } 0, .stpBeat { beat true false with dat := [] } 0,
    .remapCommit .pcie 0, .timeReqRx (.lane 512), .timeReqRx (.port 6)] : List Instr), i.wf = false := by decide
theorem test_wf_refuses_queues : ∀ i ∈ ([.tsqHeadRead .pcie 7 0, .alignSolve (2 ^ 16) { lam := [], unc := [] },
    .glDataFrameRx (.lane 512) .working (List.replicate 64 0) 0, .glDataFrameRx (.lane 0) .working [] 0, .sampleRx 512,
    .canopyLinkFail 32 0 0, .canopyLinkFail 0 32 0, .stackFail 24 0, .eccError (.line (2 ^ 48)) true 0, .eccError (.coreRegs 512) true 0,
    .eccError (.tse 16) true 0, .eccError (.canopy 32) true 0, .hbmScrub (2 ^ 42) true 0, .hinsDone 16, .residueMismatch (.core 512) 0,
    .residueMismatch (.engine 16 0) 0, .coreTestEnd 16 0 true, .coreTestEnd 0 34 true] : List Instr), i.wf = false := by decide
theorem test_wf_refuses_rest : ∀ i ∈ ([.periodCloseDeadline (2 ^ 32), .stepCloseWindow 0 (2 ^ 48), .verdictTimeout 0 (2 ^ 64), .kitStart 64,
    .phaseDeadline 0 256, .rlTxSlot 6 0, .rlDataFlitRx 0 [] 0, .fecWindowEnd 0 [] [] 0, .rlLaneLockLoss 0 5 0, .rlAlignmentLock 0 [5] 0,
    .cktEnable .pcie 1024 0 0, .ckptTriggerEval 1024, .screenRotation 512, .sqTailDoorbell 64 0 [] 0, .rqHeadDoorbell 16 0 0,
    .indAccessFail .gremon 8 0, .bind 0 (2 ^ 16), .traceBranchFlush .ailen 5, .traceSyncTimer .gremon 512, .erWindowRead .gremon .pcie 4 0,
    .erWindowRead .ailen .hrp 1 0, .thermalReading [] [], .paritySweep .ailen (some ⟨1, false, 0, false⟩), .porBoot { st0 with dies := [32] },
    .fullReset { st0 with stks := [24] }, .porBoot { st0 with cores := [(0, 34)] }, .porBoot { st0 with links := [(0, 32)] }] : List Instr), i.wf = false := by decide
theorem test_wf_admits : ∀ i ∈ ([.frameBoundary .ailen [63] 0, .aoPorAssert (2 ^ 64 - 1), .registerWrite .ailen ⟨.hrp, 0, 4, 0⟩ 0, .sensorToggle 63 0 0,
    .timeReqRx (.lane 511), .timeReqRx (.port 5), .sampleRx 511, .canopyLinkFail 30 31 0, .stackFail 23 0, .coreTestEnd 15 33 true, .kitStart 63,
    .cktEnable .pcie 1023 0 0, .traceSyncTimer .gremon 511, .traceSyncTimer .ailen 4, .porBoot st0] : List Instr), i.wf = true := by decide

/-! ### The spec's worked examples -/

/-- LQ16 conversions (07 Table 7.6). -/
theorem test_lq16_conversions :
    elemCvt 5 9 0 0x3F800000 = (0x4000, 0) ∧ elemCvt 5 9 0 0x40400000 = (0x4065, fNX) ∧ elemCvt 4 9 0 0xBF50624DD2F1A9FC = (0xBD82, fNX) ∧
    elemCvt 0 9 0 1000000 = (0x44FB, fNX) ∧ elemCvt 4 9 0 0x52B0000000000000 = (0x7FFF, fOF + fNX) ∧ elemCvt 7 9 0 0x8000 = (0, 0) := by decide +kernel
/-- Instruction words (07 Table 7.12). -/
theorem test_words :
    (wOp 0x620880A000000000, wD 0x620880A000000000, wA 0x620880A000000000, wFmt 0x620880A000000000) = (0x62, 1, 2, 5) ∧
    (wOp 0x431844A340000000, wD 0x431844A340000000, wA 0x431844A340000000, wB 0x431844A340000000, wC 0x431844A340000000) = (0x43, 3, 1, 2, 3) ∧
    (wOp 0x1821003FFFFFFFFF, wD 0x1821003FFFFFFFFF, wA 0x1821003FFFFFFFFF, wFmt 0x1821003FFFFFFFFF, wImm 0x1821003FFFFFFFFF) = (0x18, 4, 4, 1, -1) ∧
    (wOp 0x7101003FFFFFFFFA, wA 0x7101003FFFFFFFFA, wB 0x7101003FFFFFFFFA, wImm 0x7101003FFFFFFFFA) = (0x71, 4, 0, -6) := by decide
/-- A coded sample block's payload (03 Tables 3.18, 3.19). -/
theorem test_sample_payload :
    (encodePayload [1013, 49, 0x1B48, 0] [1000, 52, 0x1B40, 0] false).length = 28 ∧
    packBits (encodePayload [1013, 49, 0x1B48, 0] [1000, 52, 0x1B40, 0] false) = [0x44, 0xAA, 0x02, 0x00] := by decide +kernel
/-- A block of the residue coder with MEDIAN (11 Tables 11.4, 11.5). -/
theorem test_coder_block :
    (encodeBlock [5000, 4995, 5005, 5005] ⟨2, some 4990, none, some [5003, 4993, 4997, 5001], some [4998, 5011, 4990, 5009]⟩ false).take 8 =
      [0x03, 0x48, 0x13, 0x00, 0x03, 0x2C, 0x23, 0x00] := by decide +kernel
/-- Quantiles of a histogram (09, after Table 9.4). -/
theorem test_quantile :
    (let bs := List.replicate 1000 0 ++ [40, 50] ++ List.replicate 1046 0
     quantScan 50 bs 0 3 = some 1001 ∧ quantScan 99 bs 0 3 = none ∧ (64 * ((10 : Int) - 16) + 16384).toNat + 1001 = 17001) := by decide +kernel
/-- An ensemble of two trees scores two rows (10 Tables 10.5–10.7). -/
def ens1 : List Byte :=
  leBytes 4 0 ++ leBytes 2 2 ++ [2, 0] ++ leBytes 2 3 ++ leBytes 6 0 ++ leBytes 8 (2 ^ 64 - 4096) ++ List.replicate 40 0 ++
    [0x25, 0x09] ++ List.replicate 1022 0 ++ leBytes 8 0x40200000 ++ leBytes 8 0x80140800000 ++ leBytes 8 0x23C243516 ++ leBytes 8 0x140800000 ++
    leBytes 8 0x800BF800000 ++ leBytes 8 0x100000000000 ++ List.replicate 16 0 ++ leBytes 4 0x2000 ++ leBytes 4 0xFFFF8000 ++ leBytes 4 0x10000 ++
    leBytes 4 0x34000 ++ leBytes 4 0xFFFE8000 ++ leBytes 4 0xC000 ++ leBytes 4 0x4000 ++ leBytes 4 0 ++ List.replicate 32 0
theorem test_ensemble : ensScore ens1 [0x40200000, 4, 0x3E56] = 77824 ∧ ensScore ens1 [0x7FC00000, 2, 0x3E58] = 110592 := by decide +kernel
/-- An exchange of AILEN on GL77, in sixteenths of a nanosecond (04 Table 4.9). -/
theorem test_theta : thetaOf 96000000000000 96000000002344 96000000008744 96000000011168 32 = 56 := by decide
/-- RISK and level of a score (14, after R476). -/
theorem test_lantern :
    (let bp : List (Nat × Word) := (List.range 16).flatMap fun (j : Nat) => let b := ofInt 64 ((Int.ofNat j - 8) * 65536); [(kLan + 0x100 + 8 * j, BitVec.ofNat 32 b), (kLan + 0x104 + 8 * j, BitVec.ofNat 32 (b / 2 ^ 32))]
     let g : Gremon := { gUp with regs := { gUp.regs with vals := bp ++ [(kLan + 0x200 + 40, 22938), (kLan + 0xC, 6554 + 65536 * 19661), (kLan + 0x10, 45875)] } }
     g.lanRisk 77824 = 22938 ∧ g.lanLevel 0 22938 = 2) := by decide +kernel
/-- Branch packets of 100 iterations (20 Table 20.11). -/
theorem test_branch_packets :
    pktBranch (List.replicate 30 true) = [0x01, 0xFF, 0xFF, 0xFF, 0x7F] ∧ pktBranch (List.replicate 9 true ++ [false]) = [0x01, 0xFF, 0x05, 0x00, 0x00] := by decide
/-- The stack and MH of an HPA (06 Table 6.7), and the CNA of a CT buffer's byte (08, after Table 8.17). -/
theorem test_places : stackOf 0x03D80005000 = 5 ∧ mhCdn 5 = 17 ∧ bufCna 3 0x100400 = 0xC0000100400 := by decide
/-- CRC-32C of the nine digits, its own check value, and SHA-384 of no bytes. -/
theorem test_digests : crc32c [0x31, 0x32, 0x33, 0x34, 0x35, 0x36, 0x37, 0x38, 0x39] = 0xE3069283 ∧ (sha384 []).take 4 = [0x38, 0xB0, 0x60, 0xA7] := by decide +kernel
/-- A shaping word for BULK on RL2 (17, worked example): CIR 1,500 and PIR 3,900, and the sum of the committed rates. -/
theorem test_shape_word : bits 0x0F3C05DC 11 0 = 1500 ∧ bits 0x0F3C05DC 27 16 = 3900 ∧ fbSet 0x3002120 = 2 := by decide

/-! ### Forms that complete -/

/-- Every vector word flows with the queue empty; what VLD and VST ask beside that. -/
theorem wit_VectorResults :
    (∀ e ∈ vecWords, (sCore (bcore [(2, 0x40)]) e.2).Flows 0 e.1 0 ∧ ((sCore (bcore [(2, 0x40)]) e.2).g.core 0).vq = []) ∧
    (let s := sCore (bcore [(2, 0x1FFFC0)]) (bw 0x62 1 2 0 3 0)
     s.Flows 0 0x62 0 ∧ (s.g.core 0).addrM (s.g.fetchWord 0) = 0x1FFFC0 ∧ s.g.linePoison (spadCna 0 0x1FFFC0) 64 = false ∧
       (∀ x, s.g.writing none x = false)) :=
  ⟨fun e he => ⟨wit_VectorQueue e he, rfl⟩, flows_of (by decide), by decide, by decide, fun _ => writing_none rfl rfl _⟩

theorem wit_ScreenEvents :
    (let a : Ailen := ({ aUp with scr := { Screen.reset with st := .request, req := true } } : Ailen).moveTo 1000000050
     a.mainUp = true ∧ a.scr.st = .request ∧ a.scr.req = true ∧ a.scr.gnt = false) ∧
    (let a : Ailen := { aUp with scr := { Screen.reset with st := .granted, gnt := true } }
     a.mainUp = true ∧ a.scr.st = .granted ∧ (a.moveTo 1000000050).scr.gnt = true ∧ (a.moveTo (a.scr.reqAt + 1000 * a.scr.dur.toNat)).scr.gnt = true) ∧
    (let a : Ailen := { aUp with scr := { Screen.reset with st := .closing, gnt := true } }; a.mainUp = true ∧ a.scr.st = .closing) ∧
    (let a : Ailen := { aUp with scr := { Screen.reset with st := .request } }
     a.mainUp = true ∧ a.scr.st = .request ∧ (a.moveTo (a.scr.reqAt + 1000000 * a.screenWait)).scr.gnt = false) ∧
    (let a : Ailen := aUp.moveTo 1000000050; a.aoReset = false ∧ a.sack = false ∧ a.scr.session = false ∧ a.roomy = true) ∧
    (let a : Ailen := { aUp with scr := { Screen.reset with session := true } }; a.aoReset = false ∧ a.sack = false ∧ a.scr.session = true) := by
  decide

theorem wit_TimeEvents :
    (aUp.aoReset = false ∧ aUp.clock.own = .locked) ∧
    (let g := setG gUp 5 .locked; g.sys.pwr.rails = true ∧ g.root = false ∧ g.clock.own = .locked) ∧
    (let c : Clock := { aUp.clock with own := .holdover, uEntry := 33 }
     let u := holdMax (bits gUp.almCfg 15 8)
     c.own = .holdover ∧ u < holdoverU (u + 1) (c.lmNs - c.holdFrom) 5 ∧ u < holdoverU (u + 1) (c.lmNs - c.holdFrom) aUp.driftA) ∧
    (let y : PtpSync := ⟨1, 9, 16000000000, 16000000100⟩
     let g : Gremon := { gUp with root := true, svc := { Svc.reset with site := { Svc.reset.site with masters := [⟨1, [128, 6], 10 ^ 12⟩], dreq := some (7, y) } } }
     let g := g.txStamp 0 7 (g.linkStamp 30)
     g.sys.pwr.rails = true ∧ g.sys.pwr.ready = true ∧ g.root = true ∧ g.clock.own = .unset ∧ g.siteDomain = 0 ∧ g.siteMaster = some 1 ∧
       g.svc.site.dreq = some (7, y) ∧ (g.tsq 0).q.find? (fun e => decide (e.1 = 7)) = some (7, g.linkStamp 30)) ∧
    (let g : Gremon := { gUp with root := true }
     g.sys.pwr.rails = true ∧ g.sys.pwr.ready = true ∧ g.svc.site.state ≠ 2 ∧ g.clock.own = .unset) ∧
    (let g : Gremon := { setG gUp 5 .locked with svc := { Svc.reset with ptSteps := [(2000000000, -10000000000)] } }
     g.nextStep = some (2000000000, -10000000000) ∧ g.clock.own = .locked) ∧
    (let g : Gremon := { gUp with root := true, binds := [{ pda := 0, lda := 0, job := 7, state := 1, gen := 0, ever := true, next := [] }] }
     g.tree.root = g.gid ∧ (g.jobDies 7).map (·.1) ≠ []) := by decide

end Sys2Proof.Tests
end

section
/-! SUPPORT: the FB registers of Gremon that no check groups with others (17 R565). -/
namespace Sys2Proof.Machine
open Sys2Proof

/-- An FB register that no check groups with others (17 R565). -/
def fbOwn (k : Nat) : Bool := decide (fbSet k = 8 ∧ fbMask .gremon k ≠ 0)

theorem fbMask_covered {k : Nat} (h : fbMask .gremon k ≠ 0) :
    ∃ d ∈ (regsOf .gremon).filter fun d => decide (d.fb ≠ 0), d.covers k = true := by
  unfold fbMask at h
  split at h
  · rename_i d hd
    exact ⟨d, List.mem_filter.mpr ⟨List.mem_of_find?_eq_some hd, decide_eq_true h⟩,
      List.find?_some (p := fun x : RegDesc => x.covers k) hd⟩
  · exact absurd rfl h

/-- The families of FB registers (Tables 13.18, 14.17, 14.18): the SHAPE and BURST words of the ports, Lantern's, Vigil's. -/
theorem fbFamilies : ((regsOf .gremon).filter fun d => decide (d.fb ≠ 0)).map (fun d => (d.base, d.n, d.step, d.m, d.stepM)) =
    [(0x3000100, 5, 8, 6, 0x1000), (0x3000104, 5, 8, 6, 0x1000), (ind 0xA0000, 1, 4, 1, 0x1000000000), (ind 0xA0004, 1, 4, 1, 0x1000000000),
     (ind 0xA0008, 1, 4, 1, 0x1000000000), (ind 0xA000C, 1, 4, 1, 0x1000000000), (ind 0xA0010, 1, 4, 1, 0x1000000000),
     (ind 0xA0100, 32, 4, 1, 0x1000000000), (ind 0xA0200, 17, 4, 1, 0x1000000000), (ind 0xC0004, 1, 4, 1, 0x1000000000)] := by
  decide

theorem RegDesc.covers_bounds {d : RegDesc} {k : Nat} (h : d.covers k = true) :
    d.base ≤ k ∧ (k - d.base) / d.stepM < d.m ∧ (k - d.base) % d.stepM % d.step = 0 ∧ (k - d.base) % d.stepM / d.step < d.n := by
  unfold RegDesc.covers at h
  split at h
  · cases h
  · simp only [Bool.and_eq_true, decide_eq_true_eq] at h
    obtain ⟨⟨hm, hs⟩, hn⟩ := h
    exact ⟨by omega, hm, hs, hn⟩

theorem fbSet_eq_eight {k : Nat} (h : fbSet k = 8) : ¬(0x3000000 ≤ k ∧ k < 0x3006000) ∧ ¬(ind 0xA0100 ≤ k ∧ k < ind 0xA0300) ∧
    ¬(k = ind 0xA000C ∨ k = ind 0xA0010) := by
  unfold fbSet at h
  split at h
  · omega
  · split at h
    · cases h
    · split at h
      · cases h
      · exact ⟨‹_›, ‹_›, ‹_›⟩

theorem fbOwn_range {k : Nat} (h : fbOwn k = true) : ind 0xA0000 ≤ k ∧ k < ind 0xC0010 ∧ k % 0x1000 < 0x10 := by
  obtain ⟨hs, hm⟩ := of_decide_eq_true h
  obtain ⟨d, hd, hc⟩ := fbMask_covered hm
  have hs := fbSet_eq_eight hs
  have hb := RegDesc.covers_bounds hc
  have hd := fbFamilies ▸ List.mem_map_of_mem (f := fun d : RegDesc => (d.base, d.n, d.step, d.m, d.stepM)) hd
  generalize hn : d.n = n at *
  generalize ht : d.step = t at *
  generalize hm' : d.m = m at *
  generalize hM : d.stepM = M at *
  generalize hB : d.base = B at *
  simp only [List.mem_cons, Prod.mk.injEq, List.not_mem_nil, or_false, ind] at *
  rcases hd with h | h | h | h | h | h | h | h | h | h <;> obtain ⟨rfl, rfl, rfl, rfl, rfl⟩ := h <;> omega

end Sys2Proof.Machine
end

section
/-! SUPPORT: what the statement about frame boundaries reads of Gremon, and the operations that leave it unchanged. -/
namespace Sys2Proof.Machine
open Sys2Proof

/-- What the statement about frame boundaries reads of Gremon, beside its clock: the frame lengths (R42), the FB registers (R563), the
bindings (R25), the packs (R498) and the power state (R603). Of the history job that R603 waits for, only if it is
watched. -/
structure BndView where
  frame  : Nat × Nat × Option (Nat × Nat × Nat)
  force  : List Nat
  shadow : Tbl (Word × Nat)
  fb     : Nat → Nat
  binds  : List Binding
  staged : Tbl (List Byte)
  packs  : Tbl (List Byte)
  power  : Nat × Option (Nat × Nat) × Bool × Bool
  exp    : Option Export

/-- The applied copies of the FB registers that no check groups with others. -/
def RegFile.ownFb (r : RegFile) (k : Nat) : Nat := if fbOwn k then r.get .gremon k else 0

def Gremon.bndView (w : Bool) (g : Gremon) : BndView :=
  { frame := (g.frameUs, g.frameN, g.frameNext), force := g.regs.force, shadow := g.regs.shadow, fb := g.regs.ownFb, binds := g.binds
    staged := g.svc.scr.staged, packs := g.svc.scr.packs
    power := (g.sys.pwr.pstate, g.sys.pwr.want, g.sys.pwr.brace, g.sys.pwr.waking)
    exp := if w then g.svc.hist.exp else none }

variable {w : Bool}

theorem bndView_ite {c : Prop} [Decidable c] {a b g : Gremon} (ha : a.bndView w = g.bndView w) (hb : b.bndView w = g.bndView w) :
    (if c then a else b).bndView w = g.bndView w := by split <;> assumption

theorem foldl_bndView_mem {α : Type} (f : Gremon → α → Gremon) (l : List α) (hf : ∀ x ∈ l, ∀ g, (f g x).bndView w = g.bndView w) :
    ∀ g, (l.foldl f g).bndView w = g.bndView w := by
  induction l with
  | nil => intro g; rfl
  | cons x l ih => intro g; rw [List.foldl_cons, ih fun y hy => hf y (List.mem_cons_of_mem _ hy), hf x List.mem_cons_self]

theorem foldl_bndView {α : Type} (f : Gremon → α → Gremon) (hf : ∀ g x, (f g x).bndView w = g.bndView w) (l : List α) (g : Gremon) :
    (l.foldl f g).bndView w = g.bndView w := foldl_bndView_mem f l (fun x _ g => hf g x) g

/-! ### Registers -/

theorem RegFile.ownFb_set (r : RegFile) {k : Nat} (v : Nat) (h : fbOwn k = false) : (r.set .gremon k v).ownFb = r.ownFb := by
  funext j
  unfold RegFile.ownFb
  split
  · rename_i hj
    exact RegFile.get_set_other _ _ _ fun e => by rw [e, h] at hj; cases hj
  · rfl

theorem RegFile.set_force (p : Part) (r : RegFile) (k v : Nat) : (r.set p k v).force = r.force := by unfold RegFile.set; split <;> rfl
theorem RegFile.set_shadow (p : Part) (r : RegFile) (k v : Nat) : (r.set p k v).shadow = r.shadow := by unfold RegFile.set; split <;> rfl

theorem Gremon.setReg_bndView (g : Gremon) {k : Nat} (v : Nat) (h : fbOwn k = false) : (g.setReg k v).bndView w = g.bndView w := by
  simp [Gremon.bndView, RegFile.ownFb_set _ _ h, RegFile.set_force, RegFile.set_shadow]

theorem Gremon.setFld_bndView (g : Gremon) {k : Nat} (hi lo v : Nat) (h : fbOwn k = false) : (g.setFld k hi lo v).bndView w = g.bndView w :=
  g.setReg_bndView _ h

theorem Gremon.sqcEvent_bndView (g : Gremon) {k : Nat} (hi lo v : Nat) (h : fbOwn k = false) : (g.sqcEvent k hi lo v).bndView w = g.bndView w :=
  ((g.setFld k hi lo v).setFld_bndView 31 24 _ h).trans (g.setFld_bndView hi lo v h)

theorem fbOwn_of_range {k : Nat} (h : ind 0xA0000 ≤ k → k < ind 0xC0010 → 0x10 ≤ k % 0x1000) : fbOwn k = false := by
  refine Bool.eq_false_iff.mpr fun e => ?_
  obtain ⟨h1, h2, h3⟩ := fbOwn_range e
  have := h h1 h2
  omega

/-! ### Parts of the state -/

@[simp] theorem Gremon.onLan_bndView (g : Gremon) (f) : (g.onLan f).bndView w = g.bndView w := rfl
@[simp] theorem Gremon.setKit_bndView (g : Gremon) (n k) : (g.setKit n k).bndView w = g.bndView w := rfl
@[simp] theorem Gremon.setCore_bndView (g : Gremon) (n c) : (g.setCore n c).bndView w = g.bndView w := rfl
@[simp] theorem Gremon.setCoreNote_bndView (g : Gremon) (a b h) : (g.setCoreNote a b h).bndView w = g.bndView w := rfl
@[simp] theorem Gremon.setRing_bndView (g : Gremon) (t r) : (g.setRing t r).bndView w = g.bndView w := rfl
@[simp] theorem Gremon.setQp_bndView (g : Gremon) (q p) : (g.setQp q p).bndView w = g.bndView w := rfl
@[simp] theorem Gremon.drawBytes_bndView (g : Gremon) (n) : (g.drawBytes n).2.bndView w = g.bndView w := rfl
@[simp] theorem Gremon.putNext_bndView (g : Gremon) (a b) : (g.putNext a b).bndView w = g.bndView w := rfl
@[simp] theorem Gremon.dropOld_bndView (g : Gremon) (a b) : (g.dropOld a b).bndView w = g.bndView w := rfl
@[simp] theorem Gremon.redRenumber_bndView (g : Gremon) (t) : (g.redRenumber t).bndView w = g.bndView w := rfl
@[simp] theorem Gremon.phasesFrom_bndView (g : Gremon) (n t) : (g.phasesFrom n t).bndView w = g.bndView w := rfl

/-! ### Records, the host side and the black box -/

@[simp] theorem Gremon.count_bndView (g : Gremon) (c n) : (g.count c n).bndView w = g.bndView w := by
  unfold Gremon.count; split <;> rfl
@[simp] theorem Gremon.file_bndView (g : Gremon) (c j st s d) : (g.file c j st s d).bndView w = g.bndView w := by
  unfold Gremon.file; dsimp only; split
  · rfl
  · rw [Gremon.count_bndView]; rfl
@[simp] theorem Gremon.raise_bndView (g : Gremon) (e d) : (g.raise e d).bndView w = g.bndView w := g.file_bndView ..
@[simp] theorem Gremon.raiseJob_bndView (g : Gremon) (e j d) : (g.raiseJob e j d).bndView w = g.bndView w := g.file_bndView ..
@[simp] theorem Gremon.hwNote_bndView (g : Gremon) (a b c d e) : (g.hwNote a b c d e).bndView w = g.bndView w := by
  unfold Gremon.hwNote; extract_lets
  exact bndView_ite rfl rfl

/-- Both earlier views of Gremon together show all of this one: `kept` leaves out of it the power state alone. -/
theorem Gremon.bndView_of_kept {g h : Gremon} (hk : h.kept = g.kept) (hi : h.idleView = g.idleView) : h.bndView w = g.bndView w := by
  obtain ⟨-, hp, -⟩ : h.sys.pwr.rails = _ ∧ h.sys.pwr.pstate = g.sys.pwr.pstate ∧ h.working = _ := by
    simpa [Gremon.idleView] using hi
  have hr := congrArg Gremon.regs hk
  have hb : h.regs.ownFb = g.regs.ownFb := by
    have hv := congrArg RegFile.vals hr
    simp only [Gremon.kept] at hv
    funext k
    unfold RegFile.ownFb
    split
    · rename_i hf
      have hne : decide (k ≠ kDieStat 31) = true := decide_eq_true fun e => by
        have hr := fbOwn_range (e ▸ hf)
        have hv : kDieStat 31 < ind 0xA0000 := by decide
        omega
      unfold RegFile.get
      have hp : ∀ m : Tbl Word, Tbl.find (m.filter fun e => decide (e.1 ≠ kDieStat 31)) k = Tbl.find m k := fun m =>
        Tbl.find_filter (fun x => decide (x ≠ kDieStat 31)) m k hne
      rw [← hp h.regs.vals, hv, hp]
    · rfl
  have hF : (h.frameUs, h.frameN, h.frameNext) = (g.frameUs, g.frameN, g.frameNext) :=
    (congrArg (fun x : Gremon => (x.frameUs, x.frameN, x.frameNext)) hk :)
  have hS : (h.sys.pwr.want, h.sys.pwr.brace, h.sys.pwr.waking) = (g.sys.pwr.want, g.sys.pwr.brace, g.sys.pwr.waking) :=
    (congrArg (fun x : Gremon => (x.sys.pwr.want, x.sys.pwr.brace, x.sys.pwr.waking)) hk :)
  have hV : (h.svc.scr, h.svc.hist) = (g.svc.scr, g.svc.hist) := (congrArg (fun x : Gremon => (x.svc.scr, x.svc.hist)) hk :)
  have hB : h.binds = g.binds := (congrArg Gremon.binds hk :)
  have hR : (h.regs.force, h.regs.shadow) = (g.regs.force, g.regs.shadow) :=
    (congrArg (fun x : Gremon => (x.regs.force, x.regs.shadow)) hk :)
  simp only [Prod.mk.injEq] at hF hS hV hR
  obtain ⟨hu, hn, hx⟩ := hF
  obtain ⟨hw, hc, ha⟩ := hS
  simp [Gremon.bndView, hb, hu, hn, hx, hw, hc, ha, hV.1, hV.2, hR.1, hR.2, hB, hp]

@[simp] theorem Gremon.dmaWrite_bndView (g : Gremon) (a b) : (g.dmaWrite a b).bndView w = g.bndView w :=
  Gremon.bndView_of_kept (g.dmaWrite_kept a b) (g.dmaWrite_idleView a b)
@[simp] theorem Gremon.signalVec_bndView (g : Gremon) (v) : (g.signalVec v).bndView w = g.bndView w :=
  Gremon.bndView_of_kept (g.signalVec_kept v) (g.signalVec_idleView v)
@[simp] theorem Gremon.deliver_bndView (g : Gremon) (k p j b) : (g.deliver k p j b).bndView w = g.bndView w :=
  Gremon.bndView_of_kept (g.deliver_kept k p j b) (g.deliver_idleView k p j b)

@[simp] theorem Gremon.bbCommit_bndView (g : Gremon) (rs) : (g.bbCommit rs).bndView w = g.bndView w := by
  unfold Gremon.bbCommit; split <;> rfl
@[simp] theorem Gremon.classOut_bndView (g : Gremon) (n r) : (g.classOut n r).bndView w = g.bndView w := by
  simp [Gremon.classOut]

/-! ### Messages to the dies and between Gremons -/

@[simp] theorem Gremon.command_bndView (g : Gremon) (n a b c d e) : (g.command n a b c d e).bndView w = g.bndView w := rfl

@[simp] theorem Gremon.cmdWords_bndView (g : Gremon) (n a b ws) : (g.cmdWords n a b ws).bndView w = g.bndView w := by
  unfold Gremon.cmdWords
  generalize chunks 256 (ws.length + 1) ws = l
  suffices ∀ s : Gremon × Nat, (l.foldl (fun (s : Gremon × Nat) c =>
      (s.1.command n 2 a s.2 c.length (c.flatMap (leBytes 4)), s.2 + 4 * c.length)) s).1.bndView w = s.1.bndView w from this _
  induction l with
  | nil => intro s; rfl
  | cons c l ih => intro s; rw [List.foldl_cons, ih, Gremon.command_bndView]

@[simp] theorem Gremon.cmdWord_bndView (g : Gremon) (n a v) : (g.cmdWord n a v).bndView w = g.bndView w := g.cmdWords_bndView ..

@[simp] theorem Gremon.jobPush_bndView (g : Gremon) (n) : (g.jobPush n).bndView w = g.bndView w := by
  unfold Gremon.jobPush; repeat' split
  all_goals simp
@[simp] theorem Gremon.keyPush_bndView (g : Gremon) (n j k) : (g.keyPush n j k).bndView w = g.bndView w := by
  simp [Gremon.keyPush]
@[simp] theorem Gremon.keyOf_bndView (g : Gremon) (n) : (g.keyOf n).bndView w = g.bndView w := by
  unfold Gremon.keyOf; dsimp only; split <;> simp
@[simp] theorem Gremon.scrArm_bndView (g : Gremon) (n) : (g.scrArm n).bndView w = g.bndView w := by
  simp [Gremon.scrArm]

/-- A port's high-water mark is no FB register. -/
theorem fbOwn_kHwm (p : Nat) {c : Nat} (h : c < 5) : fbOwn (kHwm p c) = false :=
  fbOwn_of_range fun _ _ => by unfold kHwm; omega

theorem Gremon.rlQueue_bndView (g : Gremon) (p : Nat) {c : Nat} (f) (h : c < 5) : (g.rlQueue p c f).bndView w = g.bndView w := by
  unfold Gremon.rlQueue
  extract_lets
  exact bndView_ite (Gremon.sqcEvent_bndView _ _ _ _ (fbOwn_kHwm p h)) rfl

theorem Gremon.rlSend_bndView (g : Gremon) (p : Nat) {c : Nat} (m) (h : c < 5) : (g.rlSend p c m).bndView w = g.bndView w := by
  unfold Gremon.rlSend Gremon.rlSendTs
  exact g.rlQueue_bndView _ _ h

theorem Gremon.rlTo_bndView (g : Gremon) (d : Nat) {c : Nat} (t r b) (h : c < 5) : (g.rlTo d c t r b).bndView w = g.bndView w := by
  unfold Gremon.rlTo
  refine bndView_ite (by rfl) ?_
  split
  · exact g.rlSend_bndView _ _ h
  · exact g.raise_bndView ..

@[simp] theorem Gremon.feedDrop_bndView (g : Gremon) (f) : (g.feedDrop f).bndView w = g.bndView w := by
  unfold Gremon.feedDrop
  split
  · exact bndView_ite rfl (g.rlQueue_bndView _ _ (by decide))
  · rfl

@[simp] theorem Gremon.feedSend_bndView (g : Gremon) (f) : (g.feedSend f).bndView w = g.bndView w :=
  (Gremon.rlTo_bndView _ _ _ _ _ (by decide)).trans (g.feedDrop_bndView f)

@[simp] theorem Gremon.post_bndView (g : Gremon) (c s d rb r rp) : (g.post c s d rb r rp).bndView w = g.bndView w := by
  unfold Gremon.post
  split
  · extract_lets p n e h last k
    have hk : k.bndView w = g.bndView w := by simp [k, h]
    exact bndView_ite (by simp [hk]) hk
  · rfl
  · exact bndView_ite rfl (g.rlTo_bndView _ _ _ _ (by decide))

@[simp] theorem Gremon.finish_bndView (g : Gremon) (c s d) : (g.finish c s d).bndView w = g.bndView w := by
  have hw : ∀ (l : List (Nat × Nat)) (bs : List Byte) (g : Gremon), (g.writeReply l bs).bndView w = g.bndView w := by
    intro l
    induction l with
    | nil => intro _ _; rfl
    | cons e l ih => intro bs g; rw [Gremon.writeReply, ih, Gremon.dmaWrite_bndView]
  unfold Gremon.finish Gremon.complete
  split
  · simp [hw]
  · split <;> simp
  · simp

end Sys2Proof.Machine
end

section
/-! SUPPORT: the history store leaves the view unchanged. -/
namespace Sys2Proof.Machine
open Sys2Proof
variable {w : Bool}

/-! ### The history store -/

theorem fbOwn_kDieStat {d : Nat} (h : d < 32) : fbOwn (kDieStat d) = false :=
  fbOwn_of_range fun h1 _ => by unfold kDieStat ind at *; omega

theorem Gremon.poisonAt_bndView (g : Gremon) {d : Nat} (h : d < 32) : (g.poisonAt d).bndView w = g.bndView w := by
  rw [Gremon.poisonAt, Gremon.count_bndView, Gremon.setFld_bndView _ _ _ _ (fbOwn_kDieStat h)]

theorem Gremon.wrFrom_bndView (g : Gremon) {d : Nat} (a bs) (h : d < 32) : (g.wrFrom d a bs).bndView w = g.bndView w := by
  unfold Gremon.wrFrom
  refine bndView_ite rfl ?_
  extract_lets ps
  rw [Gremon.poisonAt_bndView _ h]
  exact foldl_bndView _ (fun g p => by dsimp only; exact bndView_ite rfl rfl) _ g

/-- A change of the history service that leaves its running job alone, as far as that is watched. -/
theorem Gremon.onHist_bndView (g : Gremon) (f : History → History) (h : w = true → (f g.svc.hist).exp = g.svc.hist.exp) :
    (g.onHist f).bndView w = g.bndView w := by
  cases w
  · rfl
  · simp [Gremon.bndView, h rfl]

theorem Gremon.onHist_bndView_same (g : Gremon) (f : History → History) (h : (f g.svc.hist).exp = g.svc.hist.exp) :
    (g.onHist f).bndView w = g.bndView w := g.onHist_bndView f fun _ => h

theorem foldl_bndView_idle {α : Type} (f : Gremon → α → Gremon) (hf : ∀ g x, (g.bndView w).exp = none → (f g x).bndView w = g.bndView w)
    (l : List α) : ∀ g : Gremon, (g.bndView w).exp = none → (l.foldl f g).bndView w = g.bndView w := by
  induction l with
  | nil => intro g _; rfl
  | cons x l ih => intro g h; rw [List.foldl_cons, ih _ (by rw [hf g x h, h]), hf g x h]

theorem Gremon.unwatched_of_job (g : Gremon) {e : Export} (h : (g.bndView w).exp = none) (he : g.svc.hist.exp = some e) : w = false := by
  cases w
  · rfl
  · simp [Gremon.bndView, he] at h

/-- No job ends where none runs. -/
theorem Gremon.expAbort_bndView (g : Gremon) (r : Nat) (h : (g.bndView w).exp = none) : (g.expAbort r).bndView w = g.bndView w := by
  unfold Gremon.expAbort
  split
  · rfl
  · rename_i e he
    have hw : w = false := g.unwatched_of_job h he
    have hk : fbOwn kExp = false := fbOwn_of_range fun h1 _ => by unfold kExp ind at *; omega
    have hk' : fbOwn (kExp + 12) = false := fbOwn_of_range fun h1 _ => by unfold kExp ind at *; omega
    simp only [Gremon.finish_bndView, Gremon.raise_bndView, Gremon.expEnd, Gremon.setReg_bndView _ _ hk', Gremon.setFld_bndView _ _ _ _ hk,
      Gremon.sqcEvent_bndView _ _ _ _ hk]
    subst hw
    rfl

theorem Gremon.preserve_bndView (g : Gremon) (p : Nat) (h : (g.bndView w).exp = none) : (g.preserve p).bndView w = g.bndView w := by
  unfold Gremon.preserve
  refine (Gremon.onHist_bndView_same _ _ rfl).trans ?_
  split
  · rfl
  · rename_i e he
    have hw : w = false := g.unwatched_of_job h he
    have hk' : fbOwn (kExp + 12) = false := fbOwn_of_range fun h1 _ => by unfold kExp ind at *; omega
    refine bndView_ite rfl (bndView_ite (g.expAbort_bndView 1 h) ?_)
    extract_lets i src dst bad g1 g2 g3
    rw [g3.onHist_bndView _ (by simp [hw]), Gremon.setReg_bndView _ _ hk']
    exact (g.wrFrom_bndView _ _ (by decide) : g1.bndView w = _)

theorem Gremon.histWrite_bndView (g : Gremon) (a bs) (h : (g.bndView w).exp = none) : (g.histWrite a bs).bndView w = g.bndView w := by
  unfold Gremon.histWrite
  extract_lets first last
  rw [Gremon.wrFrom_bndView _ _ _ (by decide)]
  exact foldl_bndView_idle _ (fun g i h => g.preserve_bndView _ h) _ g h

theorem Gremon.histAppendRec_bndView (g : Gremon) (t : Nat) (rec) (h : (g.bndView w).exp = none) :
    (g.histAppendRec t rec).bndView w = g.bndView w := by
  unfold Gremon.histAppendRec
  extract_lets size r n room
  have hp : ∀ x : Gremon × HistRing, x.1.bndView w = g.bndView w → (match x with
      | (g, r) =>
        let g := g.histWrite (g.tierBase t + r.wp) (rec r.seq)
        g.setRing t { r with wp := (r.wp + n) % max 65536 size, seq := r.seq + 1, recs := r.recs ++ [(r.wp, n)] }).bndView w = g.bndView w := by
    intro x hx
    exact (Gremon.setRing_bndView _ _ _).trans ((x.1.histWrite_bndView _ _ (by rw [hx, h])).trans hx)
  have hi : ∀ (c : Prop) [Decidable c] (a b : Gremon × HistRing), a.1.bndView w = g.bndView w → b.1.bndView w = g.bndView w →
      (if c then a else b).1.bndView w = g.bndView w := by
    intro c _ a b ha hb
    split <;> assumption
  refine hp _ (hi _ _ _ ((Gremon.histWrite_bndView _ _ _ ?_).trans ?_) rfl)
  · exact h
  · exact g.drawBytes_bndView 22

theorem Gremon.histSeal_bndView (g : Gremon) (l) (h : (g.bndView w).exp = none) : (g.histSeal l).bndView w = g.bndView w :=
  foldl_bndView_idle _ (fun g _ h => g.histAppendRec_bndView _ _ h) _ g h

theorem Gremon.histAppend_bndView (g : Gremon) (t i s es) (h : (g.bndView w).exp = none) :
    (g.histAppend t i s es).bndView w = g.bndView w := by
  unfold Gremon.histAppend
  extract_lets mine opens other elemOf broken seeds hit now keep added still all full out g1 g2
  have h1 : g1.bndView w = g.bndView w := g.histSeal_bndView _ h
  have h2 : g2.bndView w = g1.bndView w := g1.histSeal_bndView _ (by rw [h1, h])
  rw [g2.onHist_bndView_same _ rfl, h2, h1]

theorem Gremon.closeIntvs_bndView (g : Gremon) (t p) (h : (g.bndView w).exp = none) : (g.closeIntvs t p).bndView w = g.bndView w := by
  unfold Gremon.closeIntvs
  extract_lets hit due g1 idx
  have h1 : g1.bndView w = g.bndView w := g.onHist_bndView_same _ rfl
  rw [foldl_bndView_idle _ (fun g i h => g.histAppend_bndView _ _ _ _ h) idx g1 (by rw [h1, h]), h1]

@[simp] theorem Gremon.intvAdd_bndView (g : Gremon) (t i e) : (g.intvAdd t i e).bndView w = g.bndView w := by
  unfold Gremon.intvAdd
  extract_lets same
  split <;> exact g.onHist_bndView_same _ rfl

theorem Gremon.fileFrame_bndView (g : Gremon) (f) (h : (g.bndView w).exp = none) : (g.fileFrame f).bndView w = g.bndView w := by
  unfold Gremon.fileFrame
  extract_lets ss g1 ent fl g2 g3 filed
  have h1 : g1.bndView w = g.bndView w := g.onHist_bndView_same _ rfl
  have h2 : g2.bndView w = g1.bndView w := g1.histAppend_bndView _ _ _ _ (by rw [h1, h])
  have h3 : g3.bndView w = g2.bndView w := by
    refine foldl_bndView_idle _ (fun g t h => ?_) _ g2 (by rw [h2, h1, h])
    extract_lets u i k1 k2
    have e1 : k1.bndView w = g.bndView w := g.closeIntvs_bndView _ _ h
    have e2 : k2.bndView w = k1.bndView w := foldl_bndView _ (fun g e => g.intvAdd_bndView _ _ _) _ k1
    rw [k2.closeIntvs_bndView _ _ (by rw [e2, e1, h]), e2, e1]
  clear_value g3
  exact h3.trans (h2.trans h1)

theorem Gremon.histSealAll_bndView (g : Gremon) (h : (g.bndView w).exp = none) : g.histSealAll.bndView w = g.bndView w := by
  unfold Gremon.histSealAll
  extract_lets frames g1 g2 g3
  have h1 : g1.bndView w = g.bndView w := foldl_bndView_idle _ (fun g f h => g.fileFrame_bndView f h) _ g h
  have h2 : (g1.closeIntvs 1 fun _ => true).bndView w = g1.bndView w := g1.closeIntvs_bndView _ _ (by rw [h1, h])
  have h3 : g2.bndView w = g1.bndView w := (Gremon.closeIntvs_bndView _ _ _ (by rw [h2, h1, h])).trans h2
  have h4 : g3.bndView w = g2.bndView w := foldl_bndView_idle _ (fun g _ h => g.histSeal_bndView _ h) _ g2 (by rw [h3, h1, h])
  clear_value g3
  rw [g3.onHist_bndView_same _ rfl, h4, h3, h1]

theorem Gremon.histSwap_bndView (g : Gremon) (l j) (h : (g.bndView w).exp = none) : (g.histSwap l j).bndView w = g.bndView w := by
  refine foldl_bndView_idle _ (fun g t h => ?_) _ g h
  extract_lets mine out k
  have hk : k.bndView w = g.bndView w := g.histSeal_bndView _ h
  rw [k.onHist_bndView_same _ rfl, hk]

@[simp] theorem Gremon.logAdd_bndView (g : Gremon) (a b c) : (g.logAdd a b c).bndView w = g.bndView w :=
  g.onHist_bndView_same _ rfl

end Sys2Proof.Machine
end

section
/-! SUPPORT: cores, kits, lanes, reductions and feeds leave the view unchanged. -/
namespace Sys2Proof.Machine
open Sys2Proof
variable {w : Bool}

/-! ### Analysis cores and kits -/

@[simp] theorem Gremon.traceCore_bndView (g : Gremon) (n f) : (g.traceCore n f).bndView w = g.bndView w := by
  unfold Gremon.traceCore
  exact bndView_ite rfl rfl

@[simp] theorem Gremon.traceDown_bndView (g : Gremon) (a cs) : (g.traceDown a cs).bndView w = g.bndView w :=
  foldl_bndView _ (fun g n => g.traceCore_bndView n _) _ g
@[simp] theorem Gremon.traceUp_bndView (g : Gremon) (cs) : (g.traceUp cs).bndView w = g.bndView w :=
  foldl_bndView _ (fun g n => g.traceCore_bndView n _) _ g

/-- A halt for another reason than POISON counts nothing. -/
theorem Gremon.haltCore_bndView (g : Gremon) (n c pc) {r : Nat} (h : r ≠ 4) : (g.haltCore n c pc r).bndView w = g.bndView w := by
  unfold Gremon.haltCore
  rw [if_neg h]
  rfl

@[simp] theorem Gremon.trapCore_bndView (g : Gremon) (n c cy code v) : (g.trapCore n c cy code v).bndView w = g.bndView w := by
  unfold Gremon.trapCore
  extract_lets d
  refine bndView_ite (g.haltCore_bndView _ _ _ (by decide)) (bndView_ite (g.haltCore_bndView _ _ _ (by decide)) ?_)
  rw [Gremon.traceTrap, Gremon.traceCore_bndView, Gremon.setCore_bndView]

@[simp] theorem Gremon.passTo_bndView (g : Gremon) (n c t) : (g.passTo n c t).bndView w = g.bndView w := by
  unfold Gremon.passTo
  refine bndView_ite rfl ?_
  unfold Gremon.fetchTrap
  extract_lets d
  split
  · exact bndView_ite (by simp) rfl
  · rfl

@[simp] theorem Gremon.endWait_bndView (g : Gremon) (n d) : (g.endWait n d).bndView w = g.bndView w := by
  unfold Gremon.endWait
  refine bndView_ite rfl ?_
  exact (Gremon.passTo_bndView _ _ _ _).trans ((Gremon.setCore_bndView _ _ _).trans ((Gremon.traceCore_bndView _ _ _).trans rfl))

@[simp] theorem Gremon.setFrozen_bndView (g : Gremon) (on a cs) : (g.setFrozen on a cs).bndView w = g.bndView w := by
  unfold Gremon.setFrozen
  extract_lets change k
  have hk : k.bndView w = g.bndView w := bndView_ite (g.traceDown_bndView _ _) (g.traceUp_bndView _)
  clear_value k
  rw [← hk]
  refine foldl_bndView _ (fun g n => ?_) _ k
  extract_lets c h
  refine bndView_ite rfl ?_
  split
  · exact h.endWait_bndView _ _
  · rfl

@[simp] theorem Gremon.kitFault_bndView (g : Gremon) (s c) : (g.kitFault s c).bndView w = g.bndView w := by
  unfold Gremon.kitFault
  exact bndView_ite rfl (Gremon.raise_bndView _ _ _)

@[simp] theorem Gremon.kitHalts_bndView (g : Gremon) : g.kitHalts.bndView w = g.bndView w := by
  refine foldl_bndView _ (fun g n => ?_) _ g
  refine bndView_ite rfl ((Gremon.setKit_bndView _ _ _).trans ?_)
  exact foldl_bndView _ (fun g c => g.setCore_bndView _ _) _ g

@[simp] theorem Gremon.kitsHalt_bndView (g : Gremon) (s) : (g.kitsHalt s).bndView w = g.bndView w := by
  refine foldl_bndView _ (fun g e => ?_) _ g
  exact bndView_ite ((Gremon.setKit_bndView _ _ _).trans (g.setFrozen_bndView _ _ _)) (bndView_ite (g.traceDown_bndView _ _) rfl)

@[simp] theorem Gremon.kitsWake_bndView (g : Gremon) (t) : (g.kitsWake t).bndView w = g.bndView w := by
  refine foldl_bndView _ (fun g e => ?_) _ g
  refine bndView_ite rfl ((Gremon.phasesFrom_bndView _ _ _).trans ?_)
  exact bndView_ite (Gremon.setFrozen_bndView _ _ _ _) rfl

/-! ### Spares, planes and lanes -/

theorem fbOwn_kCoreErr (ct p : Nat) : fbOwn (kCoreErr ct p) = false :=
  fbOwn_of_range fun _ h => by unfold kCoreErr ind at *; omega

theorem fbOwn_kCtMap {ct p : Nat} (hc : ct < 16) (hp : p < 64) : fbOwn (kCtMap ct p) = false :=
  fbOwn_of_range fun h _ => by unfold kCtMap ind at *; omega

theorem Gremon.testCore_bndView (g : Gremon) {ct p : Nat} (hc : ct < 16) (hp : p < 64) : (g.testCore ct p).bndView w = g.bndView w := by
  unfold Gremon.testCore
  refine bndView_ite ?_ ?_
  · rw [Gremon.retireCore, Gremon.raise_bndView, Gremon.bbCommit_bndView, Gremon.setCoreNote_bndView,
      Gremon.setFld_bndView _ _ _ _ (fbOwn_kCoreErr ct p), Gremon.setReg_bndView _ _ (fbOwn_kCtMap hc hp)]
  · rw [Gremon.setCoreNote_bndView, Gremon.setFld_bndView _ _ _ _ (fbOwn_kCoreErr ct p)]

theorem Gremon.moveCore_bndView (g : Gremon) {ct p : Nat} (hc : ct < 16) (hp : p < 64) : (g.moveCore ct p).1.bndView w = g.bndView w := by
  unfold Gremon.moveCore
  extract_lets slot spare k
  have hk : k.bndView w = g.bndView w := g.setReg_bndView _ (fbOwn_kCtMap hc hp)
  clear_value k
  rcases hs : spare with _ | q
  · exact (k.testCore_bndView hc hp).trans hk
  · have hq : q < 64 := by
      have := List.mem_range.mp (List.mem_of_find?_eq_some hs)
      omega
    refine (Gremon.raise_bndView _ _ _).trans ((Gremon.testCore_bndView _ hc hp).trans ?_)
    have hd : (k.setReg (kCtMap ct q) (32 + slot)).draw.2.bndView w = g.bndView w :=
      (k.setReg_bndView _ (fbOwn_kCtMap hc hq)).trans hk
    rw [← hd]
    split
    · exact bndView_ite rfl rfl
    · rfl

@[simp] theorem Gremon.coreMoves_bndView (g : Gremon) : g.coreMoves.bndView w = g.bndView w := by
  refine foldl_bndView_mem _ _ (fun e he g => ?_) g
  have he : e.1 < 1024 := of_decide_eq_true (List.mem_filter.mp he).2
  extract_lets ct p n holder later
  refine bndView_ite rfl ?_
  have hm := g.moveCore_bndView (w := w) (ct := ct) (p := p) (by omega) (by omega)
  dsimp only
  split
  · exact (Gremon.kitFault_bndView _ _ _).trans hm
  · exact hm

@[simp] theorem Gremon.planeSwitches_bndView (g : Gremon) : g.planeSwitches.bndView w = g.bndView w := by
  refine foldl_bndView _ (fun g c => ?_) _ g
  unfold Gremon.planeSwitch
  extract_lets t
  split
  · exact bndView_ite rfl rfl
  · rfl

@[simp] theorem Gremon.relinked_bndView (g : Gremon) (p) : (g.relinked p).bndView w = g.bndView w := by
  unfold Gremon.relinked
  exact bndView_ite rfl rfl

@[simp] theorem Gremon.laneSwitch_bndView (g : Gremon) (p t) : (g.laneSwitch p t).bndView w = g.bndView w := by
  unfold Gremon.laneSwitch
  extract_lets x
  split
  · exact bndView_ite (Gremon.relinked_bndView _ _) rfl
  · rfl

/-! ### Reductions and feeds -/

@[simp] theorem Gremon.setRed_bndView (g : Gremon) (r) : (g.setRed r).bndView w = g.bndView w := by
  unfold Gremon.setRed
  exact bndView_ite rfl rfl

@[simp] theorem Gremon.noteMissed_bndView (g : Gremon) (a b c) : (g.noteMissed a b c).bndView w = g.bndView w := by
  unfold Gremon.noteMissed Gremon.onSvc Gremon.bndView
  dsimp only
  split <;> rfl

theorem Gremon.absentKid_bndView (g : Gremon) (d k) : (g.absentKid d k).2.2.bndView w = g.bndView w := by
  unfold Gremon.absentKid
  extract_lets
  split <;> rfl

@[simp] theorem Gremon.absentAll_bndView (g : Gremon) (d ks) : (g.absentAll d ks).2.2.bndView w = g.bndView w := by
  unfold Gremon.absentAll
  suffices ∀ (s : List (Nat × List Byte) × List Nat × Gremon), (ks.foldl (fun s k =>
      let a := s.2.2.absentKid d k
      (s.1 ++ [(k.gid, a.1.bytes)], s.2.1 ++ a.2.1, a.2.2)) s).2.2.bndView w = s.2.2.bndView w from this _
  induction ks with
  | nil => intro s; rfl
  | cons k ks ih => intro s; rw [List.foldl_cons, ih]; exact s.2.2.absentKid_bndView d k

@[simp] theorem Gremon.redClose_bndView (g : Gremon) (d p) : (g.redClose d p).bndView w = g.bndView w := by
  have hb : ∀ (l : List (Nat × Nat)) (g : Gremon), (l.foldl (fun g _ => g.raise .reduceRefused []) g).bndView w = g.bndView w :=
    fun l => foldl_bndView _ (fun g _ => g.raise_bndView .reduceRefused []) l
  unfold Gremon.redClose
  refine bndView_ite ((Gremon.dropOld_bndView _ _ _).trans ?_) ((Gremon.putNext_bndView _ _ _).trans ?_) <;>
    simp only [Gremon.noteMissed_bndView, Gremon.setRed_bndView, Gremon.absentAll_bndView, hb]

@[simp] theorem Gremon.redEnded_bndView (g : Gremon) : g.redEnded.bndView w = g.bndView w := by
  refine foldl_bndView _ (fun g e => ?_) _ g
  split
  · unfold Gremon.redTryClose
    split
    · exact bndView_ite (Gremon.redClose_bndView _ _ _) rfl
    · rfl
  · rfl

@[simp] theorem Gremon.feedSends_bndView (g : Gremon) (l : List FeedRec) :
    (l.foldl (fun (g : Gremon) f => g.feedSend f) g).bndView w = g.bndView w := foldl_bndView _ (fun g f => g.feedSend_bndView f) l g

@[simp] theorem Gremon.drowseTick_bndView (g : Gremon) (t) : (g.drowseTick t).bndView w = g.bndView w := by
  unfold Gremon.drowseTick
  refine bndView_ite rfl ?_
  exact (Gremon.onHist_bndView_same _ _ rfl).trans (g.feedSends_bndView _)

end Sys2Proof.Machine
end

section
/-! SUPPORT: a boundary applies the FB registers that are due (17 R563, R565). -/
namespace Sys2Proof.Machine
open Sys2Proof
variable {w : Bool}

/-! ### The FB registers -/

theorem BitVec.sub_and_add_and_lt {n : Nat} (x y m : BitVec n) : x.toNat - (x &&& m).toNat + (y &&& m).toNat < 2 ^ n := by
  have hx : (x &&& m) &&& (x &&& ~~~m) = 0#n := by ext i; simp; grind
  have hy : (x &&& ~~~m) &&& (y &&& m) = 0#n := by ext i; simp; grind
  have hs : x &&& m ||| x &&& ~~~m = x := by ext i; simp; grind
  have h1 := BitVec.toNat_add_of_and_eq_zero hx
  have h2 := BitVec.toNat_add_of_and_eq_zero hy
  rw [BitVec.add_eq_or_of_and_eq_zero _ _ hx, hs] at h1
  have := ((x &&& ~~~m) + (y &&& m)).isLt
  omega

theorem merge_lt {o m v : Nat} (ho : o < 2 ^ 32) (hm : m < 2 ^ 32) (hv : v < 2 ^ 32) : merge o m v < 2 ^ 32 := by
  have h := BitVec.sub_and_add_and_lt (BitVec.ofNat 32 o) (BitVec.ofNat 32 v) (BitVec.ofNat 32 m)
  simp only [BitVec.toNat_and, BitVec.toNat_ofNat, Nat.mod_eq_of_lt ho, Nat.mod_eq_of_lt hm, Nat.mod_eq_of_lt hv] at h
  exact h

/-- Every word of the register map has 32 bits. -/
theorem regDesc_words {p : Part} {k : Nat} {d : RegDesc} (h : regDesc p k = some d) : d.rst < 2 ^ 32 ∧ d.fb < 2 ^ 32 := by
  have hall : (regsOf p).all (fun d => decide (d.rst < 2 ^ 32 ∧ d.fb < 2 ^ 32)) = true := by cases p <;> decide
  exact of_decide_eq_true (List.all_eq_true.mp hall d (List.mem_of_find?_eq_some h))

theorem fbMask_lt (p : Part) (k : Nat) : fbMask p k < 2 ^ 32 := by
  unfold fbMask
  split
  · exact (regDesc_words ‹_›).2
  · decide

theorem rstWord_lt {k : Nat} (h : fbOwn k = true) : rstWord .gremon k < 2 ^ 32 := by
  obtain ⟨hlo, -, -⟩ := fbOwn_range h
  unfold ind at hlo
  have hn : rstByIndex .gremon k = none := by
    unfold rstByIndex ind
    simp only
    rw [if_neg (by omega), if_neg (by omega)]
  unfold rstWord
  rw [hn]
  dsimp only
  split
  · exact (regDesc_words ‹_›).1
  · decide

theorem RegFile.get_lt (r : RegFile) {k : Nat} (h : fbOwn k = true) : r.get .gremon k < 2 ^ 32 := by
  unfold RegFile.get
  split
  · exact BitVec.isLt _
  · exact rstWord_lt h

/-- The write of a shadow: the FB bits come from it, the others stay (R563). -/
theorem RegFile.get_write_own (r : RegFile) {k : Nat} (v : Word) (h : fbOwn k = true) :
    (r.write .gremon k (fbMask .gremon k) v.toNat).get .gremon k = merge (r.get .gremon k) (fbMask .gremon k) v.toNat := by
  unfold RegFile.write
  rw [RegFile.get_set_same, Nat.mod_eq_of_lt (merge_lt (r.get_lt h) (fbMask_lt _ _) v.isLt)]

/-- The due shadows whose set passes its check, or has none. -/
def RegFile.fbGood (r : RegFile) (due : Nat → Bool) : Tbl (Word × Nat) :=
  let now := r.shadow.filter fun e => due e.2.2
  let refused := ((now.map fun e => fbSet e.1).eraseDups).filter fun s => !fbSetOk s (r.after now)
  now.filter fun e => !refused.contains (fbSet e.1)

def RegFile.fbApplied (r : RegFile) (due : Nat → Bool) : RegFile :=
  ({ r with shadow := r.fbGood due } : RegFile).applyShadow .gremon fun _ => true

theorem RegFile.foldl_write_force (l : Tbl (Word × Nat)) : ∀ r : RegFile,
    (l.foldl (fun (r : RegFile) e => r.write .gremon e.1 (fbMask .gremon e.1) e.2.1.toNat) r).force = r.force := by
  induction l with
  | nil => intro r; rfl
  | cons e l ih => intro r; rw [List.foldl_cons, ih, RegFile.write, RegFile.set_force]

theorem RegFile.fbApplied_force (r : RegFile) (due : Nat → Bool) : (r.fbApplied due).force = r.force :=
  RegFile.foldl_write_force _ _

/-- A boundary applies due shadows, and changes beside the registers only what the statement does not read. -/
theorem Gremon.fbApply_bndView (g : Gremon) (due : Nat → Bool) (n : Nat) : (g.fbApply due n).bndView w =
    { g.bndView w with shadow := g.regs.shadow.filter fun e => !due e.2.2, fb := (g.regs.fbApplied due).ownFb } := by
  unfold Gremon.fbApply
  extract_lets now sets refused good was rest r g1 g2 g3 g4
  split
  · rename_i he
    have hnow : g.regs.shadow.filter (fun e => due e.2.2) = [] := List.isEmpty_iff.mp he
    have hrest : g.regs.shadow.filter (fun e => !due e.2.2) = g.regs.shadow :=
      List.filter_eq_self.mpr fun e hm => by simpa using List.filter_eq_nil_iff.mp hnow e hm
    have hfb : (g.regs.fbApplied due).ownFb = g.regs.ownFb := by
      unfold RegFile.fbApplied RegFile.fbGood RegFile.applyShadow
      simp only [hnow]
      rfl
    rw [hrest, hfb]
    rfl
  · have h1 : g1.bndView w = { g.bndView w with shadow := rest, fb := r.ownFb } := by
      have hf : r.force = g.regs.force := g.regs.fbApplied_force due
      simp only [g1, Gremon.bndView, hf]
      rfl
    have h2 : g2.bndView w = g1.bndView w := foldl_bndView _ (fun g e => bndView_ite rfl (g.hwNote_bndView _ _ _ _ _)) _ g1
    have h3 : g3.bndView w = g2.bndView w :=
      foldl_bndView _ (fun g s => bndView_ite (g.raise_bndView _ _) (g.raise_bndView _ _)) _ g2
    have h4 : g4.bndView w = g3.bndView w := g3.sqcEvent_bndView _ _ _ (fbOwn_of_range fun h1 _ => by unfold ind at *; omega)
    rw [Gremon.setReg_bndView _ _ (fbOwn_of_range fun h1 _ => by unfold ind at *; omega), Gremon.setReg_bndView _ _ (fbOwn_of_range fun h1 _ => by unfold ind at *; omega), h4, h3, h2, h1]
    rfl

/-! Tables with one entry a key -/

theorem Tbl.mem_of_find {α : Type} {t : Tbl α} {k : Nat} {v : α} (h : Tbl.find t k = some v) : (k, v) ∈ t := by
  induction t with
  | nil => cases h
  | cons e t ih =>
    obtain ⟨j, u⟩ := e
    unfold Tbl.find at h
    split at h
    · rename_i hj
      rw [← hj, Option.some.inj h]
      exact List.mem_cons_self
    · exact List.mem_cons_of_mem _ (ih h)

theorem Tbl.find_eq_none {α : Type} {t : Tbl α} {k : Nat} (h : k ∉ t.map (·.1)) : Tbl.find t k = none := by
  cases hf : Tbl.find t k with
  | none => rfl
  | some v => exact absurd (List.mem_map_of_mem (Tbl.mem_of_find hf)) h

theorem Tbl.find_of_mem {α : Type} {t : Tbl α} {k : Nat} {v : α} (hn : (t.map (·.1)).Nodup) (h : (k, v) ∈ t) :
    Tbl.find t k = some v := by
  induction t with
  | nil => cases h
  | cons e t ih =>
    obtain ⟨j, u⟩ := e
    obtain ⟨hne, ht⟩ := List.nodup_cons.mp hn
    rcases List.mem_cons.mp h with h | h
    · cases h
      simp [Tbl.find]
    · have hk : j ≠ k := fun e => hne (List.mem_map.mpr ⟨(k, v), h, e.symm⟩)
      rw [Tbl.find, if_neg hk, ih ht h]

theorem Tbl.nodup_filter {α : Type} {t : Tbl α} (p : Nat × α → Bool) (hn : (t.map (·.1)).Nodup) : ((t.filter p).map (·.1)).Nodup :=
  hn.sublist (List.filter_sublist.map _)

theorem Tbl.find_filter_pos {α : Type} {t : Tbl α} {k : Nat} {v : α} (p : Nat × α → Bool) (hn : (t.map (·.1)).Nodup)
    (h : Tbl.find t k = some v) (hp : p (k, v) = true) : Tbl.find (t.filter p) k = some v :=
  Tbl.find_of_mem (Tbl.nodup_filter p hn) (List.mem_filter.mpr ⟨Tbl.mem_of_find h, hp⟩)

theorem Tbl.find_filter_neg {α : Type} {t : Tbl α} {k : Nat} {v : α} (p : Nat × α → Bool) (hn : (t.map (·.1)).Nodup)
    (h : Tbl.find t k = some v) (hp : p (k, v) = false) : Tbl.find (t.filter p) k = none := by
  cases hf : Tbl.find (t.filter p) k with
  | none => rfl
  | some u =>
    obtain ⟨hu, hpu⟩ := List.mem_filter.mp (Tbl.mem_of_find hf)
    rw [Tbl.find_of_mem hn hu, Option.some.injEq] at h
    rw [h, hp] at hpu
    cases hpu

theorem filter_true_eq_self {α : Type} (l : List α) : l.filter (fun _ => true) = l := List.filter_eq_self.mpr fun _ _ => rfl

theorem RegFile.foldl_write_get (l : Tbl (Word × Nat)) {k : Nat} (h : fbOwn k = true) (hn : (l.map (·.1)).Nodup) : ∀ r : RegFile,
    (l.foldl (fun (r : RegFile) e => r.write .gremon e.1 (fbMask .gremon e.1) e.2.1.toNat) r).get .gremon k =
      match Tbl.find l k with
      | some (v, _) => merge (r.get .gremon k) (fbMask .gremon k) v.toNat
      | none => r.get .gremon k := by
  induction l with
  | nil => intro r; rfl
  | cons e l ih =>
    intro r
    obtain ⟨j, v, a⟩ := e
    obtain ⟨hne, hl⟩ := List.nodup_cons.mp hn
    rw [List.foldl_cons, ih hl, Tbl.find]
    by_cases hj : j = k
    · subst hj
      rw [if_pos rfl, Tbl.find_eq_none hne]
      exact r.get_write_own v h
    · rw [if_neg hj]
      dsimp only
      rw [RegFile.write, RegFile.get_set_other _ _ _ (Ne.symm hj)]

/-- A due shadow of a register that no check groups with others applies (R565). -/
theorem RegFile.fbApplied_get (r : RegFile) {due : Nat → Bool} {k : Nat} {v : Word} {a : Nat} (h : fbOwn k = true)
    (hn : (r.shadow.map (·.1)).Nodup) (hf : Tbl.find r.shadow k = some (v, a)) (hd : due a = true) :
    (r.fbApplied due).get .gremon k = merge (r.get .gremon k) (fbMask .gremon k) v.toNat := by
  have hset : fbSet k = 8 := (of_decide_eq_true h).1
  have hnow : (((r.shadow.filter fun e => due e.2.2)).map (·.1)).Nodup := Tbl.nodup_filter _ hn
  have hgood : Tbl.find (r.fbGood due) k = some (v, a) := by
    refine Tbl.find_filter_pos _ hnow (Tbl.find_filter_pos _ hn hf hd) ?_
    simp [hset, fbSetOk]
  have hg : Tbl.find ((r.fbGood due).filter fun _ => true) k = some (v, a) := by rwa [filter_true_eq_self]
  have := RegFile.foldl_write_get ((r.fbGood due).filter fun _ => true) h
    (Tbl.nodup_filter _ (Tbl.nodup_filter _ hnow)) { r with shadow := (r.fbGood due).filter fun _ => !true }
  rw [hg] at this
  exact this

end Sys2Proof.Machine
end

section
/-! SUPPORT: a boundary applies the binding changes that are due (01 R25). -/
namespace Sys2Proof.Machine
open Sys2Proof
variable {w : Bool}

/-! ### Bindings -/

/-- A binding after its change `x` (01 R25, R29). -/
def Binding.take (b : Binding) (x : BindNext) : Binding :=
  let rest := b.next.filter fun y => decide (y ≠ x)
  { b with
    pda := x.pda
    state := if x.state = 1 ∧ (rest.any fun y => decide (y.state = 1 ∧ y.pda ≠ x.pda)) = true then 2 else x.state
    gen := if (b.ever && decide (x.state = 1) && (b.ever && decide (x.state = 1) && decide (x.pda ≠ b.pda) || !decide (b.state = 1 ∨ b.state = 2))) = true
      then b.gen + 1 else b.gen
    ever := b.ever || decide (x.state = 1)
    next := rest }

/-- The binding `y`, as `b` where it is one of the same LDA of the same job. -/
def Binding.put (b y : Binding) : Binding :=
  if y.job = b.job ∧ y.lda = b.lda then { y with pda := b.pda, state := b.state, gen := b.gen, ever := b.ever, next := b.next } else y

/-- The bindings after one change that is due: its job, its LDA, and what it makes of the binding. -/
def bindStep (l : List Binding) (d : Nat × Nat × BindNext) : List Binding :=
  match l.find? fun b => decide (b.job = d.1 ∧ b.lda = d.2.1) with
  | some b => l.map (b.take d.2.2).put
  | none => l

/-- One change reaches the bindings alone, of what the statement reads. -/
theorem Gremon.bindApply_bndView (g : Gremon) (b : Binding) (x : BindNext) (he : (g.bndView w).exp = none) :
    (g.bindApply b x).bndView w = { g.bndView w with binds := g.binds.map (b.take x).put } := by
  unfold Gremon.bindApply
  extract_lets wasBound rebind again gen g1 rest state take g2 ended g3 g4 g5 s
  have h1 : g1.bndView w = g.bndView w := bndView_ite (g.histSwap_bndView _ _ he) rfl
  have hb1 : g1.binds = g.binds := congrArg BndView.binds h1
  have h2 : g2.bndView w = { g.bndView w with binds := g.binds.map (b.take x).put } := by
    rw [← hb1, ← h1]
    rfl
  have h3 : g3.bndView w = g2.bndView w := bndView_ite (by simp) rfl
  have h4 : g4.bndView w = g3.bndView w := bndView_ite (by simp) rfl
  have h5 : g5.bndView w = g4.bndView w := bndView_ite (bndView_ite (g4.raiseJob_bndView _ _ _) rfl) rfl
  rw [← h2, ← h3, ← h4, ← h5]
  rfl

/-- The changes due at `t`, each with its job and LDA (R29). -/
def dueBinds (l : List Binding) (t : Nat) : List (Nat × Nat × BindNext) :=
  l.flatMap fun b => (b.next.filter fun x => decide (x.at' ≤ t)).map fun x => (b.job, b.lda, x)

def bindsAfter (l : List Binding) (t : Nat) : List Binding :=
  (sortBy (fun (d : Nat × Nat × BindNext) => [d.2.2.at']) (dueBinds l t)).foldl bindStep l

theorem Gremon.bindsDue_bndView (g : Gremon) (t : Nat) (he : (g.bndView w).exp = none) :
    (g.bindsDue t).bndView w = { g.bndView w with binds := bindsAfter g.binds t } := by
  unfold Gremon.bindsDue bindsAfter dueBinds
  extract_lets ds
  generalize sortBy _ ds = ds
  suffices ∀ k : Gremon, (k.bndView w).exp = none → (ds.foldl (fun (g : Gremon) d =>
      match g.binds.find? fun b => decide (b.job = d.1 ∧ b.lda = d.2.1) with
      | some b => g.bindApply b d.2.2
      | none => g) k).bndView w = { k.bndView w with binds := ds.foldl bindStep k.binds } from this g he
  induction ds with
  | nil => intro k _; rfl
  | cons d ds ih =>
    intro k hk
    have hs : (match k.binds.find? fun (b : Binding) => decide (b.job = d.1 ∧ b.lda = d.2.1) with
        | some b => k.bindApply b d.2.2
        | none => k).bndView w = { k.bndView w with binds := bindStep k.binds d } := by
      unfold bindStep
      split
      · exact k.bindApply_bndView _ _ hk
      · rfl
    rw [List.foldl_cons, List.foldl_cons, ih _ (by rw [hs]; exact hk)]
    have hb := congrArg BndView.binds hs
    dsimp only [Gremon.bndView] at hb
    rw [hs, hb]

/-! A job's LDA has one binding -/

def bindKeys (l : List Binding) : List (Nat × Nat) := l.map fun b => (b.job, b.lda)

/-- The binding `y` after the change `d`, if it is the one that `d` names. -/
def Binding.due (y : Binding) (d : Nat × Nat × BindNext) : Binding := if (y.job, y.lda) = (d.1, d.2.1) then y.take d.2.2 else y

theorem Binding.due_key (y : Binding) (d) : ((y.due d).job, (y.due d).lda) = (y.job, y.lda) := by
  unfold Binding.due
  split <;> rfl

theorem bindKeys_due (l : List Binding) (d) : bindKeys (l.map (·.due d)) = bindKeys l := by
  simp [bindKeys, Binding.due_key]

theorem bindKeys_inj {l : List Binding} (hn : (bindKeys l).Nodup) {x y : Binding} (hx : x ∈ l) (hy : y ∈ l)
    (h : (x.job, x.lda) = (y.job, y.lda)) : x = y := by
  induction l with
  | nil => cases hx
  | cons b l ih =>
    obtain ⟨hne, hl⟩ := List.nodup_cons.mp hn
    rcases List.mem_cons.mp hx with rfl | hxl
    · rcases List.mem_cons.mp hy with rfl | hyl
      · rfl
      · exact (hne (List.mem_map.mpr ⟨y, hyl, h.symm⟩)).elim
    · rcases List.mem_cons.mp hy with rfl | hyl
      · exact (hne (List.mem_map.mpr ⟨x, hxl, h⟩)).elim
      · exact ih hl hxl hyl

theorem bindStep_eq {l : List Binding} (hn : (bindKeys l).Nodup) (d) : bindStep l d = l.map (·.due d) := by
  unfold bindStep
  split
  · rename_i b hb
    have hk := of_decide_eq_true (List.find?_some (p := fun b : Binding => decide (b.job = d.1 ∧ b.lda = d.2.1)) hb)
    refine List.map_congr_left fun y hy => ?_
    unfold Binding.due Binding.put
    by_cases hy' : (y.job, y.lda) = (d.1, d.2.1)
    · obtain rfl : y = b := bindKeys_inj hn hy (List.mem_of_find?_eq_some hb) (by rw [hy', hk.1, hk.2])
      rw [if_pos hy', if_pos ⟨rfl, rfl⟩]
      rfl
    · rw [if_neg hy', if_neg fun h => hy' (by rw [h.1, h.2]; exact Prod.ext hk.1 hk.2)]
  · rename_i hb
    have hk := List.find?_eq_none.mp hb
    refine (List.map_id _).symm.trans (List.map_congr_left fun y hy => ?_)
    have := hk y hy
    simp_all [Binding.due]

theorem foldl_bindStep (ds : List (Nat × Nat × BindNext)) : ∀ l : List Binding, (bindKeys l).Nodup →
    ds.foldl bindStep l = l.map fun b => ds.foldl Binding.due b := by
  induction ds with
  | nil => intro l _; simp
  | cons d ds ih =>
    intro l hn
    rw [List.foldl_cons, bindStep_eq hn, ih _ (by rwa [bindKeys_due]), List.map_map]
    rfl

theorem foldl_due (ds : List (Nat × Nat × BindNext)) : ∀ b : Binding,
    ds.foldl Binding.due b = ((ds.filter fun d => decide ((b.job, b.lda) = (d.1, d.2.1))).map (·.2.2)).foldl Binding.take b := by
  induction ds with
  | nil => intro b; rfl
  | cons d ds ih =>
    intro b
    rw [List.foldl_cons, ih, Binding.due_key]
    by_cases h : (b.job, b.lda) = (d.1, d.2.1)
    · rw [Binding.due, if_pos h, List.filter_cons_of_pos (by simpa using h)]
      rfl
    · rw [Binding.due, if_neg h, List.filter_cons_of_neg (by simpa using h)]

theorem insertBy_perm {α : Type} (key : α → List Nat) (x : α) (l : List α) : (insertBy key x l).Perm (x :: l) := by
  induction l with
  | nil => exact .refl _
  | cons y l ih =>
    unfold insertBy
    split
    · exact .refl _
    · exact (ih.cons y).trans (.swap x y l)

theorem sortBy_perm {α : Type} (key : α → List Nat) (l : List α) : (sortBy key l).Perm l := by
  suffices ∀ a : List α, (l.foldl (fun a x => insertBy key x a) a).Perm (l ++ a) by simpa [sortBy] using this []
  induction l with
  | nil => intro a; exact .refl _
  | cons x l ih => intro a; exact (ih _).trans ((List.Perm.append_left l (insertBy_perm key x a)).trans List.perm_middle)

/-- Of the changes due, those that name a binding are its own. -/
theorem dueBinds_of {l : List Binding} {t : Nat} {b : Binding} (hn : (bindKeys l).Nodup) (hb : b ∈ l) :
    ((dueBinds l t).filter fun d => decide ((b.job, b.lda) = (d.1, d.2.1))).map (·.2.2) = b.next.filter fun x => decide (x.at' ≤ t) := by
  induction l with
  | nil => cases hb
  | cons a l ih =>
    obtain ⟨hne, hl⟩ := List.nodup_cons.mp hn
    have hself : ∀ c : Binding, (c.job, c.lda) ≠ (b.job, b.lda) →
        (((c.next.filter fun x => decide (x.at' ≤ t)).map fun x => (c.job, c.lda, x)).filter
          fun d => decide ((b.job, b.lda) = (d.1, d.2.1))) = [] := fun c hc => by
      refine List.filter_eq_nil_iff.mpr fun d hd => ?_
      obtain ⟨x, -, rfl⟩ := List.mem_map.mp hd
      simpa using fun h1 h2 => hc (by rw [h1, h2])
    unfold dueBinds at ih ⊢
    rw [List.flatMap_cons, List.filter_append, List.map_append]
    rcases List.mem_cons.mp hb with rfl | hb
    · have hrest : ((l.flatMap fun c => (c.next.filter fun x => decide (x.at' ≤ t)).map fun x => (c.job, c.lda, x)).filter
          fun d => decide ((b.job, b.lda) = (d.1, d.2.1))) = [] := by
        rw [List.filter_flatMap, List.flatMap_eq_nil_iff]
        exact fun c hc => hself c fun e => hne (List.mem_map.mpr ⟨c, hc, e⟩)
      rw [hrest, List.filter_map, List.map_map]
      simp [Function.comp_def]
    · rw [hself a fun e => hne (List.mem_map.mpr ⟨b, hb, e.symm⟩)]
      exact ih hl hb

/-- Each binding takes its own changes that are due. -/
theorem mem_bindsAfter {l : List Binding} (t : Nat) {b : Binding} (hn : (bindKeys l).Nodup) (hb : b ∈ l) :
    ∃ xs, List.foldl Binding.take b xs ∈ bindsAfter l t ∧ xs.Perm (b.next.filter fun x => decide (x.at' ≤ t)) := by
  refine ⟨_, ?_, (((sortBy_perm (fun d => [d.2.2.at']) (dueBinds l t)).filter _).map _).trans (.of_eq (dueBinds_of hn hb))⟩
  rw [bindsAfter, foldl_bindStep _ _ hn, ← foldl_due]
  exact List.mem_map_of_mem hb

theorem Binding.foldl_take_key (xs : List BindNext) : ∀ b : Binding,
    (xs.foldl Binding.take b).job = b.job ∧ (xs.foldl Binding.take b).lda = b.lda := by
  induction xs with
  | nil => intro b; exact ⟨rfl, rfl⟩
  | cons x xs ih => intro b; exact ih (b.take x)

theorem Binding.foldl_take_next (xs : List BindNext) : ∀ b : Binding,
    (xs.foldl Binding.take b).next = b.next.filter fun y => decide (y ∉ xs) := by
  induction xs with
  | nil => intro b; exact (List.filter_eq_self.mpr fun _ _ => decide_eq_true List.not_mem_nil).symm
  | cons x xs ih =>
    intro b
    rw [List.foldl_cons, ih, Binding.take, List.filter_filter]
    refine List.filter_congr fun y _ => ?_
    simp [Bool.and_comm]

/-- The one change that waits is taken whole: GEN advances where an LDA once bound is bound anew (R25). -/
theorem Binding.take_only {b : Binding} {x : BindNext} (h : b.next = [x]) : (b.take x).pda = x.pda ∧ (b.take x).state = x.state ∧
    (b.take x).ever = (b.ever || decide (x.state = 1)) ∧
    (b.take x).gen = (if b.ever = true ∧ x.state = 1 ∧ (x.pda ≠ b.pda ∨ (b.state ≠ 1 ∧ b.state ≠ 2)) then b.gen + 1 else b.gen) := by
  refine ⟨rfl, ?_, rfl, ?_⟩
  · simp [Binding.take, h]
  · unfold Binding.take
    dsimp only
    congr 1
    cases b.ever <;> by_cases hx : x.state = 1 <;> simp [hx]

end Sys2Proof.Machine
end

section
/-! SUPPORT: packs, the power state and the whole boundary (15 R498, 18 R603). -/
namespace Sys2Proof.Machine
open Sys2Proof
variable {w : Bool}

/-! ### Packs -/

theorem Tbl.erase_eq_filter {α : Type} (t : Tbl α) (k : Nat) : Tbl.erase t k = t.filter fun e => decide (e.1 ≠ k) := by
  induction t with
  | nil => rfl
  | cons e t ih =>
    obtain ⟨j, v⟩ := e
    by_cases h : j = k <;> simp [Tbl.erase, h, ih]

theorem Tbl.foldl_erase {α : Type} (l : Tbl α) : ∀ t : Tbl α,
    l.foldl (fun t e => Tbl.erase t e.1) t = t.filter fun e => decide (e.1 ∉ l.map (·.1)) := by
  induction l with
  | nil => intro t; exact (List.filter_eq_self.mpr fun _ _ => decide_eq_true List.not_mem_nil).symm
  | cons e l ih =>
    intro t
    rw [List.foldl_cons, ih, Tbl.erase_eq_filter, List.filter_filter]
    refine List.filter_congr fun x _ => ?_
    rw [List.map_cons]
    by_cases hx : x.1 = e.1 <;> simp [hx]

theorem Tbl.foldl_erase_self {α : Type} (t : Tbl α) : t.foldl (fun u e => Tbl.erase u e.1) t = [] := by
  rw [Tbl.foldl_erase, List.filter_eq_nil_iff]
  exact fun e he => by simpa using ⟨e.2, he⟩

theorem Tbl.find_foldl_put {α : Type} (l : Tbl α) (k : Nat) (hn : (l.map (·.1)).Nodup) : ∀ t : Tbl α,
    Tbl.find (l.foldl (fun t e => Tbl.put t e.1 e.2) t) k = (Tbl.find l k).or (Tbl.find t k) := by
  induction l with
  | nil => intro t; rfl
  | cons e l ih =>
    intro t
    obtain ⟨j, v⟩ := e
    obtain ⟨hne, hl⟩ := List.nodup_cons.mp hn
    rw [List.foldl_cons, ih hl, Tbl.find]
    by_cases hj : j = k
    · subst hj
      rw [if_pos rfl, Tbl.find_eq_none hne]
      exact Tbl.find_put_same t j v
    · rw [if_neg hj]
      dsimp only
      rw [Tbl.find_put_other t v (Ne.symm hj)]

/-- Every staged pack is put with the installed ones (R498). -/
theorem Gremon.packsApply_bndView (g : Gremon) : g.packsApply.bndView w =
    { g.bndView w with staged := [], packs := g.svc.scr.staged.foldl (fun t e => Tbl.put t e.1 e.2) g.svc.scr.packs } := by
  rw [← Tbl.foldl_erase_self g.svc.scr.staged]
  unfold Gremon.packsApply
  suffices ∀ (l : Tbl (List Byte)) (k : Gremon) (f : Gremon → Nat × List Byte → Gremon),
      (∀ k e, (f k e).bndView w =
        { k.bndView w with staged := Tbl.erase k.svc.scr.staged e.1, packs := Tbl.put k.svc.scr.packs e.1 e.2 }) →
      (l.foldl f k).bndView w = { k.bndView w with
        staged := l.foldl (fun t e => Tbl.erase t e.1) k.svc.scr.staged
        packs := l.foldl (fun t e => Tbl.put t e.1 e.2) k.svc.scr.packs } by
    refine this _ g _ fun k e => ?_
    refine (foldl_bndView _ (fun k x => ?_) _ _).trans rfl
    refine (bndView_ite rfl (Gremon.scrArm_bndView _ _)).trans ?_
    exact foldl_bndView _ (fun k c => bndView_ite rfl (k.classOut_bndView _ _)) _ _
  intro l k f hf
  induction l generalizing k with
  | nil => rfl
  | cons e l ih =>
    have hs := congrArg BndView.staged (hf k e)
    have hp := congrArg BndView.packs (hf k e)
    dsimp only [Gremon.bndView] at hs hp
    rw [List.foldl_cons, ih, hf, hs, hp]
    rfl

/-! ### The power state -/

/-- A pending DROWSE or HOLD changes the power state alone. -/
theorem Gremon.sleepDue_bndView (g : Gremon) (t : Nat) : (g.sleepDue t).bndView w =
    { g.bndView w with power := ((g.sleepDue t).bndView w).power } := by
  unfold Gremon.sleepDue
  split
  · split
    · rfl
    · split
      · rfl
      · rw [Gremon.kitsHalt_bndView]
        rfl
  · rfl

theorem Gremon.sleepDue_early (g : Gremon) {t s a : Nat} (hw : g.sys.pwr.want = some (s, a)) (h : t < a + 10000) : g.sleepDue t = g := by
  unfold Gremon.sleepDue
  rw [hw]
  exact if_pos (.inl h)

/-- It is entered at the first boundary 10 µs after the write (R603), HOLD only with no history job under way. -/
theorem Gremon.sleepDue_enters (g : Gremon) {t s a : Nat} (hw : g.sys.pwr.want = some (s, a)) (h : a + 10000 ≤ t)
    (he : s = 3 → g.svc.hist.exp = none) (hb : g.sys.pwr.brace = false) (hk : g.sys.pwr.waking = false) :
    ((g.sleepDue t).bndView w).power = (s, none, false, false) := by
  unfold Gremon.sleepDue
  rw [hw]
  dsimp only
  rw [if_neg (by
    rintro (h' | ⟨h3, he'⟩ | h' | h')
    · omega
    · rw [he h3] at he'; cases he'
    · rw [hb] at h'; cases h'
    · rw [hk] at h'; cases h')]
  split
  · rename_i hs
    simp [Gremon.bndView, hs, hb, hk]
  · rw [Gremon.kitsHalt_bndView]
    simp [Gremon.bndView, hb, hk]

/-! ### The boundary -/

theorem Gremon.frameChange_bndView (g : Gremon) (f n t : Nat) (he : (g.bndView w).exp = none) :
    (g.frameChange f n t).bndView w = { g.bndView w with frame := (f, n, none) } := by
  unfold Gremon.frameChange
  extract_lets g1 g2 g3 g4 k g5 next g6 g7
  have h1 : g1.bndView w = g.bndView w := (Gremon.redRenumber_bndView _ t).trans (g.histSealAll_bndView he)
  have h2 : g2.bndView w = g1.bndView w := by simp only [g2, Gremon.feedSends_bndView]
  have h3 : g3.bndView w = g2.bndView w := g2.hwNote_bndView _ _ _ _ _
  have h6 : g6.bndView w = { g3.bndView w with frame := (f, n, none) } := rfl
  have h7 : g7.bndView w = g6.bndView w := by
    refine foldl_bndView _ (fun g e => ?_) _ g6
    exact (Gremon.phasesFrom_bndView _ _ _).trans (Gremon.setKit_bndView _ _ _)
  rw [Gremon.logAdd_bndView, Gremon.onLan_bndView, h7, h6, h3, h2, h1]

/-- The frame length and the scoring multiple from the boundary at `t` (R42). -/
def frameAfter (x : Nat × Nat × Option (Nat × Nat × Nat)) (t : Nat) : Nat × Nat × Option (Nat × Nat × Nat) :=
  match x.2.2 with
  | some (f, n, tick) => if tick ≤ t then (f, n, none) else x
  | none => (x.1, x.2.1, none)

/-- A change of the frame length whose tick has come. -/
def Gremon.frameDue (g : Gremon) (t : Nat) : Gremon :=
  match g.frameNext with
  | some (f, n, tick) => if tick ≤ t then g.frameChange f n t else g
  | none => g

theorem Gremon.frameDue_bndView (g : Gremon) (t : Nat) (he : (g.bndView w).exp = none) :
    (g.frameDue t).bndView w = { g.bndView w with frame := frameAfter (g.bndView w).frame t } := by
  unfold Gremon.frameDue frameAfter
  split
  · rename_i f n tick hn
    simp only [Gremon.bndView, hn]
    split
    · exact g.frameChange_bndView f n t he
    · simp [hn]
  · rename_i hn
    simp [Gremon.bndView, hn]

/-- The boundary's changes to the registers: which faults are in force, and the shadows that are due. -/
def Gremon.regsDue (g : Gremon) (t : Nat) : Gremon :=
  ({ g with regs := { g.regs with force := g.regs.bad } } : Gremon).fbApply (fun a => decide (a + 1000 < t)) (t / g.frameNs)

theorem Gremon.regsDue_bndView (g : Gremon) (t : Nat) : (g.regsDue t).bndView w = { g.bndView w with
    force := g.regs.bad
    shadow := g.regs.shadow.filter fun e => !decide (e.2.2 + 1000 < t)
    fb := (RegFile.fbApplied { g.regs with force := g.regs.bad } fun a => decide (a + 1000 < t)).ownFb } := by
  unfold Gremon.regsDue
  rw [Gremon.fbApply_bndView]
  rfl

/-- What takes effect at the boundary at `t` before a power state is entered. -/
def Gremon.beforeSleep (g : Gremon) (t : Nat) : Gremon :=
  ((List.range 6).foldl (fun (g : Gremon) p => g.laneSwitch p t)
    ((((g.regsDue t).frameDue t).bindsDue t).packsApply.planeSwitches)).coreMoves.kitHalts

theorem Gremon.boundaryAt_bndView (g : Gremon) (t : Nat) : (g.boundaryAt t).bndView w = ((g.beforeSleep t).sleepDue t).bndView w :=
  (Gremon.drowseTick_bndView _ _).trans ((Gremon.redEnded_bndView _).trans (bndView_ite (Gremon.kitsWake_bndView _ _) rfl))

theorem Gremon.beforeSleep_bndView (g : Gremon) (t : Nat) (he : (g.bndView w).exp = none) : (g.beforeSleep t).bndView w =
    { g.bndView w with
      frame := frameAfter (g.frameUs, g.frameN, g.frameNext) t
      force := g.regs.bad
      shadow := g.regs.shadow.filter fun e => !decide (e.2.2 + 1000 < t)
      fb := (RegFile.fbApplied { g.regs with force := g.regs.bad } fun a => decide (a + 1000 < t)).ownFb
      binds := bindsAfter g.binds t
      staged := []
      packs := g.svc.scr.staged.foldl (fun t e => Tbl.put t e.1 e.2) g.svc.scr.packs } := by
  have hr := g.regsDue_bndView (w := w) t
  have hf := (g.regsDue t).frameDue_bndView (w := w) t (by rw [hr]; exact he)
  have hb := ((g.regsDue t).frameDue t).bindsDue_bndView (w := w) t (by rw [hf, hr]; exact he)
  have hp := (((g.regsDue t).frameDue t).bindsDue t).packsApply_bndView (w := w)
  rw [hr] at hf
  have h1 := congrArg BndView.binds hf
  have h2 := congrArg BndView.staged (hb.trans (by rw [hf]))
  have h3 := congrArg BndView.packs (hb.trans (by rw [hf]))
  dsimp only [Gremon.bndView] at h1 h2 h3
  rw [h2, h3, hb, hf, h1] at hp
  rw [Gremon.beforeSleep, Gremon.kitHalts_bndView, Gremon.coreMoves_bndView, foldl_bndView _ (fun g p => g.laneSwitch_bndView p t),
    Gremon.planeSwitches_bndView, hp]
  rfl

end Sys2Proof.Machine
end

section
/-! SUPPORT: the clauses of the statement about frame boundaries. -/
namespace Sys2Proof.Machine
open Sys2Proof

/-- A command to a Gremon whose rails are on. -/
theorem onG_next {s : State} (f : Gremon → Gremon) (hr : s.g.sys.pwr.rails = true) : onG s f = .next (s.withG (f s.g)) := by
  simp [onG, onPower, Gremon.powered, hr, State.withG]

theorem frameBoundary_next {s : State} (clr : List Nat) (cut : BitVec 16) (hr : s.g.sys.pwr.rails = true) :
    exec (.frameBoundary .gremon clr cut) s = .next (s.withG s.g.frameBoundary) := onG_next Gremon.frameBoundary hr

theorem scoringBoundary_next {s : State} (hr : s.g.sys.pwr.rails = true) :
    exec (.scoringBoundary .gremon) s = .next (s.withG s.g.scoringBoundary) := onG_next Gremon.scoringBoundary hr

/-- The PT of the next frame boundary (R39). -/
def Gremon.boundaryPt (g : Gremon) : Nat := (g.now / g.frameNs + 1) * g.frameNs

/-- Gremon at the next frame boundary, before a power state is entered. -/
def Gremon.atBoundary (g : Gremon) : Gremon := (g.moveTo g.boundaryPt).beforeSleep g.boundaryPt

theorem Gremon.frameBoundary_of_not {g : Gremon} (h : ¬(g.clock.own ≠ .unset ∧ g.frameNs ≠ 0 ∧ g.sys.pwr.ready = true)) :
    g.frameBoundary = g := by
  unfold Gremon.frameBoundary
  refine if_pos (Decidable.byContradiction fun hc => h ?_)
  simpa only [not_or, Bool.not_eq_false] using hc

theorem Gremon.frameBoundary_bndView {w : Bool} {g : Gremon} (h : g.clock.own ≠ .unset ∧ g.frameNs ≠ 0 ∧ g.sys.pwr.ready = true) :
    g.frameBoundary.bndView w = (g.atBoundary.sleepDue g.boundaryPt).bndView w := by
  obtain ⟨hc, hf, hr⟩ := h
  unfold Gremon.frameBoundary
  rw [if_neg (by simp [hc, hf, hr])]
  exact Gremon.boundaryAt_bndView _ _

theorem Gremon.atBoundary_bndView {w : Bool} (g : Gremon) (he : (g.bndView w).exp = none) : g.atBoundary.bndView w =
    { g.bndView w with
      frame := frameAfter (g.frameUs, g.frameN, g.frameNext) g.boundaryPt
      force := g.regs.bad
      shadow := g.regs.shadow.filter fun e => !decide (e.2.2 + 1000 < g.boundaryPt)
      fb := (RegFile.fbApplied { g.regs with force := g.regs.bad } fun a => decide (a + 1000 < g.boundaryPt)).ownFb
      binds := bindsAfter g.binds g.boundaryPt
      staged := []
      packs := g.svc.scr.staged.foldl (fun t e => Tbl.put t e.1 e.2) g.svc.scr.packs } :=
  (g.moveTo g.boundaryPt).beforeSleep_bndView g.boundaryPt he

/-- All but the power state is as it is before a power state is entered. -/
theorem Gremon.frameBoundary_bndView_rest {g : Gremon} (h : g.clock.own ≠ .unset ∧ g.frameNs ≠ 0 ∧ g.sys.pwr.ready = true) :
    g.frameBoundary.bndView false = { g.atBoundary.bndView false with power := (g.frameBoundary.bndView false).power } := by
  rw [Gremon.frameBoundary_bndView h, Gremon.sleepDue_bndView]

theorem Gremon.bndView_exp (g : Gremon) : (g.bndView true).exp = g.svc.hist.exp := rfl

section Falls
variable {g : Gremon} (h : g.clock.own ≠ .unset ∧ g.frameNs ≠ 0 ∧ g.sys.pwr.ready = true)
include h

theorem Gremon.frameBoundary_frame : (g.frameBoundary.frameUs, g.frameBoundary.frameN, g.frameBoundary.frameNext) =
    frameAfter (g.frameUs, g.frameN, g.frameNext) g.boundaryPt := by
  have hv := congrArg BndView.frame (Gremon.frameBoundary_bndView_rest h)
  rw [g.atBoundary_bndView rfl] at hv
  exact hv

theorem Gremon.frameBoundary_force : g.frameBoundary.regs.force = g.regs.bad := by
  have hv := congrArg BndView.force (Gremon.frameBoundary_bndView_rest h)
  rw [g.atBoundary_bndView rfl] at hv
  exact hv

theorem Gremon.frameBoundary_packs (hn : (g.svc.scr.staged.map (·.1)).Nodup) : g.frameBoundary.svc.scr.staged = [] ∧
    ∀ k, Tbl.find g.frameBoundary.svc.scr.packs k = match Tbl.find g.svc.scr.staged k with
      | some p => some p
      | none => Tbl.find g.svc.scr.packs k := by
  have hs := congrArg BndView.staged (Gremon.frameBoundary_bndView_rest h)
  have hp := congrArg BndView.packs (Gremon.frameBoundary_bndView_rest h)
  rw [g.atBoundary_bndView rfl] at hs hp
  dsimp only [Gremon.bndView] at hs hp
  refine ⟨hs, fun k => ?_⟩
  rw [hp, Tbl.find_foldl_put _ k hn]
  cases Tbl.find g.svc.scr.staged k <;> rfl

theorem Gremon.frameBoundary_bind (hn : (bindKeys g.binds).Nodup) {b : Binding} (hb : b ∈ g.binds) :
    ∃ y ∈ g.frameBoundary.binds, y.job = b.job ∧ y.lda = b.lda ∧ y.next = b.next.filter (fun x => decide (g.boundaryPt < x.at')) ∧
      ((∀ x ∈ b.next, g.boundaryPt < x.at') → y = b) ∧
      ∀ x, b.next = [x] → x.at' ≤ g.boundaryPt → y.pda = x.pda ∧ y.state = x.state ∧ y.ever = (b.ever || decide (x.state = 1)) ∧
        y.gen = (if b.ever = true ∧ x.state = 1 ∧ (x.pda ≠ b.pda ∨ (b.state ≠ 1 ∧ b.state ≠ 2)) then b.gen + 1 else b.gen) := by
  have hv := congrArg BndView.binds (Gremon.frameBoundary_bndView_rest h)
  rw [g.atBoundary_bndView rfl] at hv
  dsimp only [Gremon.bndView] at hv
  obtain ⟨xs, hy, hp⟩ := mem_bindsAfter g.boundaryPt hn hb
  obtain ⟨hj, hl⟩ := Binding.foldl_take_key xs b
  refine ⟨_, hv ▸ hy, hj, hl, ?_, fun hlate => ?_, fun x hx hd => ?_⟩
  · rw [Binding.foldl_take_next]
    refine List.filter_congr fun x hx => ?_
    simp [hp.mem_iff, hx]
  · have hnone : b.next.filter (fun x => decide (x.at' ≤ g.boundaryPt)) = [] :=
      List.filter_eq_nil_iff.mpr fun x hx => by simpa using hlate x hx
    rw [hnone, List.perm_nil] at hp
    rw [hp]
    rfl
  · have hone : b.next.filter (fun x => decide (x.at' ≤ g.boundaryPt)) = [x] := by simp [hx, hd]
    rw [hone, List.perm_singleton] at hp
    rw [hp]
    exact Binding.take_only hx

theorem Gremon.frameBoundary_fb (hn : (g.regs.shadow.map (·.1)).Nodup) {k : Nat} {v : Word} {a : Nat}
    (hf : Tbl.find g.regs.shadow k = some (v, a)) (ho : fbOwn k = true) :
    if a + 1000 < g.boundaryPt then
      g.frameBoundary.regs.get .gremon k = merge (g.regs.get .gremon k) (fbMask .gremon k) v.toNat ∧ Tbl.find g.frameBoundary.regs.shadow k = none
    else Tbl.find g.frameBoundary.regs.shadow k = some (v, a) := by
  have hs := congrArg BndView.shadow (Gremon.frameBoundary_bndView_rest h)
  have hr := congrArg BndView.fb (Gremon.frameBoundary_bndView_rest h)
  rw [g.atBoundary_bndView rfl] at hs hr
  dsimp only [Gremon.bndView] at hs hr
  split
  · rename_i hd
    refine ⟨?_, ?_⟩
    · have hg := RegFile.fbApplied_get { g.regs with force := g.regs.bad } (due := fun a => decide (a + 1000 < g.boundaryPt)) ho hn hf
        (decide_eq_true hd)
      have hk := congrFun hr k
      simp only [RegFile.ownFb, ho, if_true] at hk
      rw [hk, hg]
      rfl
    · rw [hs]
      exact Tbl.find_filter_neg _ hn hf (by simpa using hd)
  · rename_i hd
    rw [hs]
    exact Tbl.find_filter_pos _ hn hf (by simpa using hd)

theorem Gremon.frameBoundary_power {st a : Nat} (hw : g.sys.pwr.want = some (st, a)) (hb : g.sys.pwr.brace = false)
    (hk : g.sys.pwr.waking = false) :
    (g.boundaryPt < a + 10000 → g.frameBoundary.sys.pwr.want = some (st, a) ∧ g.frameBoundary.sys.pwr.pstate = g.sys.pwr.pstate) ∧
    (a + 10000 ≤ g.boundaryPt → (st = 3 → g.svc.hist.exp = none) →
      g.frameBoundary.sys.pwr.want = none ∧ g.frameBoundary.sys.pwr.pstate = st) := by
  have hp : (g.atBoundary.bndView false).power = (g.sys.pwr.pstate, some (st, a), false, false) := by
    rw [g.atBoundary_bndView rfl]
    simp [Gremon.bndView, hw, hb, hk]
  simp only [Gremon.bndView, Prod.mk.injEq] at hp
  obtain ⟨hps, hwant, hbrace, hwake⟩ := hp
  have hv := congrArg BndView.power (Gremon.frameBoundary_bndView (w := false) h)
  refine ⟨fun hd => ?_, fun hd he => ?_⟩
  · rw [g.atBoundary.sleepDue_early hwant hd] at hv
    simp only [Gremon.bndView, Prod.mk.injEq] at hv
    exact ⟨hv.2.1.trans hwant, hv.1.trans hps⟩
  · have he' : st = 3 → g.atBoundary.svc.hist.exp = none := fun h3 => by
      have hx : (g.bndView true).exp = none := he h3
      rw [← Gremon.bndView_exp, g.atBoundary_bndView hx]
      exact hx
    rw [g.atBoundary.sleepDue_enters hwant hd he' hbrace hwake] at hv
    simp only [Gremon.bndView, Prod.mk.injEq] at hv
    exact ⟨hv.2.1, hv.1⟩

end Falls

end Sys2Proof.Machine

namespace Sys2Proof
open Sys2Proof.Machine

/-- Settles O53: all that a boundary does passes the view `Gremon.bndView` unchanged, but for five changes that depend on the view
alone: the frame length (`frameAfter`), the FB registers (`RegFile.fbApplied`), the bindings (`bindsAfter`), the packs and the power
state (`Gremon.sleepDue`). -/
theorem gremonBoundaries : Obligations.GremonBoundaries := by
  intro s clr cut hr g t i falls
  refine ⟨fun hf => ⟨_, frameBoundary_next clr cut hr, Gremon.frameBoundary_of_not hf⟩,
    fun hf => ⟨_, frameBoundary_next clr cut hr, Gremon.frameBoundary_frame hf, Gremon.frameBoundary_force hf, Gremon.frameBoundary_packs hf,
      fun hn b hb => Gremon.frameBoundary_bind hf hn hb,
      fun hn k w a hk h8 hm => Gremon.frameBoundary_fb hf hn hk (decide_eq_true ⟨h8, hm⟩),
      fun st a hw hb hk => Gremon.frameBoundary_power hf hw hb hk⟩,
    fun hs => ⟨_, scoringBoundary_next hr, if_neg fun ⟨h1, h2, h3⟩ => hs.elim h1 fun h => h.elim h2 fun h => h h3⟩, fun h1 h2 h3 => ?_⟩
  rw [scoringBoundary_next hr, frameBoundary_next clr cut hr, Gremon.scoringBoundary, if_pos ⟨h1, h2, h3⟩]

end Sys2Proof
end

section
/-! SUPPORT: what a core that halts on a residue mismatch leaves of its streams (15 R519, 07 R269). -/
namespace Sys2Proof.Machine
open Sys2Proof

/-! ### A core becomes SUSPECT -/

theorem Gremon.count_cores (g : Gremon) (chan n : Nat) : (g.count chan n).cores = g.cores := by
  unfold Gremon.count
  split <;> rfl

theorem Gremon.raise_cores (g : Gremon) (ev : Ev) (data : List Byte) : (g.raise ev data).cores = g.cores := by
  unfold Gremon.raise Gremon.file
  extract_lets r e
  split
  · rfl
  · exact Gremon.count_cores _ 307 1

theorem Gremon.bbCommit_cores (g : Gremon) (rs : List BbNew) : (g.bbCommit rs).cores = g.cores := by
  unfold Gremon.bbCommit
  split
  · rfl
  · exact g.onBb_cores _

theorem Gremon.setCoreNote_cores (g : Gremon) (ct p : Nat) (h : CoreHealth) : (g.setCoreNote ct p h).cores = g.cores := rfl

theorem Gremon.retireCore_cores (g : Gremon) (ct p : Nat) : (g.retireCore ct p).cores = g.cores := by
  simp only [Gremon.retireCore, raise_cores, bbCommit_cores, setCoreNote_cores, setFld_cores, setReg_cores]

theorem Gremon.testCore_cores (g : Gremon) (ct p : Nat) : (g.testCore ct p).cores = g.cores := by
  unfold Gremon.testCore
  extract_lets h
  split
  · exact g.retireCore_cores ct p
  · rw [setCoreNote_cores, setFld_cores]

theorem Gremon.suspectCore_cores (g : Gremon) (ct p : Nat) : (g.suspectCore ct p).cores = g.cores := by
  unfold Gremon.suspectCore
  extract_lets h
  split
  · rfl
  · split
    · rw [setCoreNote_cores, setFld_cores]
    · rw [testCore_cores, setFld_cores]

/-- The errors of R519 are counted to the physical core: no logical core changes with them. -/
theorem Gremon.coreResidue_cores (g : Gremon) (ct p : Nat) : (g.coreResidue ct p).cores = g.cores := by
  unfold Gremon.coreResidue
  rw [suspectCore_cores, setCoreNote_cores, setFld_cores]

/-! ### A core halts -/

/-- With its vector queue gone, no stream of a core that halts waits for the queue any longer. -/
def BCore.freed (c : BCore) : List Stream := c.streams.map fun t => { t with after := 0 }

theorem Gremon.core_of_cores {g h : Gremon} (e : h.cores = g.cores) (n : Nat) : h.core n = g.core n :=
  congrArg (Tbl.get BCore.idle · n) e

theorem Gremon.haltCore_streams (g : Gremon) (n : Nat) (c : BCore) (pc : BitVec 22) (r : Nat) :
    ((g.haltCore n c pc r).core n).streams = c.freed :=
  congrArg BCore.streams (Gremon.core_setCore _ n _)

theorem Gremon.residueMismatch_core {g : Gremon} {n p : Nat} (hr : (g.core n).run = true)
    (hs : g.servedBy (n / 32) (n % 32) = some p) :
    g.residueMismatch (.core n) =
      ((g.raise .residueErr (leBytes 1 (n / 32) ++ leBytes 1 p)).haltCore n (g.core n) (g.core n).pc 4).coreResidue (n / 32) p := by
  delta Gremon.residueMismatch
  dsimp only
  rw [hs]
  exact if_neg (by simp [hr])

theorem Gremon.residueMismatch_core_streams {g : Gremon} {n p : Nat} (hr : (g.core n).run = true)
    (hs : g.servedBy (n / 32) (n % 32) = some p) : ((g.residueMismatch (.core n)).core n).streams = (g.core n).freed := by
  rw [residueMismatch_core hr hs, core_of_cores (coreResidue_cores ..), haltCore_streams]

/-! ### The command -/

/-- What a statement says of the cores that a command to Gremon leaves is so of its own effect: the end of the step leaves them. -/
theorem DoneG.cores_eq {i : Instr} {s : State} {P : Gremon → Prop} {g : Gremon} (hx : exec i s = .next (s.withG g)) (h : DoneG i s P) :
    ∃ x, P x ∧ x.cores = g.cores := by
  obtain ⟨x, hn, hp⟩ := h
  have hs : x.settle = g.settle := by
    rw [hx] at hn
    injection hn with hn
    exact (congrArg State.g hn).symm
  exact ⟨x, hp, by rw [← x.settle_cores, hs, g.settle_cores]⟩

theorem residueMismatch_core_next {s : State} {n : Nat} (ns : Nat) (hr : s.g.sys.pwr.rails = true) (hn : n < 512) :
    exec (.residueMismatch (.core n) ns) s = .next (s.withG ((s.g.moveTo ns).residueMismatch (.core n))) := by
  have h := onG_next (fun g => if residueNamed (.core n) then (g.moveTo ns).residueMismatch (.core n) else g.moveTo ns) hr
  rwa [if_pos (show residueNamed (.core n) = true from decide_eq_true hn)] at h

/-- A core that runs, with a stream that an SGO behind one vector instruction has started (08 R298). -/
def streamingCore : BCore :=
  { BCore.idle with
    run := true, vq := [{ word := 0, pc := 0, gval := 0, addr := 0, cycle := 0 }]
    streams := [{ s := 0, desc := [], idx := [], seq := 0, after := 1, mem := [] }] }

end Sys2Proof.Machine

namespace Sys2Proof
open Sys2Proof.Machine

/-- Refutes O43: a core that halts on a residue mismatch loses its vector queue, so a stream of it that waited for an entry of the
queue waits no longer (`Gremon.haltCore`); the statement leaves the core's streams as they were. At reset with a stream under way
on core 0 the two differ. -/
theorem not_packageFaults : ¬ Obligations.PackageFaults := by
  intro hp
  let s : State := { State.reset with g := { Gremon.reset with cores := [(0, streamingCore)] } }
  obtain ⟨⟨hg, -⟩, -⟩ := hp
  obtain ⟨-, -, -, -, -, -, -, -, -, -, -, -, -, -, -, -, hres, -⟩ := hg s 0 rfl
  have hserved : s.g.servedBy 0 0 = some 0 := by decide
  obtain ⟨x, ⟨hstated, -⟩, hleft⟩ := (hres 0 0 (by decide) rfl hserved (by decide) (by decide) (by decide) (by decide)).cores_eq
    (residueMismatch_core_next 0 rfl (by decide))
  have hcleared : (x.core 0).streams = streamingCore.freed := by
    rw [Gremon.core_of_cores hleft]
    exact Gremon.residueMismatch_core_streams rfl hserved
  have hkept : (x.core 0).streams = streamingCore.streams := by
    rw [Gremon.core_of_cores hstated, Gremon.core_setCore]
    rfl
  exact absurd (hcleared.symm.trans hkept) (by decide)

end Sys2Proof
end
